-- ==== Sys2Proof/Word.lean ====
section
/-! DEFINITION. The 32-bit register word, the byte and the index types of the TK2564 (R4, R12). -/
namespace Sys2Proof

/-- A register word: 32 bits at a byte address that is a multiple of 4 (R12). -/
abbrev Word := BitVec 32
/-- A byte of a record, frame, key or tag (R6, R7). -/
abbrev Byte := BitVec 8
/-- A channel number, CH0 to CH255. -/
abbrev Ch := Fin 256
/-- An engine number: `n` for CHn, `256 + k` for spare SPk (R48). -/
abbrev Eng := Fin 264
/-- A bank number, B0 to B15. -/
abbrev Bank := Fin 16
/-- A partition number, P0 to P15. -/
abbrev Part := Fin 16
/-- A fault block number, 0 to 13 (R279). -/
abbrev Blk := Fin 14

end Sys2Proof
end

