-- ==== Sys2Proof/Syntax.lean ====
section
/-! DEFINITION. The commands of the block: one constructor of `Instr` per row of spec/opcode_table.json, with the data the
environment brings to the step. A command that is a register write carries the access (who writes) and the word written. -/
namespace Sys2Proof

/-- The three ports of the register file (chapter 02). -/
inductive Port where
  | spi | i2c | link
  deriving DecidableEq, Repr

/-- A raw word access as it arrives: the port, the TAG's TAGV bit and PART (R350), and for the link port the
originating node, the originating partition and the SEC request (R410, R411). For whom it acts is settled by the state. -/
structure Acc where
  port  : Port
  tagv  : Bool
  part  : Part
  src   : Fin 64
  opart : Part
  sec   : Bool
  deriving DecidableEq, Repr

/-- Which main supply fell (R109, LAST_DOWN). -/
inductive MainSupply where
  | vcore | vpll | vaux
  deriving DecidableEq, Repr

/-- The two indirect windows (R48). -/
inductive Win where
  | chan | aon
  deriving DecidableEq, Repr

/-- The two Byra-Link ports. -/
inductive LPort where
  | up | down
  deriving DecidableEq, Repr

/-- What the SFDP header and the basic flash parameter table say (R114). `status` is the status register that the
quad-enable requirement names, as read. -/
structure Sfdp where
  sig    : List Byte
  major  : Byte
  addr3  : Bool
  fast114 : Bool
  qer    : BitVec 3
  status : Byte
  erase4k : Option Byte
  deriving DecidableEq, Repr

/-- What a lane reads in a channel's stampers at a visit (R257, R262): rising edges at the pad since the visit before, or since its counter
was zeroed if that came later; the grid times in fine steps, as stamped, of the latest rising and falling edge there and of the rising edge
before; and the same count and latest rising edge of the echo source. -/
structure Meas where
  padCount  : Nat
  rise      : Option Nat
  fall      : Option Nat
  prev      : Option Nat
  echoCount : Nat
  echo      : Option Nat
  deriving DecidableEq, Repr

/-- A received training set (R401). -/
structure TrainSet where
  ts2   : Bool
  flags : Byte
  node  : Byte
  nexp  : Byte
  deriving DecidableEq, Repr

/-- The activities of self-test in the order of R519. -/
inductive Activity where
  | fdcal (grp : Fin 17) | loopback (p : LPort) | lane (l : Fin 16) | qeng | scrub (m : Fin 5)
  deriving DecidableEq, Repr

/-- What a scrub finds in one word (R527). -/
inductive ScrubResult where
  | clean | corrected | double
  deriving DecidableEq, Repr

/-- An instruction loaded through the TAP (R73). The codes are not stated; `other` is every code that names none of these. -/
inductive TapInstr where
  | bypass | idcode | sample | extest | clamp | highz | other
  deriving DecidableEq, Repr

/-- The commands of the block. -/
inductive Instr where
  -- power (chapter 04)
  | vbakRise | pgMainTrue | pgMainLoss (c : MainSupply) | vbakLoss | vcoreWarn | vlinkBo
  | bankStop (k : Bank) | bankRecovery (k : Bank) | bankClassify (k : Bank) (mv : Nat) | bankPresent (k : Bank)
  | vbakLow | chgPrechargeStart | chgPrechargeEnd | chgCtlWrite (a : Acc) (d : Word) | chgCvReached | chgTerminate
  | chgRecharge | chgPause | chgResume | chgFault | chgVauxLoss | cellPresenceCheck (fell : Bool)
  | gaugeFull (a : Acc) (d : Word) | gaugeClrAvg (a : Acc) (d : Word) | reserveUpdate (mv : Nat) (net : Int)
  -- bring-up (chapters 03, 05, 06)
  | resetNAssert | coreResetRelease (s1 s2 s3 : BitVec 4) (xo : Bool) | qualifyWindow (count : Nat) | flashWake
  | sfdpDiscover (t : Sfdp) | sfdpRetry | imageHeaderCheck (bytes : List Byte)
  | sectionCrcCheck (payload : List Byte) (crc : Word) | cmacFinalise (tag : List Byte) | recordApply | configEnd
  | apllLock | apllLol | rootToExpire
  | prepareDone (lines : List (Fin 17 × BitVec 16)) (stamps : List (Bank × BitVec 16))
  | linkToExpire | warm (a : Acc) | warmStopTimeout | go (a : Acc) | enterOchre (a : Acc) | resume (a : Acc)
  | partRestart (a : Acc) (p : Part)
  -- register behaviour (chapter 02)
  | registerWrite (a : Acc) (addr : BitVec 24) (d : Word) | unlockWrite (a : Acc) (blk : Fin 16) (d : Word)
  | wideRead (a : Acc) (d : Word) | wideWrite (a : Acc) (d : Word) | wideDone (inst : Fin 17)
  | cfgcrcCapture (a : Acc) (d : Word) | cfgcrcSweepEnd
  | indLockReq (a : Acc) (w : Win) (d : Word) | indAddrWrite (a : Acc) (w : Win) (d : Word)
  | indDataWrite (a : Acc) (w : Win) (alias_ : Option (Fin 256)) (d : Word)
  | indDataRead (a : Acc) (w : Win) (alias_ : Option (Fin 256))
  | indCommit (a : Acc) (w : Win) (d : Word) | indDiscard (a : Acc) (w : Win) (d : Word) | indLockTimeout (w : Win)
  -- service path (chapter 06)
  | svcRead (a : Acc) | svcErase (a : Acc) | svcProgram (a : Acc) | svcVerify (a : Acc) | svcClose (a : Acc)
  | svcOpDone (timeout : Bool) (bytes : List Byte) (sfdp : Option Sfdp) | svcSessionTimeout
  -- references and root (chapter 07)
  | refCfgWrite (a : Acc) (i : Fin 10) (d : Word) | refActivity (i : Fin 10) | refLos (i : Fin 10)
  | refPhit (i : Fin 10) (dev : Word) | freqGateEnd (i : Fin 10) (ppb : Word) | refQualDone (i : Fin 10)
  | selCtlWrite (a : Acc) (d : Word) | wtrExpire | switchEdge (err : Word)
  | dpllEdge (err : Word) (fdiff : Word) (demand : Word) | histValid (avg : Word) | holdLong
  | ppsEdge (levels : Bool) (interval : Nat) | ppsMiss
  -- channels (chapter 08)
  | chCtlStart (n : Ch) | chCtlStop (n : Ch) | chCtlTrig (n : Ch) | chCtlResync (n : Ch) | chFirstEdge (n : Ch)
  | cleanStopEnd (n : Ch) | stopWatchdog (n : Ch) | burstLastEdge (n : Ch) | updatePoint (n : Ch)
  | phaseMoveDone (n : Ch) | engCheck (e : Eng) (c1 c2 : BitVec 16) | selfchkRestore (e : Eng)
  -- groups (chapter 09)
  | grpCfgWrite (a : Acc) (g : Fin 32) (d : Word) | groupEpoch (g : Fin 32) | vacancyHoldExpire (g : Fin 32)
  | grpLockReq (a : Acc) (g : Fin 32) (d : Word) | grpLockCommit (a : Acc) (g : Fin 32) (d : Word)
  | grpLockDiscard (a : Acc) (g : Fin 32) (d : Word) | grpLockTimeout (g : Fin 32)
  -- outputs (chapter 10)
  | bankVselWrite (a : Acc) (k : Bank) (d : Word) | bondWrite (a : Acc) (n : Ch) (d : Word)
  | pinFuncSwitch (a : Acc) (n : Ch) (d : Word) | parkIntervalEnd (n : Ch) | pgpoWrite (a : Acc) (k : Bank) (d : Word)
  | haltAssert | cleanGateEffect (n : Ch) | haltRelease | haltLatchClear (a : Acc) (d : Word)
  -- monitor (chapter 11)
  | monitorVisit (n : Ch) (m : Meas) | monRequest (a : Acc) (d : Word)
  -- faults (chapter 12)
  | escalationTimer (b : Blk) (c : Fin 32) (p : Part) | fltAck (a : Acc) (b : Blk) (d : Word) | fltAckall (a : Acc) (b : Blk)
  | firstFaultClear (a : Acc) (b : Blk) | devFirstClear (a : Acc) | fltCfgWrite (a : Acc) (b : Blk) (c : Fin 32) (d : Word)
  | fltInj (a : Acc) (d : Word)
  -- governor (chapter 13)
  | govPass | tsenseRead (t0 t1 t2 t3 : BitVec 16) | budgetWrite (a : Acc) (d : Word) | budgetStale | budgetWait (n : Ch)
  | dwellEnd | slotEnd (act : Activity)
  -- partitions (chapter 14)
  | partResetRequest (a : Acc) (p : Part) (owner : Bool) | partEnWrite (a : Acc) (d : Word) | partClearDone (p : Part)
  | ownershipWrite (a : Acc) (addr : BitVec 24) (d : Word) | attach (a : Acc) | attUnbind (a : Acc) (d : Word)
  | tokenRefill (p : Part)
  -- hosts (chapter 15)
  | spiHeader (bytes : List Byte) | spiSegment (words : List Word) (crc : BitVec 16) | spiReadFrame (cut : Option (Nat × Nat)) | spiAbort
  | i2cWriteHeader (tag : Byte) (addr : BitVec 24) | i2cWriteGroup (d : Word) | i2cReadWord (first : Bool) (bytes : Nat) | i2cAbort (bytes : Nat) (hdr : Bool)
  | i2cTimeout (bytes : Nat)
  -- queues (chapter 16)
  | cmdPush (a : Acc) (d : Word) | cmdDispatch | nop | chStart | chStop | chResync | chTrig | govBudgetSet | svcOpen
  | retireClear | hireOpen | hireClose | meterReport | ledgerReport | lockoutClear
  | evqPop (a : Acc) (d : Word) | ldqPop (a : Acc) (d : Word) | qHiwatClear (a : Acc) (q : Fin 64) (d : Word)
  -- link (chapter 17)
  | linkDetect (p : LPort) | linkAlign (p : LPort) | trainingSetRx (p : LPort) (t : TrainSet) (sent16 : Bool)
  | trainTimeout (p : LPort) | linkDown (p : LPort) (cause : Fin 8) | delayQuery | dqAnswer (id : Byte) (turn : BitVec 24)
  | delayResponse (id : Byte) (rtt : Int) (turn : BitVec 24) | linkFrameRx (p : LPort) (bytes : List Byte) (eof : Bool) (room : Bool)
  | linkAckRx (p : LPort) (seq : Byte) | linkNakRx (p : LPort) (seq : Byte) | linkBusyRx (p : LPort) (seq : Byte)
  | linkRetryTimeout (p : LPort) | rreq | rrsp | lraGo (a : Acc) (d : Word) | transactionTimeout (tid : Byte) | linkCmd
  | linkCpl | evtForward | agack | enum | enumDone | enumTimeout | budgetSend | budgetRx | noticeRx | calStart
  | lnkCalWrite (a : Acc) (d : Word) | gridRx (p : LPort) (flags : Byte) (g : BitVec 64) (arrival : BitVec 64) | calResult
  | calTimeout | dupTrack
  -- security (chapter 18)
  | keyProg (a : Acc) (d : Word) | keyBurnDone (verified : Bool) | epochBurn (fails : Fin 5) | lockoutExpire (k : Fin 6)
  -- meters, ledger, sentinel (chapter 19)
  | mtrCfgWrite (a : Acc) (m : Fin 32) (d : Word) | meterSample | meterTick | hireExpire | sentClrWrite (a : Acc) (d : Word)
  | tamperStrobe (i : Fin 4) (high : Bool) | motionEdge | motionHoldEnd | wakeTimeout | ledgerWrite | ledgerSeal
  | ldgCheck (a : Acc) (d : Word) | chainCheckDone
  -- self-test and TEASEL (chapter 22)
  | selftestDue (act : Activity) | fdcalLineDone (grp : Fin 17) (line : Fin 16) (ok : Bool) (stamp : BitVec 16) | fdcalSwap (grp : Fin 17) (line : Fin 16)
  | laneTestStep (ok : Bool) | qengPiece (ok : Bool) | scrubWord (r : ScrubResult) | linkLoopback (p : LPort) (reason : Fin 4) (k : Int)
  | teaselEntry | tstRun (a : Acc) (d : Word) | apllTest (failed : Fin 4)
  -- recovery, timers and pins
  | vlinkRecovery | vcoreWarnClear | vbakLowClear | vddoRise (k : Bank) | oscillatorStart | tapInstructionUpdate (i : TapInstr)
  | aonWriteArrive | forwardResend (ledger : Bool) | busyWaitExpire (p : LPort) | tuneSlewDone | keyFailAge (k : Fin 6)
  | rawEventAge (b : Blk) (c : Fin 32) (p : Part)
  deriving DecidableEq, Repr

end Sys2Proof
end

