-- ==== Sys2Proof/Decode.lean ====
section
/-! DEFINITION. Decoding of table words: no row of spec/opcode_table.json gives its command any bits. -/
namespace Sys2Proof

/-- The command that a word spells by the table's bits: none, for no row of the table has a field or a fixed bit. -/
def decodeTableWord (_nbits _w : Nat) : Option Instr := none

end Sys2Proof
end

