-- ==== Sys2Proof/Machine/Bits.lean ====
section
/-! DEFINITION. Bit fields of 32-bit words, byte splitting and signed readings: the plain helpers every family uses. -/
namespace Sys2Proof.Machine

/-- The mask with `len` ones from bit `lo` upward. -/
def fmask (lo len : Nat) : Word := BitVec.ofNat 32 ((2 ^ len - 1) * 2 ^ lo)

/-- The field of `len` bits whose lowest bit is `lo`, read as a number. -/
def getF (w : Word) (lo len : Nat) : Nat := (w.toNat >>> lo) % 2 ^ len

/-- `w` with the field of `len` bits at `lo` set to `v` (cut to the width); every other bit as it was. -/
def setF (w : Word) (lo len v : Nat) : Word :=
  (w &&& ~~~ (fmask lo len)) ||| (BitVec.ofNat 32 (v * 2 ^ lo) &&& fmask lo len)

/-- One bit of a word. -/
def bitAt (w : Word) (n : Nat) : Bool := w.getLsbD n

/-- A Boolean as the number a one-bit field holds. -/
def b2n (b : Bool) : Nat := if b then 1 else 0

/-- A word from a number, modulo 2^32. -/
abbrev word (n : Nat) : Word := BitVec.ofNat 32 n

/-- A word that takes the bits of `d` where `mask` is 1 and those of `old` elsewhere. -/
def blend (old d mask : Word) : Word := (old &&& ~~~ mask) ||| (d &&& mask)

/-- The four bytes of a word, least significant first (R6). -/
def wordBytes (w : Word) : List Byte :=
  [BitVec.ofNat 8 (getF w 0 8), BitVec.ofNat 8 (getF w 8 8), BitVec.ofNat 8 (getF w 16 8), BitVec.ofNat 8 (getF w 24 8)]

/-- The little-endian number that a list of bytes spells (R6). -/
def leNat : List Byte → Nat
  | [] => 0
  | b :: bs => b.toNat + 256 * leNat bs

/-- `n` bytes of a number, least significant first. -/
def toLE : Nat → Nat → List Byte
  | 0, _ => []
  | k + 1, n => BitVec.ofNat 8 (n % 256) :: toLE k (n / 256)

/-- The little-endian field of `len` bytes at offset `off` of a byte list; bytes beyond the end read as 0. -/
def fieldAt (bs : List Byte) (off len : Nat) : Nat := leNat ((bs.drop off).take len)

/-- The byte at an offset; 0 beyond the end. -/
def byteAt (bs : List Byte) (off : Nat) : Nat := fieldAt bs off 1

/-- A list of bytes cut or padded with zeros to `n` bytes. -/
def padTo (n : Nat) (bs : List Byte) : List Byte := (bs ++ List.replicate n 0).take n

/-- A bit pattern of `n` bits read as a two's-complement number. -/
def signed (n v : Nat) : Int := if v % 2 ^ n < 2 ^ (n - 1) then (v % 2 ^ n : Nat) else ((v % 2 ^ n : Nat) : Int) - (2 ^ n : Nat)

/-- The two's-complement pattern of `n` bits of a number. -/
def unsign (n : Nat) (i : Int) : Nat := (i % (2 ^ n : Nat)).toNat

/-- A number held within two bounds. -/
def clampI (lo hi x : Int) : Int := if x < lo then lo else if hi < x then hi else x

/-- A count that stops at its largest value. -/
def satInc (top n : Nat) : Nat := if n < top then n + 1 else top

/-- The number of entries of a list for which a test holds. -/
def countIf {α : Type} (p : α → Bool) (l : List α) : Nat := (l.filter p).length

/-- The first index below `n` for which a test holds. -/
def firstIdx (n : Nat) (p : Nat → Bool) : Option Nat := (List.range n).find? p

/-- Fold a state change over the numbers below `n`, in ascending order. -/
def forN {α : Type} (n : Nat) (f : Nat → α → α) (s : α) : α := (List.range n).foldl (fun t i => f i t) s

/-- Insert an element before the first one that it is not behind. -/
def insertBy {α : Type} (le : α → α → Bool) (x : α) : List α → List α
  | [] => [x]
  | y :: t => if le x y then x :: y :: t else y :: insertBy le x t

/-- Sort a list by insertion. -/
def sortBy {α : Type} (le : α → α → Bool) (l : List α) : List α := l.foldr (insertBy le) []

/-- Apply a change only where a condition holds. -/
def applyIf {α : Type} (c : Bool) (f : α → α) (s : α) : α := if c then f s else s

end Sys2Proof.Machine
end

