-- ==== Sys2Proof/Machine/Crypto.lean ====
section
/-! DEFINITION. The check codes and the cipher that the spec names: CRC-32C (R133), CRC-16/CCITT-FALSE (R354), and AES-128 with
AES-CMAC in FIPS 197 byte order (R7, R134). -/
namespace Sys2Proof.Machine

/-! ## CRCs -/

/-- One bit of a reflected CRC-32C step. -/
def crc32cBit (c : Nat) : Nat := if c % 2 = 1 then (c / 2) ^^^ 0x82F63B78 else c / 2

/-- One byte of CRC-32C. -/
def crc32cByte (c : Nat) (b : Byte) : Nat :=
  crc32cBit (crc32cBit (crc32cBit (crc32cBit (crc32cBit (crc32cBit (crc32cBit (crc32cBit (c ^^^ b.toNat))))))))

/-- CRC-32C of a byte string (R133). -/
def crc32c (bs : List Byte) : Nat := bs.foldl crc32cByte 0xFFFFFFFF ^^^ 0xFFFFFFFF

/-- One bit of a CRC-16 step, polynomial 0x1021, not reflected. -/
def crc16Bit (c : Nat) : Nat := if c / 32768 = 1 then ((2 * c) % 65536) ^^^ 0x1021 else 2 * c

/-- One byte of CRC-16/CCITT-FALSE. -/
def crc16Byte (c : Nat) (b : Byte) : Nat :=
  crc16Bit (crc16Bit (crc16Bit (crc16Bit (crc16Bit (crc16Bit (crc16Bit (crc16Bit (c ^^^ (256 * b.toNat)))))))))

/-- CRC-16/CCITT-FALSE of a byte string: initial value 0xFFFF. -/
def crc16 (bs : List Byte) : Nat := bs.foldl crc16Byte 0xFFFF

/-! ## AES-128 (FIPS 197) -/

/-- The S-box, 32 entries to a number, entry 32 j + i in bits 8 i upward. -/
def sboxRow : Nat → Nat
  | 0 => 0xc072a49cafa2d4adf04759fa7dc982ca76abd7fe2b670130c56f6bf27b777c63
  | 1 => 0x75b227ebe28012079a059618c323c7041531d871f1e5a534ccf73f362693fdb7
  | 2 => 0xcf584c4a39becb6a5bb1fc20ed00d153842fe329b3d63b52a05a6e1b1a2c8309
  | 3 => 0xd2f3ff1021dab6bcf5389d928f40a351a89f3c507f02f94585334d43fbaaefd0
  | 4 => 0xdb0b5ede14b8ee4688902a22dc4f816073195d643d7ea7c41744975fec130ccd
  | 5 => 0x08ae7a65eaf4566ca94ed58d6d37c8e779e4959162acd3c25c2406490a3a32e0
  | 6 => 0x9e1dc186b95735610ef6034866b53e708a8bbd4b1f74dde8c6b4a61c2e2578ba
  | _ => 0x16bb54b00f2d99416842e6bf0d89a18cdf2855cee9871e9b948ed9691198f8e1

/-- SubBytes of one byte. -/
def sbox (x : Nat) : Nat := (sboxRow (x / 32) >>> (8 * (x % 32))) % 256

/-- Multiplication by x in the field of AES. -/
def xtime (x : Nat) : Nat := if x < 128 then 2 * x else (2 * x - 256) ^^^ 0x1B

/-- The bytewise sum of two blocks. -/
def xorBytes (a b : List Nat) : List Nat := a.zipWith (· ^^^ ·) b

/-- SubBytes and ShiftRows: byte r + 4 c of the state comes from column c + r. -/
def subShift (s : List Nat) : List Nat := (List.range 16).map (fun i => sbox (s.getD ((i + 4 * (i % 4)) % 16) 0))

/-- MixColumns of one column. -/
def mixColumn : List Nat → List Nat
  | [a, b, c, d] =>
    [xtime a ^^^ (xtime b ^^^ b) ^^^ c ^^^ d, a ^^^ xtime b ^^^ (xtime c ^^^ c) ^^^ d,
     a ^^^ b ^^^ xtime c ^^^ (xtime d ^^^ d), (xtime a ^^^ a) ^^^ b ^^^ c ^^^ xtime d]
  | l => l

/-- MixColumns. -/
def mixColumns (s : List Nat) : List Nat := (List.range 4).flatMap (fun c => mixColumn ((s.drop (4 * c)).take 4))

/-- The next round key from the present one and its round constant. -/
def nextKey (k : List Nat) (rc : Nat) : List Nat :=
  let t := [sbox (k.getD 13 0) ^^^ rc, sbox (k.getD 14 0), sbox (k.getD 15 0), sbox (k.getD 12 0)]
  let w0 := xorBytes (k.take 4) t
  let w1 := xorBytes ((k.drop 4).take 4) w0
  let w2 := xorBytes ((k.drop 8).take 4) w1
  let w3 := xorBytes ((k.drop 12).take 4) w2
  w0 ++ w1 ++ w2 ++ w3

/-- The rounds after the first key addition: the last one mixes no columns. -/
def aesRounds : List Nat → List Nat → List Nat → List Nat
  | [], _, s => s
  | [rc], k, s => xorBytes (subShift s) (nextKey k rc)
  | rc :: t, k, s => aesRounds t (nextKey k rc) (xorBytes (mixColumns (subShift s)) (nextKey k rc))

/-- AES-128 encryption of a 16-byte block. -/
def aes128 (key blk : List Nat) : List Nat :=
  aesRounds [0x01, 0x02, 0x04, 0x08, 0x10, 0x20, 0x40, 0x80, 0x1B, 0x36] key (xorBytes blk key)

/-! ## AES-CMAC (NIST SP 800-38B) -/

/-- A block as a big-endian number, and back. -/
def beNat (bs : List Nat) : Nat := bs.foldl (fun a b => 256 * a + b) 0
def beBytes (n : Nat) : List Nat := (List.range 16).map (fun i => (n >>> (8 * (15 - i))) % 256)

/-- Doubling of a subkey. -/
def cmacDouble (n : Nat) : Nat := if n < 2 ^ 127 then 2 * n else (2 * n - 2 ^ 128) ^^^ 0x87

/-- The chain of CMAC over whole blocks before the last, and the last block with its subkey; `fuel` bounds the blocks. -/
def cmacChain (key : List Nat) (k1 k2 : Nat) : Nat → List Nat → List Nat → List Nat
  | 0, _, x => x
  | n + 1, bs, x =>
    if bs.length ≤ 16 then
      let last := if bs.length = 16 then xorBytes bs (beBytes k1) else xorBytes ((bs ++ [0x80] ++ List.replicate 16 0).take 16) (beBytes k2)
      aes128 key (xorBytes x last)
    else cmacChain key k1 k2 n (bs.drop 16) (aes128 key (xorBytes x (bs.take 16)))

/-- AES-CMAC of a byte string under a 16-byte key. -/
def cmacNat (key bs : List Nat) : List Nat :=
  let k1 := cmacDouble (beNat (aes128 key (List.replicate 16 0)))
  cmacChain key k1 (cmacDouble k1) (bs.length / 16 + 1) bs (List.replicate 16 0)

/-- AES-CMAC of bytes under a key of bytes. -/
def cmac (key bs : List Byte) : List Byte := (cmacNat (key.map BitVec.toNat) (bs.map BitVec.toNat)).map (BitVec.ofNat 8)

end Sys2Proof.Machine
end

