-- ==== Sys2Proof/Config.lean ====
section
/-! DEFINITION. Configuration of the model: the free values. A free value is an opaque constant, so nothing can be proved about which value it has. -/
namespace Sys2Proof.Config

/-- The free words of the model, one for each draw: `State.free` counts the draws. Used where the spec
states that a value exists and does not state which (DESIGN CHOICE, log entry 4). -/
opaque freeWord : Nat → BitVec 32

/-- The nominal path offset of each link port, in fine steps (R528): an implementation has one, and the spec gives no value (DESIGN CHOICE,
log entry 102). -/
opaque nominalK : Nat → Int

end Sys2Proof.Config
end

