-- ==== Sys2Proof/Machine/Cells.lean ====
section
/-! DEFINITION. Sparse stores in one canonical form: a list of (key, value) pairs with strictly rising keys and no entry
equal to what an unlisted key reads as. Registers, channel tables, always-on words and records are held this way. -/
namespace Sys2Proof.Machine

/-- A sparse store. -/
abbrev Cells (α : Type) := List (Nat × α)

/-- Read a key; an unlisted key reads as `d key`. -/
def cget {α : Type} (d : Nat → α) : Cells α → Nat → α
  | [], k => d k
  | (k', v) :: t, k => if k = k' then v else if k < k' then d k else cget d t k

/-- Write a key, keeping the canonical form. -/
def cset {α : Type} [DecidableEq α] (d : Nat → α) : Cells α → Nat → α → Cells α
  | [], k, v => if v = d k then [] else [(k, v)]
  | (k', v') :: t, k, v =>
    if k = k' then (if v = d k then t else (k, v) :: t)
    else if k < k' then (if v = d k then (k', v') :: t else (k, v) :: (k', v') :: t)
    else (k', v') :: cset d t k v

/-- Return to their default the keys for which `p` holds. -/
def cdrop {α : Type} (p : Nat → Bool) (m : Cells α) : Cells α := m.filter (fun e => !p e.1)

/-- Every key of the store is above `lo`. -/
def cabove {α : Type} (lo : Nat) : Cells α → Bool
  | [] => true
  | (k, _) :: t => lo < k && cabove lo t

/-- The canonical form: keys strictly rising, no entry at its default. -/
def cwf {α : Type} [DecidableEq α] (d : Nat → α) : Cells α → Bool
  | [] => true
  | (k, v) :: t => cabove k t && !(v = d k : Bool) && cwf d t

end Sys2Proof.Machine
end

