-- ==== Sys2Proof/Machine/FaultTable.lean ====
section
/-! DEFINITION. The fault tables of R297: for every block, its codes with their default level, classifier and code action. -/
namespace Sys2Proof.Machine

/-- The code actions of R287. -/
inductive FaultAct where
  | none | stop | ochre
  deriving DecidableEq, Repr

/-- One row of a fault table: default level, classifier N, WIN code, REP, ESC_T (ms), CAP and the code action,
with the level at which the action applies. -/
structure FaultRow where
  lvl : Nat
  n : Nat := 1
  win : Nat := 0
  rep : Nat := 0
  esc : Nat := 0
  cap : Nat
  act : FaultAct := .none
  deriving DecidableEq, Repr

/-- A row whose CAP is its level, with N = 1, no repeat rule, no timer and no action. -/
def plainRow (l : Nat) : FaultRow := { lvl := l, cap := l }

/-- The codes of block `b`, in code order (R297). -/
def faultRows : Nat → List FaultRow
  | 0 => [{ lvl := 2, esc := 100, cap := 3, act := .ochre }, plainRow 1, plainRow 2, plainRow 2, plainRow 1, plainRow 1,
          plainRow 1, plainRow 2, plainRow 1]
  | 1 => [plainRow 0, plainRow 0, plainRow 0, plainRow 0, plainRow 1, plainRow 2, plainRow 1, plainRow 3]
  | 2 => [{ lvl := 2, rep := 1, cap := 3, act := .stop }, plainRow 1]
  | 3 => [plainRow 0, plainRow 0]
  | 4 => [plainRow 2, plainRow 0]
  | 5 => [plainRow 0, plainRow 0, plainRow 0, plainRow 0, plainRow 1, plainRow 1, plainRow 1, plainRow 2, plainRow 2, plainRow 2]
  | 6 => [plainRow 1, plainRow 0, plainRow 1, plainRow 2, plainRow 2]
  | 7 => [plainRow 0, { lvl := 1, rep := 1, cap := 2 }]
  | 8 => [plainRow 1, plainRow 0, plainRow 0]
  | 9 => [plainRow 2, { lvl := 1, n := 16, win := 5, cap := 1 }, plainRow 2, plainRow 2, plainRow 2, plainRow 2]
  | 10 => [{ lvl := 1, rep := 1, cap := 2 }, { lvl := 1, rep := 1, cap := 2 }, plainRow 2, plainRow 2, plainRow 1]
  | 11 => [plainRow 2, plainRow 2, plainRow 1, plainRow 0, { lvl := 2, cap := 3 }, plainRow 1]
  | 12 => [plainRow 2, plainRow 2, plainRow 2, { lvl := 2, cap := 3, act := .ochre }, plainRow 2]
  | 13 => [plainRow 0, plainRow 0, plainRow 0]
  | _ => []

/-- The number of codes of a block. -/
def faultCodes (b : Nat) : Nat := (faultRows b).length

/-- The reset value of FLT_CFG_b_c: LVL + 4 CAP + 16 (N mod 16) + 256 WIN + 4096 REP + 65536 ESC_T (R505). -/
def fltCfgReset (b c : Nat) : Word :=
  match (faultRows b)[c]? with
  | some r => word (r.lvl + 4 * r.cap + 16 * (r.n % 16) + 256 * r.win + 4096 * r.rep + 65536 * r.esc)
  | none => 0

/-- The code action of a row at the level where its table names one (L3 in every row that has one, R297). -/
def fltAction (b c lvl : Nat) : FaultAct :=
  match (faultRows b)[c]? with
  | some r => if lvl = 3 then r.act else .none
  | none => .none

/-! The codes, named: block number and code number of each (R297). -/
def fCfgDrift := (0, 0)
def fVcoreWarn := (0, 1)
def fVlinkBo := (0, 2)
def fBankBo := (0, 3)
def fBankAbsent := (0, 4)
def fVbakLow := (0, 5)
def fChgFault := (0, 6)
def fCellAbsent := (0, 7)
def fAonLost := (0, 8)
def fRefLos := (1, 0)
def fRefFreq := (1, 1)
def fRefPhit := (1, 2)
def fSrcSwitch := (1, 3)
def fHoldover := (1, 4)
def fHoldLong := (1, 5)
def fPpsLost := (1, 6)
def fRootLol := (1, 7)
def fEngCheck := (2, 0)
def fStopForced := (2, 1)
def fRspLate := (3, 0)
def fGrpLockTo := (3, 1)
def fBankVmis := (4, 0)
def fHaltAssert := (4, 1)
def fMonPres := (5, 0)
def fMonFreq := (5, 1)
def fMonDuty := (5, 2)
def fMonPhase := (5, 3)
def fMonEcho := (5, 4)
def fTrimLimit := (5, 5)
def fMonRebuild := (5, 6)
def fMonRetire := (5, 7)
def fMonPadfail := (5, 8)
def fStampCal := (5, 9)
def fThermStep := (6, 0)
def fShed := (6, 1)
def fBudgetWait := (6, 2)
def fBudgetStale := (6, 3)
def fTsense := (6, 4)
def fPartReset := (7, 0)
def fAttachFail := (7, 1)
def fQOvf := (8, 0)
def fDescBad := (8, 1)
def fUrgLimit := (8, 2)
def fLinkDown := (9, 0)
def fLinkCrc := (9, 1)
def fRetryExh := (9, 2)
def fRingBreak := (9, 3)
def fLoopCalFail := (9, 4)
def fEnumFail := (9, 5)
def fAuthFail := (10, 0)
def fReplay := (10, 1)
def fLockout := (10, 2)
def fCtrExhaust := (10, 3)
def fKeyBlank := (10, 4)
def fTheftSuspect := (11, 0)
def fTamper := (11, 1)
def fMotion := (11, 2)
def fLedgerWrap := (11, 3)
def fChainBad := (11, 4)
def fImmobRefuse := (11, 5)
def fFdcalFail := (12, 0)
def fLaneFail := (12, 1)
def fQengFail := (12, 2)
def fMemFail := (12, 3)
def fLoopFail := (12, 4)
def fSpiCrc := (13, 0)
def fSpiAbort := (13, 1)
def fI2cAbort := (13, 2)

end Sys2Proof.Machine
end

