-- ==== Sys2Proof/Machine/RegMap.lean ====
section
/-! DEFINITION. The register map of chapters 20 and 21: every register with its address, instances, reset value, what
returns it to reset, who writes it, whether the image may write it, and the bits of each access attribute (R11). -/
namespace Sys2Proof.Machine

/-- How many instances a register has (R487, chapter 21). -/
inductive Inst where
  | one | bank | port | portPart
  deriving DecidableEq, Repr

/-- What returns a register to its reset value (R489). -/
inductive Kept where
  | const | core | part | boot | aon | straps | live | release
  deriving DecidableEq, Repr

/-- Who may write a register's writable fields (R490). `p0key` marks the owner-key registers P0* of chapter 21. -/
inductive Writer where
  | none | p0 | p0key | each | holder | grp | queue | irq | mtr | pgpo | self
  deriving DecidableEq, Repr

/-- Whether the image may write a register (R491). -/
inductive ImgMark where
  | y | n | t
  deriving DecidableEq, Repr

/-- One row of the map: registers at `base + stride * i + 4 * w` for `i < count`, `w < words`. The masks say which bits
carry each attribute; `trg` marks the self-clearing bits, which are in one of the other masks too. `wm` marks a WM register.
`live` marks a register whose value is computed at each read from other state. -/
structure Row where
  name : String
  base : Nat
  stride : Nat := 4
  count : Nat := 1
  words : Nat := 1
  inst : Inst := .one
  reset : Word := 0
  kept : Kept := .core
  writer : Writer := .none
  img : ImgMark := .n
  rw : Nat := 0
  w1c : Nat := 0
  own : Nat := 0
  key : Nat := 0
  cfg : Nat := 0
  trg : Nat := 0
  wm : Bool := false
  live : Bool := false
  deriving DecidableEq, Repr

/-- Every bit of a word. -/
def allBits : Nat := 0xFFFFFFFF

/-- The UNLOCK register of the block at `base` (R57). -/
def unlockRow (base : Nat) : Row :=
  { name := "UNLOCK", base := base + 0xFFF0, inst := .bank, kept := .part, writer := .each, rw := 0xFFFF }

/-- The global block (R495). -/
def rowsGlobal : List Row := [
  { name := "DEV_IDCODE", base := 0x000000, reset := 0x125645AF, kept := .const },
  { name := "DEV_REV", base := 0x000004, reset := 0x00000310, kept := .const },
  { name := "MAP_VER", base := 0x000008, reset := 0x00010000, kept := .const },
  { name := "DEV_CAP_0", base := 0x000010, reset := 0x10408100, kept := .const },
  { name := "DEV_CAP_1", base := 0x000014, reset := 0x40102020, kept := .const },
  { name := "DEV_CAP_2", base := 0x000018, reset := 0x40100068, kept := .const },
  { name := "SCRATCH", base := 0x000020, inst := .bank, kept := .part, writer := .each, rw := allBits },
  { name := "ACC_STAT", base := 0x000100, inst := .bank, kept := .part, writer := .each, w1c := 0xF },
  { name := "ACC_ADDR", base := 0x000104, inst := .bank, kept := .part },
  { name := "WIDE_SEL", base := 0x000110, inst := .bank, kept := .part, writer := .each, rw := 0x8000FFFF },
  { name := "WIDE_STAT", base := 0x000114, inst := .bank, kept := .part },
  { name := "WIDE_LO", base := 0x000118, inst := .bank, kept := .part, writer := .each, rw := allBits },
  { name := "WIDE_HI", base := 0x00011C, inst := .bank, kept := .part, writer := .each, rw := allBits },
  { name := "CFGCRC_CTL", base := 0x000120, writer := .p0, own := 3, trg := 0 },
  { name := "CFGCRC_STAT", base := 0x000124, reset := 1, writer := .p0, w1c := 2 },
  { name := "CFGCRC_CUR", base := 0x000128 },
  { name := "CFGCRC_REF", base := 0x00012C, writer := .p0, own := allBits },
  { name := "STRAP_STAT", base := 0x000140, kept := .straps, live := true },
  { name := "SIG_PAD", base := 0x000144, reset := 5, writer := .p0, img := .y, own := 0x1F },
  { name := "PIN_LVL", base := 0x000148, kept := .live, live := true },
  { name := "PWR_STAT", base := 0x000200, kept := .live, live := true },
  { name := "PWR_EVT", base := 0x000204, writer := .p0, w1c := 0x3F },
  { name := "BANK_PRES", base := 0x000208, kept := .live, live := true },
  { name := "BANK_BO", base := 0x00020C, writer := .p0, w1c := 0xFFFF },
  { name := "BANK_CLASS", base := 0x000210, kept := .live, live := true },
  { name := "BANK_RST", base := 0x000214, writer := .p0, img := .y, rw := 0xFFFF, wm := true }]
  ++ [
  { name := "CHG_CTL", base := 0x000220, writer := .p0, img := .y, rw := 1 },
  { name := "CHG_CFG", base := 0x000224, writer := .p0, img := .y, cfg := 0xFF3FFF07 },
  { name := "CHG_STAT", base := 0x000228 },
  { name := "CELL_CFG", base := 0x000230, reset := 0x1E000000, kept := .aon, writer := .p0, img := .y, rw := allBits, live := true },
  { name := "GAUGE_CTL", base := 0x000234, kept := .aon, writer := .p0, rw := 3, trg := 3 },
  { name := "GAUGE_Q", base := 0x000238, kept := .aon },
  { name := "RESERVE", base := 0x00023C, kept := .aon },
  { name := "AON_STAT", base := 0x000240, reset := 1, kept := .aon, writer := .p0, own := 1 },
  { name := "VBAK_LOW_CFG", base := 0x000244, reset := 0xF, kept := .aon, writer := .p0, img := .y, rw := 0x3F, live := true },
  { name := "DEV_STATE", base := 0x000300, reset := 0x202, kept := .live, live := true },
  { name := "DEV_CTL", base := 0x000304, writer := .p0, own := 0xFFF, trg := 0xFFF },
  { name := "BOOT_CFG", base := 0x000308, reset := 0x00C81401, writer := .p0, img := .y, cfg := 0x0FFFFF03 },
  { name := "BOOT_STAT", base := 0x00030C, writer := .p0, w1c := 0x10 },
  { name := "BOOT_FAIL", base := 0x000310, kept := .boot },
  { name := "BOOT_FAIL_ADDR", base := 0x000314, kept := .boot },
  { name := "BOOT_TIME", base := 0x000318 },
  { name := "RESET_CAUSE", base := 0x00031C, kept := .release },
  { name := "BOOT_TAG", base := 0x000320, count := 4 },
  { name := "IMG_INFO", base := 0x000400 },
  { name := "IMG_VER", base := 0x000404 },
  { name := "IMG_LEN", base := 0x000408 },
  { name := "IMG_BUILD", base := 0x00040C },
  { name := "IMG_STAT", base := 0x000410 },
  { name := "SVC_CTL", base := 0x000420, writer := .p0, own := 0xF },
  { name := "SVC_ADDR", base := 0x000424, writer := .p0, own := 0xFFFFFF },
  { name := "SVC_LEN", base := 0x000428, writer := .p0, own := 0x1FF },
  { name := "SVC_STAT", base := 0x00042C, writer := .p0, w1c := 0xC },
  { name := "SVC_VRES", base := 0x000430 },
  { name := "SVC_VOFF", base := 0x000434 },
  { name := "SVC_BUF", base := 0x000500, count := 64, writer := .p0, own := allBits },
  { name := "SPI_STAT", base := 0x000600, writer := .p0, w1c := 0x0F000000 },
  { name := "SPI_CNT", base := 0x000604 },
  { name := "I2C_STAT", base := 0x000610, writer := .p0, w1c := 0x00070000 },
  { name := "I2C_PTR", base := 0x000614 },
  { name := "HOST_CFG", base := 0x000620, reset := 1, writer := .p0, img := .y, rw := 1 },
  unlockRow 0x000000]

/-- The reference and root block (R496). -/
def rowsRoot : List Row := [
  { name := "REF_CFG", base := 0x010000, stride := 0x20, count := 8, writer := .p0, img := .y, rw := 0xF01, cfg := 0xE },
  { name := "REF_CFG_8_9", base := 0x010100, stride := 0x20, count := 2, writer := .p0, img := .y, rw := 0xF01 },
  { name := "REF_DIV", base := 0x010004, stride := 0x20, count := 8, reset := 1, writer := .p0, img := .y, cfg := 0xFFFFFF },
  { name := "REF_DIV_8_9", base := 0x010104, stride := 0x20, count := 2, reset := 1 },
  { name := "REF_FB", base := 0x010008, stride := 0x20, count := 8, reset := 0xF0, writer := .p0, img := .y, cfg := allBits },
  { name := "REF_FB_8", base := 0x010108, reset := 0x8F0D1800 },
  { name := "REF_FB_9", base := 0x010128, reset := 0x00000960 },
  { name := "REF_QUAL", base := 0x01000C, stride := 0x20, count := 8, reset := 0x64710C0A, writer := .p0, img := .y, cfg := 0xFFF7FFFF },
  { name := "REF_QUAL_8", base := 0x01010C, reset := 0xFFB30C0A, writer := .p0, img := .y, cfg := 0xFFF7FFFF },
  { name := "REF_QUAL_9", base := 0x01012C, reset := 0x64710C0A, writer := .p0, img := .y, cfg := 0xFFF7FFFF },
  { name := "REF_STAT", base := 0x010010, stride := 0x20, count := 10 },
  { name := "REF_MEAS", base := 0x010014, stride := 0x20, count := 10 },
  { name := "REF_EVT", base := 0x010018, stride := 0x20, count := 10, writer := .p0, w1c := 0xF },
  { name := "SEL_CFG", base := 0x010200, reset := 0x00033C00, writer := .p0, img := .y, rw := 0x0007FF01 },
  { name := "SEL_CTL", base := 0x010204, writer := .p0, img := .y, key := 0xF3 },
  { name := "SEL_STAT", base := 0x010208, reset := 0xFF },
  { name := "SEL_EVT", base := 0x01020C, writer := .p0, w1c := 3 },
  { name := "ROOT_CFG", base := 0x010300, reset := 0x36, writer := .p0, img := .y, cfg := 0x7F },
  { name := "TUNE_INIT", base := 0x010304, writer := .p0, img := .y, cfg := allBits },
  { name := "HOLD_CFG", base := 0x010308, reset := 0x202, writer := .p0, img := .y, rw := 0x00FF0707 },
  { name := "ROOT_STAT", base := 0x010310 },
  { name := "ROOT_EVT", base := 0x010314, writer := .p0, w1c := 0x1F },
  { name := "ROOT_TUNE", base := 0x010318 },
  { name := "HOLD_AVG", base := 0x01031C, live := true },
  { name := "PHASE_ERR", base := 0x010320 },
  { name := "HOLD_TIME", base := 0x010324, live := true },
  { name := "PPS_CFG", base := 0x010400, reset := 0x00030A00, writer := .p0, img := .t, rw := 0x8007FF01, trg := 0x80000000 },
  { name := "PPS_STAT", base := 0x010404 },
  unlockRow 0x010000]

/-- The registers of an indirect window (R57); IND_DATA and its alias have no word of their own. -/
def rowsWindow (base : Nat) : List Row := [
  { name := "IND_ADDR", base := base, writer := .holder, rw := 0xFFFF },
  { name := "IND_DATA", base := base + 4, writer := .holder },
  { name := "IND_CTL", base := base + 8, reset := 1, writer := .holder, rw := 0x301, trg := 0x300 },
  { name := "IND_LOCK", base := base + 0xC, writer := .each, live := true },
  { name := "IND_STAT", base := base + 0x10, writer := .each, w1c := 0x600, live := true },
  { name := "IND_LOCK_TO", base := base + 0x14, reset := 0x000F4240, writer := .p0, own := 0xFFFFFF },
  { name := "IND_DATA_S", base := base + 0x400, count := 256, writer := .holder }]

/-- The channel block (R497). -/
def rowsChannel : List Row := [
  { name := "CH_RUN", base := 0x020000, count := 8, live := true },
  { name := "CH_EVTSUM", base := 0x020020, count := 8, live := true }]
  ++ rowsWindow 0x02E000 ++ [unlockRow 0x020000]

/-- The group block (R499). -/
def rowsGroup : List Row := [
  { name := "GRP_CFG", base := 0x030000, stride := 0x20, count := 32, writer := .grp, img := .y, rw := 0x3F01, cfg := 2 },
  { name := "GRP_PERIOD", base := 0x030004, stride := 0x20, count := 32, writer := .grp, img := .y, rw := allBits },
  { name := "GRP_HIGH", base := 0x030008, stride := 0x20, count := 32, writer := .grp, img := .y, rw := allBits },
  { name := "GRP_BASE", base := 0x03000C, stride := 0x20, count := 32, writer := .grp, img := .y, rw := allBits },
  { name := "GRP_RSP", base := 0x030010, stride := 0x20, count := 32, reset := 0x01000040, writer := .grp, img := .y, rw := allBits },
  { name := "GRP_HOLD", base := 0x030014, stride := 0x20, count := 32, writer := .grp, img := .y, rw := 0xFFFF },
  { name := "GRP_STAT", base := 0x030018, stride := 0x20, count := 32, live := true },
  { name := "GRP_EVT", base := 0x03001C, stride := 0x20, count := 32, writer := .grp, w1c := 0x7F },
  { name := "GRP_LOCK", base := 0x030400, count := 32, writer := .grp, rw := 0x301, trg := 0x301, w1c := 0x3000, live := true },
  { name := "GRP_LOCK_TO", base := 0x030480, reset := 0x000F4240, writer := .p0, own := 0xFFFFFF },
  { name := "GRP_SLOT", base := 0x031000, stride := 0x100, count := 32, words := 64, writer := .grp, img := .y, rw := 0x80FF },
  unlockRow 0x030000]

/-- The output block (R500). -/
def rowsOutput : List Row := [
  { name := "BANK_CFG", base := 0x040000, count := 16, writer := .p0, img := .y, rw := 3 },
  { name := "PGPO", base := 0x040040, count := 16, writer := .pgpo, rw := 0xFFFF, wm := true },
  { name := "BANK_VOK", base := 0x040080, kept := .live, live := true },
  { name := "HALT_CFG", base := 0x040100, writer := .p0, img := .t, rw := 0x3FF, trg := 0x200 },
  { name := "HALT_STAT", base := 0x040104, writer := .p0, w1c := 0x30000 },
  { name := "HALT_GATED", base := 0x040110, count := 8, live := true },
  { name := "HALT_MODE", base := 0x040200, count := 16, reset := 0x55555555, writer := .p0, img := .y, rw := allBits },
  { name := "XB_CFG", base := 0x040300, count := 8, writer := .p0, img := .y, cfg := 0xFFFF0001 },
  { name := "XB_STAT", base := 0x040320, count := 8 },
  { name := "XB_PORTS", base := 0x040340 },
  unlockRow 0x040000]

/-- The monitor block (R504). -/
def rowsMonitor : List Row := [
  { name := "MON_CTL", base := 0x050000, reset := 1, writer := .p0, img := .y, rw := 1 },
  { name := "MON_SCHED", base := 0x050004, reset := 0x03E8000A, writer := .p0, img := .y, rw := allBits },
  { name := "MON_STAT", base := 0x050008, reset := 0xA },
  { name := "MON_TRIM_CFG", base := 0x05000C, reset := 0x40020000, writer := .p0, img := .y, rw := allBits },
  { name := "MON_REQ", base := 0x050010, inst := .bank, kept := .part, writer := .each, rw := 0x1FF, trg := 0x100 },
  { name := "MON_REQ_STAT", base := 0x050014, inst := .bank, kept := .part, writer := .each, w1c := 6 },
  { name := "MON_CAL", base := 0x050018 },
  { name := "MON_PROF_A", base := 0x050040, stride := 8, count := 8, inst := .bank, reset := 0x40302814, kept := .part,
    writer := .each, img := .y, rw := 0xF0F3FFFF },
  { name := "MON_PROF_B", base := 0x050044, stride := 8, count := 8, inst := .bank, reset := 0x03E82710, kept := .part,
    writer := .each, img := .y, rw := allBits },
  { name := "RET_MAP", base := 0x050100, count := 8, kept := .aon, live := true },
  { name := "RBT_MAP", base := 0x050120, count := 8, kept := .aon, live := true },
  { name := "SP_FAIL", base := 0x050140, kept := .aon, live := true },
  { name := "MR_STAT", base := 0x051000, stride := 16, count := 256, live := true },
  { name := "MR_PHASE", base := 0x051004, stride := 16, count := 256 },
  { name := "MR_DUTY", base := 0x051008, stride := 16, count := 256 },
  { name := "MR_RT", base := 0x05100C, stride := 16, count := 256 },
  unlockRow 0x050000]

/-- The FLT_CFG_b_c and FLT_CUR_b_c registers of block `b`, one for each code (R505). -/
def rowsFltCodes (b : Nat) : List Row :=
  (List.range (faultCodes b)).map (fun c =>
    { name := "FLT_CFG", base := 0x060200 + 0x400 * b + 4 * c, reset := fltCfgReset b c, writer := .p0, img := .y,
      key := 0xFFFF1FFF })
  ++ [{ name := "FLT_CUR", base := 0x060300 + 0x400 * b, count := faultCodes b, inst := .bank, kept := .part, live := true }]

/-- The registers of fault block `b` (R505). -/
def rowsFltBlk (b : Nat) : List Row := [
  { name := "FLT_STAT", base := 0x060000 + 0x400 * b, inst := .bank, kept := .part, writer := .each, w1c := allBits },
  { name := "FLT_IEN", base := 0x060004 + 0x400 * b, inst := .bank, reset := 0xFFFFFFFF, kept := .part, writer := .each, rw := allBits },
  { name := "FLT_ESC", base := 0x060008 + 0x400 * b, inst := .bank, kept := .part },
  { name := "FLT_CTL", base := 0x06000C + 0x400 * b, writer := .p0, own := 3, trg := 3 },
  { name := "FLT_SEQ", base := 0x060010 + 0x400 * b },
  { name := "FIRST_FAULT", base := 0x060020 + 0x400 * b, count := 4, kept := .boot },
  { name := "FLT_HIST", base := 0x060100 + 0x400 * b, count := 32, kept := .boot }]
  ++ rowsFltCodes b

/-- The device-wide fault registers (R505). -/
def rowsFltDev : List Row := [
  { name := "FLT_SUM", base := 0x06F000, inst := .bank, kept := .live, live := true },
  { name := "DEV_FIRST_BLK", base := 0x06F004, kept := .boot },
  { name := "DEV_FIRST", base := 0x06F010, count := 4, kept := .boot },
  { name := "DEV_FLT_CTL", base := 0x06F020, writer := .p0, own := 1, trg := 1 },
  unlockRow 0x060000]

/-- The governor block (R506). -/
def rowsGovernor : List Row := [
  { name := "GOV_CFG", base := 0x070000, reset := 0x0A0A03E8, writer := .p0, img := .y, rw := 0x3FFFFFFF },
  { name := "GOV_BUDGET", base := 0x070004, reset := 0xFFFF, writer := .p0, img := .y, rw := 0xFFFF },
  { name := "GOV_BCFG", base := 0x070008, reset := 0xFFFF0000, writer := .p0, img := .y, rw := allBits },
  { name := "GOV_STRES", base := 0x07000C, reset := 0x000A000A, writer := .p0, img := .y, rw := allBits },
  { name := "GOV_THERM", base := 0x070010, reset := 0x05766E64, writer := .p0, img := .y, key := 0x0FFFFFFF },
  { name := "GOV_STEPCFG", base := 0x070014, reset := 0x07310146, writer := .p0, img := .y, key := 0x07770777 },
  { name := "GOV_STAT", base := 0x070018 },
  { name := "GOV_BEFF", base := 0x07001C },
  { name := "GOV_EST", base := 0x070020 },
  { name := "GOV_TEMP", base := 0x070030, count := 4 },
  { name := "GOV_EVT", base := 0x070040, writer := .p0, w1c := 0x7F },
  { name := "GOV_SHARE", base := 0x070100, stride := 16, count := 16, reset := 0xFFFF, writer := .p0, img := .y, rw := 0xFFFF },
  { name := "GOV_PHELD", base := 0x070104, stride := 16, count := 16 },
  { name := "GOV_PEFF", base := 0x070108, stride := 16, count := 16 },
  { name := "GOV_PSTAT", base := 0x07010C, stride := 16, count := 16 },
  unlockRow 0x070000]

/-- The partition block (R507). -/
def rowsPartition : List Row := [
  { name := "OWN_CH", base := 0x080000, count := 32, writer := .p0key, img := .y, own := allBits },
  { name := "OWN_GRP", base := 0x080080, count := 4, writer := .p0key, img := .y, own := allBits },
  { name := "OWN_MTR", base := 0x080090, count := 4, writer := .p0key, img := .y, own := allBits },
  { name := "IRQ_OWN", base := 0x0800A0, count := 2, writer := .p0key, img := .y, own := allBits },
  { name := "PART_EN", base := 0x0800B0, reset := 1, writer := .p0key, img := .y, own := 0xFFFE },
  { name := "PART_GSTAT", base := 0x0800B4, writer := .p0, w1c := 1 },
  { name := "PART_ORST", base := 0x080100, writer := .p0, rw := 0xFFFF, trg := 0xFFFF },
  { name := "IRQ_CFG_0", base := 0x080200, reset := 0x103, writer := .irq, img := .y, rw := 0x17F },
  { name := "IRQ_CFG", base := 0x080204, count := 15, writer := .irq, img := .y, rw := 0x17F },
  { name := "ATT_DATA", base := 0x080300, count := 8, inst := .port, writer := .each, rw := allBits },
  { name := "ATT_CTL", base := 0x080320, inst := .port, writer := .each, rw := 1, trg := 1 },
  { name := "ATT_STAT", base := 0x080324, inst := .port, writer := .each, w1c := 2 },
  { name := "ATT_BIND", base := 0x080328, inst := .port, writer := .each, w1c := 0xFFFF },
  { name := "ATT_KEY", base := 0x080330, count := 2, inst := .port },
  { name := "PART_CFG", base := 0x080400, stride := 0x20, count := 16, reset := 2, writer := .p0key, img := .y, own := 0x3E },
  { name := "PART_SVC", base := 0x080404, stride := 0x20, count := 16, reset := 0x00320410, writer := .p0, img := .y, rw := 0xFFFF0FFF },
  { name := "PART_CTL", base := 0x080408, stride := 0x20, count := 16, writer := .self, rw := 1, trg := 1 },
  { name := "PART_STAT", base := 0x08040C, stride := 0x20, count := 16 },
  { name := "PART_ISTAT", base := 0x080410, stride := 0x20, count := 16, kept := .live, live := true },
  { name := "PART_EVT", base := 0x080414, stride := 0x20, count := 16, writer := .self, w1c := 1 },
  { name := "PART_MASK", base := 0x080418, stride := 0x20, count := 16, writer := .self, img := .y, rw := 0x7F03FF },
  unlockRow 0x080000]

/-- The Q_CFG rows of partition `p`: event and ledger queues reset to watermark 1, command queues hold no field (R396, R508). -/
def rowsQueueOf (p : Nat) : List Row := [
  { name := "Q_CFG", base := 0x090000 + 32 * p, stride := 8, count := 2, writer := .queue, img := .y },
  { name := "Q_CFG_E", base := 0x090010 + 32 * p, reset := 1, writer := .queue, img := .y, rw := 0x1FFFFFF },
  { name := "Q_CFG_L", base := 0x090018 + 32 * p, reset := 1, writer := .queue, img := .y, rw := 0xFF }]

/-- The queue block (R508). -/
def rowsQueue : List Row :=
  ((List.range 16).map rowsQueueOf).flatten ++ [
  { name := "Q_STAT", base := 0x090004, stride := 8, count := 64, writer := .queue, rw := 0x80000000, trg := 0x80000000,
    w1c := 0x2000000, live := true },
  { name := "Q_DEF", base := 0x090200, count := 16 },
  { name := "CMD_STG", base := 0x090400, count := 16, inst := .portPart, kept := .part, writer := .each, rw := allBits },
  { name := "CMD_PUSH", base := 0x090440, inst := .portPart, kept := .part, writer := .each, rw := 3, trg := 1 },
  { name := "CMD_PUSH_STAT", base := 0x090444, inst := .portPart, kept := .part },
  { name := "EVQ_REC", base := 0x090480, count := 4, inst := .bank, kept := .live, live := true },
  { name := "EVQ_POP", base := 0x090490, inst := .bank, kept := .part, writer := .each, rw := 0xFF, trg := 0xFF },
  { name := "LDQ_REC", base := 0x0904A0, count := 4, inst := .bank, kept := .live, live := true },
  { name := "LDQ_POP", base := 0x0904B0, inst := .bank, kept := .part, writer := .each, rw := 0xFF, trg := 0xFF },
  { name := "QENG_STAT", base := 0x090500 },
  unlockRow 0x090000]

/-- The link block (R509). -/
def rowsLink : List Row := [
  { name := "LNK_CFG", base := 0x0A0000, reset := 0x0A05320A, writer := .p0, img := .y, rw := 0xFF07FFFF },
  { name := "LNK_ID", base := 0x0A0004 },
  { name := "LNK_PSTAT", base := 0x0A0010, count := 2 },
  { name := "LNK_PCNT", base := 0x0A0018, count := 2 },
  { name := "LNK_DLY", base := 0x0A0020 },
  { name := "LNK_DLY_CFG", base := 0x0A0024, writer := .p0, img := .y, rw := 0xFFFF },
  { name := "LNK_CAL", base := 0x0A0030, reset := 0x001E1300, writer := .p0, img := .t, rw := 0xFFFF01, trg := 1 },
  { name := "LNK_CSTAT", base := 0x0A0034 },
  { name := "LNK_LOOP_ERR", base := 0x0A0038 },
  { name := "LNK_TRUST", base := 0x0A0040, count := 2, writer := .p0key, img := .y, own := allBits },
  { name := "LNK_EVT", base := 0x0A0050, writer := .p0, w1c := 0xFF },
  { name := "LNK_BUD", base := 0x0A0100, count := 64, reset := 0xFFFF, writer := .p0, img := .y, rw := 0xFFFF },
  { name := "LRA_CTL", base := 0x0A0200, inst := .bank, kept := .part, writer := .each, rw := 0x000F3F07, trg := 1 },
  { name := "LRA_ADDR", base := 0x0A0204, inst := .bank, kept := .part, writer := .each, rw := allBits },
  { name := "LRA_STAT", base := 0x0A0208, inst := .bank, kept := .part, writer := .each, w1c := 2 },
  { name := "LRA_DATA", base := 0x0A0240, count := 16, inst := .bank, kept := .part, writer := .each, rw := allBits },
  unlockRow 0x0A0000]

/-- The security block (R510). -/
def rowsSecurity : List Row := [
  { name := "SEC_UID", base := 0x0B0000, count := 2, kept := .const, live := true },
  { name := "KEY_STAT", base := 0x0B0010, kept := .release, live := true },
  { name := "KEY_EPOCH", base := 0x0B0014, kept := .release, live := true },
  { name := "KEY_KCV", base := 0x0B0020, count := 6, kept := .release, live := true },
  { name := "KEY_CTR", base := 0x0B0044, count := 5, kept := .aon, live := true },
  { name := "KEY_FAIL", base := 0x0B0064, count := 5, kept := .aon, live := true },
  { name := "SEC_CFG", base := 0x0B0080, reset := 0x000A3C05, writer := .p0key, img := .y, own := 0x03FFFF0F },
  { name := "RPT_CTR", base := 0x0B0090, kept := .aon, live := true },
  { name := "RPT_STAT", base := 0x0B0094, inst := .bank, kept := .part },
  { name := "KEY_STG", base := 0x0B0100, count := 4, writer := .p0key, own := allBits, live := true },
  { name := "KEY_PROG", base := 0x0B0110, writer := .p0key, key := 0x107, trg := 0x100 },
  { name := "KEY_PROG_STAT", base := 0x0B0114, writer := .p0, w1c := 6, live := true },
  { name := "RPT_BUF", base := 0x0B0400, count := 64, inst := .bank, kept := .part },
  unlockRow 0x0B0000]

/-- The always-on block (R511). -/
def rowsAon : List Row := [
  { name := "MTR_CFG", base := 0x0C0000, count := 32, writer := .mtr, img := .y, rw := 1, cfg := 0xFF01FF06 },
  { name := "MTR_STAT", base := 0x0C0080, count := 32, live := true },
  { name := "MTR_MASK", base := 0x0C0100, stride := 32, count := 32, words := 8, writer := .mtr, img := .y, cfg := allBits },
  { name := "HIRE_CFG", base := 0x0C0500, writer := .p0, img := .y, own := 0xFFFF0007 },
  { name := "HIRE_STAT", base := 0x0C0504, kept := .aon },
  { name := "HIRE_SES", base := 0x0C0508, kept := .aon },
  { name := "HIRE_T0", base := 0x0C050C, kept := .aon },
  { name := "HIRE_END", base := 0x0C0510, kept := .aon },
  { name := "IMMOB_MAP", base := 0x0C0520, count := 8, writer := .p0, img := .y, own := allBits },
  { name := "SENT_CFG", base := 0x0C0540, reset := 0xF, kept := .aon, writer := .p0, img := .y, rw := 0xFFFF073F, live := true },
  { name := "SENT_STAT", base := 0x0C0544, kept := .aon },
  { name := "SENT_CLR", base := 0x0C0548, kept := .aon, writer := .p0, own := 0x0301010F, trg := 0x0301010F },
  { name := "LDG_STAT", base := 0x0C0560, kept := .aon },
  { name := "LDG_RD", base := 0x0C0564, kept := .aon, writer := .p0, own := 0xFFF },
  { name := "LDG_CTL", base := 0x0C0568, writer := .p0, own := 3, trg := 3 },
  { name := "LDG_BSEQ", base := 0x0C056C, kept := .aon },
  { name := "TOD_STAT", base := 0x0C0570, reset := 1, kept := .aon }]
  ++ rowsWindow 0x0CE000 ++ [unlockRow 0x0C0000]

/-- The test space in TEASEL (R516, chapter 22). -/
def rowsTest : List Row := [
  { name := "TST_STAT", base := 0x0F0000 },
  { name := "TST_RUN", base := 0x0F0010, writer := .each, key := 0x80001F0F, trg := 0x80000000 },
  { name := "TST_RES", base := 0x0F0014, writer := .each, w1c := 2 },
  { name := "FLT_INJ", base := 0x0F0600, writer := .each, rw := 0x801FFF1F, trg := 0x80000000 },
  { name := "FLT_INJ_PAY", base := 0x0F0604, writer := .each, rw := allBits },
  unlockRow 0x0F0000]

/-- The rows among which an address is looked up: those of its 64 KiB block, and for the fault range those of its fault block. -/
def rowsAt (addr : Nat) : List Row :=
  match addr / 0x10000 with
  | 0 => rowsGlobal
  | 1 => rowsRoot
  | 2 => rowsChannel
  | 3 => rowsGroup
  | 4 => rowsOutput
  | 5 => rowsMonitor
  | 6 => if addr % 0x10000 < 0x3800 then rowsFltBlk (addr % 0x10000 / 0x400) else rowsFltDev
  | 7 => rowsGovernor
  | 8 => rowsPartition
  | 9 => rowsQueue
  | 10 => rowsLink
  | 11 => rowsSecurity
  | 12 => rowsAon
  | 15 => rowsTest
  | _ => []

/-- Whether a row holds a register at an address, and the index of that register within the row. -/
def Row.hits (r : Row) (addr : Nat) : Bool :=
  r.base ≤ addr && (addr - r.base) / r.stride < r.count && (addr - r.base) % r.stride < 4 * r.words && addr % 4 = 0

/-- The index `i` of a register in its row. -/
def Row.idx (r : Row) (addr : Nat) : Nat := (addr - r.base) / r.stride

/-- The row of an address, if a register exists there (R487, R501). -/
def rowOf (addr : Nat) : Option Row := (rowsAt addr).find? (fun r => r.hits addr)

/-- The span of one instance in the store's keys. -/
def instSpan : Nat := 0x1000000

/-- The reset value of a stored register word, by its key (R489). -/
def regReset (key : Nat) : Word :=
  match rowOf (key % instSpan) with
  | some r => r.reset
  | none => 0

/-- The bits of word `w` of a channel table by attribute (R498). -/
def tblRow (w : Nat) : Row :=
  match w with
  | 0 => { name := "CH_CTL", base := 0, rw := 0xF, trg := 0xF, cfg := 0x70, img := .t }
  | 1 => { name := "CH_PERIOD", base := 4, rw := allBits, img := .y }
  | 2 => { name := "CH_HIGH", base := 8, rw := allBits, img := .y }
  | 3 => { name := "CH_PHASE", base := 12, rw := allBits, img := .y }
  | 4 => { name := "CH_FINE", base := 16, rw := 0x3F, img := .y }
  | 5 => { name := "CH_SPREAD", base := 20, cfg := 0xFFF, img := .y }
  | 6 => { name := "CH_BURST", base := 24, reset := 1, cfg := allBits, img := .y }
  | 7 => { name := "CH_SLEW", base := 28, reset := 0x100, rw := 0xFFFF, img := .y }
  | 8 => { name := "CH_STAT", base := 32, reset := 0x04000000 }
  | 9 => { name := "CH_EVT", base := 36, w1c := 0x3FF }
  | 10 => { name := "CH_CNT", base := 40 }
  | 11 => { name := "CH_TRIM", base := 44, rw := 0xFFFF, img := .y }
  | 12 => { name := "CH_MON", base := 48, reset := 0x81, rw := 0xF1, cfg := 0x1FF06, img := .y }
  | 13 => { name := "CH_GOV", base := 52, reset := 7, rw := 0x107, cfg := 0x70, img := .y }
  | 14 => { name := "CH_PIN", base := 56, rw := 0xB, cfg := 0x724, w1c := 0x300000, img := .y }
  | _ => { name := "CH_GRP", base := 60, rw := 0x9F, img := .y }

/-- The reset value of a channel-table word at window offset `off`; CH_STAT names its own engine (R498). -/
def tblReset (off : Nat) : Word :=
  if off % 64 = 32 then word (0x04000000 + 0x10000 * (off / 64)) else (tblRow (off % 64 / 4)).reset

/-- The reset value of an always-on window word after an exit from OFF (R512, R87). -/
def aonReset (off : Nat) : Word :=
  if off = 0x2000 then 0x1E000000 else if off = 0x2004 then 0xF else if off = 0x2008 then 0xF else 0

/-- Whether the always-on window has a word at an offset (R512). -/
def aonWord (off : Nat) : Bool :=
  off % 4 = 0 && (off < 0x200 || (0x1000 ≤ off && off < 0x1804) || off = 0x2000 || off = 0x2004 || off = 0x2008
    || (0x3004 ≤ off && off ≤ 0x3014) || off = 0x3018 || (0x3024 ≤ off && off ≤ 0x3034) || off = 0x3040
    || (0x8000 ≤ off && off < 0x10000))

/-- The words of the always-on window that the image's AONWRITE may target and P0 may write (R512). -/
def aonRw (off : Nat) : Bool := off = 0x2000 || off = 0x2004 || off = 0x2008

/-- The writable bits of an always-on RW word. -/
def aonMask (off : Nat) : Nat := if off = 0x2004 then 0x3F else if off = 0x2008 then 0xFFFF073F else allBits

end Sys2Proof.Machine
end

