-- ==== Sys2Proof/Machine/Fields.lean ====
section
/-! DEFINITION. The named fields of the registers and of the channel tables, at the addresses and bits their home chapters
lay out. An indexed register's field takes the index; a banked register's field is moved to an instance with `Fld.inst`. -/
namespace Sys2Proof.Machine

/-- A field of a register word: the key of the word, the lowest bit and the width. -/
structure Fld where
  a : Nat
  lo : Nat
  len : Nat
  deriving DecidableEq, Repr

/-- A field of a channel table: the word (0 to 15), the lowest bit and the width. -/
structure TFld where
  w : Nat
  lo : Nat
  len : Nat
  deriving DecidableEq, Repr

/-- The same field in instance `p` of a banked register: 0 to 15 a partition, 16 the link-secure instance, 17 the
unbound masters as one in TEASEL (R450). -/
def Fld.inst (f : Fld) (p : Nat) : Fld := ⟨f.a + p * instSpan, f.lo, f.len⟩

/-! Register fields. -/
def ACC_STAT.ACCERR : Fld := ⟨0x000100, 0, 1⟩
def ACC_STAT.CFG_IGN : Fld := ⟨0x000100, 1, 1⟩
def ACC_STAT.OVF : Fld := ⟨0x000100, 2, 1⟩
def ACC_STAT.LOCKLOST : Fld := ⟨0x000100, 3, 1⟩
def ACC_STAT.CAUSE : Fld := ⟨0x000100, 4, 4⟩
def ACC_ADDR.ADDR : Fld := ⟨0x000104, 0, 24⟩
def ACC_ADDR.PORT : Fld := ⟨0x000104, 24, 2⟩
def WIDE_SEL.CLASS : Fld := ⟨0x000110, 0, 8⟩
def WIDE_SEL.IDX : Fld := ⟨0x000110, 8, 8⟩
def WIDE_SEL.WR : Fld := ⟨0x000110, 31, 1⟩
def WIDE_STAT.VALID : Fld := ⟨0x000114, 0, 1⟩
def WIDE_STAT.BUSY : Fld := ⟨0x000114, 1, 1⟩
def WIDE_STAT.BADSEL : Fld := ⟨0x000114, 2, 1⟩
def WIDE_STAT.REFUSED : Fld := ⟨0x000114, 3, 1⟩
def WIDE_STAT.CLASS : Fld := ⟨0x000114, 8, 8⟩
def WIDE_LO.DATA : Fld := ⟨0x000118, 0, 32⟩
def CFGCRC_CTL.EN : Fld := ⟨0x000120, 0, 1⟩
def CFGCRC_CTL.CAPTURE : Fld := ⟨0x000120, 1, 1⟩
def CFGCRC_STAT.STALE : Fld := ⟨0x000124, 0, 1⟩
def CFGCRC_STAT.MISMATCH : Fld := ⟨0x000124, 1, 1⟩
def CFGCRC_CUR.CRC : Fld := ⟨0x000128, 0, 32⟩
def CFGCRC_REF.REF : Fld := ⟨0x00012C, 0, 32⟩
def SIG_PAD.SDO_DRV : Fld := ⟨0x000144, 0, 2⟩
def SIG_PAD.IRQ_DRV : Fld := ⟨0x000144, 2, 2⟩
def SIG_PAD.FMP : Fld := ⟨0x000144, 4, 1⟩
def PWR_EVT.CORE_WARN : Fld := ⟨0x000204, 0, 1⟩
def PWR_EVT.VLINK_BO : Fld := ⟨0x000204, 1, 1⟩
def PWR_EVT.VBAK_LOW : Fld := ⟨0x000204, 2, 1⟩
def PWR_EVT.CELL_ABSENT : Fld := ⟨0x000204, 3, 1⟩
def PWR_EVT.CELL_RETURN : Fld := ⟨0x000204, 4, 1⟩
def PWR_EVT.CHG_FAULT : Fld := ⟨0x000204, 5, 1⟩
def BANK_BO.BO : Fld := ⟨0x00020C, 0, 16⟩
def BANK_RST.AUTO : Fld := ⟨0x000214, 0, 16⟩
def CHG_CTL.EN : Fld := ⟨0x000220, 0, 1⟩
def CHG_CFG.CELL_TYPE : Fld := ⟨0x000224, 0, 3⟩
def CHG_CFG.ICC : Fld := ⟨0x000224, 8, 8⟩
def CHG_CFG.VCV : Fld := ⟨0x000224, 16, 6⟩
def CHG_CFG.ITERM : Fld := ⟨0x000224, 24, 2⟩
def CHG_CFG.TMAX : Fld := ⟨0x000224, 26, 6⟩
def CHG_STAT.STATE : Fld := ⟨0x000228, 0, 3⟩
def CHG_STAT.CFGERR : Fld := ⟨0x000228, 3, 1⟩
def CHG_STAT.NOCELL : Fld := ⟨0x000228, 4, 1⟩
def CHG_STAT.IOUT : Fld := ⟨0x000228, 8, 8⟩
def GAUGE_CTL.FULL : Fld := ⟨0x000234, 0, 1⟩
def GAUGE_CTL.CLR_AVG : Fld := ⟨0x000234, 1, 1⟩
def GAUGE_Q.Q : Fld := ⟨0x000238, 0, 24⟩
def RESERVE.DAYS : Fld := ⟨0x00023C, 0, 16⟩
def RESERVE.IAVG : Fld := ⟨0x00023C, 16, 11⟩
def RESERVE.DEFAULT : Fld := ⟨0x00023C, 29, 1⟩
def RESERVE.VALID : Fld := ⟨0x00023C, 31, 1⟩
def AON_STAT.LOST : Fld := ⟨0x000240, 0, 1⟩
def DEV_CTL.CODE : Fld := ⟨0x000304, 0, 8⟩
def DEV_CTL.PART : Fld := ⟨0x000304, 8, 4⟩
def BOOT_CFG.AUTORUN : Fld := ⟨0x000308, 0, 1⟩
def BOOT_CFG.LINK_WAIT : Fld := ⟨0x000308, 1, 1⟩
def BOOT_CFG.ROOT_TO : Fld := ⟨0x000308, 8, 8⟩
def BOOT_CFG.LINK_TO : Fld := ⟨0x000308, 16, 12⟩
def BOOT_STAT.QUAD : Fld := ⟨0x00030C, 0, 1⟩
def BOOT_STAT.RETRY : Fld := ⟨0x00030C, 1, 1⟩
def BOOT_STAT.LINK_LATE : Fld := ⟨0x00030C, 2, 1⟩
def BOOT_STAT.GO_WAIT : Fld := ⟨0x00030C, 3, 1⟩
def BOOT_STAT.CODE_REJ : Fld := ⟨0x00030C, 4, 1⟩
def BOOT_STAT.NOCLK : Fld := ⟨0x00030C, 8, 8⟩
def BOOT_STAT.RETRY_SEC : Fld := ⟨0x00030C, 16, 8⟩
def BOOT_FAIL.CODE : Fld := ⟨0x000310, 0, 8⟩
def BOOT_FAIL.INDEX : Fld := ⟨0x000310, 8, 8⟩
def BOOT_FAIL.PART : Fld := ⟨0x000310, 16, 4⟩
def BOOT_FAIL.PRST : Fld := ⟨0x000310, 20, 1⟩
def BOOT_FAIL_ADDR.ADDR : Fld := ⟨0x000314, 0, 24⟩
def BOOT_TIME.T_CFG : Fld := ⟨0x000318, 0, 16⟩
def BOOT_TIME.T_ARM : Fld := ⟨0x000318, 16, 16⟩
def RESET_CAUSE.CAUSE : Fld := ⟨0x00031C, 0, 3⟩
def IMG_INFO.FMT : Fld := ⟨0x000400, 0, 8⟩
def IMG_INFO.SEC_COUNT : Fld := ⟨0x000400, 8, 8⟩
def IMG_INFO.VALID : Fld := ⟨0x000400, 31, 1⟩
def IMG_VER.VER : Fld := ⟨0x000404, 0, 32⟩
def IMG_LEN.LEN : Fld := ⟨0x000408, 0, 18⟩
def IMG_BUILD.TIME : Fld := ⟨0x00040C, 0, 32⟩
def IMG_STAT.SKIPSEC : Fld := ⟨0x000410, 0, 8⟩
def IMG_STAT.SKIPREC : Fld := ⟨0x000410, 8, 16⟩
def SVC_CTL.OP : Fld := ⟨0x000420, 0, 4⟩
def SVC_ADDR.ADDR : Fld := ⟨0x000424, 0, 24⟩
def SVC_LEN.LEN : Fld := ⟨0x000428, 0, 9⟩
def SVC_STAT.OPEN : Fld := ⟨0x00042C, 0, 1⟩
def SVC_STAT.BUSY : Fld := ⟨0x00042C, 1, 1⟩
def SVC_STAT.DONE : Fld := ⟨0x00042C, 2, 1⟩
def SVC_STAT.REJ : Fld := ⟨0x00042C, 3, 1⟩
def SVC_STAT.ERR : Fld := ⟨0x00042C, 4, 4⟩
def SVC_STAT.WROTE : Fld := ⟨0x00042C, 8, 1⟩
def SVC_STAT.ERASED : Fld := ⟨0x00042C, 16, 8⟩
def SVC_VRES.CODE : Fld := ⟨0x000430, 0, 8⟩
def SVC_VRES.INDEX : Fld := ⟨0x000430, 8, 8⟩
def SVC_VRES.SAME : Fld := ⟨0x000430, 16, 1⟩
def SVC_VRES.VALID : Fld := ⟨0x000430, 31, 1⟩
def SVC_VOFF.OFFSET : Fld := ⟨0x000434, 0, 24⟩
def REF_CFG.EN (i : Nat) : Fld := ⟨0x010000 + 0x20 * i, 0, 1⟩
def REF_CFG.MODE (i : Nat) : Fld := ⟨0x010000 + 0x20 * i, 1, 2⟩
def REF_CFG.TERM (i : Nat) : Fld := ⟨0x010000 + 0x20 * i, 3, 1⟩
def REF_CFG.PRIO (i : Nat) : Fld := ⟨0x010000 + 0x20 * i, 8, 4⟩
def REF_DIV.RDIV (i : Nat) : Fld := ⟨0x010004 + 0x20 * i, 0, 24⟩
def REF_FB.FB (i : Nat) : Fld := ⟨0x010008 + 0x20 * i, 0, 32⟩
def REF_QUAL.FWIN_ACC (i : Nat) : Fld := ⟨0x01000C + 0x20 * i, 0, 8⟩
def REF_QUAL.FWIN_REJ (i : Nat) : Fld := ⟨0x01000C + 0x20 * i, 8, 8⟩
def REF_QUAL.FGATE (i : Nat) : Fld := ⟨0x01000C + 0x20 * i, 16, 3⟩
def REF_QUAL.PHIT (i : Nat) : Fld := ⟨0x01000C + 0x20 * i, 20, 4⟩
def REF_QUAL.QUAL_T (i : Nat) : Fld := ⟨0x01000C + 0x20 * i, 24, 8⟩
def REF_STAT.STATE (i : Nat) : Fld := ⟨0x010010 + 0x20 * i, 0, 2⟩
def REF_STAT.ACT (i : Nat) : Fld := ⟨0x010010 + 0x20 * i, 2, 1⟩
def REF_STAT.FREQ_OK (i : Nat) : Fld := ⟨0x010010 + 0x20 * i, 3, 1⟩
def REF_STAT.SELECTED (i : Nat) : Fld := ⟨0x010010 + 0x20 * i, 4, 1⟩
def REF_STAT.CFGERR (i : Nat) : Fld := ⟨0x010010 + 0x20 * i, 5, 1⟩
def REF_STAT.QUAL_LEFT (i : Nat) : Fld := ⟨0x010010 + 0x20 * i, 8, 8⟩
def REF_MEAS.OFFSET (i : Nat) : Fld := ⟨0x010014 + 0x20 * i, 0, 32⟩
def REF_EVT.LOS (i : Nat) : Fld := ⟨0x010018 + 0x20 * i, 0, 1⟩
def REF_EVT.FREQ (i : Nat) : Fld := ⟨0x010018 + 0x20 * i, 1, 1⟩
def REF_EVT.PHIT (i : Nat) : Fld := ⟨0x010018 + 0x20 * i, 2, 1⟩
def REF_EVT.QUAL (i : Nat) : Fld := ⟨0x010018 + 0x20 * i, 3, 1⟩
def SEL_CFG.REVERT : Fld := ⟨0x010200, 0, 1⟩
def SEL_CFG.WTR : Fld := ⟨0x010200, 8, 8⟩
def SEL_CFG.PBO : Fld := ⟨0x010200, 16, 1⟩
def SEL_CFG.PSLEW : Fld := ⟨0x010200, 17, 2⟩
def SEL_CTL.MODE : Fld := ⟨0x010204, 0, 2⟩
def SEL_CTL.FORCE_SRC : Fld := ⟨0x010204, 4, 4⟩
def SEL_STAT.SRC : Fld := ⟨0x010208, 0, 4⟩
def SEL_STAT.PEND : Fld := ⟨0x010208, 4, 4⟩
def SEL_STAT.WTR_LEFT : Fld := ⟨0x010208, 8, 8⟩
def SEL_STAT.SWITCHING : Fld := ⟨0x010208, 16, 1⟩
def SEL_STAT.SWITCHES : Fld := ⟨0x010208, 24, 8⟩
def SEL_EVT.SWITCH : Fld := ⟨0x01020C, 0, 1⟩
def SEL_EVT.NOSRC : Fld := ⟨0x01020C, 1, 1⟩
def ROOT_CFG.BW : Fld := ⟨0x010300, 0, 4⟩
def ROOT_CFG.FSLEW : Fld := ⟨0x010300, 4, 3⟩
def TUNE_INIT.TUNE : Fld := ⟨0x010304, 0, 32⟩
def HOLD_CFG.HAVG : Fld := ⟨0x010308, 0, 3⟩
def HOLD_CFG.HGUARD : Fld := ⟨0x010308, 8, 3⟩
def HOLD_CFG.HMAX : Fld := ⟨0x010308, 16, 8⟩
def ROOT_STAT.APLL : Fld := ⟨0x010310, 0, 2⟩
def ROOT_STAT.DPLL : Fld := ⟨0x010310, 4, 3⟩
def ROOT_STAT.HIST_VALID : Fld := ⟨0x010310, 8, 1⟩
def ROOT_STAT.WEAK : Fld := ⟨0x010310, 9, 1⟩
def ROOT_STAT.FSLEWING : Fld := ⟨0x010310, 11, 1⟩
def ROOT_STAT.PSLEWING : Fld := ⟨0x010310, 12, 1⟩
def ROOT_STAT.TUNE_LIMIT : Fld := ⟨0x010310, 13, 1⟩
def ROOT_EVT.LOL : Fld := ⟨0x010314, 0, 1⟩
def ROOT_EVT.TRACK : Fld := ⟨0x010314, 1, 1⟩
def ROOT_EVT.HOLDOVER : Fld := ⟨0x010314, 2, 1⟩
def ROOT_EVT.HOLD_LONG : Fld := ⟨0x010314, 3, 1⟩
def ROOT_EVT.TUNE_LIMIT : Fld := ⟨0x010314, 4, 1⟩
def PPS_CFG.TOD_EN : Fld := ⟨0x010400, 0, 1⟩
def PPS_CFG.TOL : Fld := ⟨0x010400, 8, 8⟩
def PPS_CFG.MISS : Fld := ⟨0x010400, 16, 3⟩
def PPS_CFG.CLR : Fld := ⟨0x010400, 31, 1⟩
def PPS_STAT.VALID : Fld := ⟨0x010404, 0, 1⟩
def PPS_STAT.REJ : Fld := ⟨0x010404, 8, 8⟩
def PPS_STAT.TOD_ERR : Fld := ⟨0x010404, 16, 16⟩
def GRP_CFG.EN (i : Nat) : Fld := ⟨0x030000 + 0x20 * i, 0, 1⟩
def GRP_CFG.MODE (i : Nat) : Fld := ⟨0x030000 + 0x20 * i, 1, 1⟩
def GRP_CFG.BASEF (i : Nat) : Fld := ⟨0x030000 + 0x20 * i, 8, 6⟩
def GRP_PERIOD.N (i : Nat) : Fld := ⟨0x030004 + 0x20 * i, 0, 32⟩
def GRP_HIGH.H (i : Nat) : Fld := ⟨0x030008 + 0x20 * i, 0, 32⟩
def GRP_BASE.BASEP (i : Nat) : Fld := ⟨0x03000C + 0x20 * i, 0, 32⟩
def GRP_RSP.DUR (i : Nat) : Fld := ⟨0x030010 + 0x20 * i, 0, 16⟩
def GRP_RSP.GSLEW (i : Nat) : Fld := ⟨0x030010 + 0x20 * i, 16, 16⟩
def GRP_HOLD.HOLD (i : Nat) : Fld := ⟨0x030014 + 0x20 * i, 0, 16⟩
def GRP_STAT.M (i : Nat) : Fld := ⟨0x030018 + 0x20 * i, 0, 7⟩
def GRP_STAT.RESPREAD (i : Nat) : Fld := ⟨0x030018 + 0x20 * i, 8, 1⟩
def GRP_STAT.HOLDING (i : Nat) : Fld := ⟨0x030018 + 0x20 * i, 9, 1⟩
def GRP_STAT.LOCKED (i : Nat) : Fld := ⟨0x030018 + 0x20 * i, 10, 1⟩
def GRP_STAT.CFGERR (i : Nat) : Fld := ⟨0x030018 + 0x20 * i, 11, 1⟩
def GRP_STAT.ROT (i : Nat) : Fld := ⟨0x030018 + 0x20 * i, 16, 6⟩
def GRP_EVT.DONE (i : Nat) : Fld := ⟨0x03001C + 0x20 * i, 0, 1⟩
def GRP_EVT.LATE (i : Nat) : Fld := ⟨0x03001C + 0x20 * i, 1, 1⟩
def GRP_EVT.JOIN (i : Nat) : Fld := ⟨0x03001C + 0x20 * i, 2, 1⟩
def GRP_EVT.LEAVE (i : Nat) : Fld := ⟨0x03001C + 0x20 * i, 3, 1⟩
def GRP_EVT.LOCK_BROKEN (i : Nat) : Fld := ⟨0x03001C + 0x20 * i, 4, 1⟩
def GRP_EVT.LOCK_TO (i : Nat) : Fld := ⟨0x03001C + 0x20 * i, 5, 1⟩
def GRP_EVT.COMMITTED (i : Nat) : Fld := ⟨0x03001C + 0x20 * i, 6, 1⟩
def GRP_LOCK.REQ (i : Nat) : Fld := ⟨0x030400 + 0x4 * i, 0, 1⟩
def GRP_LOCK.HELD (i : Nat) : Fld := ⟨0x030400 + 0x4 * i, 1, 1⟩
def GRP_LOCK.COMMIT (i : Nat) : Fld := ⟨0x030400 + 0x4 * i, 8, 1⟩
def GRP_LOCK.DISCARD (i : Nat) : Fld := ⟨0x030400 + 0x4 * i, 9, 1⟩
def GRP_LOCK.BROKEN (i : Nat) : Fld := ⟨0x030400 + 0x4 * i, 12, 1⟩
def GRP_LOCK.TIMEOUT (i : Nat) : Fld := ⟨0x030400 + 0x4 * i, 13, 1⟩
def GRP_LOCK.STAGED (i : Nat) : Fld := ⟨0x030400 + 0x4 * i, 16, 7⟩
def GRP_LOCK_TO.LIMIT : Fld := ⟨0x030480, 0, 24⟩
def BANK_CFG.VSEL (i : Nat) : Fld := ⟨0x040000 + 0x4 * i, 0, 2⟩
def PGPO.VAL (i : Nat) : Fld := ⟨0x040040 + 0x4 * i, 0, 16⟩
def HALT_CFG.FILT : Fld := ⟨0x040100, 0, 8⟩
def HALT_CFG.LATCH : Fld := ⟨0x040100, 8, 1⟩
def HALT_CFG.CLR : Fld := ⟨0x040100, 9, 1⟩
def HALT_STAT.ASSERTED : Fld := ⟨0x040104, 0, 1⟩
def HALT_STAT.LATCHED : Fld := ⟨0x040104, 1, 1⟩
def HALT_STAT.ACTIVE : Fld := ⟨0x040104, 2, 1⟩
def HALT_STAT.COUNT : Fld := ⟨0x040104, 8, 8⟩
def HALT_STAT.EVT_ASSERT : Fld := ⟨0x040104, 16, 1⟩
def HALT_STAT.EVT_RELEASE : Fld := ⟨0x040104, 17, 1⟩
def XB_CFG.EN (i : Nat) : Fld := ⟨0x040300 + 0x4 * i, 0, 1⟩
def XB_CFG.SCOPE (i : Nat) : Fld := ⟨0x040300 + 0x4 * i, 16, 16⟩
def XB_STAT.BUSY (i : Nat) : Fld := ⟨0x040320 + 0x4 * i, 0, 1⟩
def XB_STAT.CH (i : Nat) : Fld := ⟨0x040320 + 0x4 * i, 8, 8⟩
def XB_STAT.XB (i : Nat) : Fld := ⟨0x040320 + 0x4 * i, 16, 3⟩
def XB_STAT.PORT (i : Nat) : Fld := ⟨0x040320 + 0x4 * i, 19, 1⟩
def XB_PORTS.USED : Fld := ⟨0x040340, 0, 16⟩
def MON_CTL.EN : Fld := ⟨0x050000, 0, 1⟩
def MON_SCHED.SI_MIN : Fld := ⟨0x050004, 0, 16⟩
def MON_SCHED.SI_MAX : Fld := ⟨0x050004, 16, 16⟩
def MON_STAT.SI_EFF : Fld := ⟨0x050008, 0, 16⟩
def MON_STAT.TLANE : Fld := ⟨0x050008, 16, 4⟩
def MON_STAT.TESTING : Fld := ⟨0x050008, 20, 1⟩
def MON_TRIM_CFG.TOFS : Fld := ⟨0x05000C, 0, 16⟩
def MON_TRIM_CFG.TDEAD : Fld := ⟨0x05000C, 16, 8⟩
def MON_TRIM_CFG.TSTEP : Fld := ⟨0x05000C, 24, 8⟩
def MON_REQ.CH : Fld := ⟨0x050010, 0, 8⟩
def MON_REQ.GO : Fld := ⟨0x050010, 8, 1⟩
def MON_REQ_STAT.BUSY : Fld := ⟨0x050014, 0, 1⟩
def MON_REQ_STAT.DONE : Fld := ⟨0x050014, 1, 1⟩
def MON_REQ_STAT.REJ : Fld := ⟨0x050014, 2, 1⟩
def MON_REQ_STAT.CH : Fld := ⟨0x050014, 8, 8⟩
def MON_CAL.OK : Fld := ⟨0x050018, 0, 16⟩
def MON_CAL.DONE : Fld := ⟨0x050018, 16, 1⟩
def MON_PROF_A.PTOL (i : Nat) : Fld := ⟨0x050040 + 0x8 * i, 0, 8⟩
def MON_PROF_A.DTOL (i : Nat) : Fld := ⟨0x050040 + 0x8 * i, 8, 8⟩
def MON_PROF_A.FTOL (i : Nat) : Fld := ⟨0x050040 + 0x8 * i, 16, 2⟩
def MON_PROF_A.K (i : Nat) : Fld := ⟨0x050040 + 0x8 * i, 20, 4⟩
def MON_PROF_A.AVG (i : Nat) : Fld := ⟨0x050040 + 0x8 * i, 28, 4⟩
def MON_PROF_B.W (i : Nat) : Fld := ⟨0x050044 + 0x8 * i, 0, 16⟩
def MON_PROF_B.RTMAX (i : Nat) : Fld := ⟨0x050044 + 0x8 * i, 16, 16⟩
def MR_STAT.PRES_F (i : Nat) : Fld := ⟨0x051000 + 0x10 * i, 0, 1⟩
def MR_STAT.FREQ_F (i : Nat) : Fld := ⟨0x051000 + 0x10 * i, 1, 1⟩
def MR_STAT.DUTY_F (i : Nat) : Fld := ⟨0x051000 + 0x10 * i, 2, 1⟩
def MR_STAT.PHASE_F (i : Nat) : Fld := ⟨0x051000 + 0x10 * i, 3, 1⟩
def MR_STAT.ENG_F (i : Nat) : Fld := ⟨0x051000 + 0x10 * i, 4, 1⟩
def MR_STAT.ECHO_F (i : Nat) : Fld := ⟨0x051000 + 0x10 * i, 5, 1⟩
def MR_STAT.EABS (i : Nat) : Fld := ⟨0x051000 + 0x10 * i, 6, 1⟩
def MR_STAT.ECONF (i : Nat) : Fld := ⟨0x051000 + 0x10 * i, 7, 1⟩
def MR_STAT.VALID (i : Nat) : Fld := ⟨0x051000 + 0x10 * i, 8, 1⟩
def MR_STAT.VERIFY (i : Nat) : Fld := ⟨0x051000 + 0x10 * i, 9, 1⟩
def MR_STAT.LIST (i : Nat) : Fld := ⟨0x051000 + 0x10 * i, 10, 2⟩
def MR_STAT.TSTATE (i : Nat) : Fld := ⟨0x051000 + 0x10 * i, 12, 2⟩
def MR_STAT.RELPEND (i : Nat) : Fld := ⟨0x051000 + 0x10 * i, 14, 1⟩
def MR_STAT.TLIM (i : Nat) : Fld := ⟨0x051000 + 0x10 * i, 15, 1⟩
def MR_STAT.RSCNT (i : Nat) : Fld := ⟨0x051000 + 0x10 * i, 16, 4⟩
def MR_STAT.COUNT (i : Nat) : Fld := ⟨0x051000 + 0x10 * i, 24, 8⟩
def MR_PHASE.ERR (i : Nat) : Fld := ⟨0x051004 + 0x10 * i, 0, 32⟩
def MR_DUTY.DERR (i : Nat) : Fld := ⟨0x051008 + 0x10 * i, 0, 16⟩
def MR_DUTY.TTGT (i : Nat) : Fld := ⟨0x051008 + 0x10 * i, 16, 16⟩
def MR_RT.RTAVG (i : Nat) : Fld := ⟨0x05100C + 0x10 * i, 0, 24⟩
def FLT_STAT.STAT (b : Nat) : Fld := ⟨0x060000 + 0x400 * b, 0, 32⟩
def FLT_IEN.IEN (b : Nat) : Fld := ⟨0x060004 + 0x400 * b, 0, 32⟩
def FLT_ESC.ESC (b : Nat) : Fld := ⟨0x060008 + 0x400 * b, 0, 32⟩
def FLT_CTL.ACKALL (b : Nat) : Fld := ⟨0x06000C + 0x400 * b, 0, 1⟩
def FLT_CTL.FF_CLR (b : Nat) : Fld := ⟨0x06000C + 0x400 * b, 1, 1⟩
def FLT_SEQ.NEXT (b : Nat) : Fld := ⟨0x060010 + 0x400 * b, 0, 12⟩
def FLT_CFG.LVL (b c : Nat) : Fld := ⟨0x060200 + 0x400 * b + 4 * c, 0, 2⟩
def FLT_CFG.CAP (b c : Nat) : Fld := ⟨0x060200 + 0x400 * b + 4 * c, 2, 2⟩
def FLT_CFG.N (b c : Nat) : Fld := ⟨0x060200 + 0x400 * b + 4 * c, 4, 4⟩
def FLT_CFG.WIN (b c : Nat) : Fld := ⟨0x060200 + 0x400 * b + 4 * c, 8, 4⟩
def FLT_CFG.REP (b c : Nat) : Fld := ⟨0x060200 + 0x400 * b + 4 * c, 12, 1⟩
def FLT_CFG.ESC_T (b c : Nat) : Fld := ⟨0x060200 + 0x400 * b + 4 * c, 16, 16⟩
def FLT_CUR.EL (b c : Nat) : Fld := ⟨0x060300 + 0x400 * b + 4 * c, 0, 2⟩
def FLT_CUR.RAW (b c : Nat) : Fld := ⟨0x060300 + 0x400 * b + 4 * c, 4, 4⟩
def FLT_CUR.REPS (b c : Nat) : Fld := ⟨0x060300 + 0x400 * b + 4 * c, 8, 8⟩
def FLT_CUR.ETL (b c : Nat) : Fld := ⟨0x060300 + 0x400 * b + 4 * c, 16, 16⟩
def DEV_FIRST_BLK.BLK : Fld := ⟨0x06F004, 0, 4⟩
def DEV_FIRST_BLK.VALID : Fld := ⟨0x06F004, 31, 1⟩
def DEV_FLT_CTL.CLR : Fld := ⟨0x06F020, 0, 1⟩
def FLT_INJ.CODE : Fld := ⟨0x0F0600, 0, 5⟩
def FLT_INJ.BLK : Fld := ⟨0x0F0600, 8, 4⟩
def FLT_INJ.SRC : Fld := ⟨0x0F0600, 12, 9⟩
def FLT_INJ.GO : Fld := ⟨0x0F0600, 31, 1⟩
def FLT_INJ_PAY.PAYLOAD : Fld := ⟨0x0F0604, 0, 32⟩
def GOV_CFG.WAIT_LIM : Fld := ⟨0x070000, 0, 16⟩
def GOV_CFG.DWELL : Fld := ⟨0x070000, 16, 8⟩
def GOV_CFG.BSRC : Fld := ⟨0x070000, 24, 1⟩
def GOV_CFG.STSTEP : Fld := ⟨0x070000, 25, 2⟩
def GOV_CFG.STMAX : Fld := ⟨0x070000, 27, 3⟩
def GOV_BUDGET.B : Fld := ⟨0x070004, 0, 16⟩
def GOV_BCFG.BTO : Fld := ⟨0x070008, 0, 16⟩
def GOV_BCFG.BFALL : Fld := ⟨0x070008, 16, 16⟩
def GOV_STRES.RES : Fld := ⟨0x07000C, 0, 16⟩
def GOV_STRES.SLOT : Fld := ⟨0x07000C, 16, 16⟩
def GOV_THERM.TH1 : Fld := ⟨0x070010, 0, 8⟩
def GOV_THERM.TH2 : Fld := ⟨0x070010, 8, 8⟩
def GOV_THERM.TH3 : Fld := ⟨0x070010, 16, 8⟩
def GOV_THERM.HYST : Fld := ⟨0x070010, 24, 4⟩
def GOV_STAT.STEP : Fld := ⟨0x070018, 0, 2⟩
def GOV_STAT.SENSOK : Fld := ⟨0x070018, 4, 4⟩
def GOV_STAT.STALE : Fld := ⟨0x070018, 8, 1⟩
def GOV_STAT.NOSENS : Fld := ⟨0x070018, 9, 1⟩
def GOV_STAT.SLOTS : Fld := ⟨0x070018, 12, 3⟩
def GOV_STAT.STDEF : Fld := ⟨0x070018, 16, 8⟩
def GOV_STAT.DWELLING : Fld := ⟨0x070018, 24, 1⟩
def GOV_BEFF.BEFF : Fld := ⟨0x07001C, 0, 16⟩
def GOV_BEFF.AVAIL : Fld := ⟨0x07001C, 16, 16⟩
def GOV_EST.HELD : Fld := ⟨0x070020, 0, 32⟩
def GOV_TEMP.T (i : Nat) : Fld := ⟨0x070030 + 0x4 * i, 0, 16⟩
def GOV_TEMP.VALID (i : Nat) : Fld := ⟨0x070030 + 0x4 * i, 16, 1⟩
def GOV_EVT.STEP_UP : Fld := ⟨0x070040, 0, 1⟩
def GOV_EVT.STEP_DOWN : Fld := ⟨0x070040, 1, 1⟩
def GOV_EVT.SHED : Fld := ⟨0x070040, 2, 1⟩
def GOV_EVT.WAITLIM : Fld := ⟨0x070040, 3, 1⟩
def GOV_EVT.STALE : Fld := ⟨0x070040, 4, 1⟩
def GOV_EVT.TSENSE : Fld := ⟨0x070040, 5, 1⟩
def GOV_EVT.OVER : Fld := ⟨0x070040, 6, 1⟩
def GOV_SHARE.SHARE (i : Nat) : Fld := ⟨0x070100 + 0x10 * i, 0, 16⟩
def GOV_PHELD.HELD (i : Nat) : Fld := ⟨0x070104 + 0x10 * i, 0, 32⟩
def GOV_PEFF.EFF (i : Nat) : Fld := ⟨0x070108 + 0x10 * i, 0, 32⟩
def GOV_PSTAT.WAITING (i : Nat) : Fld := ⟨0x07010C + 0x10 * i, 0, 9⟩
def GOV_PSTAT.OVER (i : Nat) : Fld := ⟨0x07010C + 0x10 * i, 12, 1⟩
def GOV_PSTAT.HEADV (i : Nat) : Fld := ⟨0x07010C + 0x10 * i, 15, 1⟩
def GOV_PSTAT.HEAD (i : Nat) : Fld := ⟨0x07010C + 0x10 * i, 16, 8⟩
def PART_EN.EN0 : Fld := ⟨0x0800B0, 0, 1⟩
def PART_EN.EN : Fld := ⟨0x0800B0, 1, 15⟩
def PART_GSTAT.OWNREJ : Fld := ⟨0x0800B4, 0, 1⟩
def PART_ORST.RST : Fld := ⟨0x080100, 0, 16⟩
def IRQ_CFG.SRC (i : Nat) : Fld := ⟨0x080200 + 0x4 * i, 0, 7⟩
def IRQ_CFG.EN (i : Nat) : Fld := ⟨0x080200 + 0x4 * i, 8, 1⟩
def ATT_DATA.DATA (i : Nat) : Fld := ⟨0x080300 + 0x4 * i, 0, 32⟩
def ATT_CTL.GO : Fld := ⟨0x080320, 0, 1⟩
def ATT_STAT.BUSY : Fld := ⟨0x080324, 0, 1⟩
def ATT_STAT.DONE : Fld := ⟨0x080324, 1, 1⟩
def ATT_STAT.RES : Fld := ⟨0x080324, 8, 8⟩
def ATT_STAT.PART : Fld := ⟨0x080324, 16, 4⟩
def ATT_BIND.BOUND : Fld := ⟨0x080328, 0, 16⟩
def PART_CFG.AUTH (i : Nat) : Fld := ⟨0x080400 + 0x20 * i, 1, 5⟩
def PART_SVC.WEIGHT (i : Nat) : Fld := ⟨0x080404 + 0x20 * i, 0, 8⟩
def PART_SVC.BDEPTH (i : Nat) : Fld := ⟨0x080404 + 0x20 * i, 8, 4⟩
def PART_SVC.BRATE (i : Nat) : Fld := ⟨0x080404 + 0x20 * i, 16, 16⟩
def PART_CTL.RST (i : Nat) : Fld := ⟨0x080408 + 0x20 * i, 0, 1⟩
def PART_STAT.STATE (i : Nat) : Fld := ⟨0x08040C + 0x20 * i, 0, 2⟩
def PART_STAT.CAUSE (i : Nat) : Fld := ⟨0x08040C + 0x20 * i, 4, 3⟩
def PART_STAT.EN_HELD (i : Nat) : Fld := ⟨0x08040C + 0x20 * i, 7, 1⟩
def PART_STAT.CHLEFT (i : Nat) : Fld := ⟨0x08040C + 0x20 * i, 8, 9⟩
def PART_STAT.TOKENS (i : Nat) : Fld := ⟨0x08040C + 0x20 * i, 20, 4⟩
def PART_EVT.RSTDONE (i : Nat) : Fld := ⟨0x080414 + 0x20 * i, 0, 1⟩
def PART_MASK.CH (i : Nat) : Fld := ⟨0x080418 + 0x20 * i, 0, 10⟩
def PART_MASK.GRP (i : Nat) : Fld := ⟨0x080418 + 0x20 * i, 16, 7⟩
def SPI_STAT.RSP : Fld := ⟨0x000600, 0, 8⟩
def SPI_STAT.NC : Fld := ⟨0x000600, 8, 9⟩
def SPI_STAT.HDR_CRC : Fld := ⟨0x000600, 24, 1⟩
def SPI_STAT.SEG_CRC : Fld := ⟨0x000600, 25, 1⟩
def SPI_STAT.ABORT : Fld := ⟨0x000600, 26, 1⟩
def SPI_STAT.FORMAT : Fld := ⟨0x000600, 27, 1⟩
def SPI_CNT.FRAMES : Fld := ⟨0x000604, 0, 16⟩
def SPI_CNT.ERRS : Fld := ⟨0x000604, 16, 16⟩
def I2C_STAT.BYTES : Fld := ⟨0x000610, 0, 16⟩
def I2C_STAT.ABORT : Fld := ⟨0x000610, 16, 1⟩
def I2C_STAT.TIMEOUT : Fld := ⟨0x000610, 17, 1⟩
def I2C_STAT.TAGNAK : Fld := ⟨0x000610, 18, 1⟩
def I2C_STAT.STRETCH : Fld := ⟨0x000610, 20, 1⟩
def I2C_PTR.ADDR : Fld := ⟨0x000614, 0, 24⟩
def I2C_PTR.TAG : Fld := ⟨0x000614, 24, 8⟩
def HOST_CFG.I2C_TO : Fld := ⟨0x000620, 0, 1⟩
def CMD_STG.DATA (i : Nat) : Fld := ⟨0x090400 + 0x4 * i, 0, 32⟩
def CMD_PUSH.GO : Fld := ⟨0x090440, 0, 1⟩
def CMD_PUSH.URG : Fld := ⟨0x090440, 1, 1⟩
def CMD_PUSH_STAT.RES : Fld := ⟨0x090444, 0, 8⟩
def CMD_PUSH_STAT.ACC : Fld := ⟨0x090444, 8, 8⟩
def CMD_PUSH_STAT.REF : Fld := ⟨0x090444, 16, 8⟩
def CMD_PUSH_STAT.BUSY : Fld := ⟨0x090444, 31, 1⟩
def EVQ_POP.COUNT : Fld := ⟨0x090490, 0, 8⟩
def LDQ_POP.COUNT : Fld := ⟨0x0904B0, 0, 8⟩
def QENG_STAT.TESTING : Fld := ⟨0x090500, 0, 1⟩
def QENG_STAT.URGENT : Fld := ⟨0x090500, 1, 1⟩
def QENG_STAT.NBUSY : Fld := ⟨0x090500, 2, 1⟩
def QENG_STAT.NPART : Fld := ⟨0x090500, 8, 4⟩
def QENG_STAT.UPART : Fld := ⟨0x090500, 12, 4⟩
def LNK_CFG.TTO : Fld := ⟨0x0A0000, 0, 8⟩
def LNK_CFG.ENUM_TO : Fld := ⟨0x0A0000, 8, 8⟩
def LNK_CFG.EFWD : Fld := ⟨0x0A0000, 16, 2⟩
def LNK_CFG.LAGG : Fld := ⟨0x0A0000, 18, 1⟩
def LNK_CFG.BPER : Fld := ⟨0x0A0000, 24, 8⟩
def LNK_ID.NODE : Fld := ⟨0x0A0004, 0, 6⟩
def LNK_ID.ENUM : Fld := ⟨0x0A0004, 8, 1⟩
def LNK_ID.COUNT : Fld := ⟨0x0A0004, 16, 7⟩
def LNK_ID.ANCHOR : Fld := ⟨0x0A0004, 24, 1⟩
def LNK_PSTAT.STATE (i : Nat) : Fld := ⟨0x0A0010 + 0x4 * i, 0, 3⟩
def LNK_PSTAT.MISWIRE (i : Nat) : Fld := ⟨0x0A0010 + 0x4 * i, 4, 1⟩
def LNK_PSTAT.NEIGH (i : Nat) : Fld := ⟨0x0A0010 + 0x4 * i, 8, 6⟩
def LNK_PSTAT.NVALID (i : Nat) : Fld := ⟨0x0A0010 + 0x4 * i, 14, 1⟩
def LNK_PSTAT.RETRAINS (i : Nat) : Fld := ⟨0x0A0010 + 0x4 * i, 16, 16⟩
def LNK_PCNT.CRCERR (i : Nat) : Fld := ⟨0x0A0018 + 0x4 * i, 0, 16⟩
def LNK_PCNT.RESENT (i : Nat) : Fld := ⟨0x0A0018 + 0x4 * i, 16, 16⟩
def LNK_DLY.D_UP : Fld := ⟨0x0A0020, 0, 24⟩
def LNK_DLY.DVALID : Fld := ⟨0x0A0020, 31, 1⟩
def LNK_DLY_CFG.ASYM : Fld := ⟨0x0A0024, 0, 16⟩
def LNK_CAL.START : Fld := ⟨0x0A0030, 0, 1⟩
def LNK_CAL.TOL : Fld := ⟨0x0A0030, 8, 8⟩
def LNK_CAL.CAL_TO : Fld := ⟨0x0A0030, 16, 8⟩
def LNK_CSTAT.GL : Fld := ⟨0x0A0034, 0, 1⟩
def LNK_CSTAT.CALDONE : Fld := ⟨0x0A0034, 1, 1⟩
def LNK_CSTAT.ALIGNED : Fld := ⟨0x0A0034, 2, 1⟩
def LNK_CSTAT.RUNNING : Fld := ⟨0x0A0034, 3, 1⟩
def LNK_CSTAT.CHAIN : Fld := ⟨0x0A0034, 4, 2⟩
def LNK_CSTAT.REASON : Fld := ⟨0x0A0034, 8, 8⟩
def LNK_LOOP_ERR.E : Fld := ⟨0x0A0038, 0, 32⟩
def LNK_TRUST.TRUST (i : Nat) : Fld := ⟨0x0A0040 + 0x4 * i, 0, 32⟩
def LNK_EVT.UP : Fld := ⟨0x0A0050, 0, 1⟩
def LNK_EVT.ENUM_DONE : Fld := ⟨0x0A0050, 1, 1⟩
def LNK_EVT.CALDONE : Fld := ⟨0x0A0050, 2, 1⟩
def LNK_EVT.BREAK : Fld := ⟨0x0A0050, 3, 1⟩
def LNK_EVT.HEAL : Fld := ⟨0x0A0050, 4, 1⟩
def LNK_EVT.TTO : Fld := ⟨0x0A0050, 5, 1⟩
def LNK_EVT.RENUM : Fld := ⟨0x0A0050, 6, 1⟩
def LNK_EVT.BADT : Fld := ⟨0x0A0050, 7, 1⟩
def LNK_BUD.B (i : Nat) : Fld := ⟨0x0A0100 + 0x4 * i, 0, 16⟩
def LRA_CTL.GO : Fld := ⟨0x0A0200, 0, 1⟩
def LRA_CTL.RD : Fld := ⟨0x0A0200, 1, 1⟩
def LRA_CTL.SEC : Fld := ⟨0x0A0200, 2, 1⟩
def LRA_CTL.NODE : Fld := ⟨0x0A0200, 8, 6⟩
def LRA_CTL.LENM1 : Fld := ⟨0x0A0200, 16, 4⟩
def LRA_ADDR.ADDR : Fld := ⟨0x0A0204, 0, 24⟩
def LRA_ADDR.TAG : Fld := ⟨0x0A0204, 24, 8⟩
def LRA_STAT.BUSY : Fld := ⟨0x0A0208, 0, 1⟩
def LRA_STAT.DONE : Fld := ⟨0x0A0208, 1, 1⟩
def LRA_STAT.RES : Fld := ⟨0x0A0208, 8, 8⟩
def LRA_STAT.FLAGS : Fld := ⟨0x0A0208, 16, 8⟩
def LRA_STAT.NC : Fld := ⟨0x0A0208, 24, 5⟩
def LRA_DATA.DATA (i : Nat) : Fld := ⟨0x0A0240 + 0x4 * i, 0, 32⟩
def SEC_CFG.FAIL_N : Fld := ⟨0x0B0080, 0, 4⟩
def SEC_CFG.FAIL_WIN : Fld := ⟨0x0B0080, 8, 8⟩
def SEC_CFG.LOCK_T : Fld := ⟨0x0B0080, 16, 10⟩
def KEY_STG.DATA (i : Nat) : Fld := ⟨0x0B0100 + 0x4 * i, 0, 32⟩
def KEY_PROG.SLOT : Fld := ⟨0x0B0110, 0, 3⟩
def KEY_PROG.GO : Fld := ⟨0x0B0110, 8, 1⟩
def KEY_PROG_STAT.BUSY : Fld := ⟨0x0B0114, 0, 1⟩
def KEY_PROG_STAT.DONE : Fld := ⟨0x0B0114, 1, 1⟩
def KEY_PROG_STAT.REJ : Fld := ⟨0x0B0114, 2, 1⟩
def KEY_PROG_STAT.RES : Fld := ⟨0x0B0114, 8, 8⟩
def RPT_STAT.LEN : Fld := ⟨0x0B0094, 0, 9⟩
def RPT_STAT.VALID : Fld := ⟨0x0B0094, 15, 1⟩
def RPT_BUF.DATA (i : Nat) : Fld := ⟨0x0B0400 + 0x4 * i, 0, 32⟩
def MTR_CFG.EN (i : Nat) : Fld := ⟨0x0C0000 + 0x4 * i, 0, 1⟩
def MTR_CFG.TRACTION (i : Nat) : Fld := ⟨0x0C0000 + 0x4 * i, 1, 1⟩
def MTR_CFG.ECHOREQ (i : Nat) : Fld := ⟨0x0C0000 + 0x4 * i, 2, 1⟩
def MTR_CFG.QUOR (i : Nat) : Fld := ⟨0x0C0000 + 0x4 * i, 8, 9⟩
def MTR_CFG.MARK (i : Nat) : Fld := ⟨0x0C0000 + 0x4 * i, 24, 8⟩
def MTR_MASK.MASK (m i : Nat) : Fld := ⟨0x0C0100 + 32 * m + 4 * i, 0, 32⟩
def MTR_STAT.STATE (i : Nat) : Fld := ⟨0x0C0080 + 0x4 * i, 0, 2⟩
def MTR_STAT.ENHELD (i : Nat) : Fld := ⟨0x0C0080 + 0x4 * i, 2, 1⟩
def MTR_STAT.RUNNING (i : Nat) : Fld := ⟨0x0C0080 + 0x4 * i, 3, 1⟩
def MTR_STAT.QUALIFYING (i : Nat) : Fld := ⟨0x0C0080 + 0x4 * i, 4, 1⟩
def MTR_STAT.NMEM (i : Nat) : Fld := ⟨0x0C0080 + 0x4 * i, 8, 9⟩
def MTR_STAT.NQUAL (i : Nat) : Fld := ⟨0x0C0080 + 0x4 * i, 17, 9⟩
def HIRE_CFG.GUARD : Fld := ⟨0x0C0500, 0, 1⟩
def HIRE_CFG.POLICY : Fld := ⟨0x0C0500, 1, 2⟩
def HIRE_CFG.GRACE : Fld := ⟨0x0C0500, 16, 16⟩
def HIRE_STAT.STATE : Fld := ⟨0x0C0504, 0, 1⟩
def HIRE_STAT.THEFT : Fld := ⟨0x0C0504, 1, 1⟩
def HIRE_STAT.TGRP : Fld := ⟨0x0C0504, 2, 5⟩
def HIRE_STAT.G : Fld := ⟨0x0C0504, 8, 24⟩
def IMMOB_MAP.MAP (i : Nat) : Fld := ⟨0x0C0520 + 0x4 * i, 0, 32⟩
def SENT_STAT.TAMP : Fld := ⟨0x0C0544, 0, 4⟩
def SENT_STAT.TLIVE : Fld := ⟨0x0C0544, 4, 4⟩
def SENT_STAT.MOT : Fld := ⟨0x0C0544, 8, 1⟩
def SENT_STAT.MCNT : Fld := ⟨0x0C0544, 16, 8⟩
def SENT_STAT.WAKE : Fld := ⟨0x0C0544, 24, 1⟩
def SENT_CLR.TAMP : Fld := ⟨0x0C0548, 0, 4⟩
def SENT_CLR.MOT : Fld := ⟨0x0C0548, 8, 1⟩
def SENT_CLR.MCNT : Fld := ⟨0x0C0548, 16, 1⟩
def SENT_CLR.WAKE : Fld := ⟨0x0C0548, 24, 1⟩
def SENT_CLR.THEFT : Fld := ⟨0x0C0548, 25, 1⟩
def LDG_STAT.WR : Fld := ⟨0x0C0560, 0, 12⟩
def LDG_STAT.WRAP : Fld := ⟨0x0C0560, 12, 1⟩
def LDG_STAT.DROP : Fld := ⟨0x0C0560, 13, 1⟩
def LDG_STAT.SKIP : Fld := ⟨0x0C0560, 14, 1⟩
def LDG_STAT.CHK : Fld := ⟨0x0C0560, 16, 2⟩
def LDG_STAT.BADBLK : Fld := ⟨0x0C0560, 24, 8⟩
def LDG_RD.RD : Fld := ⟨0x0C0564, 0, 12⟩
def LDG_CTL.CHECK : Fld := ⟨0x0C0568, 0, 1⟩
def LDG_CTL.CLRFLAGS : Fld := ⟨0x0C0568, 1, 1⟩
def LDG_BSEQ.BSEQ : Fld := ⟨0x0C056C, 0, 32⟩
def TOD_STAT.UNSET : Fld := ⟨0x0C0570, 0, 1⟩
def SCRATCH.DATA : Fld := ⟨0x000020, 0, 32⟩
def TST_STAT.FROM : Fld := ⟨0x0F0000, 0, 4⟩
def TST_STAT.PRECFG : Fld := ⟨0x0F0000, 4, 1⟩
def TST_STAT.SECS : Fld := ⟨0x0F0000, 16, 16⟩
def TST_RUN.TEST : Fld := ⟨0x0F0010, 0, 4⟩
def TST_RUN.IDX : Fld := ⟨0x0F0010, 8, 5⟩
def TST_RUN.GO : Fld := ⟨0x0F0010, 31, 1⟩
def TST_RES.BUSY : Fld := ⟨0x0F0014, 0, 1⟩
def TST_RES.DONE : Fld := ⟨0x0F0014, 1, 1⟩
def TST_RES.PASS : Fld := ⟨0x0F0014, 2, 1⟩
def TST_RES.REFUSED : Fld := ⟨0x0F0014, 3, 1⟩
def TST_RES.TEST : Fld := ⟨0x0F0014, 4, 4⟩
def TST_RES.STEP : Fld := ⟨0x0F0014, 8, 8⟩
def TST_RES.DATA : Fld := ⟨0x0F0014, 16, 16⟩
def WIDE_HI.DATA : Fld := ⟨0x00011C, 0, 32⟩
def BOOT_TAG.TAG (i : Nat) : Fld := ⟨0x000320 + 4 * i, 0, 32⟩
def SVC_BUF.DATA (i : Nat) : Fld := ⟨0x000500 + 4 * i, 0, 32⟩
def ROOT_TUNE.TUNE : Fld := ⟨0x010318, 0, 32⟩
def HOLD_AVG.AVG : Fld := ⟨0x01031C, 0, 32⟩
def PHASE_ERR.ERR : Fld := ⟨0x010320, 0, 32⟩
def HOLD_TIME.TIME : Fld := ⟨0x010324, 0, 32⟩
def UNLOCK.ARMED (base : Nat) : Fld := ⟨base + 0xFFF0, 16, 1⟩
def IND_ADDR.OFF (base : Nat) : Fld := ⟨base, 0, 16⟩
def IND_CTL.AINC (base : Nat) : Fld := ⟨base + 8, 0, 1⟩
def IND_STAT.END (base : Nat) : Fld := ⟨base + 0x10, 8, 1⟩
def IND_STAT.BROKEN (base : Nat) : Fld := ⟨base + 0x10, 9, 1⟩
def IND_STAT.TIMEOUT (base : Nat) : Fld := ⟨base + 0x10, 10, 1⟩
def IND_LOCK_TO.LIMIT (base : Nat) : Fld := ⟨base + 0x14, 0, 24⟩
def GRP_SLOT.CH (g s : Nat) : Fld := ⟨0x031000 + 0x100 * g + 4 * s, 0, 8⟩
def GRP_SLOT.VALID (g s : Nat) : Fld := ⟨0x031000 + 0x100 * g + 4 * s, 15, 1⟩
def GRP_SLOT.ADMIT (g s : Nat) : Fld := ⟨0x031000 + 0x100 * g + 4 * s, 16, 1⟩
def GRP_SLOT.REASON (g s : Nat) : Fld := ⟨0x031000 + 0x100 * g + 4 * s, 17, 2⟩
def HALT_MODE.MODE (n : Nat) : Fld := ⟨0x040200 + 4 * (n / 16), 2 * (n % 16), 2⟩
def PGPO.BIT (n : Nat) : Fld := ⟨0x040040 + 4 * (n / 16), n % 16, 1⟩
def FIRST_FAULT.W (b w : Nat) : Fld := ⟨0x060020 + 0x400 * b + 4 * w, 0, 32⟩
def FLT_HIST.W (b e w : Nat) : Fld := ⟨0x060100 + 0x400 * b + 16 * e + 4 * w, 0, 32⟩
def DEV_FIRST.W (w : Nat) : Fld := ⟨0x06F010 + 4 * w, 0, 32⟩
def GOV_STEPCFG.SCLS (s : Nat) : Fld := ⟨0x070014, 4 * (s - 1), 3⟩
def GOV_STEPCFG.SISH (s : Nat) : Fld := ⟨0x070014, 16 + 4 * (s - 1), 3⟩
def OWN_CH.P (n : Nat) : Fld := ⟨0x080000 + 4 * (n / 8), 4 * (n % 8), 4⟩
def OWN_GRP.P (g : Nat) : Fld := ⟨0x080080 + 4 * (g / 8), 4 * (g % 8), 4⟩
def OWN_MTR.P (n : Nat) : Fld := ⟨0x080090 + 4 * (n / 8), 4 * (n % 8), 4⟩
def IRQ_OWN.P (j : Nat) : Fld := ⟨0x0800A0 + 4 * (j / 8), 4 * (j % 8), 4⟩
def ATT_KEY.KEY (q : Nat) : Fld := ⟨0x080330 + 4 * (q / 8), 4 * (q % 8), 3⟩
def Q_CFG.WM (q : Nat) : Fld := ⟨0x090000 + 8 * q, 0, 8⟩
def Q_CFG.CHMASK (q : Nat) : Fld := ⟨0x090000 + 8 * q, 8, 10⟩
def Q_CFG.GRPMASK (q : Nat) : Fld := ⟨0x090000 + 8 * q, 18, 7⟩
def Q_STAT.REFUSED (q : Nat) : Fld := ⟨0x090004 + 8 * q, 25, 1⟩
def Q_DEF.DEF (p : Nat) : Fld := ⟨0x090200 + 4 * p, 0, 16⟩
def HIRE_SES.SES : Fld := ⟨0x0C0508, 0, 32⟩
def HIRE_T0.T0 : Fld := ⟨0x0C050C, 0, 32⟩
def HIRE_END.TEND : Fld := ⟨0x0C0510, 0, 32⟩

/-! Channel-table fields. -/
def CH_CTL.START : TFld := ⟨0, 0, 1⟩
def CH_CTL.STOP : TFld := ⟨0, 1, 1⟩
def CH_CTL.TRIG : TFld := ⟨0, 2, 1⟩
def CH_CTL.RESYNC : TFld := ⟨0, 3, 1⟩
def CH_CTL.MODE : TFld := ⟨0, 4, 2⟩
def CH_CTL.DOUBLE : TFld := ⟨0, 6, 1⟩
def CH_CTL.BOOT_START : TFld := ⟨0, 8, 1⟩
def CH_PERIOD.N : TFld := ⟨1, 0, 32⟩
def CH_HIGH.H : TFld := ⟨2, 0, 32⟩
def CH_PHASE.P : TFld := ⟨3, 0, 32⟩
def CH_FINE.D : TFld := ⟨4, 0, 6⟩
def CH_SPREAD.EN : TFld := ⟨5, 0, 1⟩
def CH_SPREAD.DEPTH : TFld := ⟨5, 1, 5⟩
def CH_SPREAD.RATE : TFld := ⟨5, 6, 6⟩
def CH_SPREAD.MPER : TFld := ⟨5, 16, 16⟩
def CH_BURST.COUNT : TFld := ⟨6, 0, 32⟩
def CH_SLEW.SLEW : TFld := ⟨7, 0, 16⟩
def CH_STAT.STATE : TFld := ⟨8, 0, 2⟩
def CH_STAT.PEND : TFld := ⟨8, 2, 1⟩
def CH_STAT.HELD : TFld := ⟨8, 3, 1⟩
def CH_STAT.SLEWING : TFld := ⟨8, 4, 1⟩
def CH_STAT.ARMED : TFld := ⟨8, 5, 1⟩
def CH_STAT.CAUSE : TFld := ⟨8, 8, 4⟩
def CH_STAT.PERR : TFld := ⟨8, 12, 4⟩
def CH_STAT.ENGINE : TFld := ⟨8, 16, 9⟩
def CH_STAT.SELFCHK : TFld := ⟨8, 26, 1⟩
def CH_EVT.STARTED : TFld := ⟨9, 0, 1⟩
def CH_EVT.STOPPED : TFld := ⟨9, 1, 1⟩
def CH_EVT.CONT_RESUME : TFld := ⟨9, 2, 1⟩
def CH_EVT.LIVE_REJ : TFld := ⟨9, 3, 1⟩
def CH_EVT.STOP_FORCED : TFld := ⟨9, 4, 1⟩
def CH_EVT.BURST_DONE : TFld := ⟨9, 5, 1⟩
def CH_EVT.SLEW_DONE : TFld := ⟨9, 6, 1⟩
def CH_EVT.RESYNC : TFld := ⟨9, 7, 1⟩
def CH_EVT.START_REJ : TFld := ⟨9, 8, 1⟩
def CH_EVT.TRIG_LOST : TFld := ⟨9, 9, 1⟩
def CH_CNT.EDGES : TFld := ⟨10, 0, 32⟩
def CH_GRP.GID : TFld := ⟨15, 0, 5⟩
def CH_GRP.ACCEPT : TFld := ⟨15, 7, 1⟩
def CH_GRP.MEMBER : TFld := ⟨15, 8, 1⟩
def CH_GRP.COUNTED : TFld := ⟨15, 9, 1⟩
def CH_GRP.SLOT : TFld := ⟨15, 16, 6⟩
def CH_GRP.RANK : TFld := ⟨15, 24, 6⟩
def CH_PIN.FUNC : TFld := ⟨14, 0, 2⟩
def CH_PIN.PARK : TFld := ⟨14, 2, 1⟩
def CH_PIN.LVL : TFld := ⟨14, 3, 1⟩
def CH_PIN.PGPO : TFld := ⟨14, 4, 1⟩
def CH_PIN.BOND : TFld := ⟨14, 5, 1⟩
def CH_PIN.DRV : TFld := ⟨14, 8, 2⟩
def CH_PIN.SLOW : TFld := ⟨14, 10, 1⟩
def CH_PIN.SWBUSY : TFld := ⟨14, 16, 1⟩
def CH_PIN.GATED : TFld := ⟨14, 17, 1⟩
def CH_PIN.ROUTED : TFld := ⟨14, 18, 1⟩
def CH_PIN.VOK : TFld := ⟨14, 19, 1⟩
def CH_PIN.SWDONE : TFld := ⟨14, 20, 1⟩
def CH_PIN.SWREJ : TFld := ⟨14, 21, 1⟩
def CH_TRIM.ASYM : TFld := ⟨11, 0, 16⟩
def CH_TRIM.TRIM : TFld := ⟨11, 16, 16⟩
def CH_MON.MEN : TFld := ⟨12, 0, 1⟩
def CH_MON.ECHO_EN : TFld := ⟨12, 1, 1⟩
def CH_MON.TRIM_EN : TFld := ⟨12, 2, 1⟩
def CH_MON.PROF : TFld := ⟨12, 4, 3⟩
def CH_MON.SPARE_OK : TFld := ⟨12, 7, 1⟩
def CH_MON.ESRC : TFld := ⟨12, 8, 9⟩
def CH_GOV.CLASS : TFld := ⟨13, 0, 3⟩
def CH_GOV.LCLASS : TFld := ⟨13, 4, 3⟩
def CH_GOV.AUTO : TFld := ⟨13, 8, 1⟩
def CH_GOV.TBLK : TFld := ⟨13, 9, 1⟩
def CH_GOV.SHEDPEND : TFld := ⟨13, 10, 1⟩
def CH_GOV.COST : TFld := ⟨13, 16, 16⟩

end Sys2Proof.Machine
end

