-- ==== Sys2Proof/Machine/State.lean ====
section
/-! DEFINITION. The state of the block: plain data, holding every register, buffer, counter, mode and pin of the spec, the
queue of waiting commands, and the agenda of consequences still to be worked off. -/
namespace Sys2Proof.Machine

/-- The machine has no stop of its own: no rule of the spec stops the block, so no meaning answers with a fault.
The type keeps one name for the host's interface. -/
inductive Fault where
  /-- Raised by nobody: the block never stops (safe: it can only stop the model). -/
  | stuck
  deriving DecidableEq, Repr

/-- Why the model has no answer for a command. -/
inductive Refusal where
  /-- Raised by an arm of `exec` whose command has no meaning yet (safe: it can only stop the model). -/
  | notModelled (mnemonic : String)
  deriving DecidableEq, Repr

/-- The device states (R85, R110). -/
inductive Dev where
  | off | woad | boot | config | arming | run | ochre | teasel
  deriving DecidableEq, Repr

/-- For whom an access acts (R113, R335, R411): nobody, a partition through a binding made by a key slot, or the
link-secure masters. -/
inductive Who where
  | unbound
  | part (p : Nat) (key : Nat)
  | sec
  deriving DecidableEq, Repr

/-- Where a start request comes from. -/
inductive StartSrc where
  | host | boot | bank | governor | rebuild | held
  deriving DecidableEq, Repr

/-- A raw event on its way to its block (R279, R280): the code, the source, the payload, the attributed partition, whether
the source is owned, and whether it was injected. -/
structure Raw where
  blk : Nat
  code : Nat
  src : Nat
  pay : Word
  part : Nat
  owned : Bool
  inj : Bool
  deriving DecidableEq, Repr

/-- A consequence still to be worked off: the agenda of one command. -/
inductive Work where
  /-- A raw event reaches its fault block. -/
  | raw (r : Raw)
  /-- A register write has been accepted: its triggers and effects (R33 step 10). -/
  | hook (w : Who) (a : Acc) (addr : Nat) (d old new : Word)
  /-- A channel-table word has been written by a host or a commit. -/
  | tblHook (e w : Nat) (d old new : Word)
  /-- A clean stop request with a cause. -/
  | stop (n cause : Nat)
  /-- A start request. -/
  | start (n : Nat) (src : StartSrc)
  /-- A channel has reached STOPPED. -/
  | stopped (n : Nat)
  /-- A channel in STARTING adopts the words of a commit, as one set (R192, R193). -/
  | adopt (n : Nat)
  /-- A group is evaluated (R212). -/
  | grpEval (g : Nat)
  /-- A partition's locks are freed: 1 by reset, 2 by a fault (R53, R224). -/
  | freeLocks (p why : Nat)
  /-- A reset of a partition is requested with a cause (R324). -/
  | partReset (p cause : Nat)
  /-- The device begins a park phase with an OCHRE cause (R121, R287). -/
  | ochre (cause : Nat)
  /-- A partition waits for its channels: the cut when none is left (R327). -/
  | partCheck (p : Nat)
  /-- The park or stop phase is looked at: it ends when no channel runs. -/
  | phaseCheck
  /-- A record posted to Q2 or Q3 is forwarded to N0 (R417): the queue and its forwarding number. -/
  | forward (q fseq : Nat)
  /-- A completed calibration or a timeout lets waiting boot starts go (R118). -/
  | bootGo
  deriving DecidableEq, Repr

/-- A staged word (R50, R222): its offset or address, its value, and the bus address of the access that brought it, which
ACC_ADDR reports where the word is refused later (R57). -/
structure Staged where
  at' : Nat
  d : Word
  bus : Nat
  deriving DecidableEq, Repr

/-- One indirect window (R48 to R54): its lock holder (0 to 15 a partition, 16 the link-secure masters), the staged words, and
the count of register-file cycles at the holder's latest access (R53). -/
structure Window where
  holder : Option Nat := none
  staged : List Staged := []
  touched : Nat := 0
  deriving DecidableEq, Repr

/-- The wide-value mailbox of one instance while an always-on transfer runs (R44, R45). -/
structure Wide where
  busy : Bool := false
  wr : Bool := false
  cls : Nat := 0
  idx : Nat := 0
  lo : Word := 0
  hi : Word := 0
  who : Nat := 0
  deriving DecidableEq, Repr

/-- The configuration CRC (R40 to R43): a capture waits for a fresh sweep; whether the present sweep began after it; whether the
capture sets EN; how many words the present sweep is known to have taken, and the CRC over them. -/
structure Crc where
  capture : Bool := false
  fresh : Bool := false
  setEn : Bool := false
  pos : Nat := 0
  run : Nat := 0xFFFFFFFF
  deriving DecidableEq, Repr

/-- Supplies, banks, charger and gauge (chapter 04): the cause of the last entry to WOAD and its real time (R109), the time at which
a bank became present (R93, R257), the charge estimate q and the discharge of each WOAD second in 0.01 µAh, latest first (R104, R105),
and the charger's time in CC and CV: what earlier stretches brought, and the start of the present one (R100). VLINK counts as up
from the start on (DESIGN CHOICE, log entry 81). -/
structure Pwr where
  pgMain : Bool := false
  lastDown : Nat := 0
  downAt : Option Nat := none
  vlinkOk : Bool := true
  coreWarn : Bool := false
  vbakLow : Bool := false
  pres : BitVec 16 := 0
  classDue : BitVec 16 := 0
  presDue : BitVec 16 := 0
  stopped : BitVec 16 := 0
  cls : Cells Nat := []
  presAt : Cells (Option Nat) := []
  q : Int := 0
  woad : List Nat := []
  chgAcc : Nat := 0
  chgAt : Option Nat := none
  cellWritten : Bool := false
  noCell : Bool := false
  deriving DecidableEq, Repr

/-- The start-up path (chapters 03 and 05); `quad` is the mode that the last Discover step chose (R114, R151). The latch of STRAP_XO holds no value before the first one it takes after a power-on
reset; it is open from a power-on reset or RESET_N to the core reset release that follows (R70). -/
structure Boot where
  step : Nat := 0
  precfg : Bool := false
  onboot : Bool := true
  cause : Nat := 0
  held : Bool := true
  resetN : Bool := false
  osc : Bool := false
  goodWin : Nat := 0
  noclk : Nat := 0
  qualified : Bool := false
  nextCause : Nat := 4
  straps : BitVec 5 := 0
  xoLatch : Option Bool := none
  xoOpen : Bool := true
  wakes : Nat := 0
  woken : Bool := false
  discovered : Bool := false
  quad : Bool := false
  erase4k : Option Byte := none
  go : Bool := false
  park : Option Nat := none
  stop : Bool := false
  failWait : Bool := false
  fromConfig : Bool := false
  clocks : Bool := false
  bootPend : Bool := false
  restart : Option Nat := none
  relTime : Nat := 0
  deriving DecidableEq, Repr

/-- One entry of the section table (R130), with the image offset of its payload. -/
structure Section where
  typ : Nat
  sub : Nat
  opt : Bool
  off : Nat
  len : Nat
  deriving DecidableEq, Repr

/-- The image in staging memory (chapter 06). -/
structure Img where
  staged : List Byte := []
  secs : List Section := []
  tableRead : Bool := false
  next : Nat := 0
  second : Bool := false
  shadow : Bool := false
  sec : Nat := 0
  pos : Nat := 0
  heldAon : List (Nat × Word) := []
  wrote : List Nat := []
  wroteTbl : List Nat := []
  bootSeen : Bool := false
  deriving DecidableEq, Repr

/-- The service path (R146 to R152). -/
structure Svc where
  op : Nat := 0
  addr : Nat := 0
  len : Nat := 0
  deriving DecidableEq, Repr

/-- A 16-byte record of an event or ledger queue (R388). -/
structure Rec where
  w0 : Word
  w1 : Word
  w2 : Word
  w3 : Word
  deriving DecidableEq, Repr

/-- Where a forwarded command came from: node, port toward it is the link's, transaction id and originating partition. -/
structure Origin where
  node : Nat
  tid : Nat
  opart : Nat
  deriving DecidableEq, Repr

/-- A queued command (R372, R374): its 64 bytes, and its origin if another node forwarded it. -/
structure Desc where
  bytes : List Byte
  origin : Option Origin := none
  deriving DecidableEq, Repr

/-- A command in service (R380, R382). -/
structure Serving where
  part : Nat
  urgent : Bool
  desc : Desc
  done : Nat := 0
  acted : Nat := 0
  refused : Option (Nat × Nat) := none
  deriving DecidableEq, Repr

/-- An event or ledger queue (R371, R391): its records, places reserved, the freezing of its LOST record, losses that wait
for the held slot, the highest level, the count of losses and QSEQ. -/
structure RecQ where
  recs : List Rec := []
  reserved : Nat := 0
  frozen : Bool := false
  pendLost : Nat := 0
  hiwat : Nat := 0
  lost : Nat := 0
  qseq : Nat := 0
  deriving DecidableEq, Repr

/-- A command queue: its commands, oldest first, the highest level, whether its head's wait for a token has been raised
(R344), and the link transaction that carries its head out to another node (R416). -/
structure CmdQ where
  cmds : List Desc := []
  hiwat : Nat := 0
  waitRaised : Bool := false
  out : Option Nat := none
  deriving DecidableEq, Repr

/-- A Byra-Link frame but for its hop sequence number and CRC (R404). -/
structure Frame where
  typ : Nat
  tid : Nat
  dst : Nat
  bcast : Bool
  src : Nat
  hops : Nat
  payload : List Byte
  deriving DecidableEq, Repr

/-- A frame in a port's window (R406): its hop sequence number and the real time of its latest sending. -/
structure WinFrame where
  seq : Nat
  frame : Frame
  at' : Nat
  deriving DecidableEq, Repr

/-- The hidden part of a link port (R400 to R407): frames that wait for a place in the window, frames sent and not
acknowledged with the real time of their latest sending, the frames last put on the line as they are laid out between SOF and EOF (R404),
the next number to send and to expect, resends without progress, a resend that waits for BUSY's 4 µs, whether this
is the first training since the core reset, whether TS2 is being sent, whether the hop has broken since it was enumerated, the
acknowledgement last sent (1 ACK, 2 NAK, 3 BUSY), and the path offset K. -/
structure LinkPort where
  q : List Frame := []
  unack : List WinFrame := []
  sent : List (List Byte) := []
  nextSeq : Nat := 0
  nexp : Nat := 0
  retries : Nat := 0
  busyWait : Bool := false
  fresh : Bool := true
  ts2 : Bool := false
  broken : Bool := false
  ack : Option (Nat × Nat) := none
  k : Option Int := none
  deriving DecidableEq, Repr

/-- An outstanding transaction (R414 to R416): its TID and target, and what waits for it: a partition's LRA request, or a
command queue's head; and the real time at which it was sent. -/
structure Txn where
  tid : Nat
  node : Nat
  at' : Nat
  lra : Option Nat
  queue : Option Nat
  deriving DecidableEq, Repr

/-- The hidden part of Byra-Link (chapter 17): the ports, accepted frames that wait to be acted on with the port they came by,
transactions, duplicates, forwarded records not acknowledged and those N0 expects, enumeration, broken hops, nodes that announced
a restart or were lost by their port, calibration, hop-delay samples and the offset in use, and whether a budget has been written since
the latest sending. -/
structure Link where
  up : LinkPort := {}
  down : LinkPort := {}
  inbox : List (LPort × Frame) := []
  tid : Nat := 0
  txns : List Txn := []
  dups : List (Nat × Nat) := []
  evs : List (Nat × Rec) := []
  lds : List (Nat × Rec) := []
  evSeq : Nat := 0
  ldSeq : Nat := 0
  got : Cells Nat := []
  nonce : Nat := 0
  token : Option Nat := none
  failed : Bool := false
  heard : Nat := 0
  open' : Bool := false
  breaks : List Nat := []
  gone : List Nat := []
  healed : Option Nat := none
  gl : Bool := false
  drift : Nat := 0
  dqId : Nat := 0
  dqs : List Nat := []
  dr : Option (Nat × Nat) := none
  rtts : List Int := []
  dOff : Int := 0
  budDue : Bool := false
  deriving DecidableEq, Repr

/-- The pending part of a fault line (R282, R290): the real times of its pending raw events, latest first; the source, payload and owner
mark of the latest entry; the real time at which its escalation timer ends, if it runs; and the real time at which it escalated with
another line's timer (R284). -/
structure Line where
  raws : List Nat := []
  src : Nat := 0
  pay : Word := 0
  owned : Bool := false
  inj : Bool := false
  timer : Option Nat := none
  joined : Option Nat := none
  deriving DecidableEq, Repr

/-- The SPI target (R349 to R359): 0 outside a frame or in its header, 1 in a frame, 2 in a frame that has been answered with NAK;
the header, the running CRC, the words taken and the flags of the trailer; and the response, WAIT bytes apart. -/
structure Spi where
  phase : Nat := 0
  rd : Bool := false
  seg : Nat := 0
  tagv : Bool := false
  fix : Bool := false
  part : Nat := 0
  addr : Nat := 0
  len : Nat := 0
  crc : Nat := 0
  pos : Nat := 0
  acc : Bool := false
  ign : Bool := false
  unb : Bool := false
  out : List Byte := []
  deriving DecidableEq, Repr

/-- The I2C target (R361 to R365) beyond I2C_PTR: a write transfer with an accepted header runs, and the word last sent. -/
structure I2c where
  writing : Bool := false
  out : Word := 0
  deriving DecidableEq, Repr

/-- An interleave group's lock, commit and evaluation (chapter 09). -/
structure Grp where
  /-- The partition that holds the lock, and the words staged under it (R222). -/
  holder : Option Nat := none
  staged : List Staged := []
  /-- Words of a group commit that wait for the epoch (R221), the grid time of the commit, whether one waits, the words that a
  lock commit brought, and the access that committed them with the holder that it acted for (R223). -/
  commit : List (Nat × Word) := []
  commitAt : Nat := 0
  committed : Bool := false
  lockWords : List Staged := []
  commitBy : Option (Acc × Who) := none
  /-- Slots whose members have left and are held, with the grid time at which each hold ends (R214). -/
  vacant : List (Nat × Nat) := []
  /-- The most periods that a move of the present re-spread took (R218). -/
  worst : Nat := 0
  /-- DUR, GSLEW and HOLD as the latest evaluation found them (R217, R221), and the count of register-file cycles at the lock holder's
  latest access (R224). -/
  dur : Nat := 64
  gslew : Nat := 256
  hold : Nat := 0
  touched : Nat := 0
  deriving DecidableEq, Repr

/-- A channel's engine and pin, beyond the words of its table (chapters 08, 10, 11, 13). Times are in fine steps of the grid. -/
structure Chan where
  /-- The active N, H, P, D and slew of the engine (R192). -/
  n : Nat := 0
  h : Nat := 0
  p : Nat := 0
  d : Nat := 0
  slew : Nat := 0
  trim : Int := 0
  /-- Committed words wait for the update point (R192), or a grid load's phase move does (R179), the earliest time of their adoption,
  whether an evaluation of the group brought them (R217), and whether it found a move to make (R218). -/
  shadow : Bool := false
  regrid : Bool := false
  shadowAt : Nat := 0
  byEval : Bool := false
  willMove : Bool := false
  /-- A rising edge: its time, its number, the phase of the edges there, the move that remains, its step, and the most by which a
  period may be shortened at N and H (R195, R198). -/
  t0 : Nat := 0
  e0 : Nat := 0
  phi : Nat := 0
  rem : Int := 0
  step : Nat := 0
  room : Nat := 0
  /-- The periods that the move takes from its update point (R196, R218). -/
  moveLen : Nat := 0
  /-- Active spread: DEPTH and MPER, 0 without spread, and the number of the edge at which the triangle's phase was set (R197). -/
  depth : Nat := 0
  mper : Nat := 0
  spRef : Nat := 1
  /-- The end of a high time that a resync let complete (R201). -/
  highTo : Nat := 0
  /-- The chosen first edge (R185), the grid time of the entry to STOPPING, and the end of the final low phase (R186, R190). -/
  first : Nat := 0
  stopAt : Nat := 0
  stopEnd : Nat := 0
  /-- A host stop that no start may resume (R236, R319). -/
  nonRes : Bool := false
  /-- One-shot: the start of the pulse period that runs or is due, the time from which its first ideal rising edge was taken, and that
  time for a held trigger's pulse (R200). -/
  pulse : Option Nat := none
  trigAt : Nat := 0
  trigHeld : Option Nat := none
  /-- The governor: order of submission and its real time, a rebuild's request, one that immobilisation does not check (R469), BUDGET_WAIT raised, the cost charged in µW (R301, R306). -/
  ord : Nat := 0
  waitAt : Nat := 0
  prio : Bool := false
  unchecked : Bool := false
  waitRaised : Bool := false
  charge : Nat := 0
  /-- The pin: the function before the switch in progress, its step (0 none, 1 ending, 2 park interval, 3 waiting for the gate), the grid
  times of the end of step 1 and of the park interval, and of the end of the park interval of a route or bond change (R235, R242); the
  time of the decision of a CLEAN gate not yet known to have taken effect, the grid time at which the gate took the pin, the earliest time
  at which a release lets go of it, the park of a partition reset, and that of a root loss (R239, R245, R246, R248); the N of CLOCK at
  the switch, and the level that a LEVEL or PGPO pin holds until a grid time (R234, R235). -/
  swOld : Nat := 0
  swStep : Nat := 0
  swFrom : Nat := 0
  swN : Nat := 0
  lvl : Option (Nat × Bool) := none
  parkEnd : Nat := 0
  gateAt : Nat := 0
  routeEnd : Nat := 0
  cleanGate : Option Nat := none
  relEdge : Option Nat := none
  resetPark : Bool := false
  rootPark : Bool := false
  /-- RUN at the bank stop (R94). -/
  wasRun : Bool := false
  /-- Immobilisation recorded for the present period (R468). -/
  immob : Bool := false
  /-- The monitor: the channel's window is open and undisturbed (R257); the times of recorded resyncs (R267); trim samples
  since ACQUIRE (R265); valid measurements passed in re-verification, and whether the further rebuild has been made (R272),
  a re-verification that begins with the next start, the latest round-trip sample and whether it was out of range (R262), the cause of a
  permanent decision that waits for STOPPED (R270); the time of the latest visit and the output's rising edges until then (R257); since the
  start, pad and echo edges in the count that pairs them, the output's edges up to the latest one seen at the pad, an echo edge seen, and the
  loss of the pairing (R259, R262, R268). -/
  winOk : Bool := false
  resyncs : List Nat := []
  samples : Nat := 0
  passes : Nat := 0
  further : Bool := false
  verifyDue : Bool := false
  rtLast : Nat := 0
  rtBad : Bool := false
  visitAt : Nat := 0
  visitEdges : Nat := 0
  pads : Nat := 0
  echoes : Nat := 0
  padIdx : Nat := 0
  echoSeen : Bool := false
  pairLost : Bool := false
  retireDue : Option Nat := none
  /-- The health flag of R462. -/
  healthy : Bool := false
  deriving DecidableEq, Repr


/-- A key slot in OTP (R434): 0 BLANK, 1 VALID, 2 DAMAGED, the sixteen key bytes, and whether a BLANK slot's data area reads
other than zero. -/
structure KeySlot where
  state : Nat := 0
  key : List Byte := []
  dirty : Bool := false
  deriving DecidableEq, Repr

/-- OTP and the security engine (chapter 18): the key slots, the device identifier, the epoch bits that read 1, the failed bits
of the last epoch burn, a key burn under way, the real time at which each slot's lockout began, and each slot's failure window as the
latest failure found it, in seconds, with the real times of the failures, latest first (R446). -/
structure Sec where
  slots : Cells KeySlot := []
  uid : Nat := 0
  ones : Nat := 0
  bfail : Nat := 0
  burning : Option (Nat × List Byte) := none
  lockAt : Cells Nat := []
  fails : Cells (Nat × List Nat) := []
  deriving DecidableEq, Repr

/-- A meter group's samples in the tick in progress, whether it waits for its first tick, whether the previous tick was a run
tick, and whether a run tick has come since the THEFT latch was set (R461, R464, R467). -/
structure Meter where
  run : Nat := 0
  qual : Nat := 0
  wait : Bool := false
  prev : Bool := false
  theft : Bool := false
  deriving DecidableEq, Repr

/-- The ledger's hidden part (R473 to R478): LDG_CHAIN, the filled blocks that wait for their seal, each block's sequence number
plus 1, the blocks whose seal stands, and the number of unread entries. -/
structure Ldg where
  chain : List Byte := [0, 0, 0, 0, 0, 0]
  due : List Nat := []
  seqs : Cells Nat := [(0, 1)]
  sealed : Cells Bool := []
  unread : Nat := 0
  deriving DecidableEq, Repr

/-- The sentinel's hidden part (R470 to R472): the latest sample of each TAMPER input and how often it stood, whether a motion
hold runs, and the edges since the previous MOTION entry. -/
structure Sent where
  last : List Bool := [false, false, false, false]
  same : List Nat := [0, 0, 0, 0]
  hold : Bool := false
  edges : Nat := 0
  deriving DecidableEq, Repr

/-- The hidden part of the references and the root (chapter 07): complete gates of each source since it began to qualify and
whether its QUAL_T has elapsed, a selection that waits for a switch to complete, the source before the switch, edges in a row
within and beyond the lock criteria, the target of ROOT_TUNE, the steps of 5 ns since a slew last changed it, the real time of the
entry to HOLDOVER and whether HOLD_LONG has been raised, the PPS anchor with the intervals of its run, the real times at which each
QUAL_T and the WTR timer began and since which they are frozen (R157), the time of the latest divided edge at the phase detector,
the holdover history (R168: spans of TRACK time in steps with the sum of ROOT_TUNE over their steps, latest first), the PHS cycles
since the clock family started with the part of a cycle beyond them in 10⁻¹² (R154), and a discipline of time-of-day that waits for
the next AON32 edge, with its carry into the seconds (R175). -/
structure Root where
  gates : Cells Nat := []
  qualAt : Cells Nat := []
  wtrAt : Nat := 0
  ripe : Cells Bool := []
  again : Bool := false
  prev : Nat := 15
  good : Nat := 0
  far : Nat := 0
  target : Int := 0
  slewFrac : Nat := 0
  holdAt : Nat := 0
  holdRaised : Bool := false
  anchor : Option Nat := none
  run : Nat := 0
  frozen : Option Nat := none
  edgeAt : Option Nat := none
  hist : List (Nat × Int) := []
  phs : Nat := 0
  part : Int := 0
  todDue : Option Bool := none
  deriving DecidableEq, Repr

/-- The governor's hidden part (chapter 13): the link's budget word, the counts of readings at or above each threshold and
below the falling one, the valid readings that each sensor still lacks, the lowest class that shedding has reached and whether it
has stopped there, the activities that hold slots and those that wait (with the mark that they have been deferred). -/
structure Gov where
  linkB : Nat := 65535
  up : List Nat := [0, 0, 0]
  down : Nat := 0
  bad : List Nat := [0, 0, 0, 0]
  reach : Nat := 8
  halted : Bool := false
  slots : List Activity := []
  want : List (Activity × Bool) := []
  deriving DecidableEq, Repr

/-- A fine-delay pass of one group (R520, R521): the line whose calibration is next or waits for its swap (beyond the last line, the
stampers or matching delays), the grid time in fine steps from which it waits for a low time of its engine, and the lines that failed. -/
structure Pass where
  next : Nat := 0
  ready : Option Nat := none
  fails : Nat := 0
  deriving DecidableEq, Repr

/-- Self-test (chapter 22): the free draw with which each bank's calibrated launch and path offsets begin (R253), the passes' checkpoints, the lane under test with its steps done and its first failed step, the lanes
whose last test failed, queue-engine pieces done, scrubbed words and the first failed one plus 1, a TEASEL entry that a park phase holds, the time of TEASEL's
entry, the activity that TST_RUN runs, T_max at the start of each group's latest pass in 0.1 °C, and the lane and the memory whose turn is
next (R519). -/
structure SelfTest where
  offs : Cells (Option Nat) := []
  passes : Cells Pass := []
  lane : Nat := 0
  laneStep : Nat := 0
  laneFail : Nat := 0
  laneBad : BitVec 16 := 0
  pieces : Nat := 0
  scrubMem : Nat := 0
  scrubAt : Nat := 0
  scrubFail : Nat := 0
  held : Bool := false
  entry : Nat := 0
  run : Option (Nat × Nat) := none
  warm : Cells (Option Int) := []
  laneTurn : Nat := 0
  scrubTurn : Nat := 0
  deriving DecidableEq, Repr

/-- An entry in the ledger's input buffer: its word 0, its time where R460 fixes it, the AON32 cycle in which it arose and its
rank within that cycle (R473, R476). -/
structure LdgEntry where
  word : Word
  time : Option Word := none
  cyc : Nat
  rank : Nat
  deriving DecidableEq, Repr

/-- Everything of the block but the queue of waiting commands. -/
structure Mach where
  /-- The device state (R85, R110). -/
  dev : Dev := .off
  /-- The register words, by instance and address. -/
  regs : Cells Word := []
  /-- The channel-table words, by channel-window offset (R48, R498). -/
  tbl : Cells Word := []
  /-- The always-on window words, by offset (R512): meters, retired list, key counters, ledger. -/
  aon : Cells Word := []
  /-- Words posted toward the always-on domain and not yet in effect (R107, R141). -/
  aonPost : List (Nat × Word) := []
  /-- Real time in steps of 5 ns, advanced by an idle step (the model's clock). -/
  now : Nat := 0
  /-- The cross-block timestamp (R47, R285). -/
  ts : Nat := 0
  /-- Cycles of the clock that the register file runs on, REG or BOOT (R53, R112, R224). -/
  rclk : Nat := 0
  /-- The grid counter in PHS cycles (R179). -/
  grid : Nat := 0
  /-- Time-of-day: seconds and subsecond count (R459). -/
  tod : Nat := 0
  sub : Nat := 0
  /-- The model's own field: how many free values have been drawn. -/
  free : Nat := 0
  /-- The model's own field: consequences of the present command still to be worked off, oldest first. -/
  todo : List Work := []
  /-- Whether the present access set ACC_STAT.ACCERR, and CFG_IGN (R356). -/
  accFlag : Bool := false
  ignFlag : Bool := false
  /-- The transfers of the SPI and I2C ports. -/
  spi : Spi := {}
  i2c : I2c := {}
  /-- The model's own field: the word that the latest read of IND_DATA returned (R52). -/
  rdata : Word := 0
  /-- The channel window and the always-on window. -/
  chWin : Window := {}
  aonWin : Window := {}
  wides : Cells Wide := []
  crc : Crc := {}
  pwr : Pwr := {}
  boot : Boot := {}
  img : Img := {}
  svc : Svc := {}
  lines : Cells Line := []
  recqs : Cells RecQ := []
  cmdqs : Cells CmdQ := []
  /-- The normal and the urgent command in service (R382, R384). -/
  normal : Option Serving := none
  urgent : Option Serving := none
  /-- The partitions last served by the two arbitrations (R383, R384). -/
  lastNormal : Nat := 15
  lastUrgent : Nat := 15
  /-- The visit of the partition last served in the normal arbitration goes on (R383). -/
  visiting : Bool := false
  /-- The ledger's input buffer, oldest first, and the count of dropped entries (R476). -/
  ldgBuf : List LdgEntry := []
  ldgDrop : Nat := 0
  grps : Cells Grp := []
  chans : Cells Chan := []
  /-- The order number of the next start request (R306). -/
  nextOrd : Nat := 1
  gov : Gov := {}
  sec : Sec := {}
  mtrs : Cells Meter := []
  ldg : Ldg := {}
  sent : Sent := {}
  root : Root := {}
  link : Link := {}
  test : SelfTest := {}
  /-- The TAP's instruction in force, and the levels that the boundary-scan register's update stage holds for the OUT pins, 32 to a
  word (R73). -/
  tap : TapInstr := .idcode
  bsr : List Word := []
  /-- The command and data bytes that the device sent on the flash pins in its latest step or operation there, one list for each command
  (R114, R147): an output, read by nothing. -/
  flash : List (List Byte) := []
  /-- The timers that run, each with the real time at which it began (R53 to R545; `Timer.key` numbers them). -/
  timers : Cells (Option Nat) := []
  deriving DecidableEq, Repr

/-- The state: the machine, and the queue of commands that are waiting, first in, first out. -/
structure State where
  m : Mach
  pending : List Instr
  deriving DecidableEq, Repr

/-- The state before power: OFF, every register at its reset value, nothing stored, no command waiting (R85, R87, R489). -/
def State.reset : State := { m := {}, pending := [] }

end Sys2Proof.Machine
end

