-- ==== Sys2Proof/Machine/Ops.lean ====
section
/-! DEFINITION. The named operations over registers, channel tables and always-on words, the owners of resources, and the
three ways the block records what happens: event records, ledger entries and raw fault events. -/
namespace Sys2Proof.Machine

/-! ## Words and fields -/

/-- The word of a register instance (key = instance × 2^24 + address). -/
def Mach.reg (m : Mach) (k : Nat) : Word := cget regReset m.regs k

/-- Write a register word. -/
def Mach.setReg (k : Nat) (v : Word) (m : Mach) : Mach := { m with regs := cset regReset m.regs k v }

/-- A field of a register. -/
def Mach.f (m : Mach) (x : Fld) : Nat := getF (m.reg x.a) x.lo x.len

/-- A one-bit field of a register. -/
def Mach.fb (m : Mach) (x : Fld) : Bool := m.f x == 1

/-- Set a field of a register. -/
def Mach.put (x : Fld) (v : Nat) (m : Mach) : Mach := m.setReg x.a (setF (m.reg x.a) x.lo x.len v)

/-- Set bits of a register word to 1. -/
def Mach.orReg (k : Nat) (mask : Nat) (m : Mach) : Mach := m.setReg k (m.reg k ||| word mask)

/-- Word `w` of the channel table of engine `e`. -/
def Mach.tw (m : Mach) (e w : Nat) : Word := cget tblReset m.tbl (64 * e + 4 * w)

/-- Write word `w` of the channel table of engine `e`. -/
def Mach.setTw (e w : Nat) (v : Word) (m : Mach) : Mach := { m with tbl := cset tblReset m.tbl (64 * e + 4 * w) v }

/-- A field of the channel table of engine `e`. -/
def Mach.t (m : Mach) (e : Nat) (x : TFld) : Nat := getF (m.tw e x.w) x.lo x.len

/-- A one-bit field of a channel table. -/
def Mach.tb (m : Mach) (e : Nat) (x : TFld) : Bool := m.t e x == 1

/-- Set a field of a channel table. -/
def Mach.tput (e : Nat) (x : TFld) (v : Nat) (m : Mach) : Mach := m.setTw e x.w (setF (m.tw e x.w) x.lo x.len v)

/-- A word of the always-on window. -/
def Mach.aw (m : Mach) (off : Nat) : Word := cget aonReset m.aon off

/-- Write a word of the always-on window. -/
def Mach.setAw (off : Nat) (v : Word) (m : Mach) : Mach := { m with aon := cset aonReset m.aon off v }

/-- Put a consequence at the end of the agenda. -/
def Mach.push (w : Work) (m : Mach) : Mach := { m with todo := m.todo ++ [w] }

/-- Put consequences at the front of the agenda, before those of earlier work. -/
def Mach.pushFront (ws : List Work) (m : Mach) : Mach := { m with todo := ws ++ m.todo }

/-- Draw a free word: a value that the spec does not state (DESIGN CHOICE, log entry 4). -/
def Mach.draw (m : Mach) : Word × Mach := (Config.freeWord m.free, { m with free := m.free + 1 })

/-! ## States and owners -/

/-- The main supplies feed the core: the device is in one of its powered states (R84, R85). -/
def Mach.powered (m : Mach) : Bool :=
  match m.dev with
  | .off | .woad => false
  | _ => true

/-- The clock family runs and channels may run: RUN and TEASEL (R287). -/
def Mach.running (m : Mach) : Bool := m.dev == .run || m.dev == .teasel

/-- DEV_STATE.ARMED: 1 in ARMING, RUN and TEASEL (R127). -/
def Mach.armed (m : Mach) : Bool := m.dev == .arming || m.running

/-- The host interfaces serve: from the entry to CONFIG onward (R66, R348). -/
def Mach.hostUp (m : Mach) : Bool :=
  match m.dev with
  | .config | .arming | .run | .ochre | .teasel => true
  | _ => false

/-- The channel's owning partition (R332). -/
def Mach.ownCh (m : Mach) (n : Nat) : Nat := m.f (OWN_CH.P n)
/-- The group's owning partition (R332). -/
def Mach.ownGrp (m : Mach) (g : Nat) : Nat := m.f (OWN_GRP.P g)
/-- The meter group's owning partition (R332). -/
def Mach.ownMtr (m : Mach) (i : Nat) : Nat := m.f (OWN_MTR.P i)

/-- PART_STAT_p.STATE (R323): 0 DISABLED, 1 ACTIVE, 2 STOPPING, 3 CLEARING. -/
def Mach.pstate (m : Mach) (p : Nat) : Nat := m.f (PART_STAT.STATE p)

/-- A reset of the partition is in progress. -/
def Mach.resetting (m : Mach) (p : Nat) : Bool := m.pstate p == 2 || m.pstate p == 3

/-- The partition is instantiated. -/
def Mach.instd (m : Mach) (p : Nat) : Bool := m.pstate p != 0

/-- Some partition is instantiated (R113, R479). -/
def Mach.anyInst (m : Mach) : Bool := (List.range 16).any (fun p => m.instd p)

/-- CH_STAT.STATE of a channel: 0 STOPPED, 1 STARTING, 2 RUN, 3 STOPPING (R183). -/
def Mach.chst (m : Mach) (n : Nat) : Nat := m.t n CH_STAT.STATE

/-- The channel that a spare hosts, if it hosts one (R280). -/
def Mach.hosted (m : Mach) (k : Nat) : Option Nat :=
  if m.fb (XB_STAT.BUSY k) then some (m.f (XB_STAT.CH k)) else none

/-- The spare that hosts a channel, if one does: CH_STAT.ENGINE names it (R202). -/
def Mach.spareOf (m : Mach) (n : Nat) : Option Nat :=
  if m.t n CH_STAT.ENGINE ≥ 256 then some (m.t n CH_STAT.ENGINE - 256) else none

/-- The bank of a channel's pin. -/
def bankOf (n : Nat) : Nat := n / 16

/-- BANK_PRES bit k (R91). -/
def Mach.present (m : Mach) (k : Nat) : Bool := m.pwr.pres.getLsbD k

/-- An always-on word as last posted, or as held (R107, R270). -/
def Mach.awAhead (m : Mach) (off : Nat) : Word :=
  match m.aonPost.reverse.find? (fun e => e.1 == off) with
  | some e => e.2
  | none => m.aw off

/-- The retired-list state of a channel as last decided: 0 IN_SERVICE, 1 REBUILT, 2 RETIRED (R270, R273, R513). -/
def Mach.listState (m : Mach) (n : Nat) : Nat := getF (m.awAhead (0x1000 + 8 * n)) 0 2

/-! ## Event records (R388 to R391) -/

/-- The usable places of queue q for records or commands (R371). -/
def qCap (q : Nat) : Nat := match q % 4 with | 0 => 16 | 1 => 4 | 2 => 127 | _ => 63

/-- The record queue `q`. -/
def Mach.rq (m : Mach) (q : Nat) : RecQ := cget (fun _ => {}) m.recqs q

/-- Replace the record queue `q`. -/
def Mach.setRq (q : Nat) (r : RecQ) (m : Mach) : Mach := { m with recqs := cset (fun _ => {}) m.recqs q r }

/-- The command queue `q`. -/
def Mach.cq (m : Mach) (q : Nat) : CmdQ := cget (fun _ => {}) m.cmdqs q

/-- Replace the command queue `q`. -/
def Mach.setCq (q : Nat) (r : CmdQ) (m : Mach) : Mach := { m with cmdqs := cset (fun _ => {}) m.cmdqs q r }

/-- A record is a LOST record of the queue itself (R389, R391): one that N0 writes for another node's gap carries that node as
its origin and takes a usable place (R417). -/
def Rec.isLost (r : Rec) : Bool := getF r.w0 0 16 == 7

/-- Places of a queue taken by records other than LOST, reserved places included. -/
def RecQ.used (r : RecQ) : Nat := countIf (fun x => !x.isLost) r.recs + r.reserved

/-- LEVEL: every place taken, reserved places included (R396). -/
def RecQ.level (r : RecQ) : Nat := r.recs.length + r.reserved

/-- The held slot holds a LOST record. -/
def RecQ.holdsLost (r : RecQ) : Bool := r.recs.any Rec.isLost

/-- Word 0 of a record: TYPE, ORIGIN, QSEQ and AUX (R388). -/
def recHead (typ origin qseq aux : Nat) : Word := word (typ % 256 + 256 * (origin % 256) + 65536 * (qseq % 256) + 16777216 * (aux % 256))

/-- Put a record at the tail with the next QSEQ; HIWAT follows LEVEL (R388, R396). -/
def RecQ.append (r : RecQ) (typ origin aux : Nat) (w1 w2 w3 : Word) : RecQ :=
  let x : Rec := ⟨recHead typ origin r.qseq aux, w1, w2, w3⟩
  let r' : RecQ := { r with recs := r.recs ++ [x], qseq := (r.qseq + 1) % 256 }
  { r' with hiwat := Nat.max r'.hiwat r'.level }

/-- Count one more loss in the LOST record that still counts, the last LOST record of the queue (R391). -/
def bumpLost (recs : List Rec) : List Rec :=
  recs.map (fun x => if x.isLost then { x with w2 := word (satInc 0xFFFFFFFF x.w2.toNat) } else x)

/-- The place reserved for a completion in partition p's event queue is given back (R385). -/
def Mach.release (p : Nat) (m : Mach) : Mach := m.setRq (4 * p + 2) { m.rq (4 * p + 2) with reserved := (m.rq (4 * p + 2)).reserved - 1 }

/-- The low word of the cross-block timestamp, as records carry it. -/
def Mach.ts32 (m : Mach) : Word := word m.ts

/-- Attribution of a raw event (R280): the partition, and whether the source is owned. `src` is the resource index. -/
def Mach.attribute (m : Mach) (b c src : Nat) : Nat × Bool :=
  match b with
  | 2 => if src < 256 then (m.ownCh src, true)
         else if src < 264 then
           match m.hosted (src - 256) with
           | some n => (m.ownCh n, true)
           | none => (0, false)
         else (0, false)
  | 3 => if src < 32 then (m.ownGrp src, true) else (0, false)
  | 5 => if c ≠ 9 && src < 256 then (m.ownCh src, true) else (0, false)
  | 6 => if (c = 1 || c = 2) && src < 256 then (m.ownCh src, true) else (0, false)
  | 7 => if src < 16 then (src, true) else (0, false)
  | 8 => if src < 64 then (src / 4, true) else (0, false)
  | 11 => if c = 0 && src < 32 then (m.ownMtr src, true) else if c = 5 && src < 256 then (m.ownCh src, true) else (0, false)
  | _ => (0, false)

/-- A raw event of code `bc` reaches its block (R279). No fault is raised while PG_MAIN is false (R293), nor while the core
reset holds the blocks (DEDUCED, log entry 97): SEQ starts at 0 at its release (R283). -/
def Mach.raise (bc : Nat × Nat) (src : Nat) (pay : Word) (m : Mach) : Mach :=
  if m.powered && !m.boot.held then
    m.push (.raw { blk := bc.1, code := bc.2, src := src, pay := pay, part := (m.attribute bc.1 bc.2 src).1,
                   owned := (m.attribute bc.1 bc.2 src).2, inj := false })
  else m

/-- Whether a record posted to a queue of P0 is forwarded to N0 (R417): every ledger-queue record with LAGG, FAULT records of L2
and above with EFWD 1, and every event record with EFWD 2. -/
def Mach.forwards (m : Mach) (q typ : Nat) (w2 : Word) : Bool :=
  m.fb LNK_ID.ENUM && m.f LNK_ID.NODE != 0 &&
  ((q == 3 && m.fb LNK_CFG.LAGG) || (q == 2 && (m.f LNK_CFG.EFWD == 2 || (m.f LNK_CFG.EFWD == 1 && typ == 2 && 2 ≤ getF w2 26 2))))

/-- Keep a posted record for forwarding: up to 32 of a kind, the oldest dropped (R417). -/
def Mach.keepForward (q : Nat) (x : Rec) (m : Mach) : Mach :=
  if q = 3 then
    ({ m with link := { m.link with lds := (m.link.lds ++ [(m.link.ldSeq, x)]).drop (m.link.lds.length - 31), ldSeq := (m.link.ldSeq + 1) % 65536 } }).push
      (.forward 3 m.link.ldSeq)
  else
    ({ m with link := { m.link with evs := (m.link.evs ++ [(m.link.evSeq, x)]).drop (m.link.evs.length - 31), evSeq := (m.link.evSeq + 1) % 65536 } }).push
      (.forward 2 m.link.evSeq)

/-- Put a record at the tail of a queue, and keep it for forwarding where R417 says so. -/
def Mach.append (q typ origin aux : Nat) (w1 w2 w3 : Word) (m : Mach) : Mach :=
  let m1 := m.setRq q ((m.rq q).append typ origin aux w1 w2 w3)
  if m.forwards q typ w2 then m1.keepForward q ⟨recHead typ origin (m.rq q).qseq aux, w1, w2, w3⟩ else m1

/-- Post a record to an event or ledger queue (R391). A full queue writes or counts a LOST record instead; the first loss of
a LOST record raises Q_OVF with the queue's capacity (R394). Losses while a frozen LOST record keeps the held slot are counted,
and their record is written once that slot is free (DEDUCED, log entry 99). -/
def Mach.post (q typ origin aux : Nat) (w1 w2 w3 : Word) (m : Mach) : Mach :=
  if (m.rq q).used < qCap q then m.append q typ origin aux w1 w2 w3
  else if !(m.rq q).holdsLost then
    (m.setRq q { (m.rq q).append 7 0 0 m.ts32 1 0 with frozen := false, lost := satInc 255 (m.rq q).lost }).raise fQOvf q (word (qCap q + 1))
  else if !(m.rq q).frozen then
    m.setRq q { m.rq q with recs := bumpLost (m.rq q).recs, lost := satInc 255 (m.rq q).lost }
  else
    let m1 := m.setRq q { m.rq q with pendLost := satInc 0xFFFFFFFF (m.rq q).pendLost, lost := satInc 255 (m.rq q).lost }
    if (m.rq q).pendLost = 0 then m1.raise fQOvf q (word (qCap q + 1)) else m1

/-- Post an event record of this node to partition p's event queue. A partition that is not instantiated takes no record
(R286, R323). -/
def Mach.event (p typ aux : Nat) (w2 w3 : Word) (m : Mach) : Mach :=
  if m.instd p then m.post (4 * p + 2) typ 0 aux m.ts32 w2 w3 else m

/-- Remove records from the head of a queue (R392); the pop freezes a LOST record that stays (R391), and losses that waited
for the held slot take it when it is free. -/
def Mach.pop (q count : Nat) (m : Mach) : Mach :=
  if count = 0 then m
  else
    let r := { m.rq q with recs := (m.rq q).recs.drop count, frozen := true }
    if r.pendLost > 0 && !r.holdsLost then
      m.setRq q { r.append 7 0 0 m.ts32 (word r.pendLost) 0 with frozen := false, pendLost := 0 }
    else m.setRq q r

/-- CH_EVT bits of channel n set together, and those of a spare that hosts it (R202): the bits that were 0 and are unmasked share one
CHEVT record (R390). -/
def Mach.chEvt (n mask : Nat) (m : Mach) : Mach :=
  let new := word mask &&& ~~~ (m.tw n 9)
  let m0 := m.setTw n 9 (m.tw n 9 ||| word mask)
  let m' := (m.spareOf n).elim m0 (fun k => m0.setTw (256 + k) 9 (m0.tw (256 + k) 9 ||| word mask))
  let p := m.ownCh n
  if new &&& word (m.f (Q_CFG.CHMASK (4 * p + 2))) = 0 then m'
  else m'.event p 3 0 (word (n + 65536 * new.toNat)) (m'.tw n 8)

/-- GRP_EVT bits of group g set together, with their GRPEVT record (R390). -/
def Mach.grpEvt (g mask : Nat) (m : Mach) : Mach :=
  let a := 0x03001C + 0x20 * g
  let new := word mask &&& ~~~ (m.reg a)
  let m' := m.setReg a (m.reg a ||| word mask)
  let p := m.ownGrp g
  if new &&& word (m.f (Q_CFG.GRPMASK (4 * p + 2))) = 0 then m'
  else m'.event p 4 0 (word (g + 65536 * new.toNat)) (m'.reg (0x030018 + 0x20 * g))

/-! ## Ledger entries (R473 to R476) -/

/-- AON32 cycles in a span of 5 ns steps counted from time 0. -/
def aonCycles (k : Nat) : Nat := k * 32768 / 200000000

/-- The real time at which the AON32 count reaches a number of cycles. -/
def aonAt (c : Nat) : Nat := (c * 200000000 + 32767) / 32768

/-- The place of an entry type in the order of entries that arise in one AON32 cycle: power, boot and image, time, key, retire,
meter in group order, hire and theft, sentinel (R474, R476). -/
def ledgerRank (typ arg0 : Nat) : Nat :=
  if typ < 0x08 then 0 else if typ < 0x10 then 1 else if typ < 0x18 then 2
  else if typ < 0x20 then 4 else if typ < 0x30 then 3 else if typ < 0x40 then 5 + arg0
  else if typ < 0x50 then 300 else if typ < 0x60 then 301 else 302

/-- Put an entry behind those of earlier cycles and those of its own cycle that do not rank behind it; the buffer is given
newest first. -/
def ledgerInsert (e : LdgEntry) : List LdgEntry → List LdgEntry
  | [] => [e]
  | x :: xs => if x.cyc = e.cyc ∧ e.rank < x.rank then x :: ledgerInsert e xs else e :: x :: xs

/-- A ledger entry arises: it enters the input buffer in its place within its AON32 cycle, and where 16 entries stand already the
last is dropped and counted (R476). `t` is the time that it carries where that is not the time of its writing (R460). -/
def Mach.ledgerAt (t : Option Word) (typ arg0 arg1 : Nat) (m : Mach) : Mach :=
  let e : LdgEntry := { word := word (typ % 256 + 256 * (arg0 % 256) + 65536 * (arg1 % 65536)), time := t,
                        cyc := aonCycles m.now, rank := ledgerRank typ arg0 }
  let b := (ledgerInsert e m.ldgBuf.reverse).reverse
  if m.ldgBuf.length < 16 then { m with ldgBuf := b }
  else { m with ldgBuf := b.take 16, ldgDrop := m.ldgDrop + 1 }

/-- A ledger entry that carries the time of its writing (R473). -/
def Mach.ledger (typ arg0 arg1 : Nat) (m : Mach) : Mach := m.ledgerAt none typ arg0 arg1

/-- Expiry of a hire session (R466): checked at every change of the seconds count. -/
def Mach.hireCheck (m : Mach) : Mach :=
  let e := m.f HIRE_END.TEND
  if m.f HIRE_STAT.STATE = 1 && e ≠ 0 && e ≤ m.tod then
    let ses := m.f HIRE_SES.SES
    ((m.put HIRE_STAT.STATE 0).put HIRE_STAT.G 0).ledger 0x42 ses (ses / 256)
  else m

/-! ## Timers -/

/-- Steps of 5 ns in a microsecond, a millisecond and a second. -/
def usec : Nat := 200
def msec : Nat := 200000
def second : Nat := 200000000

/-- The timers of the block whose length the spec gives. -/
inductive Timer where
  /-- 1 ms to the repetition of Wake and Discover (R114). -/
  | sfdp
  /-- ROOT_TO of the Lock step (R117), LINK_TO from the entry to RUN (R118), 10 ms of the stop phase (R123). -/
  | rootTo | linkTo | warmStop
  /-- Classification and presence of a bank (R98, R556). -/
  | bankClass (k : Nat) | bankPres (k : Nat)
  /-- The frequency gate of a source (R156). -/
  | gate (i : Nat)
  /-- The cell's presence check (R102) and the gauge's second (R106). -/
  | cell | gauge
  /-- 60 s of a service session (R148), and the running service operation (R147). -/
  | svcSession | svcOp
  /-- The machine budget's last refresh (R303), the dwell after a shed class (R313), and the slot of an activity (R317). -/
  | budget | dwell | slot (a : Nat)
  /-- The refill of an urgent bucket that is not full (R344). -/
  | token (p : Nat)
  /-- ENUM_TO (R420), BPER (R418), CAL_TO (R424) and the 100 ms of an offset step (R425). -/
  | enumTo | budgets | cal | dup
  /-- 2 ms of training and the 4 µs after a BUSY, by port (R400, R406), and TTO of the forwarded records of a kind (R417). -/
  | train (p : Nat) | busyWait (p : Nat) | forward (k : Nat)
  /-- Of the always-on domain: the latest meter sample, tick and ledger entry written (R464, R476), the latest strobe of an input (R470), the
  hold after a motion (R471), and the latest assertion of WAKE_OUT (R472). -/
  | sample | tick | entry | strobe (i : Nat) | hold | wake
  /-- The cadence of the activities, the lane test's latest round and the queue-engine test's latest piece (R519, R523, R526). -/
  | due (i : Nat) | round | piece
  deriving DecidableEq, Repr

/-- The place of a timer in the store. -/
def Timer.key : Timer → Nat
  | .sfdp => 0
  | .rootTo => 1
  | .linkTo => 2
  | .warmStop => 3
  | .cell => 4
  | .gauge => 5
  | .svcSession => 6
  | .svcOp => 7
  | .budget => 8
  | .dwell => 9
  | .enumTo => 10
  | .budgets => 11
  | .cal => 12
  | .dup => 13
  | .train p => 400 + p
  | .busyWait p => 402 + p
  | .forward k => 404 + k
  | .sample => 500
  | .tick => 501
  | .entry => 502
  | .hold => 503
  | .wake => 504
  | .strobe i => 505 + i
  | .due i => 600 + i
  | .round => 622
  | .piece => 623
  | .slot a => 200 + a
  | .token p => 300 + p
  | .gate i => 100 + i
  | .bankClass k => 1000 + k
  | .bankPres k => 2000 + k

/-- When a timer began, if it runs. -/
def Mach.since (m : Mach) (t : Timer) : Option Nat := cget (fun _ => none) m.timers t.key

/-- Set a timer's beginning, or none. -/
def Mach.setTimer (t : Timer) (v : Option Nat) (m : Mach) : Mach := { m with timers := cset (fun _ => none) m.timers t.key v }

/-- A timer begins now. -/
def Mach.startTimer (t : Timer) (m : Mach) : Mach := m.setTimer t (some m.now)

/-- A timer is stopped. -/
def Mach.stopTimer (t : Timer) (m : Mach) : Mach := m.setTimer t none

/-- WAKE_OUT is asserted by an event whose bit of SENT_CFG.WAKE is set (R472). -/
def Mach.wakeBy (bit : Nat) (m : Mach) : Mach :=
  if (getF (m.aw 0x2008) 24 4).testBit bit then (m.put SENT_STAT.WAKE 1).startTimer .wake else m

/-! ## Time -/

/-- Time-of-day moved on by AON32 cycles: the seconds hold at their end (R459). -/
def Mach.todStep (c : Nat) (m : Mach) : Mach :=
  let s := m.tod * 32768 + m.sub + c
  if s / 32768 ≥ 0xFFFFFFFF then { m with tod := 0xFFFFFFFF, sub := s % 32768 } else { m with tod := s / 32768, sub := s % 32768 }

/-- Cycles of a clock of `c` steps of 5 ns each that end in the next `k` steps. -/
def cyclesIn (c now k : Nat) : Nat := (now + k) / c - now / c

/-- Change the hidden part of the root. -/
def Mach.updRoot (f : Root → Root) (m : Mach) : Mach := { m with root := f m.root }

/-- ROOT_TUNE in ppt: every clock divided from ROOT runs at 1 + ROOT_TUNE × 10⁻¹² of its nominal rate (R154). -/
def Mach.tune (m : Mach) : Int := signed 32 (m.f ROOT_TUNE.TUNE)

/-- The 5 ns steps in which the FSLEW rate changes ROOT_TUNE by 1 ppt; none where the slew is unlimited (R167). -/
def Mach.slewSteps (m : Mach) : Option Nat :=
  match m.f ROOT_CFG.FSLEW with
  | 0 => none
  | 1 => some 2000
  | 2 => some 200
  | 3 => some 20
  | _ => some 2

/-- What ROOT_TUNE does over the next `k` steps: its value after them, the steps since its last change, and the sum of its values over
them. A slew changes it by 1 ppt at a time until its target is reached (R167). -/
def Mach.ramp (k : Nat) (m : Mach) : Int × Nat × Int :=
  match m.slewSteps with
  | none => (m.tune, 0, m.tune * k)
  | some q =>
    if !m.fb ROOT_STAT.FSLEWING then (m.tune, 0, m.tune * k)
    else
      let gap := (m.root.target - m.tune).natAbs
      let n := m.root.slewFrac + k
      let j := Nat.min gap (n / q)
      let way : Int := if m.root.target < m.tune then -1 else 1
      (m.tune + way * j, if j = gap then 0 else n - q * j, m.tune * k + way * (j * n - q * (j * (j + 1) / 2) : Nat))

/-- The clock family runs: PHS and all that is divided from it (R119, R172). -/
def Mach.rootRuns (m : Mach) : Bool := m.powered && m.boot.clocks

/-- The latest 10,010 s of a history, more than any window and its guard (R168). -/
def histKeep : Nat → List (Nat × Int) → List (Nat × Int)
  | _, [] => []
  | t, x :: xs => if 10010 * 200000000 ≤ t then [] else x :: histKeep (t + x.1) xs

/-- A span of TRACK time joins the history, as one with the latest where ROOT_TUNE was the same throughout both (R168). -/
def histAdd (k : Nat) (sum : Int) : List (Nat × Int) → List (Nat × Int)
  | [] => [(k, sum)]
  | x :: xs => if x.2 * k = sum * x.1 && sum % k = 0 then (x.1 + k, x.2 + sum) :: xs else (k, sum) :: histKeep k (x :: xs)

/-- ROOT, and with it PHS and the history, over `k` steps (R154, R167, R168). -/
def Mach.rootAdvance (k : Nat) (m : Mach) : Mach :=
  if !m.rootRuns || k = 0 then m
  else
    let r := m.ramp k
    let e := m.root.part + 6 * r.2.2
    let m1 := m.updRoot (fun x => { x with
      slewFrac := r.2.1
      phs := x.phs + (6 * k + e / 1000000000000).toNat
      part := e % 1000000000000
      hist := if m.f ROOT_STAT.DPLL = 2 then histAdd k r.2.2 x.hist else x.hist })
    if m.fb ROOT_STAT.FSLEWING then
      (m1.put ROOT_TUNE.TUNE (unsign 32 r.1)).put ROOT_STAT.FSLEWING (b2n (r.1 ≠ m.root.target))
    else m1

/-- Time-of-day over the next AON32 cycles, the first of which carries out a discipline that waits (R175). -/
def Mach.todAdvance (c : Nat) (m : Mach) : Mach :=
  match c, m.root.todDue with
  | n + 1, some carry =>
    (({ m with sub := 0, tod := if carry then satInc 0xFFFFFFFF m.tod else m.tod }).updRoot (fun r => { r with todDue := none })).todStep n
  | n, _ => m.todStep n

/-- Real time moves on by `k` steps of 5 ns, as the XO counts them: the clocks divided from ROOT follow ROOT_TUNE (R154). The timestamp
counts cycles of the clock the core runs on, CORE or, while ONBOOT, BOOT (R112, R285), and the register file's clock beside it (R53);
the grid counts PHS cycles while the clock family runs (R179); time-of-day runs outside OFF (R459). -/
def Mach.advance (k : Nat) (m : Mach) : Mach :=
  let m0 := m.rootAdvance k
  let d := m0.root.phs - m.root.phs
  let m1 := { m0 with
    now := m.now + k
    rclk := if !m.powered || m.boot.held then m.rclk
            else if m.boot.onboot then m.rclk + cyclesIn 8 m.now k else m.rclk + cyclesIn 12 m.root.phs d
    ts := if !m.powered || m.boot.held then m.ts
          else if m.boot.onboot then m.ts + cyclesIn 8 m.now k else m.ts + cyclesIn 6 m.root.phs d
    grid := m.grid + d }
  if m.dev == .off then m1 else (m1.todAdvance (aonCycles (m.now + k) - aonCycles m.now)).hireCheck

/-- Time moves on to an instant of real time, if it lies ahead. -/
def Mach.advNow (t : Nat) (m : Mach) : Mach := if m.now < t then m.advance (t - m.now) else m

/-- Steps after which `p` further PHS cycles cannot have ended sooner: with the fastest ROOT_TUNE of a slew under way. -/
def Mach.stepsFor (m : Mach) (p : Nat) : Nat :=
  let y := if m.fb ROOT_STAT.FSLEWING && m.tune < m.root.target then m.root.target else m.tune
  let rate := 6 * (1000000000000 + y).toNat
  (p * 1000000000000 - m.root.part.toNat + rate - 1) / rate

/-- Time moves on until the clock family has counted `p` PHS cycles since its start, if it has not yet; each round covers all but what a
slew of ROOT_TUNE leaves of the way. -/
def Mach.advPhs (p : Nat) (m : Mach) : Mach :=
  if m.rootRuns then forN 16 (fun _ t => if t.root.phs < p then t.advance (t.stepsFor (p - t.root.phs)) else t) m else m

/-- Time moves on to a grid instant, if it lies ahead: an event that names its instant happens then. -/
def Mach.advTo (g : Nat) (m : Mach) : Mach := if m.grid < g then m.advPhs (m.root.phs + (g - m.grid)) else m

/-- Time moves on until the register file's clock has counted `t` cycles, if it has not yet (R53, R224). -/
def Mach.advReg (t : Nat) (m : Mach) : Mach :=
  if t ≤ m.rclk then m
  else if m.boot.onboot then m.advNow ((m.now / 8 + (t - m.rclk)) * 8)
  else m.advPhs ((m.root.phs / 12 + (t - m.rclk)) * 12)

/-- Time moves on to the end of a timer of `d` steps, where that lies ahead. -/
def Mach.reach (t : Timer) (d : Nat) (m : Mach) : Mach := (m.since t).elim m (fun a => m.advNow (a + d))

/-- Time moves on to the end of `c` AON32 cycles of a timer, where that lies ahead. -/
def Mach.reachAon (t : Timer) (c : Nat) (m : Mach) : Mach := (m.since t).elim m (fun a => m.advNow (aonAt (aonCycles a + c)))

/-- Time moves on to the next instant of a divider of AON32 with a period of `per` cycles, after the latest one that a timer has seen, and
the timer sees it. -/
def Mach.nextAon (t : Timer) (per : Nat) (m : Mach) : Mach :=
  (m.advNow (aonAt (per * (m.since t).elim ((aonCycles m.now + per - 1) / per) (fun a => aonCycles a / per + 1)))).startTimer t

/-! ## Outcomes -/

/-- A command's effect as an outcome: the machine changed, the queue of waiting commands as it stands. -/
def done (f : Mach → Mach) (s : State) : Host.Outcome State Fault Refusal := .next { s with m := f s.m }

end Sys2Proof.Machine
end

