-- ==== Sys2Proof/Machine/Access.lean ====
section
/-! DEFINITION. The register file (chapter 02): for whom an access acts, the ordered checks of a word write (R33) with the
gates of every attribute, ownership (R32), the KEY arms (R37) and ACC_STAT. Effects beyond the word itself go on the agenda. -/
namespace Sys2Proof.Machine

/-! ## Identity -/

/-- The instance number of a port's registers: SPI 32, I2C 33, and on the link port one per originating node and partition
(R335, R412). -/
def portInst (a : Acc) : Nat :=
  match a.port with
  | .spi => 32
  | .i2c => 33
  | .link => 64 + 16 * a.src.val + a.opart.val

/-- The port's number, as ACC_ADDR.PORT and ATTACH messages give it. -/
def portNum : Port → Nat
  | .spi => 0
  | .i2c => 1
  | .link => 2

/-- For whom an access acts (R335, R351, R411). The link-secure rule comes first, where a partition exists (R113); then TAGV with a
binding of the port. -/
def Mach.bind (m : Mach) (a : Acc) : Who :=
  if a.port == .link && a.sec && m.anyInst && a.opart == 0 && getF (m.reg (0x0A0040 + 4 * (a.src.val / 32))) (a.src.val % 32) 1 == 1 then .sec
  else if a.tagv && (m.reg (0x080328 + portInst a * instSpan)).getLsbD a.part.val && m.instd a.part.val then
    .part a.part.val (m.f ((ATT_KEY.KEY a.part.val).inst (portInst a)))
  else .unbound

/-- The instance of a banked register that an access reaches (R502: 16 is the link-secure instance, 17 the unbound masters). -/
def Who.inst : Who → Nat
  | .part p _ => p
  | .sec => 16
  | .unbound => 17

/-- The partition whose rights over resources the access has: a link-secure master has P0's (R411). -/
def Who.rights : Who → Option Nat
  | .part p _ => some p
  | .sec => some 0
  | .unbound => none

/-- Bound to P0 or link-secure: OWN fields are open to it (R38). -/
def Who.isP0 (w : Who) : Bool := w.rights == some 0

/-! ## ACC_STAT (R29 to R32) -/

/-- The causes of ACC_STAT.CAUSE. -/
def cALIGN : Nat := 1
def cWIDTH : Nat := 2
def cUNMAPPED : Nat := 3
def cOWNER : Nat := 4
def cOWN : Nat := 5
def cKEY : Nat := 6
def cWINDOW : Nat := 7

/-- The marks of an access are clear at its beginning (R356). -/
def Mach.unmarked (m : Mach) : Mach := { m with accFlag := false, ignFlag := false }

/-- Record a refused or ignored access in the accessor's ACC_STAT and ACC_ADDR: the first error is kept, a later one sets
OVF (R57). An unbound access leaves no record (R113). -/
def Mach.accErr (w : Who) (port : Port) (addr cause : Nat) (m : Mach) : Mach :=
  match w with
  | .unbound => m
  | _ =>
    if m.fb (ACC_STAT.ACCERR.inst w.inst) then { m.put (ACC_STAT.OVF.inst w.inst) 1 with accFlag := true }
    else { ((((m.put (ACC_STAT.ACCERR.inst w.inst) 1).put (ACC_STAT.CAUSE.inst w.inst) cause).put
        (ACC_ADDR.ADDR.inst w.inst) addr).put (ACC_ADDR.PORT.inst w.inst) (portNum port)) with accFlag := true }

/-- Set CFG_IGN for the accessor (R36). -/
def Mach.cfgIgn (w : Who) (m : Mach) : Mach :=
  match w with
  | .unbound => m
  | _ => { m.put (ACC_STAT.CFG_IGN.inst w.inst) 1 with ignFlag := true }

/-! ## Gates -/

/-- The registers that accept every master in TEASEL: the test space, and the key staging and programming registers with
their UNLOCK (R450, R516). -/
def Mach.teaselOpen (m : Mach) (addr : Nat) : Bool :=
  m.dev == .teasel && (addr / 0x10000 == 15 || (0x0B0100 ≤ addr && addr ≤ 0x0B0114) || addr == 0x0BFFF0)

/-- The key of the word that an access reaches at a register (R502: the queue heads and reports have no link-secure
instance, and a link-secure master reaches P0's). The fault registers' link-secure instance holds no lines (R296). -/
def instKey (r : Row) (w : Who) (a : Acc) (addr : Nat) : Nat :=
  match r.inst with
  | .one => addr
  | .bank =>
    if w == .sec && ((0x090480 ≤ addr && addr ≤ 0x0904B0) || (0x0B0094 ≤ addr && addr < 0x0B0500 && !(addr % 0x10000 == 0xFFF0))) then addr
    else addr + w.inst * instSpan
  | .port => addr + portInst a * instSpan
  | .portPart => addr + (1200 + 17 * portNum a.port + w.inst) * instSpan

/-- The partition of which a register without a writable field is a resource, where its home chapter says so: the charger and gauge
(R103), the root block (R177), a group's status (R228), the governor (R321), the host interfaces (R369), the queues (R395). -/
def Mach.roOwner (m : Mach) (addr : Nat) : Option Nat :=
  match addr / 0x10000 with
  | 0 => if [0x000228, 0x000238, 0x00023C, 0x000604, 0x000614].contains addr then some 0 else none
  | 1 => some 0
  | 3 => if addr < 0x030400 then some (m.ownGrp ((addr - 0x030000) / 0x20)) else none
  | 7 => some 0
  | 9 => if 0x090200 ≤ addr && addr < 0x090240 then some ((addr - 0x090200) / 4) else none
  | _ => none

/-- Whether an access may write the resource that a register serves (R32, R490). -/
def Mach.mayWrite (m : Mach) (r : Row) (w : Who) (addr : Nat) : Bool :=
  if m.teaselOpen addr then true
  else match r.writer, w.rights with
  | .none, x => (m.roOwner addr).isNone || x == m.roOwner addr
  | _, none => r.inst == .port
  | .p0, some p => p == 0
  | .p0key, some p => p == 0
  | .each, some _ => true
  | .holder, some _ => true
  | .grp, some p => m.ownGrp (r.idx addr) == p
  | .queue, some p => (addr - 0x090000) / 8 / 4 == p
  | .irq, some p => m.f (IRQ_OWN.P ((addr - 0x080200) / 4)) == p
  | .mtr, some p => m.ownMtr (r.idx addr) == p
  | .pgpo, some _ => true
  | .self, some p => r.idx addr == p

/-- Whether an access may write owner-key fields (R448): a binding to P0 made by K1, or a link-secure master except for
KEY_STG and KEY_PROG; in TEASEL those accept every master (R450). -/
def Mach.mayOwnKey (m : Mach) (w : Who) (addr : Nat) : Bool :=
  m.teaselOpen addr ||
  match w with
  | .part 0 1 => true
  | .sec => !(0x0B0100 ≤ addr && addr ≤ 0x0B0114)
  | _ => false

/-- The CFG gate: the enable that governs a register's CFG fields is 0 (R36). A spare's fields are open while it hosts no
channel (R252). -/
def Mach.cfgOpen (m : Mach) (addr : Nat) : Bool :=
  match addr / 0x10000 with
  | 0 => if addr == 0x000224 then !m.fb CHG_CTL.EN else !m.armed
  | 1 => if addr < 0x010140 then !m.fb (REF_CFG.EN ((addr - 0x010000) / 0x20)) else !m.armed
  | 3 => !m.fb (GRP_CFG.EN ((addr - 0x030000) / 0x20))
  | 4 => !m.fb (XB_STAT.BUSY ((addr - 0x040300) / 4))
  | 12 => if addr < 0x0C0080 then !m.fb (MTR_CFG.EN ((addr - 0x0C0000) / 4)) else !m.fb (MTR_CFG.EN ((addr - 0x0C0100) / 32))
  | _ => true

/-! ## The configuration sweep (R40 to R43) -/

/-- The CFG bits of a table word: DOUBLE and BOND exist on even channels only (R182, R232). -/
def tblCfg (e wd : Nat) : Nat :=
  if e % 2 = 1 && wd = 0 then 0x30 else if e % 2 = 1 && wd = 14 then 0x704 else (tblRow wd).cfg

/-- The registers of a row with the CFG bits of each word. -/
def Row.cfgWords (r : Row) : List (Nat × Word) :=
  if r.cfg = 0 then [] else (List.range r.count).flatMap (fun i => (List.range r.words).map (fun w => (r.base + r.stride * i + 4 * w, word r.cfg)))

/-- Every register with a CFG field, in ascending address. -/
def cfgRegs : List (Nat × Word) :=
  sortBy (fun a b => a.1 ≤ b.1) ((List.range 13).flatMap (fun b => (rowsAt (0x10000 * b)).flatMap Row.cfgWords))

/-- The words that a sweep feeds, CFG bits only: registers, then channel-table words by offset. -/
def Mach.sweepWords (m : Mach) : List Word :=
  cfgRegs.map (fun e => m.reg e.1 &&& e.2) ++
  (List.range 256).flatMap (fun n => ((List.range 16).filter (fun w => tblCfg n w ≠ 0)).map (fun w => m.tw n w &&& word (tblCfg n w)))

/-- The running CRC carried over words, least significant byte first. -/
def crcOver (c : Nat) (ws : List Word) : Nat := (ws.flatMap wordBytes).foldl crc32cByte c

/-- The result of the present sweep if every word that it has not yet taken is taken as it stands. -/
def Mach.sweepCrc (m : Mach) : Nat := crcOver m.crc.run (m.sweepWords.drop m.crc.pos) ^^^ 0xFFFFFFFF

/-- A CFG bit is about to change: the sweep has taken the words up to the place that it has reached by now, as they still stand.
The spec states no rate, so the place is free, at or beyond the last known one (DESIGN CHOICE, log entry 74). -/
def Mach.sweepReach (m : Mach) : Mach :=
  let x := m.draw
  let ws := m.sweepWords
  let p := m.crc.pos + x.1.toNat % (ws.length + 1 - m.crc.pos)
  { x.2 with crc := { m.crc with pos := p, run := crcOver m.crc.run ((ws.take p).drop m.crc.pos) } }

/-- A CFG field is changed by an accepted write: the reference becomes stale, and a capture under way starts afresh (R41, R43). It
acts before the word is stored, as the sweep may have passed it (R40). -/
def Mach.cfgChanged (m : Mach) : Mach :=
  let m1 := m.sweepReach
  { m1.put CFGCRC_STAT.STALE 1 with crc := { m1.crc with fresh := false } }

/-- The base of the block that an address lies in. -/
def blockBase (addr : Nat) : Nat := addr / 0x10000 * 0x10000

/-- The block is armed for the accessor (R37). -/
def Mach.isArmed (m : Mach) (w : Who) (addr : Nat) : Bool := m.fb ((UNLOCK.ARMED (blockBase addr)).inst w.inst)

/-- Arm or disarm a block for the accessor. -/
def Mach.setArm (w : Who) (addr : Nat) (v : Nat) (m : Mach) : Mach := m.put ((UNLOCK.ARMED (blockBase addr)).inst w.inst) v

/-- A write to a block uses up the writer's arm of it (R37). -/
def Mach.spent (w : Who) (addr : Nat) (m : Mach) : Mach := if m.isArmed w addr then m.setArm w addr 0 else m

/-! ## Words with a home of their own -/

/-- The offset of the always-on word that a register is another name of (R512). -/
def aonAlias (addr : Nat) : Option Nat :=
  if addr == 0x000230 then some 0x2000 else if addr == 0x000244 then some 0x2004 else if addr == 0x0C0540 then some 0x2008 else none

/-- The value that reaches an always-on word: VBAK_LOW_CFG.TH above 45 is stored as 45 (R109). -/
def aonStored (off : Nat) (v : Word) : Word := if off = 0x2004 && getF v 0 6 > 45 then setF v 0 6 45 else v

/-- Post a word toward the always-on domain (R107). -/
def Mach.postAon (off : Nat) (v : Word) (m : Mach) : Mach := { m with aonPost := m.aonPost ++ [(off, aonStored off v)] }

/-- The word that a write sees as held: the committed word of the register, its always-on copy for the three aliases. -/
def Mach.heldWord (m : Mach) (key addr : Nat) : Word :=
  match aonAlias addr with
  | some off => m.aw off
  | none => m.reg key

/-- The partition's channel, group, meter or pin nibble of an ownership register that may change now (R333): outside CONFIG
each nibble has a condition. -/
def Mach.nibbleFree (m : Mach) (addr j : Nat) (new : Nat) : Bool :=
  if m.dev == .config then true
  else if addr < 0x080080 then
    let n := 8 * ((addr - 0x080000) / 4) + j
    let busy := fun p => m.pstate p == 2 || m.pstate p == 3
    m.chst n == 0 && !m.tb n CH_STAT.HELD && !m.tb n CH_STAT.PEND && !m.tb n CH_PIN.BOND && !m.tb (n / 2 * 2) CH_PIN.BOND
      && !busy (m.ownCh n) && !busy new
  else if addr < 0x080090 then
    let g := 8 * ((addr - 0x080080) / 4) + j
    !m.fb (GRP_CFG.EN g) && (cget (fun _ => {}) m.grps g).holder.isNone
  else if addr < 0x0800A0 then m.f (MTR_STAT.STATE (8 * ((addr - 0x080090) / 4) + j)) == 0
  else true

/-- The word an ownership register takes: each changed nibble only where its condition holds (R333). -/
def Mach.ownNibbles (m : Mach) (addr : Nat) (old new : Word) : Word :=
  (List.range 8).foldl (fun acc j =>
    if getF old (4 * j) 4 ≠ getF new (4 * j) 4 && m.nibbleFree addr j (getF new (4 * j) 4) then setF acc (4 * j) 4 (getF new (4 * j) 4)
    else acc) old

/-- The bits of PGPO_k that an access may write: those of channels its partition owns (R251). -/
def Mach.pgpoMask (m : Mach) (w : Who) (k : Nat) : Nat :=
  (List.range 16).foldl (fun acc q => if w.rights == some (m.ownCh (16 * k + q)) then acc + 2 ^ q else acc) 0

/-- The group of a register of the group block: the per-group registers and the slots. -/
def grpOf (addr : Nat) : Nat := if addr < 0x031000 then (addr - 0x030000) / 0x20 else (addr - 0x031000) / 0x100

/-- A group's hidden part. -/
def Mach.grp (m : Mach) (g : Nat) : Grp := cget (fun _ => {}) m.grps g

/-- Replace a group's hidden part. -/
def Mach.setGrp (g : Nat) (v : Grp) (m : Mach) : Mach := { m with grps := cset (fun _ => {}) m.grps g v }

/-- Changes of N, H, BASEP and the slots of an enabled group wait for the group epoch (R221); while EN is 0 or the clock family
does not run, no pattern is in force and they take effect at once (DEDUCED, log entry 20). -/
def Mach.grpPending (m : Mach) (addr : Nat) : Bool :=
  ((0x030000 ≤ addr && addr < 0x030400 && (addr % 0x20 == 4 || addr % 0x20 == 8 || addr % 0x20 == 12)) || (0x031000 ≤ addr && addr < 0x033000))
    && m.fb (GRP_CFG.EN (grpOf addr)) && m.boot.clocks

/-- The limits of R220 for a group's N, H and BASEP. -/
def grpLimits (n h b : Nat) : Bool := 5 ≤ n && 2 ≤ h && h + 2 ≤ n && b < n

/-- The value a group register will have once the waiting commit has taken effect. -/
def Mach.grpAhead (m : Mach) (g addr : Nat) : Nat :=
  match ((m.grp g).commit.reverse).find? (fun e => e.1 == addr) with
  | some e => e.2.toNat
  | none => (m.reg addr).toNat

/-- A write of N, H or BASEP would break R220 while EN is 1. -/
def Mach.grpBreaks (m : Mach) (addr : Nat) (v : Word) : Bool :=
  let g := grpOf addr
  let b := 0x030000 + 0x20 * g
  let at' := fun k => if addr = b + k then v.toNat else (m.reg (b + k)).toNat
  0x030000 ≤ addr && addr < 0x030400 && (addr % 0x20 == 4 || addr % 0x20 == 8 || addr % 0x20 == 12) && m.fb (GRP_CFG.EN g)
    && !grpLimits (at' 4) (at' 8) (at' 12)

/-- Queue a word for the group's next epoch; a value that would break R220 is not applied and sets CFGERR. -/
def Mach.grpQueue (addr : Nat) (v : Word) (m : Mach) : Mach :=
  let g := grpOf addr
  let b := 0x030000 + 0x20 * g
  let at' := fun k => if addr = b + k then v.toNat else m.grpAhead g (b + k)
  if addr < 0x031000 && !grpLimits (at' 4) (at' 8) (at' 12) then m.put (GRP_STAT.CFGERR g) 1
  else
    let q := m.grp g
    m.setGrp g { q with commit := q.commit ++ [(addr, v)], committed := true, commitAt := if q.committed then q.commitAt else m.grid,
                        lockWords := q.lockWords.filter (fun e => e.at' ≠ addr) }

/-- Store a register word; one that it holds already changes nothing. -/
def Mach.store (key : Nat) (new : Word) (m : Mach) : Mach := if new = m.reg key then m else m.setReg key new

/-- Store an accepted word in its home, and put its effects on the agenda (R33 steps 8 to 11). -/
def Mach.storeWord (w : Who) (a : Acc) (r : Row) (key addr : Nat) (d new : Word) (m : Mach) : Mach :=
  let old := m.heldWord key addr
  let hook := Work.hook w a addr d old new
  match aonAlias addr with
  | some off => (m.postAon off new).push hook
  | none =>
    if 0x080000 ≤ addr && addr < 0x0800A8 then
      let nw := m.ownNibbles addr old new
      let m1 := if nw = new then m else m.put PART_GSTAT.OWNREJ 1
      (m1.setReg key nw).push (.hook w a addr d old nw)
    else if m.grpPending addr then m.grpQueue addr new
    else if m.grpBreaks addr new then m.put (GRP_STAT.CFGERR (grpOf addr)) 1
    else
      let m1 := if (old ^^^ new) &&& word r.cfg ≠ 0 then m.cfgChanged else m
      (m1.store key new).push hook

/-! ## The write pipeline -/

/-- The bits that a write may change: the RW bits (under the mask half of a WM register, and for PGPO_k those of the writer's
channels), and the OWN, KEY and CFG bits where their gates are open (R33 steps 5 to 8). -/
def Mach.writeMask (m : Mach) (w : Who) (r : Row) (addr : Nat) (d : Word) (ownOk keyOk : Bool) : Word :=
  let rwMask := if r.wm then word r.rw &&& word (getF d 16 16) else word r.rw
  let rwMask := if r.writer == .pgpo then rwMask &&& word (m.pgpoMask w (r.idx addr)) else rwMask
  rwMask ||| (if ownOk then word r.own else 0) ||| (if keyOk then word r.key else 0) ||| (if m.cfgOpen addr then word r.cfg else 0)

/-- The word that a write leaves: the open bits take the written value but for those that clear themselves, and a 1 clears the W1C
bits (R33). CAPTURE stays 1 until its sweep ends (R41), PART_CFG_0 keeps K1 (chapter 14), and AON_STAT clears by ones. -/
def writeNew (r : Row) (addr : Nat) (d old mask : Word) : Word :=
  let new := blend old d (mask &&& ~~~ (word r.trg))
  let new := if addr = 0x000120 then new ||| (old &&& 2) else new
  let new := new &&& ~~~ (d &&& word r.w1c)
  let new := if addr = 0x080400 then new ||| 2 else new
  if addr = 0x000240 then old &&& ~~~ (d &&& mask) else new

/-- Steps 5 to 11 of R33 for a word whose address and ownership have passed: `ownOk`, `keyOk` say which OWN and KEY bits the
writer may change. -/
def Mach.fieldUpdate (w : Who) (a : Acc) (r : Row) (key addr : Nat) (d : Word) (ownOk keyOk : Bool) (m : Mach) : Mach :=
  let old := m.heldWord key addr
  let mask := m.writeMask w r addr d ownOk keyOk
  let new := writeNew r addr d old mask
  let m1 := if !m.cfgOpen addr && (d ^^^ old) &&& word r.cfg ≠ 0 then m.cfgIgn w else m
  let m2 := if r.writer == .pgpo && word (getF d 16 16) &&& ~~~ (word (m.pgpoMask w (r.idx addr))) ≠ 0 then m1.accErr w a.port addr cOWNER else m1
  m2.storeWord w a r key addr (if r.wm then d else d &&& (mask ||| word r.w1c)) new

/-- A write under a held group lock goes to the group's staging buffer (R222). -/
def Mach.stageGrp (w : Who) (a : Acc) (g : Nat) (e : Staged) (m : Mach) : Mach :=
  let q := cget (fun _ => ({} : Grp)) m.grps g
  let others := q.staged.filter (fun x => x.at' ≠ e.at')
  if others.length < 64 then { m with grps := cset (fun _ => {}) m.grps g { q with staged := others ++ [e] } }
  else m.accErr w a.port e.bus cWINDOW

/-- The group whose lock's holder is the writer, for the registers that are staged while it is held (R222). -/
def Mach.lockedGrp (m : Mach) (r : Row) (w : Who) (addr : Nat) : Option Nat :=
  if r.writer == .grp && !(0x030400 ≤ addr && addr < 0x030480) &&
      (cget (fun _ => ({} : Grp)) m.grps (r.idx addr)).holder == w.rights && w.rights.isSome then some (r.idx addr)
  else none

/-- The registers of the service path that a running operation keeps from being written (R149). -/
def Mach.svcBusy (m : Mach) (addr : Nat) : Bool :=
  m.fb SVC_STAT.BUSY && ((0x000420 ≤ addr && addr < 0x00042C) || (0x000500 ≤ addr && addr < 0x000600))

/-- Steps 3 to 11 of R33 at a register that exists, for a writer that may reach it. -/
def Mach.gatedWrite (w : Who) (a : Acc) (r : Row) (addr : Nat) (d : Word) (m : Mach) : Mach :=
  let key := instKey r w a addr
  let isOwner := w.isP0 || m.teaselOpen addr
  let ownKeyOk := m.mayOwnKey w addr
  let old := m.heldWord key addr
  let ownOk := isOwner && (r.writer != .p0key || ownKeyOk)
  let m1 :=
    if ownOk || r.own = 0 then m
    else if isOwner then (if (d ^^^ old) &&& word r.own ≠ 0 then m.accErr w a.port addr cOWN else m)
    else (if d &&& word r.own ≠ 0 then m.accErr w a.port addr cOWN else m)
  if (r.own = 0 || (r.rw ||| r.w1c ||| r.cfg ||| r.key) ≠ 0) && !m.mayWrite r w addr then m1.accErr w a.port addr cOWNER
  else match m1.lockedGrp r w addr with
  | some g => m1.stageGrp w a g ⟨addr, d, addr⟩
  | none =>
    let armed := m1.isArmed w addr
    let m2 := m1.spent w addr
    let keyAllowed := r.writer != .p0key || ownKeyOk
    let m3 :=
      if r.key = 0 || (d ^^^ old) &&& word r.key = 0 then m2
      else if !keyAllowed then m2.accErr w a.port addr cOWN
      else if !armed then m2.accErr w a.port addr cKEY else m2
    if ownOk && m3.svcBusy addr then m3.put SVC_STAT.REJ 1
    else if addr = 0x000110 && m3.fb (WIDE_STAT.BUSY.inst w.inst) then m3.accErr w a.port addr cWINDOW
    else m3.fieldUpdate w a r key addr d ownOk (armed && keyAllowed)

/-- A write of a block's UNLOCK: 0xC3A5 arms it for the writer's partition, any other value disarms it with cause KEY (R37). -/
def Mach.writeUnlock (w : Who) (a : Acc) (addr : Nat) (d : Word) (m : Mach) : Mach :=
  if getF d 0 16 = 0xC3A5 then m.setArm w addr 1 else (m.setArm w addr 0).accErr w a.port addr cKEY

/-! ## The indirect windows (R48 to R54) -/

/-- The base of the window that an address belongs to. -/
def winBase : Win → Nat
  | .chan => 0x02E000
  | .aon => 0x0CE000

/-- The window registers in which an address lies. -/
def winOf (addr : Nat) : Option Win :=
  if 0x02E000 ≤ addr && addr < 0x02E800 then some .chan
  else if 0x0CE000 ≤ addr && addr < 0x0CE800 then some .aon else none

/-- The lock and staging buffer of a window. -/
def Mach.win (m : Mach) : Win → Window
  | .chan => m.chWin
  | .aon => m.aonWin

/-- Replace a window's lock and buffer. -/
def Mach.setWin (x : Win) (v : Window) (m : Mach) : Mach :=
  match x with
  | .chan => { m with chWin := v }
  | .aon => { m with aonWin := v }

/-- The holder's number of an access: its partition, or 16 for every link-secure master (R54). -/
def Who.holder : Who → Option Nat
  | .part p _ => some p
  | .sec => some 16
  | .unbound => none

/-- The access is the lock holder's. -/
def Mach.holds (m : Mach) (x : Win) (w : Who) : Bool := w.holder.isSome && (m.win x).holder == w.holder

/-- An access by the holder has reached the window: its idle count starts afresh (R53). -/
def Mach.winTouch (x : Win) (w : Who) (m : Mach) : Mach :=
  if m.holds x w then m.setWin x { m.win x with touched := m.rclk } else m

/-- The last offset of a window (R48). -/
def winLast : Win → Nat
  | .chan => 0x41FC
  | .aon => 0xFFFC

/-- Whether the window has a word at an offset (R48, R514). -/
def winWord (x : Win) (off : Nat) : Bool :=
  match x with
  | .chan => off % 4 = 0 && off ≤ 0x41FC
  | .aon => aonWord off

/-- Advance IND_ADDR by 4 where AINC is 1; past the last offset it holds and sets END (R52). -/
def Mach.winStep (x : Win) (m : Mach) : Mach :=
  let b := winBase x
  if !m.fb (IND_CTL.AINC b) then m
  else if m.f (IND_ADDR.OFF b) + 4 > winLast x then m.put (IND_STAT.END b) 1
  else m.put (IND_ADDR.OFF b) (m.f (IND_ADDR.OFF b) + 4)

/-- An IND_DATA access that the window itself refuses: no lock, END reached, or an offset beyond the range (R49, R52, R57). -/
def Mach.winShut (m : Mach) (x : Win) (w : Who) : Bool :=
  !m.holds x w || m.fb (IND_STAT.END (winBase x)) || m.f (IND_ADDR.OFF (winBase x)) > winLast x

/-- Words 1 to 4 of a member's table are written by its group alone (R209). -/
def Mach.groupWord (m : Mach) (n wd : Nat) : Bool := 1 ≤ wd && wd ≤ 4 && m.tb n CH_GRP.MEMBER

/-- The cause with which a word is refused at staging: alignment, range and ownership are checked there (R50, R209, R498,
R514). -/
def Mach.stageRefusal (m : Mach) (x : Win) (w : Who) (off : Nat) : Option Nat :=
  if off % 4 ≠ 0 then some cALIGN
  else if !winWord x off then some cUNMAPPED
  else match x with
  | .chan =>
    if off / 64 < 256 && w.rights == some (m.ownCh (off / 64)) && !(m.groupWord (off / 64) (off % 64 / 4)) then none else some cOWNER
  | .aon => if aonRw off && !w.isP0 then some cOWNER else none

/-- A write of IND_DATA or its alias stages the word (R50). -/
def Mach.winStage (x : Win) (w : Who) (a : Acc) (addr : Nat) (d : Word) (m : Mach) : Mach :=
  if m.winShut x w then m.accErr w a.port addr cWINDOW
  else
    let off := m.f (IND_ADDR.OFF (winBase x))
    match m.stageRefusal x w off with
    | some c => (m.accErr w a.port addr c).winStep x
    | none =>
      let others := (m.win x).staged.filter (fun e => e.at' ≠ off)
      if others.length < 16 then (m.setWin x { m.win x with staged := others ++ [⟨off, d, addr⟩] }).winStep x
      else m.accErr w a.port addr cWINDOW

/-- A write of IND_LOCK.REQ: 1 takes a free lock, 0 by the holder releases it and discards what is staged (R49). -/
def Mach.winLock (x : Win) (w : Who) (d : Word) (m : Mach) : Mach :=
  if bitAt d 0 then
    (if (m.win x).holder.isNone then m.setWin x { holder := w.holder, staged := [] } else m)
  else if m.holds x w then m.setWin x {} else m

/-- Free a window's lock for a cause: its staged words are discarded, the holder's LOCKLOST is set, and TIMEOUT or BROKEN
is set in IND_STAT (R53, R54). -/
def Mach.winFree (x : Win) (timeout : Bool) (m : Mach) : Mach :=
  match (m.win x).holder with
  | none => m
  | some h =>
    ((m.setWin x {}).put (ACC_STAT.LOCKLOST.inst h) 1).put
      (if timeout then IND_STAT.TIMEOUT (winBase x) else IND_STAT.BROKEN (winBase x)) 1

/-- An address belongs to group g's registers or its lock, or to the channel window: an access there by the holder of the group's lock
restarts its idle count (R224). -/
def reachesGrp (g addr : Nat) : Bool :=
  winOf addr == some .chan || addr = 0x030400 + 4 * g
    || (((0x030000 ≤ addr && addr < 0x030400) || (0x031000 ≤ addr && addr < 0x033000)) && grpOf addr = g)

/-- An access by the holder of group locks has reached what keeps them held (R224). -/
def Mach.grpTouch (w : Who) (addr : Nat) (m : Mach) : Mach :=
  if addr / 0x10000 = 3 || winOf addr == some .chan then
    forN 32 (fun g t => applyIf (reachesGrp g addr && w.rights.isSome && (t.grp g).holder == w.rights)
      (fun u => u.setGrp g { u.grp g with touched := u.rclk }) t) m
  else m

/-- The idle limit ends a lock's hold: with LIMIT 0 there is none; time moves on to the end of the idle count (R53, R57). -/
def Mach.winTimeout (x : Win) (m : Mach) : Mach :=
  let lim := m.f (IND_LOCK_TO.LIMIT (winBase x))
  if (m.win x).holder.isNone || lim = 0 then m else (m.advReg ((m.win x).touched + lim)).winFree x true

/-- The CFG bits that are open: those of a STOPPED channel, and DOUBLE and BOND only while both channels of the pair are
STOPPED (R36, R182, R232). -/
def Mach.tblCfgOpen (m : Mach) (e wd : Nat) : Word :=
  if m.chst e ≠ 0 then 0
  else if m.chst (e / 2 * 2 + 1) ≠ 0 then (if wd = 0 then ~~~ (word 0x40) else if wd = 14 then ~~~ (word 0x20) else ~~~ (word 0))
  else ~~~ (word 0)

/-- A bond's first or third condition fails: both channels have FUNC CLOCK, and no spare hosts either; `f` is the even channel's function
(R232). -/
def Mach.bondUnfit (m : Mach) (e f : Nat) : Bool :=
  f ≠ 0 || m.t (e + 1) CH_PIN.FUNC ≠ 0 || (m.spareOf e).isSome || (m.spareOf (e + 1)).isSome

/-- The gates of a table word that is committed (R33 steps 5 to 11): the CFG fields are open while the channel is STOPPED,
words 1 to 4 belong to the group while the channel is a member (R209), and a bond needs one owner of both channels; one that fails its
other conditions too sets SWREJ as well (R232). -/
def Mach.tblWrite (w : Who) (port : Port) (busAddr e wd : Nat) (d : Word) (m : Mach) : Mach :=
  let r := tblRow wd
  let old := m.tw e wd
  if m.groupWord e wd then m.accErr w port busAddr cOWNER
  else
    let cfg := word (tblCfg e wd)
    let foreign := wd = 14 && e % 2 = 0 && bitAt d 5 && !bitAt old 5 && bitAt (m.tblCfgOpen e wd) 5 && m.ownCh e ≠ m.ownCh (e + 1)
    let d := if foreign then d &&& ~~~ (word 0x20) else d
    let m := if foreign then m.accErr w port busAddr cOWNER else m
    let openCfg := m.tblCfgOpen e wd
    let mask := word r.rw ||| (cfg &&& openCfg)
    let new := blend old d (mask &&& ~~~ (word r.trg)) &&& ~~~ (d &&& word r.w1c)
    let m1 := if (d ^^^ old) &&& cfg &&& ~~~ openCfg ≠ 0 then m.cfgIgn w else m
    let m2 := if (old ^^^ new) &&& word r.cfg ≠ 0 then m1.cfgChanged else m1
    let kept := if foreign && m.bondUnfit e (getF old 0 2) then setF new 21 1 1 else new
    (m2.setTw e wd kept).push (.tblHook e wd (d &&& (mask ||| word r.w1c)) old kept)

/-- The key under which a group's staging buffer holds a channel-table word, apart from register addresses (R222). -/
def tblKey (off : Nat) : Nat := instSpan + off

/-- The group whose lock the writer holds and of which the channel of a window offset is a member (R222). -/
def Mach.memberLock (m : Mach) (w : Who) (off : Nat) : Option Nat :=
  let n := off / 64
  if n < 256 && m.tb n CH_GRP.MEMBER && w.rights.isSome &&
      (cget (fun _ => ({} : Grp)) m.grps (m.t n CH_GRP.GID)).holder == w.rights then some (m.t n CH_GRP.GID) else none

/-- Whether the member words of a window commit all fit in the staging buffers of their groups (R222). -/
def Mach.memberFit (m : Mach) (w : Who) (words : List Staged) : Bool :=
  (List.range 32).all (fun g =>
    let mine := (words.filter (fun e => m.memberLock w e.at' == some g)).map (fun e => tblKey e.at')
    let held := (cget (fun _ => ({} : Grp)) m.grps g).staged.map Staged.at'
    mine.isEmpty || (held.filter (fun k => !mine.contains k)).length + mine.length ≤ 64)

/-- The staged words of a window commit are handed to their blocks in one REG cycle; for each block the commit counts as one write
against its KEY arm (R51). Of several words that are refused, ACC_STAT keeps the first in staging order, as the words are judged in
that order (DESIGN CHOICE, log entry 75). Words for a member of a group whose lock the writer holds move to the
group's buffer, and a commit whose member words do not fit applies nothing (R222). -/
def Mach.winCommit (x : Win) (w : Who) (a : Acc) (addr : Nat) (m : Mach) : Mach :=
  let words := (m.win x).staged
  let m0 := (m.setWin x { m.win x with staged := [] }).setArm w addr 0
  if x == .chan && !m.memberFit w words then m0.accErr w a.port addr cWINDOW
  else words.foldl (fun t e =>
    match x with
    | .chan =>
      match m.memberLock w e.at' with
      | some g => t.stageGrp w a g { e with at' := tblKey e.at' }
      | none => t.tblWrite w a.port e.bus (e.at' / 64) (e.at' % 64 / 4) e.d
    | .aon => if aonRw e.at' then t.postAon e.at' (blend (t.aw e.at') e.d (word (aonMask e.at')))
              else t.accErr w a.port e.bus cOWNER) m0

/-- A write to one of the window registers (R49 to R54). A write of IND_LOCK_TO by a master that may not write OWN fields is no
refused access: its OWN field keeps its value, and the write still uses up the writer's arm (R33 steps 3 and 5, R37, R38). -/
def Mach.winWrite (x : Win) (w : Who) (a : Acc) (addr : Nat) (d : Word) (m : Mach) : Mach :=
  let b := winBase x
  let o := addr - b
  if o = 0xC then m.winLock x w d
  else if o = 0x10 then m.setReg (b + 0x10) (m.reg (b + 0x10) &&& ~~~ (d &&& word 0x600))
  else if o = 0x14 then
    (if w.isP0 then m.put (IND_LOCK_TO.LIMIT b) (getF d 0 24)
     else if d &&& word 0xFFFFFF ≠ 0 then m.accErr w a.port addr cOWN else m)
  else if o = 4 || 0x400 ≤ o then m.winStage x w a addr d
  else if !m.holds x w then m.accErr w a.port addr cWINDOW
  else if o = 0 then (m.put (IND_ADDR.OFF b) (getF d 0 16)).put (IND_STAT.END b) 0
  else
    let m1 := m.put (IND_CTL.AINC b) (getF d 0 1)
    let m2 := if bitAt d 8 then m1.winCommit x w a addr else m1
    if bitAt d 9 then m2.setWin x { m2.win x with staged := [] } else m2

/-- A committed word write from a port (R33). The host interfaces serve it from CONFIG onward (R348); an unbound access is
ignored outside the registers that accept it (R113, R335). -/
def Mach.busWrite (a : Acc) (addr : Nat) (d : Word) (m : Mach) : Mach :=
  let w := m.bind a
  let m := m.unmarked
  if !m.hostUp then m
  else if addr % 4 ≠ 0 then m.accErr w a.port addr cALIGN
  else if addr / 0x10000 = 15 && m.dev != .teasel then m.accErr w a.port addr cUNMAPPED
  else match rowOf addr with
  | none => m.accErr w a.port addr cUNMAPPED
  | some r =>
    if w == .unbound && !(r.inst == .port && m.anyInst) && !m.teaselOpen addr then m
    else if w == .sec && r.inst == .bank && addr / 0x10000 = 6 && addr % 0x10000 < 0xF000 then m
    else match winOf addr with
    | some x =>
      let m1 := ((m.winWrite x w a addr d).winTouch x w).grpTouch w addr
      if m1.accFlag && addr ≠ winBase x + 0x14 then m1 else m1.setArm w addr 0
    | none => if addr % 0x10000 = 0xFFF0 then m.writeUnlock w a addr d else (m.gatedWrite w a r addr d).grpTouch w addr

end Sys2Proof.Machine
end

