-- ==== Sys2Proof/Machine/Faults.lean ====
section
/-! DEFINITION. Faults (chapter 12): the classifier, entries and where they are recorded, the effects of each level,
acknowledgement, escalation by repeat and by timer, and what a core reset and a partition cut do to the fault lines. -/
namespace Sys2Proof.Machine

/-! Stop causes of CH_STAT.CAUSE (R187). -/
def csHOST : Nat := 1
def csSHED : Nat := 2
def csPART_RESET : Nat := 3
def csRETIRE : Nat := 4
def csBURST_END : Nat := 5
def csOCHRE : Nat := 6
def csWARM : Nat := 7
def csFAULT : Nat := 8
def csBANK_POWER : Nat := 9
def csROOT_LOSS : Nat := 10
def csFORCED : Nat := 11

/-- The key of a fault line: one code of one block as attributed to one partition (R280). -/
def lineKey (b c p : Nat) : Nat := (b * 32 + c) * 16 + p

/-- The line's hidden part. -/
def Mach.line (m : Mach) (b c p : Nat) : Line := cget (fun _ => {}) m.lines (lineKey b c p)

/-- Replace a line's hidden part. -/
def Mach.setLine (b c p : Nat) (l : Line) (m : Mach) : Mach := { m with lines := cset (fun _ => {}) m.lines (lineKey b c p) l }

/-- The line is unacknowledged: its FLT_STAT bit is 1 in its partition's bank (R288). -/
def Mach.unacked (m : Mach) (b c p : Nat) : Bool := (m.reg (0x060000 + 0x400 * b + p * instSpan)).getLsbD c

/-- The line's current level EL. -/
def Mach.lineEl (m : Mach) (b c p : Nat) : Nat := m.f ((FLT_CUR.EL b c).inst p)

/-- The highest level a line escalates to: a CAP below LVL acts as LVL (R290). -/
def Mach.lineCap (m : Mach) (b c : Nat) : Nat := Nat.max (m.f (FLT_CFG.CAP b c)) (m.f (FLT_CFG.LVL b c))

/-- The classifier count N: 0 counts 16 (R298). -/
def Mach.lineN (m : Mach) (b c : Nat) : Nat := if m.f (FLT_CFG.N b c) = 0 then 16 else m.f (FLT_CFG.N b c)

/-- The level at which a raw event would assert or escalate (R284, R289). -/
def Mach.wouldLevel (m : Mach) (r : Raw) : Nat :=
  if !m.unacked r.blk r.code r.part then m.f (FLT_CFG.LVL r.blk r.code)
  else if m.fb (FLT_CFG.REP r.blk r.code) && m.lineEl r.blk r.code r.part < m.lineCap r.blk r.code then m.lineEl r.blk r.code r.part + 1
  else m.lineEl r.blk r.code r.part

/-- The channel whose engine is the source of a channel-block event, if it serves one. -/
def Mach.srcChannel (m : Mach) (src : Nat) : Option Nat := if src < 256 then some src else m.hosted (src - 256)

/-- The four words of an entry (R298). -/
def entryWords (seq : Nat) (r : Raw) (lvl : Nat) (esc etim skip : Bool) (ts : Nat) : List Word :=
  [word (seq + 4096 * (r.src % 512) + 2 ^ 21 * r.code + 2 ^ 26 * lvl + 2 ^ 28 * b2n esc + 2 ^ 29 * b2n etim
      + 2 ^ 30 * b2n r.inj + 2 ^ 31),
   r.pay, word ts,
   word (ts / 2 ^ 32 % 2 ^ 24 + 2 ^ 24 * r.part + 2 ^ 28 * b2n skip)]

/-- Write words at consecutive register addresses. -/
def Mach.setRegs (k : Nat) (ws : List Word) (m : Mach) : Mach :=
  (ws.zipIdx).foldl (fun t e => t.setReg (k + 4 * e.2) e.1) m

/-- Whether a new entry becomes DEV_FIRST (R285, R293): none is held, the one held is of before the last core reset, or they
share a TS and the new one has the higher level, or the same level and a lower block. -/
def Mach.beatsDevFirst (m : Mach) (b lvl : Nat) : Bool :=
  let h := m.f (DEV_FIRST.W 0)
  let held := m.fb DEV_FIRST_BLK.VALID
  let pre := m.f (DEV_FIRST.W 3) / 2 ^ 29 % 2 == 1
  let sameTs := m.f (DEV_FIRST.W 2) == m.ts % 2 ^ 32 && m.f (DEV_FIRST.W 3) % 2 ^ 24 == m.ts / 2 ^ 32 % 2 ^ 24
  let lv := h / 2 ^ 26 % 4
  !held || pre || (sameTs && (lv < lvl || (lv == lvl && b < m.f DEV_FIRST_BLK.BLK)))

/-- Post the FAULT record of an entry to partition p's event queue (R286, R389). -/
def Mach.faultRecord (p seq : Nat) (r : Raw) (lvl : Nat) (esc etim : Bool) (m : Mach) : Mach :=
  m.event p 2 (r.blk + 16 * r.part)
    (word (seq + 4096 * (r.src % 512) + 2 ^ 21 * r.code + 2 ^ 26 * lvl + 2 ^ 28 * b2n esc + 2 ^ 29 * b2n etim + 2 ^ 30 * b2n r.inj)) r.pay

/-- The event records of an entry (R286): L1 to the attributed partition, L2 also to P0, L3 to every instantiated partition. -/
def Mach.faultRecords (seq : Nat) (r : Raw) (lvl : Nat) (esc etim : Bool) (m : Mach) : Mach :=
  if lvl = 0 then m
  else forN 16 (fun p t => applyIf (p == r.part || (lvl ≥ 2 && p == 0) || lvl ≥ 3) (Mach.faultRecord p seq r lvl esc etim) t) m

/-- The code action of an entry (R287). STOP stops the source's channel; OCHRE begins the park phase, in RUN only. -/
def Mach.faultAction (r : Raw) (lvl : Nat) (m : Mach) : Mach :=
  match fltAction r.blk r.code lvl with
  | .none => m
  | .stop => match m.srcChannel r.src with
    | some n => m.push (.stop n csFAULT)
    | none => m
  | .ochre => if m.dev == .run then m.push (.ochre 5) else m

/-- Write one entry: history, FIRST_FAULT, DEV_FIRST, status, level, timer, records, locks and code action (R283 to R287, R290). -/
def Mach.entry (r : Raw) (lvl : Nat) (esc etim : Bool) (m : Mach) : Mach :=
  let b := r.blk
  let seq := m.f (FLT_SEQ.NEXT b)
  let skip := fltAction b r.code lvl == .ochre && m.dev != .run
  let ws := entryWords seq r lvl esc etim skip m.ts
  let m1 := (m.setRegs (0x060100 + 0x400 * b + 16 * (seq % 8)) ws).put (FLT_SEQ.NEXT b) ((seq + 1) % 4096)
  let m2 := if (m1.f (FIRST_FAULT.W b 0)) / 2 ^ 31 = 0 then m1.setRegs (0x060020 + 0x400 * b) ws else m1
  let m3 := if m2.beatsDevFirst b lvl then ((m2.setRegs 0x06F010 ws).put DEV_FIRST_BLK.BLK b).put DEV_FIRST_BLK.VALID 1 else m2
  let m4 := (m3.orReg (0x060000 + 0x400 * b + r.part * instSpan) (2 ^ r.code)).put ((FLT_CUR.EL b r.code).inst r.part) lvl
  let m5 := if esc then m4.orReg (0x060008 + 0x400 * b + r.part * instSpan) (2 ^ r.code) else m4
  let run := m5.f (FLT_CFG.ESC_T b r.code) ≠ 0 && lvl < m5.lineCap b r.code
  let m6 := m5.setLine b r.code r.part { m5.line b r.code r.part with
    src := r.src, pay := r.pay, owned := r.owned, inj := r.inj, timer := if run then some (m5.now + m5.f (FLT_CFG.ESC_T b r.code) * msec) else none }
  let m7 := m6.faultRecords seq r lvl esc etim
  let m8 := if lvl ≥ 2 && r.owned then m7.push (.freeLocks r.part 2) else m7
  m8.faultAction r lvl

/-- A raw event asserts (R289). -/
def Mach.assertFault (r : Raw) (m : Mach) : Mach :=
  let b := r.blk
  let c := r.code
  if !m.unacked b c r.part then m.entry r (m.f (FLT_CFG.LVL b c)) false false
  else if m.fb (FLT_CFG.REP b c) && m.lineEl b c r.part < m.lineCap b c then m.entry r (m.lineEl b c r.part + 1) true false
  else if m.lineEl b c r.part = 0 then m.entry r 0 false false
  else m.put ((FLT_CUR.REPS b c).inst r.part) (satInc 255 (m.f ((FLT_CUR.REPS b c).inst r.part)))

/-- The classifier window in 5 ns steps (R298): 10 µs times a power of ten. -/
def Mach.lineWin (m : Mach) (b c : Nat) : Nat := 2000 * 10 ^ Nat.min 8 (m.f (FLT_CFG.WIN b c))

/-- The pending raw events of a line that lie within the window now: FLT_CUR.RAW counts them (R282). -/
def Mach.rawsIn (m : Mach) (b c p : Nat) : List Nat := (m.line b c p).raws.filter (fun t => m.now ≤ t + m.lineWin b c)

/-- Replace the pending raw events of a line. -/
def Mach.setRaws (b c p : Nat) (l : List Nat) (m : Mach) : Mach := m.setLine b c p { m.line b c p with raws := l }

/-- Whole milliseconds until a line's escalation, a begun one counted: FLT_CUR.ETL (R298). -/
def Mach.escLeft (m : Mach) (b c p : Nat) : Nat := (m.line b c p).timer.elim 0 (fun d => (d - m.now + msec - 1) / msec)

/-- A raw event passes through its block's classifier (R282): it asserts when, with those pending, N lie within the window. -/
def Mach.classify (r : Raw) (m : Mach) : Mach :=
  if r.code ≥ faultCodes r.blk then m
  else
    let l := m.rawsIn r.blk r.code r.part
    if m.lineN r.blk r.code ≤ l.length + 1 then (if (m.line r.blk r.code r.part).raws.isEmpty then m else m.setRaws r.blk r.code r.part []).assertFault r
    else m.setRaws r.blk r.code r.part (m.now :: l)

/-- The order in which one block takes the raw events of one cycle (R284): higher level, then lower code, then lower source. -/
def Mach.before (m : Mach) (r t : Raw) : Bool :=
  let lr := m.wouldLevel r
  let lt := m.wouldLevel t
  lt < lr || (lt == lr && (r.code < t.code || (r.code == t.code && r.src ≤ t.src)))

/-- The raw events of one block that wait on the agenda. -/
def rawsOf (b : Nat) (ws : List Work) : List Raw :=
  ws.filterMap (fun w => match w with | .raw r => if r.blk = b then some r else none | _ => none)

/-- Take a raw event together with those of its block that wait: the first in the order of R284 is classified now, the others
stay on the agenda. -/
def Mach.takeRaw (r : Raw) (m : Mach) : Mach :=
  let best := (rawsOf r.blk m.todo).foldl (fun x t => if m.before x t then x else t) r
  let m1 := if best = r then m else { m with todo := .raw r :: m.todo.erase (.raw best) }
  m1.classify best

/-- A line can escalate (R289, R290). -/
def Mach.escalates (m : Mach) (b c p : Nat) : Bool := m.unacked b c p && decide (m.lineEl b c p < m.lineCap b c)

/-- The escalation entry by timer at a level: it carries the latest entry's source and payload (R290). -/
def Mach.escEntry (b c p lvl : Nat) (m : Mach) : Mach :=
  let l := m.line b c p
  m.entry { blk := b, code := c, src := l.src, pay := l.pay, part := p, owned := l.owned, inj := l.inj } lvl true true

/-- A line's escalation timer has ended. -/
def Mach.escOne (b c p : Nat) (m : Mach) : Mach :=
  if m.escalates b c p then m.escEntry b c p (m.lineEl b c p + 1) else m.setLine b c p { m.line b c p with timer := none }

/-- The lines of block b whose timers end at one instant, in the order of R284. -/
def Mach.escBatch (m : Mach) (b d : Nat) : List (Nat × Nat) :=
  let l := (List.range (faultCodes b)).flatMap (fun c => ((List.range 16).filter (fun p => (m.line b c p).timer == some d)).map (fun p => (c, p)))
  let k := fun (x : Nat × Nat) => [4 - m.lineEl b x.1 x.2, x.1, (m.line b x.1 x.2).src]
  sortBy (fun x y => decide (k x ≤ k y)) l

/-- ESCALATION_TIMER (R284, R290): time moves on to the timer's end, where every line of the block whose timer ends then escalates in the
order of R284; the ends of those others have then been taken. -/
def Mach.escExpire (b c p : Nat) (m : Mach) : Mach :=
  let l := m.line b c p
  if l.joined == some m.now then m.setLine b c p { l with joined := none }
  else match l.timer with
  | none => m
  | some d =>
    let m1 := m.advNow d
    (m1.escBatch b d).foldl (fun t x =>
      let t1 := t.escOne b x.1 x.2
      if x == (c, p) then t1 else t1.setLine b x.1 x.2 { t1.line b x.1 x.2 with joined := some t1.now }) m1

/-- The registers and the timer of an acknowledged line (R288): EL returns to LVL, the timer stops, FLT_ESC clears and the repeats are
counted afresh. -/
def Mach.ackDo (b c p : Nat) (m : Mach) : Mach :=
  let bit := ~~~ (word (2 ^ c))
  let ks := 0x060000 + 0x400 * b + p * instSpan
  let m1 := (m.setReg ks (m.reg ks &&& bit)).setReg (ks + 8) (m.reg (ks + 8) &&& bit)
  (((m1.put ((FLT_CUR.EL b c).inst p) (m1.f (FLT_CFG.LVL b c))).put ((FLT_CUR.REPS b c).inst p) 0).setLine b c p
    { m1.line b c p with timer := none })

/-- Acknowledge a line (R288, R291). Where its timer has ended and its escalation is not yet recorded, the escalation counts as decided: it
is written after an acknowledgement within the 20 ns of R292, and before a later one. -/
def Mach.ackLine (b c p : Nat) (m : Mach) : Mach :=
  match (m.line b c p).timer with
  | none => m.ackDo b c p
  | some d =>
    if m.now < d || !m.escalates b c p then m.ackDo b c p
    else if m.now < d + 4 then (m.ackDo b c p).escEntry b c p (m.lineEl b c p + 1)
    else (m.escOne b c p).ackDo b c p

/-- Acknowledge the lines whose bits a write names (R288). -/
def Mach.ackBits (b p : Nat) (bits : Word) (m : Mach) : Mach :=
  forN (faultCodes b) (fun c t => applyIf (bits.getLsbD c) (Mach.ackLine b c p) t) m

/-- FLT_CTL.ACKALL: every unacknowledged line of the block in every bank (R288). -/
def Mach.ackAll (b : Nat) (m : Mach) : Mach :=
  forN 16 (fun p t => t.ackBits b p (t.reg (0x060000 + 0x400 * b + p * instSpan))) m

/-- RAW_EVENT_AGE (R282): time moves on until the oldest pending raw event is older than WIN, and it is dropped. -/
def Mach.ageRaw (b c p : Nat) (m : Mach) : Mach :=
  match (m.line b c p).raws.getLast? with
  | none => m
  | some t =>
    let m1 := m.advNow (t + m.lineWin b c + 1)
    m1.setRaws b c p (m1.rawsIn b c p)

/-- A new N or WIN clears the line's pending raw events, in every bank (R291). -/
def Mach.fltCfgChanged (b c : Nat) (old new : Word) (m : Mach) : Mach :=
  if getF old 4 8 = getF new 4 8 then m
  else forN 16 (fun p t => applyIf (!(t.line b c p).raws.isEmpty) (Mach.setRaws b c p []) t) m

/-- A fault of partition p's lines at the cut: acknowledged and cleared, escalations abandoned, and FLT_IEN at its reset
value; history stays (R293). -/
def Mach.clearLines (p : Nat) (m : Mach) : Mach :=
  { m with lines := cdrop (fun k => k % 16 == p) m.lines }

/-- Block b requests partition p's fault interrupt (R294). -/
def Mach.fltReq (m : Mach) (b p : Nat) : Bool :=
  (List.range (faultCodes b)).any (fun c =>
    m.unacked b c p && (m.reg (0x060004 + 0x400 * b + p * instSpan)).getLsbD c && m.lineEl b c p ≥ 1)

/-- FLT_SUM of partition p (R294). -/
def Mach.fltSum (m : Mach) (p : Nat) : Nat :=
  (List.range 14).foldl (fun acc b => if m.fltReq b p then acc + 2 ^ b else acc) 0

/-- Some L3 line is unacknowledged: RESUME is refused (R122, R286). -/
def Mach.anyL3 (m : Mach) : Bool :=
  (List.range 14).any (fun b => (List.range (faultCodes b)).any (fun c => (List.range 16).any (fun p =>
    m.unacked b c p && m.lineEl b c p == 3)))

/-- A core reset marks every valid entry as written before it (R293). -/
def Mach.markPre (m : Mach) : Mach :=
  let mark := fun (k : Nat) (t : Mach) =>
    if (t.reg k).getLsbD 31 then t.setReg (k + 12) (setF (t.reg (k + 12)) 29 1 1) else t
  let m1 := forN 14 (fun b t => mark (0x060020 + 0x400 * b) (forN 8 (fun e u => mark (0x060100 + 0x400 * b + 16 * e) u) t)) m
  mark 0x06F010 m1

/-- An injected raw event (R295), attributed as a real one; an undefined block or code delivers nothing. -/
def Mach.inject (m : Mach) : Mach :=
  let b := m.f FLT_INJ.BLK
  let c := m.f FLT_INJ.CODE
  let s := m.f FLT_INJ.SRC
  if b < 14 && c < faultCodes b then
    m.push (.raw { blk := b, code := c, src := s, pay := m.reg 0x0F0604, part := (m.attribute b c s).1 % 16,
                   owned := (m.attribute b c s).2, inj := true })
  else m

end Sys2Proof.Machine
end

