-- ==== Sys2Proof/Machine/ChanBase.lean ====
section
/-! DEFINITION. The channel engine's arithmetic (chapter 08): time, the phase grid, parameter limits, edges, phase moves,
spread and the cost estimate of chapter 13. -/
namespace Sys2Proof.Machine

/-- The grid time in fine steps. -/
def Mach.fine (m : Mach) : Nat := 64 * m.grid

/-! ## A channel's hidden part -/

/-- The hidden part of channel n. -/
def Mach.ch (m : Mach) (n : Nat) : Chan := cget (fun _ => {}) m.chans n

/-- Replace the hidden part of channel n. -/
def Mach.setCh (n : Nat) (c : Chan) (m : Mach) : Mach := { m with chans := cset (fun _ => {}) m.chans n c }

/-- Change the hidden part of channel n. -/
def Mach.updCh (n : Nat) (f : Chan → Chan) (m : Mach) : Mach := m.setCh n (f (m.ch n))

/-! ## Pin use and limits (R181, R182) -/

/-- The even channel of a pair. -/
def evenOf (n : Nat) : Nat := n / 2 * 2

/-- The pair's pins are bonded (R232). -/
def Mach.bonded (m : Mach) (n : Nat) : Bool := m.tb (evenOf n) CH_PIN.BOND

/-- The pair runs doubled (R182). -/
def Mach.doubled (m : Mach) (n : Nat) : Bool := m.tb (evenOf n) CH_CTL.DOUBLE

/-- The shortest high or low time of the pin's use, in PHS cycles (R181). -/
def Mach.pinMin (m : Mach) (n : Nat) : Nat := if m.bonded n then 1 else 2

/-- MPER: output periods in one modulation period, halves rounded up (R197). -/
def mper (n rate : Nat) : Nat := if n * rate = 0 then 0 else 4 * ((2400000000 + 4000 * rate * n) / (8000 * rate * n))

/-- The spread settings are valid for a period (R197). -/
def spreadOk (n depth rate : Nat) (dbl : Bool) : Bool :=
  1 ≤ depth && depth ≤ 20 && 30 ≤ rate && rate ≤ 63 && 16 ≤ mper n rate && mper n rate ≤ 65532 && !dbl

/-- The period check (PERR PERIOD). -/
def Mach.badPeriod (m : Mach) (e n : Nat) : Bool :=
  if m.doubled e then n < 2 || n % 2 == 1 else if m.bonded e then n < 2 else n < 5

/-- The high-time check (PERR HIGH). -/
def Mach.badHigh (m : Mach) (e n h : Nat) : Bool :=
  if m.doubled e then 2 * h != n else h < m.pinMin e || n < h + m.pinMin e

/-- The first failed check of a set N, H, P against the pin's limits, in code order (R181, R184). -/
def Mach.liveCheck (m : Mach) (e n h p : Nat) : Option Nat :=
  if m.badPeriod e n then some 1
  else if m.badHigh e n h then some 2
  else if p ≥ n then some 3
  else none

/-- The pin check (PERR PIN): the function is CLOCK, the slow driver has N of at least 24, and the odd channel of a bonded
pair does not start alone (R181, R231, R232). -/
def Mach.badPin (m : Mach) (e : Nat) : Bool :=
  m.t e CH_PIN.FUNC != 0 || (!m.bonded e && m.tb e CH_PIN.SLOW && m.t e CH_PERIOD.N < 24)
    || (m.bonded e && e % 2 == 1 && !m.doubled e)

/-- The channel's group is one whose slot admits it. -/
def Mach.member (m : Mach) (n : Nat) : Bool := m.tb n CH_GRP.MEMBER

/-- The first failed check of a start request, in ascending PERR code (R184, R197, R199, R210, R231, R232). -/
def Mach.startCheck (m : Mach) (e : Nat) : Option Nat :=
  let n := m.t e CH_PERIOD.N
  let mem := m.member e
  let spread := m.tb e CH_SPREAD.EN
  if m.badPeriod e n || (mem && !m.fb (GRP_CFG.EN (m.t e CH_GRP.GID))) then some 1
  else if m.badHigh e n (m.t e CH_HIGH.H) then some 2
  else if m.t e CH_PHASE.P ≥ n then some 3
  else if m.t e CH_CTL.MODE == 3 || (mem && m.t e CH_CTL.MODE != 0) then some 4
  else if m.t e CH_CTL.MODE == 1 && m.t e CH_BURST.COUNT == 0 then some 5
  else if spread && (mem || !spreadOk n (m.t e CH_SPREAD.DEPTH) (m.t e CH_SPREAD.RATE) (m.doubled e)) then some 6
  else if m.doubled e && (mem || !m.bonded e) then some 7
  else if m.badPin e then some 8
  else none

/-! ## Edges and moves (R180, R185, R195) -/

/-- The phase of a channel in fine steps (R180). -/
def phaseOf (n p d : Nat) (trim : Int) : Nat :=
  if n = 0 then 0 else ((((64 * p + d : Nat) : Int) + trim) % ((64 * n : Nat) : Int)).toNat

/-- The first ideal rising edge at or after a time, in fine steps (R180). -/
def edgeFrom (n phi t : Nat) : Nat :=
  if n = 0 then t else if t ≤ phi then phi else phi + 64 * n * ((t - phi + 64 * n - 1) / (64 * n))

/-- The move Δ of R195 step 1: the shorter way round, in (−32N, 32N]. -/
def moveDelta (n target phi : Nat) : Int :=
  if n = 0 then 0
  else
    let x := (((target : Int) - phi) % ((64 * n : Nat) : Int))
    if x > ((32 * n : Nat) : Int) then x - ((64 * n : Nat) : Int) else x

/-- The largest step by which a period may be shortened at N and H: the period stays at least half, and neither time falls
below 64 fine steps or the pin's minimum (R195 steps 3 and 4). -/
def shortMax (n h pin : Nat) : Nat :=
  let mn := 64 * Nat.max 1 pin
  if h = 0 || n ≤ h || 64 * h < mn || 64 * (n - h) < mn then 0
  else Nat.min (32 * n) (Nat.min (((64 * h - mn + 1) * n - 1) / h) ((64 * (n - h) - mn) * n / (n - h)))

/-- The move taken: the longer way round by lengthening, where no period may be shortened (R195 step 1). -/
def moveTaken (n h pin : Nat) (delta : Int) : Int :=
  if delta < 0 && shortMax n h pin = 0 then delta + ((64 * n : Nat) : Int) else delta

/-- The step of each period of a move (R195 steps 2 and 3); a SLEW of 0 acts as 1. -/
def moveStep (n h pin slew : Nat) (delta : Int) : Nat :=
  let s := Nat.min delta.natAbs (Nat.max 1 slew)
  if delta < 0 then Nat.min s (shortMax n h pin) else s

/-- The time error of a spreading channel after `j` periods, in fine steps (R197): the deviation rises linearly over half of a
modulation period and falls over the other half; rounded to whole fine steps with the residue carried, halves up. -/
def spreadErr (n depth mper j : Nat) : Int :=
  if mper = 0 then 0
  else
    let i := j % mper
    let q := if 2 * i ≤ mper then i else i - mper / 2
    let x : Int := ((depth * 64 * n * q : Nat) : Int) * (2 * (q : Int) - (mper : Int))
    ((if 2 * i ≤ mper then 2 * x else -(2 * x)) + ((1000 * mper : Nat) : Int)) / ((2000 * mper : Nat) : Int)

/-- The spread deviation of the period that follows the reference edge (R197). -/
def periodDev (c : Chan) : Int := spreadErr c.n c.depth c.mper (c.e0 + 1 - c.spRef) - spreadErr c.n c.depth c.mper (c.e0 - c.spRef)

/-- A shortening move whose steps the spread deviation can narrow: step 3 of R195 applies to the sum of both (R198). -/
def tight (c : Chan) : Bool := decide (c.rem < 0) && c.mper != 0 && decide (c.room < c.step + (c.depth * 64 * c.n + 999) / 1000 + 1)

/-- The reference edge moved on by one period of a tight move. -/
def tightPeriod (c : Chan) : Chan :=
  let s := Nat.min (Nat.min c.rem.natAbs c.step) ((c.room : Int) + periodDev c).toNat
  { c with t0 := c.t0 + (64 * c.n - s), e0 := c.e0 + 1, rem := c.rem + s,
           phi := (((c.phi : Int) - s) % ((64 * c.n : Nat) : Int)).toNat, step := if c.rem + s = 0 then 0 else c.step }

/-- A tight move followed period by period while the next edge meets a condition. -/
def crawl : Nat → (Chan → Bool) → Chan → Chan
  | 0, _, c => c
  | k + 1, go, c => if tight c && go (tightPeriod c) then crawl k go (tightPeriod c) else c

/-- A tight move followed to its end: each modulation period has periods that the spread lengthens, so the move ends within them. -/
def crawlEnd (c : Chan) : Chan := crawl (2 * c.rem.natAbs + c.mper + 2) (fun _ => true) c

/-- Whole periods that a move takes. -/
def movePeriods (c : Chan) : Nat :=
  if tight c then (crawlEnd c).e0 - c.e0 else if c.step = 0 then 0 else (c.rem.natAbs + c.step - 1) / c.step

/-- The time of the rising edge at which the move is used up, spread aside. -/
def moveEnd (c : Chan) : Nat := if tight c then (crawlEnd c).t0 else (((c.t0 + movePeriods c * 64 * c.n : Nat) : Int) + c.rem).toNat

/-- The length of a period while the move runs. -/
def movePer (c : Chan) : Nat := if c.rem < 0 then 64 * c.n - c.step else 64 * c.n + c.step

/-- The last rising edge at or before a time, with every period of the move but the last changed by its step. -/
def rebaseEven (c : Chan) (t : Nat) : Chan :=
  if c.n = 0 || t < c.t0 then c
  else
    let k := movePeriods c
    let per := movePer c
    let j := (t - c.t0) / per
    if j < k then
      let moved := j * c.step
      { c with t0 := c.t0 + j * per, e0 := c.e0 + j,
               rem := if c.rem < 0 then c.rem + moved else c.rem - moved,
               phi := (((c.phi : Int) + (if c.rem < 0 then -(moved : Int) else moved)) % ((64 * c.n : Nat) : Int)).toNat }
    else
      let t1 := (((c.t0 + k * 64 * c.n : Nat) : Int) + c.rem).toNat
      let i := if t < t1 then 0 else (t - t1) / (64 * c.n)
      { c with t0 := t1 + i * 64 * c.n, e0 := c.e0 + k + i, rem := 0, step := 0,
               phi := (((c.phi : Int) + c.rem) % ((64 * c.n : Nat) : Int)).toNat }

/-- The last rising edge at or before a time, spread aside, as the new reference edge: time, number, phase and remaining move. -/
def rebase (c : Chan) (t : Nat) : Chan :=
  let c1 := crawl ((t - c.t0) / (16 * Nat.max 1 c.n) + 1) (fun x => decide (x.t0 ≤ t)) c
  if tight c1 then c1 else rebaseEven c1 t

/-- The rising edge that follows the reference edge. -/
def nextRise (c : Chan) : Nat :=
  if tight c then (tightPeriod c).t0
  else if c.rem = 0 then c.t0 + 64 * c.n
  else if c.rem.natAbs < c.step then (((c.t0 + 64 * c.n : Nat) : Int) + c.rem).toNat else c.t0 + movePer c

/-- Whole periods by which spread can move an edge, and two more. -/
def spreadPad (c : Chan) : Nat := if c.mper = 0 then 0 else c.depth * c.mper / 8000 + 2

/-- The time at which the reference edge rises, spread included. -/
def edgeAt (c : Chan) : Nat := ((c.t0 : Int) + spreadErr c.n c.depth c.mper (c.e0 - c.spRef)).toNat

/-- Walk the reference edge forward to the first edge that rises at or after a time. -/
def walkTo : Nat → Chan → Nat → Chan
  | 0, c, _ => c
  | k + 1, c, t => if t ≤ edgeAt c then c else walkTo k (rebase c (nextRise c)) t

/-- The first rising edge of the engine at or after a time, ideal, slewed or spread, as the reference edge. -/
def edgeFrom' (c : Chan) (t : Nat) : Chan := walkTo (2 * spreadPad c + 3) (rebase c (t - 64 * c.n * spreadPad c)) t

/-- Walk the reference edge forward to the last edge that rises at or before a time. -/
def walkLast : Nat → Chan → Nat → Chan
  | 0, c, _ => c
  | k + 1, c, t => if edgeAt (rebase c (nextRise c)) ≤ t then walkLast k (rebase c (nextRise c)) t else c

/-- The last rising edge of the engine at or before a time, as the reference edge. -/
def lastRise (c : Chan) (t : Nat) : Chan := walkLast (2 * spreadPad c + 3) (rebase c (t - 64 * c.n * spreadPad c)) t

/-- The high time of the period after the reference edge, in fine steps: a move changes it by s × H / N, rounded toward zero
(R195 step 4). -/
def highTime (c : Chan) : Nat :=
  (64 * (c.h : Int) + Int.tdiv (((nextRise c : Int) - c.t0 - 64 * c.n) * c.h) (Nat.max 1 c.n)).toNat

/-- The time of the first rising edge of the engine at or after a time. -/
def riseFrom (c : Chan) (t : Nat) : Nat := edgeAt (edgeFrom' c t)

/-- The time of rising edge number `e`, for an edge not before the reference edge. -/
def edgeTime (c : Chan) (e : Nat) : Nat :=
  let x := crawl (e - c.e0) (fun x => decide (x.e0 ≤ e)) c
  let d := e - x.e0
  let k := if tight x then 0 else movePeriods x
  let g := if d ≤ k && d * x.step ≤ x.rem.natAbs then x.t0 + d * movePer x else (((x.t0 + d * 64 * x.n : Nat) : Int) + x.rem).toNat
  ((g : Int) + spreadErr c.n c.depth c.mper (e - c.spRef)).toNat

/-- The engine's rising edges up to a time. -/
def edgesAt (c : Chan) (t : Nat) : Nat := (edgeFrom' c (t + 1)).e0 - 1

/-- The first ideal rising edge of the active settings at or after a time (R180). -/
def idealFrom (c : Chan) (t : Nat) : Nat := edgeFrom c.n (phaseOf c.n c.p c.d c.trim) t

/-- A one-shot channel's pulse periods rolled on to a time (R200): a finished pulse period counts, and a held trigger's pulse
follows it at the first ideal rising edge that is late enough for both. -/
def rollShot (c : Chan) (t : Nat) : Chan :=
  let step := fun (c : Chan) => match c.pulse with
    | some p =>
      if p + 64 * c.n ≤ t then
        { c with e0 := c.e0 + 1, pulse := c.trigHeld.map (fun h => idealFrom c (Nat.max h (p + 64 * c.n))),
                 trigAt := c.trigHeld.elim c.trigAt (fun h => Nat.max h (p + 64 * c.n)), trigHeld := none }
      else c
    | none => c
  step (step c)

/-- A pulse that has not begun by a time takes its place on the ideal grid now in force (R194, R200). -/
def replaceShot (c : Chan) (t : Nat) : Chan :=
  match c.pulse with
  | some p => if t < p then { c with pulse := some (idealFrom c (Nat.max c.trigAt t)) } else c
  | none => c

/-- The odd channel of a DOUBLE pair: its engine runs as the even one does, a quarter period later (R182). -/
def Mach.oddDouble (m : Mach) (n : Nat) : Bool := n % 2 == 1 && m.doubled n

/-- The rising edges, up to a time, of the engine of channel n, which runs with the settings of channel e: two of a pair where it is
doubled. -/
def Mach.edgesBy (m : Mach) (n e t : Nat) : Nat :=
  let c := m.ch e
  match m.chst e with
  | 0 => (m.ch n).e0
  | 1 => 0
  | _ =>
    if m.t e CH_CTL.MODE = 2 then
      let r := rollShot c t
      r.e0 + b2n (r.pulse.any (fun p => p ≤ t))
    else if !m.boot.clocks then c.e0 - 1
    else edgesAt c (if m.chst e = 3 then Nat.min t (c.stopEnd - 1) else t)

/-- The engine's rising edges so far, as CH_CNT reports them (R182, R203). -/
def Mach.edges (m : Mach) (n : Nat) : Nat :=
  if m.oddDouble n then m.edgesBy n (evenOf n) (m.fine - 16 * (m.ch (evenOf n)).n) else m.edgesBy n n m.fine

/-- The trim correction in force (R180). -/
def Mach.trim (m : Mach) (n : Nat) : Int := signed 16 (m.t n CH_TRIM.TRIM)

/-- The limit on the step of a channel's moves: CH_SLEW, and for a group member also GSLEW, 0 acting as 1 (R195, R217). -/
def Mach.slewLimit (m : Mach) (n : Nat) : Nat :=
  let s := Nat.max 1 (m.ch n).slew
  if m.member n then Nat.min s (Nat.max 1 (m.grp (m.t n CH_GRP.GID)).gslew) else s

/-- The limit on the step of a move by Δ: one that an evaluation starts is narrowed so that it takes DUR periods (R217). -/
def Mach.moveLimit (m : Mach) (n : Nat) (byEval : Bool) (delta : Int) : Nat :=
  let dur := Nat.max 1 (m.grp (m.t n CH_GRP.GID)).dur
  if byEval && m.member n then Nat.min (m.slewLimit n) (Nat.max 1 ((delta.natAbs + dur - 1) / dur)) else m.slewLimit n

/-- Begin a phase move of a running engine at its reference edge toward its active phase, with Δ formed from its actual phase there
(R194 to R196, R198); `byEval` says that an evaluation starts it. -/
def Mach.beginMove (n : Nat) (byEval : Bool) (m : Mach) : Mach :=
  let c := m.ch n
  let target := phaseOf c.n c.p c.d c.trim
  let delta := moveTaken c.n c.h (m.pinMin n) (moveDelta c.n target (c.phi % (64 * Nat.max 1 c.n)))
  let slew := m.moveLimit n byEval delta
  let s := if c.mper = 0 then moveStep c.n c.h (m.pinMin n) slew delta else Nat.min delta.natAbs (Nat.max 1 slew)
  let c1 := { c with rem := delta, step := s, room := shortMax c.n c.h (m.pinMin n) }
  if delta = 0 || s = 0 then (m.setCh n { c with rem := 0, step := 0, moveLen := 0 }).tput n CH_STAT.SLEWING 0
  else (m.setCh n { c1 with moveLen := movePeriods c1 }).tput n CH_STAT.SLEWING 1

/-- Load the engine's active values from the channel's table (R183, R192, R197). -/
def Mach.loadActive (n : Nat) (m : Mach) : Mach :=
  let per := m.t n CH_PERIOD.N
  let on := m.tb n CH_SPREAD.EN
  m.updCh n (fun c => { c with n := per, h := m.t n CH_HIGH.H, p := m.t n CH_PHASE.P, d := m.t n CH_FINE.D,
                               slew := m.t n CH_SLEW.SLEW, trim := m.trim n, shadow := false, byEval := false, willMove := false,
                               depth := if on then m.t n CH_SPREAD.DEPTH else 0, mper := if on then mper per (m.t n CH_SPREAD.RATE) else 0 })

/-- The grid times of a pin's intervals when the grid counter is set on by `d`: the intervals keep their lengths. -/
def shiftPin (d : Int) (c : Chan) : Chan :=
  let mv := fun (x : Nat) => if c.swStep = 0 then 0 else ((x : Int) + d).toNat
  { c with parkEnd := mv c.parkEnd, swFrom := mv c.swFrom, routeEnd := ((c.routeEnd : Int) + d).toNat,
           cleanGate := c.cleanGate.map (fun x => ((x : Int) + 64 * d).toNat), gateAt := if c.gateAt = 0 then 0 else ((c.gateAt : Int) + d).toNat,
           relEdge := c.relEdge.map (fun x => ((x : Int) + 64 * d).toNat), lvl := c.lvl.map (fun x => (((x.1 : Int) + d).toNat, x.2)) }

/-- Choose the first rising edge (R185): the first ideal one at least 64 PHS cycles from now, and not before the end of a park
interval of the pin (R235). -/
def Mach.chooseFirst (n : Nat) (m : Mach) : Mach :=
  m.updCh n (fun c =>
    let f := edgeFrom c.n (phaseOf c.n c.p c.d c.trim) (64 * Nat.max (m.grid + 64) (Nat.max c.parkEnd c.routeEnd))
    { c with first := f, t0 := f, e0 := if m.t n CH_CTL.MODE = 2 then 0 else 1, phi := f % (64 * Nat.max 1 c.n), rem := 0, step := 0,
             spRef := if m.t n CH_CTL.MODE = 2 then 0 else 1, highTo := 0, regrid := false })

/-- Committed words wait in the channel's shadow, until the first rising edge at or after time `at'`; words that wait already are
adopted with them, at the later time (log entry 21). -/
def Mach.shadowFrom (at' n : Nat) (m : Mach) : Mach :=
  m.updCh n (fun c => { c with shadow := true, shadowAt := if c.shadow || c.regrid then Nat.max c.shadowAt at' else at' })

/-- Committed words wait until the first rising edge at least 12 PHS cycles from now (R192). -/
def Mach.toShadow (n : Nat) (m : Mach) : Mach := m.shadowFrom (m.fine + 768) n

/-- The table words read back the active values (R193). -/
def Mach.readBack (n : Nat) (m : Mach) : Mach :=
  let c := m.ch n
  ((((((m.tput n CH_PERIOD.N c.n).tput n CH_HIGH.H c.h).tput n CH_PHASE.P c.p).tput n CH_FINE.D c.d).tput n CH_SLEW.SLEW c.slew).tput n
    CH_TRIM.TRIM (unsign 16 c.trim)).updCh n (fun c => { c with shadow := false, byEval := false, willMove := false })

/-! ## Cost (R299 to R301) -/

/-- The load capacitance of a class, in pF (R300). -/
def loadPf : Nat → Nat
  | 0 => 5 | 1 => 10 | 2 => 15 | 3 => 22 | 4 => 33 | 5 => 47 | 6 => 68 | _ => 100

/-- The bank's detected class: 0 absent, 1 1.8 V, 2 2.5 V, 3 3.3 V (R98). -/
def Mach.bankClass (m : Mach) (k : Nat) : Nat := cget (fun _ => 0) m.pwr.cls k

/-- The square of a class's voltage in hundredths of a square volt. -/
def classV2 : Nat → Nat
  | 1 => 324 | 2 => 625 | 3 => 1089 | _ => 0

/-- C_n in µW, rounded up (R299): engine terms 960 µW + 4.8 µW/MHz, the pin's (4 pF + C_L) V² f, or 10,000 µW for a bonded
pair driven by its even channel. Everything is taken over N × 10,000. -/
def Mach.cost (m : Mach) (n : Nat) : Nat :=
  let per := m.t n CH_PERIOD.N
  if per = 0 then 0
  else
    let e := if m.doubled n && n % 2 = 0 then 2 else 1
    let eng := e * (9600000 * per + 57600000)
    let pin := if m.bonded n then (if n % 2 = 0 then 100000000 * per else 0)
      else (4 + loadPf (m.t n CH_GOV.LCLASS)) * classV2 (m.bankClass (bankOf n)) * 120000
    (eng + pin + 10000 * per - 1) / (10000 * per)

/-- Recompute CH_GOV.COST, in 10 µW units rounded up (R301). -/
def Mach.showCost (n : Nat) (m : Mach) : Mach := m.tput n CH_GOV.COST (Nat.min 65535 ((m.cost n + 9) / 10))

/-- A change of N at its adoption changes the charge (R301). -/
def Mach.recharge (n : Nat) (m : Mach) : Mach :=
  let p := m.ownCh n
  let m1 := m.showCost n
  let c := m1.cost n
  let o := (m1.ch n).charge
  ((m1.updCh n (fun x => { x with charge := c })).put (GOV_PHELD.HELD p) (m1.f (GOV_PHELD.HELD p) - o + c)).put GOV_EST.HELD (m1.f GOV_EST.HELD - o + c)

end Sys2Proof.Machine
end

