-- ==== Sys2Proof/Machine/Groups.lean ====
section
/-! DEFINITION. Interleave groups (chapter 09): admission, the counted set, evaluation with its rotation, re-spread moves,
vacancies, group commits at the epoch, and the group lock. -/
namespace Sys2Proof.Machine

/-- Put a consequence on the agenda unless it is there already: changes of one cycle enter one evaluation (R213). -/
def Mach.pushOnce (w : Work) (m : Mach) : Mach := if m.todo.contains w then m else m.push w

/-! ## Admission (R207, R208) -/

/-- The channel that a slot names. -/
def Mach.slotCh (m : Mach) (g s : Nat) : Nat := m.f (GRP_SLOT.CH g s)

/-- The channel accepts the group. -/
def Mach.accepts (m : Mach) (n g : Nat) : Bool := m.tb n CH_GRP.ACCEPT && m.t n CH_GRP.GID == g

/-- The verdict on a slot, given the channels that lower slots name: ADMIT and REASON. -/
def Mach.slotVerdict (m : Mach) (g s : Nat) (seen : List Nat) : Nat × Nat :=
  let c := m.slotCh g s
  if !m.fb (GRP_SLOT.VALID g s) then (0, 0)
  else if !m.accepts c g then (0, 1)
  else if seen.contains c then (0, 2)
  else if m.chst c = 0 || (m.member c && m.t c CH_GRP.SLOT = s && m.fb (GRP_SLOT.ADMIT g s)) then (1, 0)
  else (0, 3)

/-- The verdicts on all slots of a group, in ascending slot order. A running member keeps its slot against a lower one that
names it, until it is STOPPED. -/
def Mach.slotVerdicts (m : Mach) (g : Nat) : List (Nat × Nat) :=
  let keeps := fun s => m.fb (GRP_SLOT.VALID g s) && m.fb (GRP_SLOT.ADMIT g s) && m.chst (m.slotCh g s) ≠ 0 &&
    m.accepts (m.slotCh g s) g && m.member (m.slotCh g s) && m.t (m.slotCh g s) CH_GRP.SLOT == s
  ((List.range 64).foldl (fun (acc : List Nat × List (Nat × Nat)) s =>
    let v := if keeps s then (1, 0) else m.slotVerdict g s acc.1
    (if m.fb (GRP_SLOT.VALID g s) && m.accepts (m.slotCh g s) g then m.slotCh g s :: acc.1 else acc.1, acc.2 ++ [v])) ([], [])).2

/-- Words 1 and 2 of a member's table carry the group's N and H (R209). -/
def Mach.carry (g n : Nat) (m : Mach) : Mach := (m.tput n CH_PERIOD.N (m.f (GRP_PERIOD.N g))).tput n CH_HIGH.H (m.f (GRP_HIGH.H g))

/-- A channel is no member any longer: its words 1 to 4 keep their values (R208). -/
def Mach.unmember (n : Nat) (m : Mach) : Mach := m.setTw n 15 (m.tw n 15 &&& ~~~ (word 0x3F3F0300))

/-- The member counts in the group's pattern (R213). -/
def Mach.counted (m : Mach) (n : Nat) : Bool := m.tb n CH_GRP.COUNTED

/-- Decide the admission of every slot afresh, and put an evaluation on the agenda where the counted set can have changed:
in SLOTS mode when an admission changed, in ACTIVE mode when a counted member left (R208, R213, R216). -/
def Mach.admission (g : Nat) (m : Mach) : Mach :=
  let vs := m.slotVerdicts g
  let m1 := (vs.zipIdx).foldl (fun t e => (t.put (GRP_SLOT.ADMIT g e.2) e.1.1).put (GRP_SLOT.REASON g e.2) e.1.2) m
  let admitted := (vs.zipIdx).filterMap (fun e => if e.1.1 = 1 then some (m.slotCh g e.2, e.2) else none)
  let left := (List.range 256).filter (fun n => m.member n && m.t n CH_GRP.GID = g && !(admitted.map Prod.fst).contains n)
  let joined := admitted.filter (fun e => !(m.member e.1) || m.t e.1 CH_GRP.SLOT ≠ e.2)
  let m2 := left.foldl (fun t n => t.unmember n) m1
  let m3 := joined.foldl (fun t e => (((t.tput e.1 CH_GRP.MEMBER 1).tput e.1 CH_GRP.SLOT e.2).carry g e.1)) m2
  let slots := m.f (GRP_CFG.MODE g) = 1
  let on := m.fb (GRP_CFG.EN g)
  let lost := left.any (fun n => m.counted n)
  let mask := (if on && (lost || (slots && !left.isEmpty)) then 8 else 0) + (if on && slots && !joined.isEmpty then 4 else 0)
  let m4 := if mask = 0 then m3 else m3.grpEvt g mask
  if on && (lost || (slots && (!left.isEmpty || !joined.isEmpty))) then m4.pushOnce (.grpEval g) else m4

/-! ## The pattern (R211, R212) -/

/-- A slot whose member has left and whose place is held (R214). -/
def Mach.isVacant (m : Mach) (g s : Nat) : Bool := ((m.grp g).vacant.map Prod.fst).contains s

/-- The counted places of a group, in ascending slot order (R213, R214). -/
def Mach.places (m : Mach) (g : Nat) : List Nat :=
  if !m.fb (GRP_CFG.EN g) then []
  else (List.range 64).filter (fun s =>
    (m.fb (GRP_SLOT.ADMIT g s) && (m.f (GRP_CFG.MODE g) = 1 || m.chst (m.slotCh g s) ≠ 0)) ||
    (m.f (GRP_CFG.MODE g) = 0 && m.isVacant g s))

/-- The target of rank r among M places with rotation k, in fine steps (R211): halves round up. -/
def groupTarget (b n places r k : Nat) : Nat :=
  if n = 0 || places = 0 then 0
  else (b + (2 * ((r + k) % places) * (64 * n) + places) / (2 * places)) % (64 * n)

/-- The group's origin B in fine steps. -/
def Mach.origin (m : Mach) (g : Nat) : Nat := 64 * m.f (GRP_BASE.BASEP g) + m.f (GRP_CFG.BASEF g)

/-- The phase of a member's edges on a period of N; where N changes, that of its first rising edge at or after `at'`, its
update point (DEDUCED, log entry 36). -/
def Mach.actualPhase (m : Mach) (n per at' : Nat) : Nat :=
  let c := m.ch n
  if c.n = per then (rebase c m.fine).phi % (64 * Nat.max 1 per) else riseFrom c at' % (64 * Nat.max 1 per)

/-- The move that a mover would make to a target (R195 step 1, R212). -/
def Mach.proposedMove (m : Mach) (n per high target at' : Nat) : Int :=
  moveTaken per high (m.pinMin n)
    (moveDelta per ((((target : Int) + m.trim n) % ((64 * Nat.max 1 per : Nat) : Int)).toNat) (m.actualPhase n per at'))

/-- The rotation of R212: the smallest largest |Δ|, then the smallest sum of |Δ|, then the smallest k. -/
def bestRotation (places : Nat) (moves : Nat → List Int) : Nat :=
  let key := fun k => ((moves k).foldl (fun a d => Nat.max a d.natAbs) 0, (moves k).foldl (fun a d => a + d.natAbs) 0)
  ((List.range places).foldl (fun (best : Nat × (Nat × Nat)) k =>
    let x := key k
    if x.1 < best.2.1 || (x.1 = best.2.1 && x.2 < best.2.2) then (k, x) else best) (0, key 0)).1

/-- Give a counted member its rank and target: words 1 to 4 (R209, R213). A mover adopts at its first rising edge at or after
`at'` with the narrowed step, one in STOPPING if its stop is resumed; a STARTING member chooses its first edge afresh (R192), a STOPPED
one adopts at once. -/
def Mach.placeMember (g at' n r target : Nat) (m : Mach) : Mach :=
  let delta := m.proposedMove n (m.f (GRP_PERIOD.N g)) (m.f (GRP_HIGH.H g)) target at'
  let m1 := (((((m.tput n CH_GRP.COUNTED 1).tput n CH_GRP.RANK r).carry g n).tput n CH_PHASE.P (target / 64)).tput n CH_FINE.D (target % 64))
  match m.chst n with
  | 0 => m1
  | 1 =>
    let m2 := (m1.loadActive n).chooseFirst n
    if (m.ch n).n = m1.t n CH_PERIOD.N then m2 else m2.recharge n
  | st => (m1.shadowFrom at' n).updCh n (fun c => { c with byEval := true, willMove := st = 2 && delta ≠ 0 })

/-! ## The end of a re-spread (R218) -/

/-- Where no mover has a move left to make, a re-spread is over: DONE is set, and LATE with the fault RSP_LATE when some
move took more than DUR periods. -/
def Mach.respreadCheck (g : Nat) (m : Mach) : Mach :=
  let busy := (List.range 64).any (fun s => m.fb (GRP_SLOT.ADMIT g s) && m.chst (m.slotCh g s) = 2 &&
    (m.tb (m.slotCh g s) CH_STAT.SLEWING || ((m.ch (m.slotCh g s)).shadow && (m.ch (m.slotCh g s)).willMove)))
  if !m.fb (GRP_STAT.RESPREAD g) || busy then m
  else
    let w := (m.grp g).worst
    let m1 := m.put (GRP_STAT.RESPREAD g) 0
    if Nat.max 1 (m.grp g).dur < w then (m1.grpEvt g 3).raise fRspLate g (word (Nat.min 65535 w)) else m1.grpEvt g 1

/-- GRP_RSP and GRP_HOLD take effect (R221). -/
def Mach.takeRsp (g : Nat) (m : Mach) : Mach :=
  m.setGrp g { m.grp g with dur := m.f (GRP_RSP.DUR g), gslew := m.f (GRP_RSP.GSLEW g), hold := m.f (GRP_HOLD.HOLD g) }

/-- An evaluation of a group whose members adopt from time `at'` on (R211 to R213): the rotation is chosen over its movers, every
counted member gets its target, and a re-spread runs while some mover has a move to make (R218). -/
def Mach.evaluateFrom (g at' : Nat) (s : Mach) : Mach :=
  let m := s.takeRsp g
  let ps := m.places g
  let mm := ps.length
  let per := m.f (GRP_PERIOD.N g)
  let b := m.origin g
  let ranked := ps.zipIdx
  let movers := ranked.filter (fun e => m.fb (GRP_SLOT.ADMIT g e.1) && m.chst (m.slotCh g e.1) = 2)
  let deltas := fun k => movers.map (fun e => m.proposedMove (m.slotCh g e.1) per (m.f (GRP_HIGH.H g)) (groupTarget b per mm e.2 k) at')
  let k := if m.f (GRP_CFG.MODE g) = 1 || movers.isEmpty then 0 else bestRotation mm deltas
  let members := (List.range 64).filter (fun s => m.fb (GRP_SLOT.ADMIT g s))
  let m1 := members.foldl (fun t s => if ps.contains s then t else (t.tput (t.slotCh g s) CH_GRP.COUNTED 0).tput (t.slotCh g s) CH_GRP.RANK 0) m
  let m2 := ((m1.put (GRP_STAT.M g) mm).put (GRP_STAT.ROT g) k)
  let m3 := ranked.foldl (fun t e =>
    if t.fb (GRP_SLOT.ADMIT g e.1) && !(m.isVacant g e.1 && t.chst (t.slotCh g e.1) = 0)
    then t.placeMember g at' (t.slotCh g e.1) e.2 (groupTarget b per mm e.2 k) else t) m2
  if (deltas k).any (fun d => d ≠ 0) then (m3.put (GRP_STAT.RESPREAD g) 1).setGrp g { m3.grp g with worst := 0 } else m3.respreadCheck g

/-- An evaluation: the update points are measured from it (R192, R213). -/
def Mach.evaluate (g : Nat) (m : Mach) : Mach := m.evaluateFrom g (m.fine + 768)

/-- A member's move of `periods` periods ends, or its edges already stand on the target. -/
def Mach.moverDone (n periods : Nat) (m : Mach) : Mach :=
  if !m.member n then m
  else
    let g := m.t n CH_GRP.GID
    (m.setGrp g { m.grp g with worst := Nat.max (m.grp g).worst periods }).respreadCheck g

/-! ## Join, leave and hold (R213 to R216) -/

/-- A member enters STARTING (R214, R215): in ACTIVE mode it fills its vacancy without an evaluation, or an evaluation includes
it before its first edge is chosen. -/
def Mach.joinCounted (n : Nat) (m : Mach) : Mach :=
  let g := m.t n CH_GRP.GID
  let s := m.t n CH_GRP.SLOT
  if !m.member n || !m.fb (GRP_CFG.EN g) || m.f (GRP_CFG.MODE g) = 1 then m
  else
    let m1 := m.grpEvt g 4
    if m.isVacant g s then
      let r := ((m.places g).idxOf s)
      let m2 := m1.setGrp g { m1.grp g with vacant := (m.grp g).vacant.filter (fun x => x.1 ≠ s) }
      let m3 := if (m2.grp g).vacant.isEmpty then m2.put (GRP_STAT.HOLDING g) 0 else m2
      let t := groupTarget (m.origin g) (m.f (GRP_PERIOD.N g)) (m.places g).length r (m.f (GRP_STAT.ROT g))
      (((((m3.tput n CH_GRP.COUNTED 1).tput n CH_GRP.RANK r).carry g n).tput n CH_PHASE.P (t / 64)).tput n CH_FINE.D (t % 64))
    else m1.evaluate g

/-- A counted member enters STOPPED (R214): it leaves a vacancy while a hold is set, or an evaluation follows. -/
def Mach.leaveCounted (n : Nat) (m : Mach) : Mach :=
  let g := m.t n CH_GRP.GID
  if !m.member n || !m.counted n || !m.fb (GRP_CFG.EN g) || m.f (GRP_CFG.MODE g) = 1 then m
  else
    let m1 := ((m.tput n CH_GRP.COUNTED 0).tput n CH_GRP.RANK 0).grpEvt g 8
    if (m.grp g).hold = 0 then m1.pushOnce (.grpEval g)
    else (m1.setGrp g { m1.grp g with vacant := (m.t n CH_GRP.SLOT, m.grid + (m.grp g).hold * m.f (GRP_PERIOD.N g)) :: (m1.grp g).vacant }).put
      (GRP_STAT.HOLDING g) 1

/-- A channel has entered STOPPED: its group counts it no longer, and a slot that waited for it admits it (R207, R214). -/
def Mach.grpStopped (n : Nat) (m : Mach) : Mach :=
  let m0 := m.leaveCounted n
  let m1 := if m0.member n then m0.respreadCheck (m0.t n CH_GRP.GID) else m0
  if m1.tb n CH_GRP.ACCEPT then m1.admission (m1.t n CH_GRP.GID) else m1

/-- VACANCY_HOLD_EXPIRE (R214): time moves on to the end of a group's last hold, which ends them all. -/
def Mach.holdExpire (g : Nat) (s : Mach) : Mach :=
  if (s.grp g).vacant.isEmpty || !s.boot.clocks then s
  else
    let m := s.advTo ((s.grp g).vacant.foldl (fun a x => Nat.max a x.2) 0)
    ((m.setGrp g { m.grp g with vacant := [] }).put (GRP_STAT.HOLDING g) 0).pushOnce (.grpEval g)

/-! ## Enabling (R220) -/

/-- Some member of the group is not STOPPED. -/
def Mach.grpRuns (m : Mach) (g : Nat) : Bool :=
  (List.range 64).any (fun s => m.fb (GRP_SLOT.ADMIT g s) && m.chst (m.slotCh g s) ≠ 0)

/-- The group's settings meet R220. -/
def Mach.grpValid (m : Mach) (g : Nat) : Bool :=
  grpLimits (m.f (GRP_PERIOD.N g)) (m.f (GRP_HIGH.H g)) (m.f (GRP_BASE.BASEP g)) && 1 ≤ m.f (GRP_RSP.DUR g)

/-- No pattern is in force any longer: vacancies and holds end (R220). -/
def Mach.grpDisable (g : Nat) (m : Mach) : Mach :=
  let m1 := (((m.setGrp g { m.grp g with vacant := [] }).put (GRP_STAT.HOLDING g) 0).put (GRP_STAT.M g) 0).put (GRP_STAT.ROT g) 0
  forN 64 (fun s t => applyIf (t.fb (GRP_SLOT.ADMIT g s))
    (fun u => (u.tput (u.slotCh g s) CH_GRP.COUNTED 0).tput (u.slotCh g s) CH_GRP.RANK 0) t) m1

/-- A change of BASEF of an enabled group waits for the epoch (R221). -/
def Mach.basefHook (g : Nat) (old new : Word) (m : Mach) : Mach :=
  if getF old 8 6 = getF new 8 6 then m
  else if m.boot.clocks then (m.put (GRP_CFG.BASEF g) (getF old 8 6)).grpQueue (0x030000 + 0x20 * g) new
  else (m.push (.grpEval g)).grpEvt g 64

/-- The effect of an accepted write of GRP_CFG (R220, R221). EN is refused, or its clearing ignored, with CFGERR, and the word's BASEF
goes on. -/
def Mach.grpCfgHook (g : Nat) (old new : Word) (m : Mach) : Mach :=
  let m0 := m.put (GRP_STAT.CFGERR g) 0
  match bitAt old 0, bitAt new 0 with
  | false, true =>
    if m0.grpValid g then (m0.push (.grpEval g)) else (m0.put (GRP_CFG.EN g) 0).put (GRP_STAT.CFGERR g) 1
  | true, false => if m0.grpRuns g then ((m0.put (GRP_CFG.EN g) 1).put (GRP_STAT.CFGERR g) 1).basefHook g old (setF new 0 1 1) else m0.grpDisable g
  | true, true => m0.basefHook g old new
  | false, false => m0

/-- The effect of an accepted group word that took effect at once, no pattern being in force (R221). -/
def Mach.grpWordHook (addr : Nat) (m : Mach) : Mach :=
  let g := grpOf addr
  let m1 := if 0x031000 ≤ addr then m.admission g
    else forN 64 (fun s t => applyIf (t.fb (GRP_SLOT.ADMIT g s)) (fun u => u.carry g (u.slotCh g s)) t) m
  (if m.fb (GRP_CFG.EN g) then m1.pushOnce (.grpEval g) else m1).grpEvt g 64

/-- The effect of a write of CH_GRP (R207, R208). -/
def Mach.chGrpHook (n : Nat) (old new : Word) (m : Mach) : Mach :=
  let g := getF old 0 5
  let moved := getF old 0 5 ≠ getF new 0 5 || (getF old 7 1 = 1 && getF new 7 1 = 0)
  let m1 :=
    if moved && getF old 8 1 = 1 then
      let on := m.fb (GRP_CFG.EN g)
      let was := getF old 9 1 = 1
      let t := (m.unmember n).admission g
      let t1 := if on && was then t.grpEvt g 8 else t
      if on && was then t1.pushOnce (.grpEval g) else t1
    else if moved && getF old 7 1 = 1 then m.admission g else m
  if getF new 7 1 = 1 then m1.admission (getF new 0 5) else m1

/-! ## Group commits (R221, R223) -/

/-- The epoch: the first instant at least 12 PHS cycles after the commit at which the origin recurs, with the B and N in force,
as the first grid cycle that is not before it (DEDUCED, log entry 20). -/
def Mach.epochAt (m : Mach) (g : Nat) : Nat :=
  (edgeFrom (m.f (GRP_PERIOD.N g)) (m.origin g) (64 * ((m.grp g).commitAt + 12)) + 63) / 64

/-- The address of a group register, or none for a table word staged with a lock. -/
def isTblKey (k : Nat) : Bool := instSpan ≤ k

/-- The value that a word of the commit gives a group register: a lock word through its write mask (R223). -/
def Mach.grpWordValue (m : Mach) (addr : Nat) (d : Word) : Word :=
  match rowOf addr with
  | some r =>
    let mask := word r.rw ||| (if m.cfgOpen addr then word r.cfg else 0)
    blend (m.reg addr) d (mask &&& ~~~ (word r.trg)) &&& ~~~ (d &&& word r.w1c)
  | none => m.reg addr

/-- A committed register word passes the CFG gate and the CRC's note of a change (R33 steps 7 and 11, R223): a closed CFG field that the
word would change sets CFG_IGN at the holder. -/
def Mach.grpGate (w : Who) (e : Nat × Word) (m : Mach) : Mach :=
  let cfg := word ((rowOf e.1).elim 0 Row.cfg)
  let old := m.reg e.1
  let m1 := if !m.cfgOpen e.1 && (e.2 ^^^ old) &&& cfg ≠ 0 then m.cfgIgn w else m
  if (old ^^^ m.grpWordValue e.1 e.2) &&& cfg ≠ 0 then m1.cfgChanged else m1

/-- Apply a committed register word, those of N, H, BASEP only if the whole commit meets R220. -/
def Mach.grpApply (ok : Bool) (w : Who) (e : Nat × Word) (s : Mach) : Mach :=
  let m := s.grpGate w e
  let g := grpOf e.1
  let o := e.1 % 0x20
  let new := m.grpWordValue e.1 e.2
  if e.1 < 0x031000 && o = 0 then
    if m.fb (GRP_CFG.EN g) && bitAt new 0 then (m.setReg e.1 new).put (GRP_STAT.CFGERR g) 0
    else if m.fb (GRP_CFG.EN g) && m.grpRuns g then (m.setReg e.1 (setF new 0 1 1)).put (GRP_STAT.CFGERR g) 1
    else (m.setReg e.1 new).grpCfgHook g (m.reg e.1) new
  else if e.1 < 0x031000 && (o = 4 || o = 8 || o = 12) && !ok then m.put (GRP_STAT.CFGERR g) 1
  else m.setReg e.1 new

/-- The words of a channel's table that a running engine adopts at its update point (R192). -/
def isLive (wd : Nat) : Bool := [1, 2, 3, 4, 5, 7, 11].contains wd

/-- A committed live word of a channel (R192): it is adopted in STARTING with the other words of its commit, and waits for the first rising
edge at or after time `at'` in RUN and STOPPING. -/
def Mach.liveFrom (at' n : Nat) (m : Mach) : Mach :=
  if m.oddDouble n then m
  else match m.chst n with
  | 0 => m
  | 1 => m.pushOnce (.adopt n)
  | _ => m.shadowFrom at' n

/-- A table word of a lock commit at the epoch: a live one is adopted at the first rising edge from now on (R221), the others take effect
as ever. -/
def Mach.epochWord (w : Who) (port : Port) (e : Staged) (m : Mach) : Mach :=
  let n := (e.at' - instSpan) / 64
  let wd := (e.at' - instSpan) % 64 / 4
  let m1 := m.tblWrite w port e.bus n wd e.d
  if isLive wd && m.todo.length < m1.todo.length then ({ m1 with todo := m.todo }).liveFrom m.fine n else m1

/-- The group commit takes effect (R221): the committed values of registers and tables, one evaluation, whose result each member adopts at
its first rising edge from now on, then the triggers of a lock commit in ascending channel order. A refused word is dropped alone, and the
words of a lock commit use up the holder's arm of their blocks (R37, R223). -/
def Mach.takeCommit (g : Nat) (m : Mach) : Mach :=
  let q := m.grp g
  let b := 0x030000 + 0x20 * g
  let w := q.commitBy.elim Who.unbound Prod.snd
  let port := q.commitBy.elim Port.spi (fun a => a.1.port)
  let locked := q.lockWords.filter (fun e => !isTblKey e.at')
  let tbl := q.lockWords.filter (fun e => isTblKey e.at')
  let words := q.commit ++ locked.map (fun e => (e.at', e.d))
  let last := fun k => match words.reverse.find? (fun e => e.1 == b + k) with
    | some e => e.2.toNat
    | none => (m.reg (b + k)).toNat
  let ok := !m.fb (GRP_CFG.EN g) || grpLimits (last 4) (last 8) (last 12)
  let regs := words.filter (fun e => e.1 ≠ b) ++ words.filter (fun e => e.1 = b)
  let m0 := m.setGrp g { q with commit := [], lockWords := [], committed := false }
  let m1 := (if locked.isEmpty then m0 else m0.spent w b)
  let m2 := regs.foldl (fun t e => t.grpApply ok w e) (if tbl.isEmpty then m1 else m1.spent w 0x020000)
  let m3 := forN 64 (fun s t => applyIf (t.fb (GRP_SLOT.ADMIT g s)) (fun u => u.carry g (u.slotCh g s)) t) (m2.admission g)
  let m4 := (List.range 256).foldl (fun t n =>
    (tbl.filter (fun e => (e.at' - instSpan) / 64 = n)).foldl (fun u e => u.epochWord w port e) t) m3
  (if m4.fb (GRP_CFG.EN g) then ({ m4 with todo := m4.todo.filter (fun x => x != Work.grpEval g) }).evaluateFrom g m4.fine else m4).grpEvt g 64

/-- GROUP_EPOCH (R221). -/
def Mach.groupEpoch (g : Nat) (m : Mach) : Mach :=
  if !(m.grp g).committed then m
  else (applyIf (m.fb (GRP_CFG.EN g) && m.boot.clocks) (Mach.advTo (m.epochAt g)) m).takeCommit g

/-! ## The lock (R222 to R224) -/

/-- The effect of a write of GRP_LOCK by the group's owner: REQ takes a free lock, or releases it; COMMIT; DISCARD. The bits act
in ascending order, COMMIT before the release that REQ = 0 makes (R223). -/
def Mach.grpLockHook (w : Who) (a : Acc) (g : Nat) (d : Word) (m : Mach) : Mach :=
  let q := m.grp g
  let mine := q.holder.isSome && q.holder == w.rights
  let m1 :=
    if mine && bitAt d 8 then
      m.setGrp g { q with lockWords := q.lockWords ++ q.staged, staged := [], committed := true, commitBy := some (a, w),
                          commitAt := if q.committed then q.commitAt else m.grid }
    else m
  let m2 := if mine && bitAt d 9 then m1.setGrp g { m1.grp g with staged := [] } else m1
  let m3 :=
    if bitAt d 0 then (if q.holder.isNone then m2.setGrp g { m2.grp g with holder := w.rights, staged := [], touched := m.rclk } else m2)
    else if mine then m2.setGrp g { m2.grp g with holder := none, staged := [] } else m2
  if (m3.grp g).committed && !(m3.fb (GRP_CFG.EN g) && m3.boot.clocks) then m3.takeCommit g else m3

/-- Free a group lock: staged words are discarded; a commit whose epoch has not come still takes effect. `why`: 1 the holder's
reset, 2 its fault (R224). -/
def Mach.grpLockFree (g why : Nat) (m : Mach) : Mach :=
  match (m.grp g).holder with
  | none => m
  | some h =>
    let m1 := (m.setGrp g { m.grp g with holder := none, staged := [] }).put (GRP_LOCK.BROKEN g) 1
    let owners := (List.range 16).filter (fun p => p ≠ h && (List.range 64).any (fun s =>
      m.fb (GRP_SLOT.ADMIT g s) && m.ownCh (m.slotCh g s) = p))
    (owners.foldl (fun t p => t.event p 5 0 (word (g + 256 * h + 65536 * why)) 0) m1).grpEvt g 16

/-- The group lock's idle limit passes, and time moves on to the end of the idle count (R224); with LIMIT 0 there is none. -/
def Mach.grpLockTimeout (g : Nat) (s : Mach) : Mach :=
  let m := s.advReg ((s.grp g).touched + s.f GRP_LOCK_TO.LIMIT)
  match (s.grp g).holder with
  | none => s
  | some h =>
    if s.f GRP_LOCK_TO.LIMIT = 0 then s
    else (((m.setGrp g { m.grp g with holder := none, staged := [] }).put (GRP_LOCK.TIMEOUT g) 1).grpEvt g 32).raise fGrpLockTo g (word h)

/-- Free every window lock and group lock that a partition holds (R53, R224). -/
def Mach.freeLocks (p why : Nat) (m : Mach) : Mach :=
  let m1 := if m.chWin.holder == some p then m.winFree .chan false else m
  let m2 := if m1.aonWin.holder == some p then m1.winFree .aon false else m1
  forN 32 (fun g t => applyIf ((t.grp g).holder == some p) (Mach.grpLockFree g why) t) m2

end Sys2Proof.Machine
end

