-- ==== Sys2Proof/Machine/Channel.lean ====
section
/-! DEFINITION. The lifecycle of a channel (R183 to R203): start requests and their checks, grants, first edges, stops of every
cause, burst and one-shot operation, resync, live changes at the update point, and the engine self-check. -/
namespace Sys2Proof.Machine

/-! Result codes (R381). -/
def rOK : Nat := 0
def rBAD_DESC : Nat := 1
def rBAD_OP : Nat := 2
def rNOT_URGENT : Nat := 3
def rQUEUE_FULL : Nat := 4
def rDOMAIN_DOWN : Nat := 5
def rNOT_OWNER : Nat := 6
def rNOT_PRIV : Nat := 7
def rAUTH_FAIL : Nat := 8
def rREPLAY : Nat := 9
def rLOCKOUT : Nat := 10
def rKEY_BLANK : Nat := 11
def rBAD_PARAM : Nat := 12
def rBANK_DOWN : Nat := 13
def rRETIRED : Nat := 14
def rSTATE : Nat := 15
def rPARTIAL : Nat := 16
def rNO_NODE : Nat := 17

/-! ## The waiting requests of a partition (R305, R306) -/

/-- The channels of partition p with a request in BUDGET_WAIT. -/
def Mach.waiting (m : Mach) (p : Nat) : List Nat := (List.range 256).filter (fun n => m.tb n CH_STAT.PEND && m.ownCh n = p)

/-- The order of R306: rebuild starts first, then the lower class, the earlier submission, the lower channel number. -/
def Mach.ahead (m : Mach) (a b : Nat) : Bool :=
  let k := fun n => [b2n !((m.ch n).prio), m.t n CH_GOV.CLASS, (m.ch n).ord, n]
  decide (k a ≤ k b)

/-- A partition's waiting requests in the order of R306. -/
def Mach.walk (m : Mach) (p : Nat) : List Nat := sortBy (fun a b => m.ahead a b) (m.waiting p)

/-- Show a partition's waiting requests in GOV_PSTAT_p (R307). -/
def Mach.showWaiting (p : Nat) (m : Mach) : Mach :=
  let l := m.walk p
  ((m.put (GOV_PSTAT.WAITING p) l.length).put (GOV_PSTAT.HEADV p) (b2n !l.isEmpty)).put (GOV_PSTAT.HEAD p) (l.headD 0)

/-- Withdraw a channel's waiting request (R189, R305). -/
def Mach.withdraw (n : Nat) (m : Mach) : Mach :=
  if !m.tb n CH_STAT.PEND then m
  else ((((m.tput n CH_STAT.PEND 0).tput n CH_GOV.TBLK 0).tput n CH_GOV.SHEDPEND 0).updCh n (fun c => { c with prio := false, unchecked := false })).showWaiting (m.ownCh n)

/-- Withdraw every waiting request (R121, R305). -/
def Mach.withdrawAll (m : Mach) : Mach := forN 256 Mach.withdraw m

/-! ## Immobilisation (R468) -/

/-- The channel is immobilised now. -/
def Mach.immobilised (m : Mach) (n : Nat) : Bool :=
  (m.reg (0x0C0520 + 4 * (n / 32))).getLsbD (n % 32) &&
  match m.f HIRE_CFG.POLICY with
  | 0 => false
  | 2 => m.f HIRE_STAT.STATE = 0
  | _ => m.fb HIRE_STAT.THEFT

/-- Meter group i has the channel as a member. -/
def Mach.mtrMember (m : Mach) (i n : Nat) : Bool := (m.reg (0x0C0100 + 32 * i + 4 * (n / 32))).getLsbD (n % 32)

/-- The payload of IMMOB_REFUSE (R468). -/
def Mach.immobGroup (m : Mach) (n : Nat) : Nat :=
  if m.fb HIRE_STAT.THEFT then m.f HIRE_STAT.TGRP
  else ((firstIdx 32 (fun i => m.fb (MTR_CFG.TRACTION i) && m.mtrMember i n)).getD 0)

/-- A start of an immobilised channel is refused: IMMOB_REFUSE, and one IMMOB entry per period of immobilisation (R468). -/
def Mach.immobRefuse (n : Nat) (m : Mach) : Mach :=
  let m1 := m.raise fImmobRefuse n (word (m.immobGroup n))
  if (m1.ch n).immob then m1 else (m1.updCh n (fun c => { c with immob := true })).ledger 0x49 n 0

/-- Periods of immobilisation that have ended are forgotten (R468). -/
def Mach.immobRefresh (m : Mach) : Mach :=
  forN 256 (fun n t => applyIf ((t.ch n).immob && !t.immobilised n) (Mach.updCh n (fun c => { c with immob := false })) t) m

/-! ## Start requests (R184, R188, R189) -/

/-- The bank of a channel's pin is present and matching (R95, R230). -/
def Mach.bankUp (m : Mach) (n : Nat) : Bool := m.present (bankOf n) && (m.reg 0x040080).getLsbD (bankOf n)

/-- A park phase or a stop phase runs (R121, R123). -/
def Mach.goingDown (m : Mach) : Bool := m.boot.park.isSome || m.boot.stop

/-- The verdict of R184 on a start request: none where it passes, else its result and the failed check. -/
def Mach.startVerdict (m : Mach) (n : Nat) (unchecked : Bool) : Option (Nat × Option Nat) :=
  match m.startCheck n with
  | some c => some (rBAD_PARAM, some c)
  | none =>
    if !m.bankUp n then some (rBANK_DOWN, none)
    else if m.listState n = 2 && !(m.ch n).verifyDue && !m.fb (MR_STAT.VERIFY n) then some (rRETIRED, none)
    else if m.pstate (m.ownCh n) ≠ 1 || m.goingDown then some (rDOMAIN_DOWN, none)
    else if !unchecked && m.immobilised n then some (rSTATE, none)
    else none

/-- A start request is refused (R184): START_REJ, with PERR for a failed check. -/
def Mach.startRej (n : Nat) (v : Nat × Option Nat) (m : Mach) : Mach :=
  let m1 := match v.2 with
    | some c => m.tput n CH_STAT.PERR c
    | none => m
  (if v.1 = rSTATE then m1.immobRefuse n else m1).chEvt n 0x100

/-- Enter a state; the odd channel of a DOUBLE pair follows its even channel (R182). -/
def Mach.setState (n v : Nat) (m : Mach) : Mach :=
  let m1 := m.tput n CH_STAT.STATE v
  if n % 2 = 0 && m1.doubled n then m1.tput (n + 1) CH_STAT.STATE v else m1

/-- A start request and its result (R183, R188, R189). An odd channel of a DOUBLE pair answers with START_REJ and PERR DOUBLE (R182). A set
that waits for its update point is adopted no earlier than the resume (R213). -/
def Mach.submit (n : Nat) (src : StartSrc) (m : Mach) : Mach × Nat :=
  if m.oddDouble n then (m.startRej n (rBAD_PARAM, some 7), rBAD_PARAM)
  else match m.chst n with
  | 0 =>
    if m.tb n CH_STAT.PEND then (m, rOK)
    else match m.startVerdict n (src == .rebuild) with
    | some v => ((m.startRej n v).tput n CH_GOV.SHEDPEND 0, v.1)
    | none =>
      let first := src == .rebuild || m.listState n = 1
      let m1 := (m.tput n CH_STAT.PEND 1).updCh n (fun c =>
        { c with ord := m.nextOrd, waitAt := m.now, prio := first, unchecked := src == .rebuild, waitRaised := false })
      ((({ m1 with nextOrd := m.nextOrd + 1 }).showCost n).showWaiting (m.ownCh n), rOK)
  | 3 =>
    if m.t n CH_STAT.CAUSE = csHOST && !(m.ch n).nonRes && m.fine + 1024 < (m.ch n).stopEnd
    then (((m.setState n 2).updCh n (fun c => { c with shadowAt := if c.shadow || c.regrid then Nat.max c.shadowAt m.fine else c.shadowAt })).chEvt n 4, rOK)
    else (m.tput n CH_STAT.HELD 1, rOK)
  | _ => (m, rOK)

/-! ## Echo sources (R238, R261) -/

/-- The pin's function switch, or the park interval of a route or bond change, still runs (R235, R242). -/
def Mach.switching (m : Mach) (n : Nat) : Bool := (m.ch n).swStep != 0 || m.grid < (m.ch n).routeEnd

/-- The channel wants an echo (R261). -/
def Mach.wantsEcho (m : Mach) (n : Nat) : Bool := m.tb n CH_MON.ECHO_EN || m.tb n CH_MON.TRIM_EN

/-- The channel wants the echo of a source that there is: an ECHO input, or an OUT pin (R261). -/
def Mach.namesEcho (m : Mach) (n : Nat) : Bool := m.wantsEcho n && (m.t n CH_MON.ESRC < 64 || 256 ≤ m.t n CH_MON.ESRC)

/-- The source is claimed elsewhere, or belongs to another partition (R24, R261). -/
def Mach.echoConflict (m : Mach) (n : Nat) : Bool :=
  m.namesEcho n &&
  ((List.range n).any (fun c => m.namesEcho c && m.t c CH_MON.ESRC = m.t n CH_MON.ESRC) ||
   (256 ≤ m.t n CH_MON.ESRC && m.ownCh (m.t n CH_MON.ESRC - 256) ≠ m.ownCh n))

/-- The source is present (R238, R261). A code that names no source never is. -/
def Mach.echoPresent (m : Mach) (n : Nat) : Bool :=
  let s := m.t n CH_MON.ESRC
  m.namesEcho n && !m.echoConflict n &&
  if s < 64 then m.bankUp (16 * (s / 4)) else m.t (s - 256) CH_PIN.FUNC = 2 && !m.switching (s - 256) && m.bankUp (s - 256)

/-- Trims whose source is absent, or all while the monitor is off, are held (R265). -/
def Mach.trimHold (m : Mach) : Mach :=
  forN 256 (fun n t => applyIf ((t.f (MR_STAT.TSTATE n) = 1 || t.f (MR_STAT.TSTATE n) = 2) && !(t.fb MON_CTL.EN && t.echoPresent n))
    (Mach.put (MR_STAT.TSTATE n) 3) t) m

/-! ## Grants and first edges (R183, R185, R262, R265, R301) -/

/-- The governor's grant, after its recheck has passed (R183): the cost is charged, the group counts the channel, the engine is
loaded and its first edge chosen; the counters of its stampers begin anew, and its trim acquires, or holds while there is no echo to
acquire from. -/
def Mach.enterStarting (n : Nat) (m : Mach) : Mach :=
  let p := m.ownCh n
  let m1 := m.withdraw n
  let m2 := m1.showCost n
  let c := m2.cost n
  let m3 := ((m2.updCh n (fun x => { x with charge := c, pulse := none, trigHeld := none, nonRes := false, winOk := false, healthy := false })).put (GOV_PHELD.HELD p)
    (m2.f (GOV_PHELD.HELD p) + c)).put GOV_EST.HELD (m2.f GOV_EST.HELD + c)
  let m4 := (((m3.setState n 1).tput n CH_SPREAD.MPER
    (if m3.tb n CH_SPREAD.EN then mper (m3.t n CH_PERIOD.N) (m3.t n CH_SPREAD.RATE) else m3.t n CH_SPREAD.MPER))).joinCounted n
  let m5 := (((if (m4.ch n).verifyDue then (m4.put (MR_STAT.VERIFY n) 1).updCh n (fun x => { x with verifyDue := false, passes := 0, resyncs := [] })
    else m4).loadActive n).chooseFirst n)
  let m6 := m5.updCh n (fun x => { x with samples := 0, rtBad := false, pads := 0, echoes := 0, padIdx := 0, echoSeen := false, pairLost := false })
  if m6.tb n CH_MON.TRIM_EN then (m6.put (MR_STAT.TSTATE n) (if m6.fb MON_CTL.EN && m6.echoPresent n then 1 else 3)).put (MR_RT.RTAVG n) 0
  else m6

/-- CH_FIRST_EDGE (R183, R185): STARTED, and RUN; a one-shot channel waits armed without emitting the edge (R200). -/
def Mach.firstEdge (n : Nat) (m : Mach) : Mach :=
  if m.chst n ≠ 1 || !m.boot.clocks || m.oddDouble n then m
  else
    let m1 := ((m.advTo (((m.ch n).first + 63) / 64)).setState n 2).chEvt n 1
    if m1.t n CH_CTL.MODE = 2 then m1.tput n CH_STAT.ARMED 1 else m1

/-! ## The engine at the pad, and the gate's instants (R182, R243 to R246) -/

/-- The function in effect at the pad: the old one until a switch's first step ends. -/
def Mach.padFunc (m : Mach) (n : Nat) : Nat := if (m.ch n).swStep = 1 then (m.ch n).swOld else m.t n CH_PIN.FUNC

/-- The channel whose settings govern a pin: the even one of a bonded pair (R232). -/
def Mach.leg (m : Mach) (n : Nat) : Nat := if m.bonded n then evenOf n else n

/-- The level that an engine with the settings of channel n has at a fine time. -/
def Mach.highAt (m : Mach) (n t : Nat) : Bool :=
  let c := m.ch n
  if m.t n CH_CTL.MODE = 2 then (rollShot c t).pulse.any (fun p => p ≤ t && t < p + 64 * c.h)
  else
    let r := lastRise c t
    t < c.highTo || (edgeAt r ≤ t && t < edgeAt r + highTime r)

/-- The level of the channel's engine at a fine time: of a DOUBLE pair the exclusive-OR of the two, the odd one a quarter period behind
(R182). -/
def Mach.levelAt (m : Mach) (n t : Nat) : Bool :=
  if m.doubled n then
    let e := evenOf n
    let q := 16 * (m.ch e).n
    m.highAt e t != (q ≤ t && m.highAt e (t - q))
  else m.highAt n t

/-- The starts of a one-shot channel's pulses that are due. -/
def pulses (c : Chan) : List Nat :=
  match c.pulse with
  | none => []
  | some p => p :: (rollShot c (p + 64 * c.n)).pulse.toList

/-- Instants around a fine time at which the level of an engine with the settings of channel n may change. -/
def Mach.changesOf (m : Mach) (n t : Nat) : List Nat :=
  let c := m.ch n
  if m.t n CH_CTL.MODE = 2 then
    let l := pulses (rollShot c t)
    l ++ l.map (fun p => p + 64 * c.h)
  else
    let r := lastRise c t
    let x := rebase r (nextRise r)
    [edgeAt r, edgeAt r + highTime r, c.highTo, edgeAt x, edgeAt x + highTime x]

/-- The first transition of the channel's engine after a fine time that brings the pin to its park level (R245). -/
def Mach.parkTurn (m : Mach) (n t : Nat) : Option Nat :=
  let l := if m.doubled n then
      let e := evenOf n
      let q := 16 * (m.ch e).n
      m.changesOf e t ++ (m.changesOf e (t - q)).map (fun x => x + q)
    else m.changesOf n t
  (l.filter (fun x => t < x && m.levelAt n x == m.tb n CH_PIN.PARK)).min?

/-- The first rising edge that the channel's engine emits at or after a fine time. -/
def Mach.riseOf (m : Mach) (n t : Nat) : Option Nat :=
  let c := m.ch n
  if m.t n CH_CTL.MODE = 2 then (pulses c).find? (fun p => t ≤ p)
  else
    let r := riseFrom c t
    if m.chst n = 3 && c.stopEnd ≤ r then none else some r

/-- A CLEAN gate has taken effect by now: at the first transition to the park level after its decision (R245). -/
def Mach.cleanDue (m : Mach) (n : Nat) : Bool :=
  (m.ch n).cleanGate.any (fun t => (m.parkTurn n t).any (fun x => x ≤ m.fine))

/-- A release that waits has let go of the pin by now: a CLOCK pin of a running channel at its engine's first rising edge that is late
enough, any other pin at its instant (R246). -/
def Mach.letGo (m : Mach) (n : Nat) : Bool :=
  (m.ch n).relEdge.any (fun t =>
    if m.padFunc n = 0 && (m.chst n = 2 || m.chst n = 3) then (m.riseOf n t).any (fun x => x ≤ m.fine) else t ≤ m.fine)

/-- The gate holds the pin (R243, R245, R246). -/
def Mach.gated (m : Mach) (n : Nat) : Bool :=
  let e := m.leg n
  (m.tb e CH_PIN.GATED && !m.letGo e) || m.cleanDue e

/-- The gate takes a pin. -/
def Mach.gateNow (n : Nat) (m : Mach) : Mach :=
  (m.tput n CH_PIN.GATED 1).updCh n (fun c => { c with gateAt := m.grid, cleanGate := none, lvl := none, winOk := false })

/-- What the gate has done by now is entered, before the engine's edges change: a CLEAN gate that has taken effect, a release that has let
go. -/
def Mach.gateSettle (n : Nat) (m : Mach) : Mach :=
  if m.cleanDue n then m.gateNow n
  else if m.letGo n then (m.tput n CH_PIN.GATED 0).updCh n (fun c => { c with relEdge := none })
  else m

/-! ## Stops (R186 to R191) -/

/-- A channel enters STOPPED: the count of its engine, or of both of a DOUBLE pair, is kept, its budget released, a waiting commit adopted, trim held, and what
follows goes on the agenda. `extra` are CH_EVT bits that set with STOPPED. -/
def Mach.enterStopped (n extra : Nat) (m : Mach) : Mach :=
  let p := m.ownCh n
  let k := m.edges n
  let c := m.ch n
  let m0 := if c.relEdge.isSome then m.tput n CH_PIN.GATED 0 else if c.cleanGate.isSome then m.tput n CH_PIN.GATED 1 else m
  let m1 := ((m0.setState n 0).tput n CH_STAT.SLEWING 0).tput n CH_STAT.ARMED 0
  let mo := if n % 2 = 0 && m.doubled n then m1.updCh (n + 1) (fun x => { x with e0 := m.edges (n + 1) }) else m1
  let m2 := mo.setCh n
    { c with e0 := k, rem := 0, step := 0, shadow := false, regrid := false, byEval := false, willMove := false, pulse := none, trigHeld := none,
             highTo := 0, charge := 0, cleanGate := none, gateAt := if c.cleanGate.isSome then m.grid else c.gateAt, relEdge := none, winOk := false }
  let m3 := (m2.put (GOV_PHELD.HELD p) (m2.f (GOV_PHELD.HELD p) - c.charge)).put GOV_EST.HELD (m2.f GOV_EST.HELD - c.charge)
  let m4 := m3.put (MR_STAT.TSTATE n) 0
  (m4.chEvt n (2 + extra)).push (.stopped n)

/-- An immediate stop with its cause (R191). -/
def Mach.parkNow (n cause extra : Nat) (m : Mach) : Mach :=
  if m.chst n = 0 || m.oddDouble n then m else (m.tput n CH_STAT.CAUSE cause).enterStopped n extra

/-- The end of the final low phase of a clean stop that began at a grid time (R186): the first rising edge at least 16 PHS cycles ahead; a
burst ends no later than its COUNT-th period (R199). -/
def Mach.finalLow (m : Mach) (n at' : Nat) : Nat :=
  let c := m.ch n
  let f := riseFrom c (at' + 1024)
  if m.t n CH_CTL.MODE = 1 then Nat.min f (edgeTime c (m.t n CH_BURST.COUNT + 1)) else f

/-- A clean stop request with its cause (R183, R189, R200). -/
def Mach.stop (n cause : Nat) (nonRes : Bool) (m : Mach) : Mach :=
  if m.oddDouble n then m
  else match m.chst n with
  | 0 => m.withdraw n
  | 1 => (m.tput n CH_STAT.CAUSE cause).enterStopped n 0
  | 2 =>
    let mg := (m.gateSettle n).updCh n (fun c => { c with winOk := false })
    let m0 := mg.setCh n (if m.t n CH_CTL.MODE = 2 then rollShot (mg.ch n) m.fine else mg.ch n)
    let c := m0.ch n
    let m1 := m0.tput n CH_STAT.CAUSE cause
    if m.t n CH_CTL.MODE = 2 then
      match c.pulse with
      | none => m1.enterStopped n 0
      | some s => ((m1.setState n 3).tput n CH_STAT.ARMED 0).setCh n { c with nonRes := nonRes, stopAt := m.grid, stopEnd := s + 64 * c.n, trigHeld := none }
    else (m1.setState n 3).setCh n { c with nonRes := nonRes, stopAt := m.grid, stopEnd := m0.finalLow n m.fine }
  | _ =>
    if cause = csHOST then (if nonRes then m.updCh n (fun c => { c with nonRes := true }) else m)
    else if m.t n CH_STAT.CAUSE = csHOST then m.tput n CH_STAT.CAUSE cause else m

/-- CLEAN_STOP_END (R186): the final low phase ends. -/
def Mach.cleanStopEnd (n : Nat) (m : Mach) : Mach :=
  if m.chst n ≠ 3 || m.oddDouble n then m
  else (m.advTo (((m.ch n).stopEnd + 63) / 64)).enterStopped n (if m.t n CH_STAT.CAUSE = csBURST_END then 32 else 0)

/-- A channel that is still STOPPING at its limit stops at once, with its fault (R190). -/
def Mach.forceStop (n : Nat) (m : Mach) : Mach :=
  if m.chst n ≠ 3 || m.oddDouble n then m else (m.raise fStopForced n (word (m.t n CH_STAT.CAUSE))).parkNow n csFORCED 16

/-- STOP_WATCHDOG (R190): a clean stop has not ended within 2N + 64 PHS cycles. A stop of cause WARM has its own limit. -/
def Mach.stopWatchdog (n : Nat) (m : Mach) : Mach :=
  if m.chst n ≠ 3 || m.t n CH_STAT.CAUSE = csWARM || m.oddDouble n then m
  else (m.advTo ((m.ch n).stopAt + 2 * (m.ch n).n + 64)).forceStop n

/-- BURST_LAST_EDGE (R199): the COUNT-th rising edge puts the channel into STOPPING; one that falls in a host stop makes it the
burst's end. -/
def Mach.burstLast (n : Nat) (m : Mach) : Mach :=
  let c := m.ch n
  let k := m.t n CH_BURST.COUNT
  let m1 := m.advTo ((edgeTime c k + 63) / 64)
  if m.t n CH_CTL.MODE ≠ 1 || m.oddDouble n || !m.boot.clocks then m
  else if m.chst n = 2 then
    ((m1.setState n 3).tput n CH_STAT.CAUSE csBURST_END).setCh n { c with stopAt := m1.grid, stopEnd := edgeTime c (k + 1), winOk := false }
  else if m.chst n = 3 && m.t n CH_STAT.CAUSE = csHOST && edgeTime c k < c.stopEnd then m1.tput n CH_STAT.CAUSE csBURST_END
  else m

/-! ## One-shot and resync (R200, R201) -/

/-- A trigger of a one-shot channel (R200). -/
def Mach.trig (n : Nat) (m : Mach) : Mach :=
  if m.oddDouble n then m.startRej n (rBAD_PARAM, some 7)
  else if m.chst n ≠ 2 || m.t n CH_CTL.MODE ≠ 2 then m
  else
    let mg := m.gateSettle n
    let c := rollShot (mg.ch n) m.fine
    let t := m.fine + 4096
    match c.pulse, c.trigHeld with
    | none, _ => (mg.setCh n { c with pulse := some (idealFrom c t), trigAt := t }).tput n CH_STAT.ARMED 0
    | some _, none => mg.setCh n { c with trigHeld := some t }
    | some _, some _ => (mg.setCh n c).chEvt n 0x200

/-- The fine time at which the high time of the engine's latest edge ends, where it has not yet (R201). -/
def Mach.highEnd (m : Mach) (c : Chan) : Nat :=
  let r := lastRise c m.fine
  if edgeAt r ≤ m.fine && m.fine < edgeAt r + highTime r then edgeAt r + 64 * c.h else c.highTo

/-- A resync of a channel in RUN (R201): a high time in progress ends at H from its edge, the pin stays low, and the channel resumes at
the first ideal rising edge at least 64 PHS cycles ahead, with any move abandoned, the grid phase taken at once and the triangle of a
spread set afresh; an echo pairing that was lost begins anew (R262). A one-shot's pulse that has not begun waits for that edge. -/
def Mach.resync (n : Nat) (m : Mach) : Mach :=
  if m.oddDouble n then m.startRej n (rBAD_PARAM, some 7)
  else if m.chst n ≠ 2 then m
  else
    let k := m.edges n
    let mg := m.gateSettle n
    let c := if (mg.ch n).pairLost then { mg.ch n with pairLost := false, pads := 0, echoes := 0 } else mg.ch n
    let f := idealFrom c (m.fine + 4096)
    let c' :=
      if m.t n CH_CTL.MODE = 2 then
        let r := rollShot c m.fine
        { r with pulse := r.pulse.map (fun p => if m.fine < p then Nat.max p f else p), trigAt := Nat.max r.trigAt f,
                 trigHeld := r.trigHeld.map (fun t => Nat.max t f) }
      else { c with t0 := f, e0 := k + 1, phi := f % (64 * Nat.max 1 c.n), rem := 0, step := 0, regrid := false, spRef := k + 1, highTo := m.highEnd c }
    let m1 := ((mg.setCh n { c' with winOk := false }).tput n CH_STAT.SLEWING 0).chEvt n 0x80
    m1.moverDone n 0

/-! ## Live changes (R192 to R196, R301) -/

/-- The checks of an adopted set: the limits of the pin, a change of N under spread, and the pin's use (R181, R193), in the order of
R184. -/
def Mach.adoptCheck (m : Mach) (n : Nat) : Option Nat :=
  match m.liveCheck n (m.t n CH_PERIOD.N) (m.t n CH_HIGH.H) (m.t n CH_PHASE.P) with
  | some c => some c
  | none =>
    if m.tb n CH_SPREAD.EN && m.t n CH_PERIOD.N ≠ (m.ch n).n then some 6 else if m.badPin n then some 8 else none

/-- A set that fails is not adopted: the table reads back the active values, LIVE_REJ (R193). -/
def Mach.liveReject (n c : Nat) (m : Mach) : Mach := ((m.readBack n).tput n CH_STAT.PERR c).chEvt n 8

/-- A STARTING channel adopts at once and chooses its first edge again; a refused set leaves its start as it was (R192, R193). -/
def Mach.adoptStarting (n : Nat) (m : Mach) : Mach :=
  if m.chst n ≠ 1 then m
  else match m.adoptCheck n with
  | some c => m.liveReject n c
  | none =>
    let old := (m.ch n).n
    let m1 := (m.loadActive n).chooseFirst n
    if old = m.t n CH_PERIOD.N then m1 else m1.recharge n

/-- The update point of a channel with something to adopt: its first rising edge at or after the instant that its commit allows; an
ideal one for a one-shot channel (R192). -/
def Mach.updateAt (m : Mach) (n : Nat) : Nat :=
  if m.t n CH_CTL.MODE = 2 then idealFrom (m.ch n) (m.ch n).shadowAt else riseFrom (m.ch n) (m.ch n).shadowAt

/-- A set that passes is adopted whole, one that fails not at all (R193). -/
def Mach.adoptSet (n : Nat) (m : Mach) : Mach :=
  match m.adoptCheck n with
  | some x => m.liveReject n x
  | none => if m.t n CH_PERIOD.N = (m.ch n).n then m.loadActive n else (m.loadActive n).recharge n

/-- A one-shot channel at its update point `t`: pulses that end by then count, one that begins there has the new settings, and later ones
take their places on the new grid (R194, R200). -/
def Mach.shotUpdate (n t : Nat) (m : Mach) : Mach :=
  let m1 := (m.updCh n (fun c => { rollShot c t with regrid := false })).adoptSet n
  m1.updCh n (fun c => replaceShot c t)

/-- A continuous or burst channel at its update point `t`: the edge there becomes the reference edge, the set is judged, and a phase move
begins (R193, R194); a set refused leaves the engine as it was, but for the move of a grid load that waits with it. -/
def Mach.edgeUpdate (n t : Nat) (m : Mach) : Mach :=
  let c := m.ch n
  let fail := c.shadow && (m.adoptCheck n).isSome
  let per := if c.shadow && !fail then m.t n CH_PERIOD.N else c.n
  let ref := edgeFrom' c c.shadowAt
  let m1 := if per = c.n then m.setCh n { ref with regrid := false }
    else m.setCh n { ref with regrid := false, phi := t % (64 * Nat.max 1 per), rem := 0, step := 0 }
  let m2 := if !c.shadow then m1 else if fail || per = c.n then m1.adoptSet n else (m1.loadActive n).recharge n
  if fail && !c.regrid then m2
  else
    let m3 := m2.beginMove n c.byEval
    let m4 := if m.chst n = 3 then m3.updCh n (fun x => { x with stopEnd := m3.finalLow n (64 * x.stopAt) }) else m3
    if m4.tb n CH_STAT.SLEWING then m4 else m4.moverDone n 0

/-- UPDATE_POINT (R192 to R194): the channel's first rising edge at or after the instant from which its shadow may be adopted. A member in
STOPPING adopts only when its stop is resumed (R213). -/
def Mach.updatePoint (n : Nat) (m : Mach) : Mach :=
  let c := m.ch n
  let st := m.chst n
  let t := m.updateAt n
  if !(c.shadow || c.regrid) || (st ≠ 2 && st ≠ 3) || (st = 3 && (c.stopEnd ≤ t || m.member n)) || !m.boot.clocks || m.oddDouble n then m
  else
    let m1 := (m.advTo ((t + 63) / 64)).gateSettle n
    if m.t n CH_CTL.MODE = 2 then m1.shotUpdate n t else m1.edgeUpdate n t

/-- PHASE_MOVE_DONE (R195): the move is used up and the edges stand on the grid. -/
def Mach.phaseMoveDone (n : Nat) (m : Mach) : Mach :=
  let c := m.ch n
  let t1 := moveEnd c
  if !m.tb n CH_STAT.SLEWING || !m.boot.clocks then m
  else
    let m1 := (m.advTo ((t1 + 63) / 64)).gateSettle n
    let m2 := ((m1.setCh n { rebase (m1.ch n) t1 with moveLen := 0 }).tput n CH_STAT.SLEWING 0).chEvt n 0x40
    m2.moverDone n c.moveLen

/-- A grid load as it reaches one engine that is not STOPPED (R179): its edges keep their instants on the shifted count, a STARTING channel
chooses its first edge again, a one-shot's pulse that has not begun takes its place on the new grid, and the others move onto it from
their next update point (R196). `d` is the shift in fine steps, `g0` the count before it. -/
def Mach.gridShift (n g0 : Nat) (d : Int) (m : Mach) : Mach :=
  let mv := fun (x : Nat) => ((x : Int) + d).toNat
  let c0 := m.ch n
  let c := if m.t n CH_CTL.MODE = 2 then rollShot c0 (64 * g0) else rebase c0 (64 * g0)
  let per := 64 * Nat.max 1 c.n
  let c1 := { c with winOk := false, t0 := mv c.t0, phi := mv c.t0 % per, stopEnd := mv c.stopEnd, stopAt := m.grid - (g0 - c.stopAt),
                     shadowAt := mv c.shadowAt, pulse := c.pulse.map mv, trigAt := mv c.trigAt, trigHeld := c.trigHeld.map mv, highTo := mv c.highTo }
  if m.t n CH_CTL.MODE = 2 then m.setCh n (if m.chst n = 3 then c1 else replaceShot c1 m.fine)
  else
    let at' := m.fine + 768
    m.setCh n { c1 with regrid := true, shadowAt := if c.shadow || c.regrid then Nat.max c1.shadowAt at' else at' }

/-- A grid load moves the grid under every engine that is not STOPPED (R179, R196), and with it the grid times of pins and holds. -/
def Mach.gridLoad (g : Nat) (m : Mach) : Mach :=
  let d : Int := (g : Int) - m.grid
  let m1 := forN 256 (fun n t => t.updCh n (shiftPin d)) { forN 256 Mach.gateSettle m with grid := g }
  let m2 := forN 32 (fun i t => applyIf (!(t.grp i).vacant.isEmpty)
    (fun u => u.setGrp i { u.grp i with vacant := (u.grp i).vacant.map (fun x => (x.1, ((x.2 : Int) + d).toNat)) }) t) m1
  forN 256 (fun n t =>
    match t.chst n with
    | 0 => t
    | 1 => (t.updCh n (fun c => { c with winOk := false })).chooseFirst n
    | _ => if t.oddDouble n then t else t.gridShift n m.grid (64 * d)) m2

/-! ## The table's triggers and shadow (R33 step 10, R192) -/

/-- Trigger bits of CH_CTL launch in ascending bit order (R33, R189). -/
def Mach.chTriggers (n : Nat) (d : Word) (m : Mach) : Mach :=
  let m1 := if bitAt d 0 then (m.submit n .host).1 else m
  let m2 := if bitAt d 1 then (if m1.oddDouble n then m1.startRej n (rBAD_PARAM, some 7) else m1.stop n csHOST false) else m1
  let m3 := if bitAt d 2 then m2.trig n else m2
  if bitAt d 3 then m3.resync n else m3

/-- A committed live word of a channel waits for the first rising edge at least 12 PHS cycles from now (R192). -/
def Mach.liveWord (n : Nat) (m : Mach) : Mach := m.liveFrom (m.fine + 768) n

/-! ## The engine self-check (R203) -/

/-- The channel that an engine serves now. -/
def Mach.engineCh (m : Mach) (e : Nat) : Option Nat :=
  if e < 256 then (if (m.spareOf e).isNone then some e else none) else m.hosted (e - 256)

/-- The first low time of an engine's own output that begins after a fine time (R521); the odd engine of a DOUBLE pair runs a quarter period
behind the even one (R182). -/
def Mach.lowTurn (m : Mach) (n t : Nat) : Option Nat :=
  let e := if m.doubled n then evenOf n else n
  let q := if m.doubled n && e ≠ n then 16 * (m.ch e).n else 0
  (((m.changesOf e (t - q)).filter (fun x => t < x + q && !m.highAt e x)).min?).map (fun x => x + q)

/-- ENG_CHECK (R203): the counters disagree at a rising edge of the engine. -/
def Mach.engCheck (e : Nat) (c1 c2 : Nat) (m : Mach) : Mach :=
  match m.engineCh e with
  | none => m
  | some n =>
    let st := m.chst (if m.doubled n then evenOf n else n)
    if c1 = c2 || (st ≠ 2 && st ≠ 3) then m
    else ((m.tput n CH_STAT.SELFCHK 0).tput e CH_STAT.SELFCHK 0).raise fEngCheck e (word (c1 + 65536 * c2))

/-- SELFCHK_RESTORE (R203): 16 consecutive agreeing periods. -/
def Mach.selfchkRestore (e : Nat) (m : Mach) : Mach :=
  match m.engineCh e with
  | none => m
  | some n => if m.chst n = 2 || m.chst n = 3 then (m.tput n CH_STAT.SELFCHK 1).tput e CH_STAT.SELFCHK 1 else m

end Sys2Proof.Machine
end

