-- ==== Sys2Proof/Machine/Governor.lean ====
section
/-! DEFINITION. The energy and heat governor (chapter 13): the budget and its shares, temperatures and thermal steps, shedding,
the scan interval, self-test slots, grants, and the pass that does them in order. -/
namespace Sys2Proof.Machine

/-! ## Budget and shares (R302 to R304) -/

/-- The machine budget B of the selected source (R302). -/
def Mach.budget (m : Mach) : Nat := if m.fb GOV_CFG.BSRC then m.gov.linkB else m.f GOV_BUDGET.B

/-- The effective budget: the fallback while the budget is stale (R303). -/
def Mach.effBudget (m : Mach) : Nat :=
  if m.fb GOV_STAT.STALE && m.f GOV_BCFG.BFALL ≠ 0xFFFF then m.f GOV_BCFG.BFALL else m.budget

/-- The available budget A in µW. -/
def Mach.available (m : Mach) : Nat := (m.effBudget - m.f GOV_STRES.RES) * 10000

/-- The effective share of partition p in µW (R304). -/
def Mach.share (m : Mach) (p : Nat) : Nat :=
  let sum := (List.range 16).foldl (fun a q => a + m.f (GOV_SHARE.SHARE q)) 0
  let s := m.f (GOV_SHARE.SHARE p)
  if sum * 10000 ≤ m.available || sum = 0 then s * 10000 else s * m.available / sum

/-- Recompute B_EFF, A and every S_p (R318 step 2). -/
def Mach.showBudget (m : Mach) : Mach :=
  let m1 := (m.put GOV_BEFF.BEFF m.effBudget).put GOV_BEFF.AVAIL (m.available / 10000)
  forN 16 (fun p t => t.put (GOV_PEFF.EFF p) (m.share p)) m1

/-- The budget is refreshed (R302, R303): by each accepted write, command or budget word, whichever source is selected (R430). -/
def Mach.refreshBudget (m : Mach) : Mach := ((m.put GOV_STAT.STALE 0).startTimer .budget).showBudget

/-- BUDGET_STALE (R303): BTO ms after the latest refresh, or after the release of the core reset where there has been none; once per stale
period. -/
def Mach.budgetStale (m : Mach) : Mach :=
  if m.f GOV_BCFG.BTO = 0 || m.fb GOV_STAT.STALE || !m.powered || m.boot.held then m
  else
    let m1 := m.advNow ((m.since .budget).getD m.boot.relTime + m.f GOV_BCFG.BTO * msec)
    (((m1.put GOV_STAT.STALE 1).put GOV_EVT.STALE 1).raise fBudgetStale 0 (word m1.budget)).showBudget

/-- BUDGET_WAIT (R308): WAIT_LIM ms after the submission, once per request. -/
def Mach.budgetWait (n : Nat) (m : Mach) : Mach :=
  if !m.tb n CH_STAT.PEND || (m.ch n).waitRaised || m.f GOV_CFG.WAIT_LIM = 0 then m
  else
    let m1 := m.advNow ((m.ch n).waitAt + m.f GOV_CFG.WAIT_LIM * msec)
    ((m1.updCh n (fun c => { c with waitRaised := true })).put GOV_EVT.WAITLIM 1).raise fBudgetWait n (word ((m1.now - (m.ch n).waitAt) / msec))

/-! ## Temperature (R309, R310) -/

/-- The latest reading of a sensor, signed, in 0.1 °C. -/
def Mach.temp (m : Mach) (i : Nat) : Int := signed 16 (m.f (GOV_TEMP.T i))

/-- T_max: the highest reading among the valid sensors. -/
def Mach.tmax (m : Mach) : Option Int :=
  (List.range 4).foldl (fun (acc : Option Int) i =>
    if m.fb (GOV_TEMP.VALID i) then some (match acc with | none => m.temp i | some t => if t < m.temp i then m.temp i else t) else acc) none

/-- A reading lies within the sensors' range. -/
def inRange (t : Int) : Bool := -550 ≤ t && t ≤ 1500

/-- A reading is valid (R309): in range, and within 25.0 °C of the median of at least two other valid sensors. -/
def readingOk (temps : List Int) (bad : List Nat) (i : Nat) : Bool :=
  let t := temps.getD i 0
  let others := sortBy (fun a b => a ≤ b)
    (((List.range 4).filter (fun j => j ≠ i && bad.getD j 0 = 0 && inRange (temps.getD j 0))).map (fun j => temps.getD j 0))
  let far := match others with
    | [a, b] => (2 * t - (a + b)).natAbs > 500
    | [_, b, _] => (t - b).natAbs > 250
    | _ => false
  inRange t && !far

/-- A step's threshold in 0.1 °C: one set below the one beneath it acts as that one (R310). -/
def Mach.threshold (m : Mach) (s : Nat) : Int :=
  let a := m.f GOV_THERM.TH1
  let b := Nat.max a (m.f GOV_THERM.TH2)
  let c := Nat.max b (m.f GOV_THERM.TH3)
  10 * ((if s = 1 then a else if s = 2 then b else c : Nat) : Int)

/-- A reading taken, sensor i judged: one entry to invalidity raises TSENSE, 16 valid readings end it. -/
def Mach.judgeSensor (temps : List Int) (bad0 : List Nat) (i : Nat) (m : Mach) : Mach :=
  let k := bad0.getD i 0
  let t := temps.getD i 0
  let m1 := m.put (GOV_TEMP.T i) (unsign 16 t)
  if readingOk temps bad0 i then
    let k' := k - 1
    let m2 := { m1 with gov := { m1.gov with bad := m1.gov.bad.set i k' } }
    (m2.put (GOV_TEMP.VALID i) (b2n (k' = 0))).put GOV_STAT.SENSOK (if k' = 0 then m2.f GOV_STAT.SENSOK ||| 2 ^ i else m2.f GOV_STAT.SENSOK &&& (15 - 2 ^ i))
  else
    let m2 := { m1 with gov := { m1.gov with bad := m1.gov.bad.set i 16 } }
    let m3 := (m2.put (GOV_TEMP.VALID i) 0).put GOV_STAT.SENSOK (m2.f GOV_STAT.SENSOK &&& (15 - 2 ^ i))
    if k = 0 then (m3.put GOV_EVT.TSENSE 1).raise fTsense i (word (unsign 32 t)) else m3

/-- The lowest class that the present step sheds, 8 at step 0 (R311). -/
def Mach.lowestShed (m : Mach) : Nat :=
  (List.range (m.f GOV_STAT.STEP)).foldl (fun a i => Nat.min a (Nat.max 1 (m.f (GOV_STEPCFG.SCLS (i + 1))))) 8

/-- SI_MIN and SI_MAX as they act (R255). -/
def Mach.siMin (m : Mach) : Nat := Nat.max 1 (Nat.min 10000 (m.f MON_SCHED.SI_MIN))
def Mach.siMax (m : Mach) : Nat := Nat.max m.siMin (Nat.min 10000 (m.f MON_SCHED.SI_MAX))

/-- SI_EFF (R316). -/
def Mach.siEff (m : Mach) : Nat :=
  let s := m.f GOV_STAT.STEP
  let k := if s = 0 then 0 else m.f (GOV_STEPCFG.SISH s)
  if k = 7 then m.siMax else Nat.min m.siMax (m.siMin * 2 ^ k)

/-- SI_EFF is recomputed: at each step change, and at each write of MON_SCHED or GOV_STEPCFG (R316). -/
def Mach.showSi (m : Mach) : Mach := m.put MON_STAT.SI_EFF m.siEff

/-- The step changes (R313): a rise lets shedding go on; a fall during a dwell stops it at the class reached, and classes that are
no longer eligible are no longer reached. -/
def Mach.setStep (s : Nat) (m : Mach) : Mach :=
  let old := m.f GOV_STAT.STEP
  let m1 := (m.put GOV_STAT.STEP s).showSi
  if old < s then { m1 with gov := { m1.gov with halted := false } }
  else if s < old then
    { m1.put GOV_STAT.DWELLING 0 with
      gov := { m1.gov with halted := m.gov.halted || m.fb GOV_STAT.DWELLING, reach := Nat.max m.gov.reach m1.lowestShed } }
  else m1

/-- One evaluation of the thermal step (R310). -/
def Mach.evalStep (m : Mach) : Mach :=
  match m.tmax with
  | none =>
    if m.fb GOV_STAT.NOSENS then m
    else
      let (w, m1) := m.draw
      ((({ m1 with gov := { m1.gov with up := [0, 0, 0], down := 0 } }).put GOV_STAT.NOSENS 1).setStep 3).raise fThermStep 3 w
  | some t =>
    let s := m.f GOV_STAT.STEP
    let up := (List.range 3).map (fun i => if m.threshold (i + 1) ≤ t then Nat.min 3 (m.gov.up.getD i 0 + 1) else 0)
    let down := if s ≥ 1 && t < m.threshold s - 10 * (m.f GOV_THERM.HYST : Int) then m.gov.down + 1 else 0
    let m1 := ({ m with gov := { m.gov with up := up, down := down } }).put GOV_STAT.NOSENS 0
    let hit := fun k => s < k && up.getD (k - 1) 0 = 3
    let target := if hit 3 then some 3 else if hit 2 then some 2 else if hit 1 then some 1 else none
    match target with
    | some k => ((({ m1 with gov := { m1.gov with down := 0 } }).setStep k).put GOV_EVT.STEP_UP 1).raise fThermStep k (word (unsign 32 t))
    | none => if down ≥ 3 then (({ m1 with gov := { m1.gov with down := 0 } }).setStep (s - 1)).put GOV_EVT.STEP_DOWN 1 else m1

/-- TSENSE_READ (R309, R310). -/
def Mach.tsense (temps : List Int) (m : Mach) : Mach :=
  if !m.powered || m.boot.held then m
  else (forN 4 (Mach.judgeSensor temps m.gov.bad) m).evalStep

/-! ## Shedding (R311 to R314) -/

/-- The channel is shed-eligible at the present step (R311). -/
def Mach.eligible (m : Mach) (n : Nat) : Bool := m.lowestShed ≤ m.t n CH_GOV.CLASS

/-- The channel runs and is driven by its own requests. -/
def Mach.inRun (m : Mach) (n : Nat) : Bool := m.chst n = 2 && !m.oddDouble n

/-- Shed a channel (R312): `step` is the thermal step in the payload, 0 for a budget shed. -/
def Mach.shed (n step : Nat) (m : Mach) : Mach :=
  ((m.put GOV_EVT.SHED 1).raise fShed n (word (m.t n CH_GOV.CLASS + 16 * step))).stop n csSHED false

/-- The channels of a class in RUN, in descending number. -/
def Mach.runOf (m : Mach) (c : Nat) : List Nat := ((List.range 256).filter (fun n => m.inRun n && m.t n CH_GOV.CLASS = c)).reverse

/-- Shed every channel in RUN of a class. -/
def Mach.shedClass (c : Nat) (m : Mach) : Mach := (m.runOf c).foldl (fun t n => t.shed n (m.f GOV_STAT.STEP)) m

/-- The thermal sheds of a pass (R313): channels of the eligible classes already reached, from class 7 down; then, outside a dwell,
the next lower eligible class with a channel in RUN, with a dwell after it. -/
def Mach.thermalSheds (m : Mach) : Mach :=
  if m.f GOV_STAT.STEP = 0 then m
  else
    let lo := m.lowestShed
    let m1 := ((List.range 8).reverse.filter (fun c => Nat.max m.gov.reach lo ≤ c)).foldl (fun t c => t.shedClass c) m
    if m.fb GOV_STAT.DWELLING || m.gov.halted then m1
    else
      match ((List.range 8).reverse.filter (fun c => lo ≤ c && c < m.gov.reach)).find? (fun c => !(m1.runOf c).isEmpty) with
      | none => { m1 with gov := { m1.gov with reach := Nat.min m.gov.reach lo } }
      | some c =>
        let m2 := m1.shedClass c
        (({ m2 with gov := { m2.gov with reach := c } }).put GOV_STAT.DWELLING 1).startTimer .dwell

/-- DWELL_END (R313): 10 ms times DWELL after a class that lost a channel; a DWELL of 0 acts as 1. -/
def Mach.dwellEnd (m : Mach) : Mach :=
  if m.fb GOV_STAT.DWELLING then (m.reach .dwell (Nat.max 1 (m.f GOV_CFG.DWELL) * 10 * msec)).put GOV_STAT.DWELLING 0 else m

/-- Power held by partition p beyond the costs of its releasing channels (R312, R314). -/
def Mach.standing (m : Mach) (p : Nat) : Nat :=
  m.f (GOV_PHELD.HELD p) -
    (List.range 256).foldl (fun a n => if m.ownCh n = p && m.chst n = 3 then a + (m.ch n).charge else a) 0

/-- The budget sheds of partition p (R314): the highest class first, then the highest channel number, one at a time. -/
def Mach.budgetSheds (p : Nat) (m : Mach) : Mach :=
  let before := fun (a b : Nat) => decide (m.t b CH_GOV.CLASS < m.t a CH_GOV.CLASS ∨ (m.t a CH_GOV.CLASS = m.t b CH_GOV.CLASS ∧ b ≤ a))
  let order := sortBy before ((List.range 256).filter (fun n => m.ownCh n = p && m.inRun n && m.t n CH_GOV.CLASS ≠ 0))
  let m1 := order.foldl (fun t n => if m.share p < t.standing p then t.shed n 0 else t) m
  let starting := (List.range 256).any (fun n => m1.ownCh n = p && m1.chst n = 1 && m1.t n CH_GOV.CLASS ≠ 0)
  if m.share p < m1.standing p && !starting then
    (if m1.fb (GOV_PSTAT.OVER p) then m1 else (m1.put (GOV_PSTAT.OVER p) 1).put GOV_EVT.OVER 1)
  else if m1.f (GOV_PHELD.HELD p) ≤ m.share p then m1.put (GOV_PSTAT.OVER p) 0 else m1

/-! ## Scan interval and slots (R316, R317) -/

/-- Show the slots held. -/
def Mach.showSlots (m : Mach) : Mach := m.put GOV_STAT.SLOTS m.gov.slots.length

/-- The row of an activity in the cadence table (R519). -/
def actRow : Activity → Nat
  | .fdcal _ => 1
  | .loopback _ => 2
  | .lane _ => 3
  | .qeng => 4
  | .scrub _ => 5

/-- A request for a slot joins those that wait: in the order of the cadence table's rows, and of request within a row (R317, R519;
DEDUCED, log entry 71). -/
def queueIn (a : Activity) (ws : List (Activity × Bool)) : List (Activity × Bool) :=
  ws.takeWhile (fun w => decide (actRow w.1 ≤ actRow a)) ++ (a, false) :: ws.dropWhile (fun w => decide (actRow w.1 ≤ actRow a))

/-- An activity asks for a slot, once (R317). -/
def Mach.askSlot (a : Activity) (m : Mach) : Mach :=
  if m.gov.slots.contains a || (m.gov.want.map Prod.fst).contains a then m
  else { m with gov := { m.gov with want := queueIn a m.gov.want } }

/-- The number by which an activity's slot timer is known. -/
def actIdx : Activity → Nat
  | .fdcal g => g.val
  | .lane l => 20 + l.val
  | .loopback .up => 40
  | .loopback .down => 41
  | .qeng => 42
  | .scrub i => 43 + i.val

/-- T_max at the start of a group's pass is kept (R519). -/
def Mach.passBegins (g : Nat) (m : Mach) : Mach :=
  { m with test := { m.test with warm := cset (fun _ => none) m.test.warm g m.tmax } }

/-- An activity's slot is granted: its time runs (R317), and a pass that does not resume from a checkpoint starts (R519). -/
def Mach.grantSlot (a : Activity) (m : Mach) : Mach :=
  let m1 := m.startTimer (.slot (actIdx a))
  match a with
  | .fdcal g => if cget (fun _ => ({} : Pass)) m.test.passes g.val = {} then m1.passBegins g.val else m1
  | _ => m1

/-- The slots of a pass (R317): above STSTEP every slot is revoked, and its activity asks again (R519); each request that waits
because of the step counts once. Else slots are granted in the order of the queue. -/
def Mach.slotPass (m : Mach) : Mach :=
  if m.f GOV_CFG.STSTEP < m.f GOV_STAT.STEP then
    let ws := m.gov.slots.foldl (fun ws a => queueIn a ws) m.gov.want
    let fresh := countIf (fun w : Activity × Bool => !w.2) ws
    let m1 := { m with gov := { m.gov with slots := [], want := ws.map (fun (w : Activity × Bool) => (w.1, true)) } }
    (m1.put GOV_STAT.STDEF (Nat.min 255 (m.f GOV_STAT.STDEF + fresh))).showSlots
  else if m.dev != .run && m.dev != .ochre then m
  else
    let k := m.f GOV_CFG.STMAX - m.gov.slots.length
    let took := (m.gov.want.take k).map Prod.fst
    let m1 := { m with gov := { m.gov with slots := m.gov.slots ++ took, want := m.gov.want.drop k } }
    (took.foldl (fun t a => t.grantSlot a) m1).showSlots

/-- A slot ends with its test (R317). -/
def Mach.slotEnd (a : Activity) (m : Mach) : Mach := ({ m with gov := { m.gov with slots := m.gov.slots.erase a } }).showSlots

/-- SLOT_END: SLOT ms after its grant a slot's time is up before its test completes, and the test asks again; a SLOT of 0 acts as 1 (R317,
R519). -/
def Mach.slotLapse (a : Activity) (m : Mach) : Mach :=
  if m.gov.slots.contains a then ((m.reach (.slot (actIdx a)) (Nat.max 1 (m.f GOV_STRES.SLOT) * msec)).slotEnd a).askSlot a else m

/-! ## Grants (R305 to R307) -/

/-- One request of the walk: passed over by the step, granted, refused at the recheck, or the end of the walk. -/
def Mach.serveOne (p n : Nat) (m : Mach) : Mach × Bool :=
  if m.eligible n then (m.tput n CH_GOV.TBLK 1, true)
  else
    let m1 := m.tput n CH_GOV.TBLK 0
    if m1.fb (GOV_PSTAT.OVER p) || m1.share p < m1.f (GOV_PHELD.HELD p) + m1.cost n then (m1, false)
    else match m1.startVerdict n (m1.ch n).unchecked with
    | some v => ((m1.withdraw n).startRej n v, true)
    | none => (m1.enterStarting n, true)

/-- The walk of partition p (R307). A request that the step no longer holds back shows no TBLK, whether the walk reaches it or not. -/
def Mach.serve (p : Nat) (m : Mach) : Mach :=
  let m := (m.waiting p).foldl (fun t n => if t.eligible n then t else t.tput n CH_GOV.TBLK 0) m
  ((m.walk p).foldl (fun (acc : Mach × Bool) n =>
    if acc.2 && acc.1.tb n CH_STAT.PEND then acc.1.serveOne p n else acc) (m, true)).1.showWaiting p

/-- GOV_PASS (R318): budget, thermal sheds, budget sheds, scan interval, slots, grants. -/
def Mach.govPass (m : Mach) : Mach :=
  if !m.powered || m.boot.held then m
  else
    let m1 := m.showBudget.thermalSheds
    let m2 := forN 16 Mach.budgetSheds m1
    let m3 := m2.showSi.slotPass
    if m3.running && !m3.goingDown && m3.boot.clocks then forN 16 Mach.serve m3 else m3

end Sys2Proof.Machine
end

