-- ==== Sys2Proof/Machine/Output.lean ====
section
/-! DEFINITION. The output stage (chapter 10): what each OUT pin does, the bank's supply match, bonds, function switches with
their park interval, the gate of HALT_N, and the routes of spare engines. -/
namespace Sys2Proof.Machine

/-! ## Banks (R93, R94, R229, R230) -/

/-- BANK_VOK bit k as R229 defines it. -/
def Mach.matches' (m : Mach) (k : Nat) : Bool :=
  m.present k && (m.f (BANK_CFG.VSEL k) = 0 || m.f (BANK_CFG.VSEL k) = m.bankClass k)

/-- BANK_VOK bit k as held. -/
def Mach.vok (m : Mach) (k : Nat) : Bool := (m.reg 0x040080).getLsbD k

/-- Set BANK_VOK bit k. -/
def Mach.setVok (k : Nat) (v : Bool) (m : Mach) : Mach := m.setReg 0x040080 (setF (m.reg 0x040080) k 1 (b2n v))

/-- The engines of a bank stop at once with cause BANK_POWER; those in RUN are remembered (R93, R94). -/
def Mach.bankHalt (k : Nat) (m : Mach) : Mach :=
  forN 16 (fun q t =>
    let n := 16 * k + q
    (t.updCh n (fun c => { c with wasRun := t.chst n = 2 })).parkNow n csBANK_POWER 0) m

/-- A bank recovers (R94): with BANK_RST.AUTO the channels that were in RUN submit start requests. -/
def Mach.bankRestart (k : Nat) (m : Mach) : Mach :=
  forN 16 (fun q t =>
    let n := 16 * k + q
    let was := (t.ch n).wasRun
    let t1 := t.updCh n (fun c => { c with wasRun := false })
    if was && (m.f BANK_RST.AUTO).testBit k then t1.push (.start n .bank) else t1) m

/-- The device compares VSEL with the detected class (R229, R230): `arrive` at the bank's presence, else at a write of VSEL. -/
def Mach.checkVok (k : Nat) (arrive : Bool) (m : Mach) : Mach :=
  let old := m.vok k
  let new := m.matches' k
  let m1 := if new then m.setVok k new else (m.setVok k new).trimHold
  let bad := (word (m.f (BANK_CFG.VSEL k) + 256 * m.bankClass k))
  if !m.present k then m1
  else if !new then
    (if old then (m1.bankHalt k).raise fBankVmis k bad else if arrive then m1.raise fBankVmis k bad else m1)
  else if !old then m1.bankRestart k else m1

/-! ## What a pin does (R66, R67, R233 to R235, R243) -/

/-- What a pad does. -/
inductive Pad where
  /-- High impedance, no pull. -/
  | z
  /-- Driven at the level that the boundary-scan register holds (R73). -/
  | boundary (high : Bool)
  /-- High impedance with the pull-down. -/
  | pullDown
  /-- Driven at the channel's park level. -/
  | park (high : Bool)
  /-- Driven at a level by LEVEL or PGPO. -/
  | level (high : Bool)
  /-- Following its serving engine. -/
  | clock
  /-- An input with the pull-down: ECHO-IN. -/
  | echoIn
  deriving DecidableEq, Repr

/-- The pin lies in a park interval, or waits for the gate to begin its new function (R235, R242, R248). -/
def Mach.inPark (m : Mach) (n : Nat) : Bool :=
  let c := m.ch n
  c.swStep = 2 || c.swStep = 3 || m.grid < c.routeEnd

/-- The level that a LEVEL or PGPO pin is to drive (R234). -/
def Mach.levelOf (m : Mach) (n : Nat) : Bool := if m.t n CH_PIN.FUNC = 3 then m.fb (PGPO.BIT n) else m.tb n CH_PIN.LVL

/-- The level that it drives: a change waits for the end of 24 PHS cycles after the one before (R234). -/
def Mach.levelNow (m : Mach) (n : Nat) : Bool :=
  match (m.ch n).lvl with
  | some (t, v) => if m.grid < t then v else m.levelOf n
  | none => m.levelOf n

/-- The level that the boundary-scan register holds for OUT pin n (R73). -/
def Mach.scanLevel (m : Mach) (n : Nat) : Bool := (m.bsr.getD (n / 32) 0).getLsbD (n % 32)

/-- What OUT pin n does now (R66, R67, R91, R233, R234, R239, R243): Z where its bank is not present. A RESET_N that is recognised
while EXTEST, CLAMP or HIGHZ is in force leaves the pin to the TAP, which RESET_N does not reset (DESIGN CHOICE, log entry 77). -/
def Mach.pad (m : Mach) (n : Nat) : Pad :=
  let e := m.leg n
  let park := m.tb e CH_PIN.PARK != (e ≠ n)
  let f := m.padFunc n
  match m.dev with
  | .off | .woad => .z
  | _ =>
    if !m.present (bankOf n) || m.tap == .highz then .z
    else if m.tap == .extest || m.tap == .clamp then .boundary (m.scanLevel n)
    else if m.dev == .boot || m.dev == .config then .pullDown
    else if !m.vok (bankOf n) then .z
    else if m.boot.held || (m.boot.precfg && m.dev == .ochre) then .pullDown
    else if f = 2 && !((m.ch n).swStep = 2) then .echoIn
    else if m.dev == .arming || m.dev == .ochre || m.gated n || m.inPark n || (m.ch n).rootPark then .park park
    else match f with
    | 0 => if m.chst e = 2 || m.chst e = 3 then .clock else .park park
    | 1 => if (m.ch n).resetPark then .park park else .level (m.levelNow n)
    | 3 => if (m.ch n).resetPark then .park park else .level (m.levelNow n)
    | _ => .echoIn

/-! ## Function switches (R235 to R238, R242) -/

/-- The channel that an OUT pin in ECHO-IN serves as echo source: the lowest-numbered one that names it (R24, R261). -/
def Mach.servedBy (m : Mach) (n : Nat) : Option Nat :=
  firstIdx 256 (fun c => m.t c CH_MON.ESRC = 256 + n && (m.tb c CH_MON.ECHO_EN || m.tb c CH_MON.TRIM_EN))

/-- The active N of a channel, or the N in its table if it is STOPPED. -/
def Mach.presentN (m : Mach) (n : Nat) : Nat := if m.chst n = 0 then m.t n CH_PERIOD.N else (m.ch n).n

/-- N_f of a function (R235); that of CLOCK is the one found at the switch. -/
def Mach.funcN (m : Mach) (n f : Nat) : Nat :=
  match f with
  | 0 => (m.ch n).swN
  | 2 => (m.servedBy n).elim 0 m.presentN
  | _ => 0

/-- T_park in PHS cycles (R235). -/
def tPark (nOld nNew : Nat) : Nat := Nat.max 24 (2 * Nat.max nOld nNew)

/-- Step 1 of a switch has ended: the park interval runs (R235). -/
def Mach.parkBegin (n : Nat) (m : Mach) : Mach :=
  let c := m.ch n
  m.setCh n { c with swStep := 2, swFrom := m.grid, parkEnd := m.grid + tPark (m.funcN n c.swOld) (m.funcN n (m.t n CH_PIN.FUNC)) }

/-- A park interval without a change of function: a route or a bond has changed (R232, R242). It runs beside that of a switch. -/
def Mach.parkOnly (n : Nat) (m : Mach) : Mach :=
  if m.dev == .config then m
  else m.updCh n (fun c => { c with routeEnd := Nat.max c.routeEnd (m.grid + tPark (m.presentN n) (m.presentN n)) })

/-- A committed change of CH_PIN.FUNC (R235 to R237): one away from CLOCK stops a channel that is not STOPPED for good, during a switch
too. In CONFIG no pin has a function to end: each takes the configured one at
the entry to ARMING (R66 note a; DEDUCED, log entry 35). -/
def Mach.switchFunc (n old : Nat) (m : Mach) : Mach :=
  let c := m.ch n
  let m1 := if old = 2 then (m.tput n CH_PIN.SWBUSY 1).trimHold else m.tput n CH_PIN.SWBUSY 1
  let halt := fun (t : Mach) => if old = 0 && t.chst n ≠ 0 then t.stop n csHOST true else t
  if m.dev == .config then m
  else if c.swStep = 2 || c.swStep = 3 then
    halt (m1.setCh n { c with swStep := 2, parkEnd := c.swFrom + tPark (m.funcN n c.swOld) (m.funcN n (m.t n CH_PIN.FUNC)) })
  else if c.swStep = 1 then halt m1
  else
    let m2 := halt (m1.setCh n { c with swOld := old, swStep := 1, swN := m.presentN n, lvl := none, winOk := false })
    if old ≠ 0 || m.chst n = 0 || m.gated n then m2.parkBegin n else m2

/-- The channel has reached STOPPED: a CLOCK function that was to end has ended (R235 step 1). -/
def Mach.switchStopped (n : Nat) (m : Mach) : Mach := if (m.ch n).swStep = 1 then m.parkBegin n else m

/-! ## The gate (R243 to R248) -/

/-- The gate is in force: HALT_N is low after its filter, or latched (R247). -/
def Mach.gateOn (m : Mach) : Bool := m.fb HALT_STAT.ASSERTED || m.fb HALT_STAT.LATCHED

/-- The HALT mode of a pin (R243). -/
def Mach.haltMode (m : Mach) (n : Nat) : Nat := m.f (HALT_MODE.MODE (m.leg n))

/-- The gate decision for one pin (R243, R245): a pin that the gate holds stays, a release that waits is off. -/
def Mach.gatePin (n : Nat) (m : Mach) : Mach :=
  let mode := m.haltMode n
  if mode = 0 || m.padFunc n = 2 || (m.bonded n && n % 2 = 1) then m
  else
    let m1 := m.gateSettle n
    if m1.tb n CH_PIN.GATED then m1.updCh n (fun c => { c with relEdge := none })
    else if mode = 2 && m.padFunc n = 0 && (m.chst n = 2 || m.chst n = 3) && m1.levelAt n m.fine != m.tb n CH_PIN.PARK
    then m1.updCh n (fun c => { c with cleanGate := some m.fine })
    else m1.gateNow n

/-- A LEVEL or PGPO pin begins to drive its value at a grid time (R234). -/
def Mach.levelFrom (g n : Nat) (m : Mach) : Mach :=
  m.updCh n (fun c => { c with lvl := if m.t n CH_PIN.FUNC % 2 = 1 then some (g + 24, m.levelOf n) else none })

/-- A function switch ends (R235 step 3): the new function begins, ECHO-IN without the gate (R248). -/
def Mach.switchEnd (n : Nat) (m : Mach) : Mach :=
  let m1 := ((m.updCh n (fun c => { c with swStep := 0 })).tput n CH_PIN.SWBUSY 0).tput n CH_PIN.SWDONE 1
  if m1.t n CH_PIN.FUNC = 2 then (m1.tput n CH_PIN.GATED 0).updCh n (fun c => { c with cleanGate := none, relEdge := none })
  else m1.levelFrom m1.grid n

/-- The release of one gated pin, decided at a grid time (R245, R246, R248): a CLEAN gate that has not taken effect is off. -/
def Mach.releasePin (g n : Nat) (m : Mach) : Mach :=
  let c := m.ch n
  let m0 := (if c.swStep = 3 then m.switchEnd n else m).gateSettle n
  let at' := Nat.max g (c.gateAt + 24)
  if !m0.tb n CH_PIN.GATED then m0.updCh n (fun c => { c with cleanGate := none })
  else if m.padFunc n = 0 then
    (if m.chst n = 2 || m.chst n = 3 then m0.updCh n (fun x => { x with relEdge := some (64 * g + 4096) }) else m0.tput n CH_PIN.GATED 0)
  else if at' ≤ m.grid then (m0.tput n CH_PIN.GATED 0).levelFrom m0.grid n
  else (m0.updCh n (fun x => { x with relEdge := some (64 * at') })).levelFrom at' n

/-- HALT_ASSERT (R244, R247). -/
def Mach.haltAssert (m : Mach) : Mach :=
  if !m.powered || m.boot.held || m.fb HALT_STAT.ASSERTED then m
  else
    let m1 := (((m.put HALT_STAT.ASSERTED 1).put HALT_STAT.COUNT (satInc 255 (m.f HALT_STAT.COUNT))).put HALT_STAT.EVT_ASSERT 1)
    let m2 := if m1.fb HALT_CFG.LATCH then m1.put HALT_STAT.LATCHED 1 else m1
    forN 256 Mach.gatePin (m2.raise fHaltAssert 0 (word (m.f HALT_CFG.FILT + 256 * m1.f HALT_STAT.COUNT)))

/-- Every gated pin is released, by a decision at a grid time (R246). -/
def Mach.releaseAll (g : Nat) (m : Mach) : Mach := (forN 256 (Mach.releasePin g) m).put HALT_STAT.EVT_RELEASE 1

/-- HALT_RELEASE (R246). -/
def Mach.haltRelease (m : Mach) : Mach :=
  if !m.fb HALT_STAT.ASSERTED then m
  else
    let m1 := m.put HALT_STAT.ASSERTED 0
    if m1.fb HALT_STAT.LATCHED then m1 else m1.releaseAll m.grid

/-- HALT_CFG.CLR clears the latch only while the filtered HALT_N is high; the release decision follows one FAB cycle, 3 PHS cycles,
after the write (R247). -/
def Mach.haltClear (m : Mach) : Mach :=
  if m.fb HALT_STAT.LATCHED && !m.fb HALT_STAT.ASSERTED then (m.put HALT_STAT.LATCHED 0).releaseAll (m.grid + 3) else m

/-- CLEAN_GATE_EFFECT (R245): time moves on to the transition that brings the pin to its park level. -/
def Mach.cleanGateEffect (n : Nat) (m : Mach) : Mach :=
  match (m.ch n).cleanGate.bind (m.parkTurn n) with
  | none => m
  | some t => if m.gateOn then (m.advTo ((t + 63) / 64)).gateNow n else m

/-- HALT_MODE written while the gate is in force (R248): EXEMPT releases a pin, a pin that was EXEMPT is gated, and a CLEAN gate
that waits becomes an immediate one where the mode is no longer CLEAN. -/
def Mach.haltModeHook (i : Nat) (old new : Word) (m : Mach) : Mach :=
  if !m.gateOn then m
  else forN 16 (fun q t =>
    let a := getF old (2 * q) 2
    let b := getF new (2 * q) 2
    let n := 16 * i + q
    if a ≠ 0 && b = 0 then t.releasePin t.grid n else if a = 0 && b ≠ 0 then t.gatePin n
    else if (t.ch n).cleanGate.isSome && b ≠ 2 then t.gateNow n else t) m

/-- PARK_INTERVAL_END (R235 step 3, R242, R248). -/
def Mach.parkIntervalEnd (n : Nat) (m : Mach) : Mach :=
  let c := m.ch n
  let m1 := m.advTo c.parkEnd
  if c.swStep ≠ 2 then (if c.swStep = 0 then m.advTo c.routeEnd else m)
  else if m.gateOn && m.haltMode n ≠ 0 && m.t n CH_PIN.FUNC ≠ 2 then
    (m1.gatePin n).updCh n (fun c => { c with swStep := 3 })
  else m1.switchEnd n

/-! ## Word 14 (R232 to R237) -/

/-- The value of a LEVEL or PGPO pin was `old` before a write, or the pin was parked at that level: two changes at the pad stand 24
PHS cycles apart, and only the latest value follows (R234). -/
def Mach.levelHook (n : Nat) (old : Bool) (m : Mach) : Mach :=
  let c := m.ch n
  let new := m.levelOf n
  let hold := fun (t : Nat) (v : Bool) => m.updCh n (fun c => { c with lvl := some (t, v) })
  if m.t n CH_PIN.FUNC % 2 = 0 || c.swStep = 1 || c.swStep = 2 || c.swStep = 3 || m.gated n || c.resetPark then m
  else match c.lvl with
  | none => if new = old then m else hold (m.grid + 24) new
  | some (t, v) =>
    if m.grid < t then m
    else if v ≠ old && m.grid < t + 24 then hold (t + 24) old
    else if new = old then m else hold (m.grid + 24) new

/-- A LEVEL or PGPO pin that a partition reset parked drives its level again (R239). -/
def Mach.unpark (n : Nat) (m : Mach) : Mach :=
  if (m.ch n).resetPark then (m.updCh n (fun c => { c with resetPark := false })).levelHook n (m.tb n CH_PIN.PARK) else m

/-- The effect of a committed CH_PIN word. A bond is judged by the function that the even channel had before the word (DEDUCED, log entry
93). -/
def Mach.chPinHook (n : Nat) (d old new : Word) (m : Mach) : Mach :=
  let e := evenOf n
  let o := e + 1
  let m0 := m.updCh n (fun c => { c with resetPark := c.resetPark && m.resetting (m.ownCh n) })
  let setBond := n = e && getF old 5 1 = 0 && getF new 5 1 = 1
  let bad := setBond && m.bondUnfit e (getF old 0 2)
  let m1 := if bad then (m0.tput e CH_PIN.BOND 0).tput e CH_PIN.SWREJ 1 else m0
  let m2 := if n = e && getF old 5 1 = 1 && getF new 5 1 = 0 then (m1.parkOnly e).parkOnly o else m1
  if getF old 0 2 = getF new 0 2 then
    (if m2.bonded n && getF d 0 2 ≠ 0 then m2.tput n CH_PIN.SWREJ 1
     else m2.levelHook n (if (m.ch n).resetPark then m.tb n CH_PIN.PARK else if getF old 0 2 = 1 then bitAt old 3 else m2.levelOf n))
  else if m2.bonded n then (m2.tput n CH_PIN.FUNC (getF old 0 2)).tput n CH_PIN.SWREJ 1
  else m2.switchFunc n (getF old 0 2)

/-- The effect of a write of PGPO_k: pins parked by a partition reset that has completed drive again (R239), and the pins of the
enabled bits take their levels (R234). -/
def Mach.pgpoHook (k : Nat) (w : Who) (d old : Word) (m : Mach) : Mach :=
  forN 16 (fun q t =>
    let n := 16 * k + q
    let c := t.ch n
    applyIf (d.getLsbD (16 + q) && w.rights == some (t.ownCh n))
      (fun t => (t.updCh n (fun c => { c with resetPark := c.resetPark && t.resetting (t.ownCh n) })).levelHook n
        (if c.resetPark then t.tb n CH_PIN.PARK else if t.t n CH_PIN.FUNC = 3 then old.getLsbD q else t.levelOf n)) t) m

/-! ## Routes of spares (R240 to R242, R271) -/

/-- A free port of a crossbar. -/
def Mach.freePort (m : Mach) (j : Nat) : Option Nat := firstIdx 2 (fun p => !(m.f XB_PORTS.USED).testBit (2 * j + p))

/-- The spare on which a channel can be rebuilt: the lowest eligible one that is not marked failed (R241, R271). -/
def Mach.eligibleSpare (m : Mach) (n : Nat) : Option Nat :=
  if (m.freePort (n / 32)).isNone || !m.bankUp n || m.doubled n then none
  else firstIdx 8 (fun k => m.fb (XB_CFG.EN k) && (m.f (XB_CFG.SCOPE k)).testBit (bankOf n) && !m.fb (XB_STAT.BUSY k) &&
    getF (m.awAhead 0x1800) k 1 = 0)

/-- Connect a spare's port to a channel's pin, with its park interval (R202, R242). -/
def Mach.route (n k : Nat) (m : Mach) : Mach :=
  let j := n / 32
  let p := (m.freePort j).getD 0
  let m1 := ((((m.put (XB_STAT.BUSY k) 1).put (XB_STAT.CH k) n).put (XB_STAT.XB k) j).put (XB_STAT.PORT k) p).put XB_PORTS.USED
    (m.f XB_PORTS.USED ||| 2 ^ (2 * j + p))
  ((((m1.tput n CH_STAT.ENGINE (256 + k)).tput n CH_STAT.SELFCHK 1).tput (256 + k) CH_STAT.SELFCHK 1).tput n CH_PIN.ROUTED 1).parkOnly n

/-- Release a channel's route (R242): the home engine takes the spare's place, and the spare's own words 8 and 10 keep what its engine
did (R202). -/
def Mach.unroute (n : Nat) (m : Mach) : Mach :=
  match m.spareOf n with
  | none => m
  | some k =>
    let b := 2 * m.f (XB_STAT.XB k) + m.f (XB_STAT.PORT k)
    let m0 := (m.setTw (256 + k) 8 (setF (setF (setF (m.tw n 8) 0 4 0) 16 9 (256 + k)) 26 1 (m.t (256 + k) CH_STAT.SELFCHK))).setTw (256 + k) 10
      (word (m.edges n))
    let m1 := (m0.put XB_PORTS.USED (m.f XB_PORTS.USED &&& (0xFFFF - 2 ^ b))).setReg (0x040320 + 4 * k) 0
    (((m1.tput n CH_STAT.ENGINE n).tput n CH_STAT.SELFCHK 1).tput n CH_PIN.ROUTED 0).parkOnly n

/-- The root is lost: every OUT pin but ECHO-IN takes its park level (R248). -/
def Mach.rootParkAll (m : Mach) : Mach :=
  forN 256 (fun n t => t.updCh n (fun c => { c with rootPark := true })) m

end Sys2Proof.Machine
end

