-- ==== Sys2Proof/Machine/Monitor.lean ====
section
/-! DEFINITION. The monitor (chapter 11): visits and their checks, echo pairing, round-trip trim, the transient/permanent
decision, rebuilding with re-verification, and the retired list. -/
namespace Sys2Proof.Machine

/-! ## The retired list (R270, R273, R513) -/

/-- Post a list entry toward the always-on domain: state, cause, and the spare that last hosted the channel. -/
def Mach.postList (n state cause : Nat) (m : Mach) : Mach :=
  let old := m.awAhead (0x1000 + 8 * n)
  let sp := match m.spareOf n with
    | some k => k + 8
    | none => getF old 8 4
  let new := word (state + 16 * cause + 256 * sp)
  if new = old then m else m.postAon (0x1000 + 8 * n) new

/-- The cause of a channel's list entry. -/
def Mach.listCause (m : Mach) (n : Nat) : Nat := getF (m.awAhead (0x1000 + 8 * n)) 4 4

/-- Mark a spare failed, or clear its mark. -/
def Mach.postMark (k : Nat) (v : Bool) (m : Mach) : Mach :=
  let old := m.awAhead 0x1800
  let new := setF old k 1 (b2n v)
  if new = old then m else m.postAon 0x1800 new

/-- A posted list word takes effect in the always-on domain: its time, and a RETIRE ledger entry for each change (R273). -/
def Mach.listArrive (off : Nat) (old new : Word) (m : Mach) : Mach :=
  if off = 0x1800 then
    forN 8 (fun k t => if getF old k 1 = getF new k 1 then t else t.ledger 0x18 k (64 + 128 * getF new k 1)) m
  else (m.setAw (off + 4) (word m.tod)).ledger 0x18 ((off - 0x1000) / 8) (getF new 0 2 + 4 * getF new 4 4)

/-! ## Visits (R254 to R257) -/

/-- The channel has a scheduled visit (R254, R258). -/
def Mach.visited (m : Mach) (n : Nat) : Bool :=
  m.fb MON_CTL.EN && m.tb n CH_MON.MEN && m.chst n ≠ 0 && !(m.bonded n && n % 2 = 1)

/-- The bank has been present for 1 ms (R93, R257). -/
def Mach.bankSettled (m : Mach) (k : Nat) : Bool := !(cget (fun _ => none) m.pwr.presAt k).any (fun t => m.now < t + 200000)

/-- The conditions of R257 as they stand now, apart from the window's own history. -/
def Mach.measurable (m : Mach) (n : Nat) : Bool :=
  m.chst n = 2 && m.t n CH_PIN.FUNC = 0 && !m.switching n && m.bankUp n && m.bankSettled (bankOf n) && !m.gated n && m.boot.clocks

/-- A write of MON_REQ.GO (R256). -/
def Mach.monRequest (w : Who) (port : Port) (d : Word) (m : Mach) : Mach :=
  let i := w.inst
  let n := getF d 0 8
  if !bitAt d 8 then m
  else if w.rights ≠ some (m.ownCh n) then m.accErr w port 0x050010 cOWNER
  else if m.fb (MON_REQ_STAT.BUSY.inst i) then m.put (MON_REQ_STAT.REJ.inst i) 1
  else
    let m1 := m.put (MON_REQ_STAT.CH.inst i) n
    if m.visited n then m1.put (MON_REQ_STAT.BUSY.inst i) 1 else m1.put (MON_REQ_STAT.REJ.inst i) 1

/-- On-demand requests for a channel complete with its visit (R256). -/
def Mach.monAnswer (n : Nat) (m : Mach) : Mach :=
  forN 17 (fun i t =>
    if t.fb (MON_REQ_STAT.BUSY.inst i) && t.f (MON_REQ_STAT.CH.inst i) = n
    then (t.put (MON_REQ_STAT.BUSY.inst i) 0).put (MON_REQ_STAT.DONE.inst i) 1 else t) m

/-! ## Echo pairing (R261, R262) -/

/-- A field of the profile of a channel, from its owner's instance (R259). -/
def Mach.prof (m : Mach) (n : Nat) (x : Nat → Fld) : Nat := m.f ((x (m.t n CH_MON.PROF)).inst (m.ownCh n))

/-- A round-trip sample is valid (R262): 0 < RT ≤ RTMAX, RTMAX in ns against fine steps of 625/48 ps. -/
def rtValid (rt : Int) (rtmax : Nat) : Bool := 0 < rt && 10 * rt ≤ 768 * (rtmax : Int)

/-- A calibrated offset of bank k: what its stamper calibration measured, a free value; 0 where it has failed or has not been made
(DESIGN CHOICE, log entry 94). Offsets 0 to 15 are the launches of its pins, 16 to 19 the paths of its ECHO receivers, and 20 to 35 those of its
pins as receivers (R253). -/
def Mach.offset (m : Mach) (k i : Nat) : Int :=
  (cget (fun _ => none) m.test.offs k).elim 0 (fun b => signed 16 (getF (Config.freeWord (b + i)) 0 16))

/-- The launch offset of a pin (R253). -/
def Mach.launch (m : Mach) (n : Nat) : Int := m.offset (bankOf n) (n % 16)

/-- The path offset of an echo source (R253). -/
def Mach.echoPath (m : Mach) (s : Nat) : Int := if s < 64 then m.offset (s / 4) (16 + s % 4) else m.offset (bankOf (s - 256)) (20 + s % 16)

/-- The fine time of a stamp with an offset taken off. -/
def stampAt (off : Int) (t : Nat) : Int := (t : Int) - off

/-- What the stampers have counted since the previous visit joins the pairing, and the round-trip sample that it gives (R262): the echo edge
belongs to the pad edge of its number, which is the latest one or the one before. A pairing 2 behind is lost, or, with a period longer than
RTMAX, made again with the pad edge nearest before the echo edge. -/
def Mach.pairUp (m : Mach) (n : Nat) (x : Meas) : Chan × Option Int :=
  let c := m.ch n
  let got := if m.echoPresent n then x.echoCount else 0
  let pads := c.pads + x.padCount
  let lag : Int := (pads : Int) - (c.echoes + got : Nat)
  let short := 5 * c.n ≤ 6 * m.prof n MON_PROF_B.RTMAX
  let c1 := { c with pads := pads, echoes := c.echoes + got, echoSeen := c.echoSeen || got != 0 }
  let rise := x.rise.map (stampAt (m.launch n))
  let echo := x.echo.map (stampAt (m.echoPath (m.t n CH_MON.ESRC)))
  let sample := fun (latest : Bool) => match echo, (if latest then rise else x.prev.map (stampAt (m.launch n))) with
    | some e, some p => some (e - p)
    | _, _ => none
  if got = 0 || c.pairLost then ({ c1 with pairLost := c.pairLost || (m.echoPresent n && decide (2 ≤ lag) && short) }, none)
  else if lag < 0 then (c1, none)
  else if lag < 2 then (c1, sample (lag == 0))
  else if short then ({ c1 with pairLost := true }, none)
  else
    let latest := match echo, rise with
      | some e, some p => decide (p ≤ e)
      | _, _ => false
    ({ c1 with echoes := if latest then pads else pads - 1 }, sample latest)

/-! ## What a visit sees (R253, R257, R258) -/

/-- A visit's stamps, judged against what the engine emitted and the channel's grid: the output's rising edges since the last one at the pad,
pad and expected edges in the window, the errors of the latest high time and the latest rising edge, the round-trip sample, and the output's
rising edges since the last echo edge. -/
structure Seen where
  engSince  : Nat
  padCount  : Nat
  expCount  : Nat
  dutyErr   : Option Int
  phaseErr  : Option Int
  rt        : Option Int
  sinceEcho : Nat
  deriving DecidableEq, Repr

/-- The engine's rising edges up to a fine time not after now; before the reference edge they stand a period apart, where no disturbance of the
window says otherwise. -/
def Mach.indexAt (m : Mach) (n t : Nat) : Nat :=
  let c := m.ch n
  if m.t n CH_CTL.MODE = 2 then c.e0 + countIf (fun p => p ≤ t) (pulses c)
  else if t < edgeAt c then c.e0 - 1 - (if c.winOk then (edgeAt c - 1 - t) / (64 * Nat.max 1 c.n) else 0)
  else edgesAt c t

/-- The rising edges of the channel's output up to a fine time: a DOUBLE pair's output rises with both edges of the even engine (R182, R258). -/
def Mach.outIndex (m : Mach) (n t : Nat) : Nat := m.indexAt n t + (if m.doubled n then m.indexAt n (t - 32 * (m.ch n).n) else 0)

/-- The output's rising edges so far. -/
def Mach.outEdges (m : Mach) (n : Nat) : Nat := m.edges n + (if m.doubled n then m.edgesBy n n (m.fine - 32 * (m.ch n).n) else 0)

/-- The output's period in fine steps. -/
def Mach.outPer (m : Mach) (n : Nat) : Nat := (if m.doubled n then 32 else 64) * Nat.max 1 (m.ch n).n

/-- The ideal rising edges of a period and phase up to a time (R180). -/
def idealCount (per phi t : Nat) : Nat := if t < phi % per then 0 else (t - phi % per) / per + 1

/-- Rising edges that the engine commands around a fine time. -/
def Mach.outRises (m : Mach) (n t : Nat) : List Nat :=
  let c := m.ch n
  if m.t n CH_CTL.MODE = 2 then pulses c
  else
    let a := lastRise c t
    let l := [edgeAt a, edgeAt (rebase a (nextRise a))]
    if m.doubled n then l ++ l.map (fun x => x + 32 * c.n) else l

/-- The error of a time against the nearest of some instants. -/
def nearErr (t : Int) : List Nat → Option Int
  | [] => none
  | x :: xs => match nearErr t xs with
    | none => some (t - x)
    | some e => if (t - x).natAbs ≤ e.natAbs then some (t - x) else some e

/-- The channel is measured against its ideal grid: a CONT channel whose engine stands on it (R258). -/
def Mach.onGrid (m : Mach) (n : Nat) : Bool := m.t n CH_CTL.MODE = 0 && !m.tb n CH_STAT.SLEWING

/-- The error of the latest rising edge at the pad (R258, R259): against the ideal grid, or the time that the engine commanded. -/
def Mach.phaseErr (m : Mach) (n : Nat) (rise : Int) : Option Int :=
  let c := m.ch n
  if m.onGrid n then
    let per : Int := (m.outPer n : Nat)
    let d := (rise - (phaseOf c.n c.p c.d c.trim : Nat)) % per
    some (if 2 * d > per then d - per else d)
  else nearErr rise (m.outRises n rise.toNat)

/-- The high time commanded for the output's period that begins about a fine time. -/
def Mach.highCmd (m : Mach) (n : Nat) (t : Int) : Nat :=
  let c := m.ch n
  if m.doubled n then 16 * c.n
  else if m.t n CH_CTL.MODE = 2 || !m.tb n CH_STAT.SLEWING then 64 * c.h
  else highTime (lastRise c (t + (32 * c.n : Nat)).toNat)

/-- The error of the latest complete high time at the pad (R258, R259). -/
def Mach.dutyErr (m : Mach) (n : Nat) (x : Meas) : Option Int :=
  match x.rise, x.fall, x.prev with
  | some r, some f, some p =>
    let b := if r < f then r else p
    if b < f then some (((f : Int) - b) - m.highCmd n (stampAt (m.launch n) b)) else none
  | _, _, _ => none

/-- The output's rising edges up to the last one that the pad has shown: the one nearest to its stamp (R259). -/
def Mach.lastPad (m : Mach) (n : Nat) (x : Meas) : Nat :=
  match x.rise with
  | some r => if x.padCount = 0 then (m.ch n).padIdx
      else m.outIndex n (Nat.min m.fine (stampAt (m.launch n) r + (m.outPer n / 2 : Nat)).toNat)
  | none => (m.ch n).padIdx

/-- What a visit sees. An echo edge counts from the channel's start on; what the pad has emitted since it is what the engine has sent there
(DEDUCED, log entry 95). -/
def Mach.seen (m : Mach) (n : Nat) (x : Meas) : Seen :=
  let c := m.ch n
  let all := m.outEdges n
  let p := m.pairUp n x
  let phi := phaseOf c.n c.p c.d c.trim
  { engSince := all - m.lastPad n x
    padCount := x.padCount
    expCount := if m.t n CH_CTL.MODE = 0 && c.mper = 0 then idealCount (m.outPer n) phi m.fine - idealCount (m.outPer n) phi c.visitAt else all - c.visitEdges
    dutyErr := if 2 ≤ x.padCount then m.dutyErr n x else none
    phaseErr := if x.padCount = 0 then none else x.rise.bind (fun r => m.phaseErr n (stampAt (m.launch n) r))
    rt := p.2
    sinceEcho := match p.1.echoSeen, x.echo with
      | true, some e => all - m.outIndex n (stampAt (m.echoPath (m.t n CH_MON.ESRC)) e).toNat
      | _, _ => all }

/-- A visit's readings are kept: the window of the next visit begins, and the pairing goes on. -/
def Mach.keepSeen (n : Nat) (x : Meas) (m : Mach) : Mach :=
  let p := m.pairUp n x
  m.setCh n { p.1 with visitAt := m.fine, visitEdges := m.outEdges n, padIdx := m.lastPad n x,
                       rtBad := match p.2 with
                         | some r => !rtValid r (m.prof n MON_PROF_B.RTMAX)
                         | none => p.1.rtBad
                       rtLast := match p.2 with
                         | some r => r.toNat
                         | none => p.1.rtLast }

/-! ## Profiles and checks (R259, R260) -/

/-- The flags PRES_F, FREQ_F, DUTY_F, PHASE_F and ENG_F of a measurement (R259). -/
def Mach.checks (m : Mach) (n : Nat) (x : Seen) : List Bool :=
  let dtol := m.prof n MON_PROF_A.DTOL
  let ptol := m.prof n MON_PROF_A.PTOL
  let c := m.ch n
  [2 ≤ x.engSince,
   1 + m.prof n MON_PROF_A.FTOL < ((x.padCount : Int) - x.expCount).natAbs,
   dtol ≠ 0 && x.dutyErr.any (fun d => 4 * dtol < d.natAbs),
   ptol ≠ 0 && x.phaseErr.any (fun p => 4000 * ptol + 8 * c.depth * c.mper * c.n < 1000 * p.natAbs),
   !m.tb n CH_STAT.SELFCHK]

/-- Raise the monitor codes of the failed checks, in their order (R259). -/
def Mach.raiseChecks (n : Nat) (x : Seen) (fs : List Bool) (m : Mach) : Mach :=
  let m1 := applyIf (fs.getD 0 false) (Mach.raise fMonPres n (word (Nat.min 65535 x.engSince))) m
  let m2 := applyIf (fs.getD 1 false) (Mach.raise fMonFreq n (word (x.padCount % 65536 + 65536 * (x.expCount % 65536)))) m1
  let m3 := applyIf (fs.getD 2 false) (Mach.raise fMonDuty n (word (unsign 32 (x.dutyErr.getD 0)))) m2
  applyIf (fs.getD 3 false) (Mach.raise fMonPhase n (word (unsign 32 (x.phaseErr.getD 0)))) m3

/-- Why the echo check fails, if it does (R263): 1 missing edges, 2 pairing lost, 3 the latest RT sample invalid. -/
def Mach.echoFail (m : Mach) (n : Nat) (x : Seen) : Nat :=
  if 2 ≤ x.sinceEcho then 1 else if (m.ch n).pairLost then 2 else if (m.ch n).rtBad then 3 else 0

/-! ## Round-trip trim (R264 to R266) -/

/-- The average after a sample (R264): rounded to the nearest fine step with halves toward zero. -/
def rtAverage (avg s : Int) (k : Nat) : Int :=
  let d := s - avg
  let p : Int := ((2 ^ k : Nat) : Int)
  let q := (2 * (d.natAbs : Int) + p - 1) / (2 * p)
  if d < 0 then avg - q else avg + q

/-- TTGT before limiting (R264): d_out rounds halves up. -/
def Mach.trimTarget (m : Mach) (n : Nat) : Int :=
  signed 16 (m.f MON_TRIM_CFG.TOFS) - (((m.f (MR_RT.RTAVG n) : Int) - signed 16 (m.t n CH_TRIM.ASYM) + 1) / 2)

/-- An update (R266): TRIM moves toward TTGT by at most TSTEP, and reaches the engine at the update point. -/
def Mach.trimUpdate (n : Nat) (m : Mach) : Mach :=
  let d := signed 16 (m.f (MR_DUTY.TTGT n)) - m.trim n
  let step : Int := (Nat.max 1 (m.f MON_TRIM_CFG.TSTEP) : Nat)
  if d.natAbs < Nat.max 1 (m.f MON_TRIM_CFG.TDEAD) then m
  else (m.tput n CH_TRIM.TRIM (unsign 16 (m.trim n + clampI (-step) step d))).toShadow n

/-- A sample of the trim loop (R264, R265). -/
def Mach.trimSample (n : Nat) (s : Int) (m : Mach) : Mach :=
  let k := Nat.min 8 (m.prof n MON_PROF_A.AVG)
  let c := m.ch n
  let st := m.f (MR_STAT.TSTATE n)
  let avg := if c.samples = 0 then s else rtAverage (m.f (MR_RT.RTAVG n)) s k
  let m1 := (m.updCh n (fun x => { x with samples := x.samples + 1 })).put (MR_RT.RTAVG n) avg.toNat
  let raw := m1.trimTarget n
  let lim := clampI (-32767) 32767 raw
  let m2 := m1.put (MR_DUTY.TTGT n) (unsign 16 lim)
  let m3 := if raw ≠ lim && !m.fb (MR_STAT.TLIM n) then m2.raise fTrimLimit n (word (unsign 32 raw)) else m2
  let m4 := m3.put (MR_STAT.TLIM n) (b2n (raw ≠ lim))
  if st = 1 && c.samples + 1 < 2 ^ k then m4 else (m4.put (MR_STAT.TSTATE n) 2).trimUpdate n

/-- The trim state machine at a visit (R265). -/
def Mach.trimVisit (n : Nat) (valid : Bool) (fail : Nat) (x : Seen) (m : Mach) : Mach :=
  let st := m.f (MR_STAT.TSTATE n)
  if !m.tb n CH_MON.TRIM_EN || st = 0 then m
  else if !m.echoPresent n || (valid && fail ≠ 0) then (if st = 1 || st = 2 then m.put (MR_STAT.TSTATE n) 3 else m)
  else match x.rt with
  | some r => if valid then m.trimSample n r else m
  | none => m

/-! ## Decisions (R267 to R272) -/

/-- The causes of MR_STAT.CAUSE beyond the five checks. -/
def caPAD : Nat := 6
def caREBUILD_FAIL : Nat := 7
def caNOSPARE : Nat := 8

/-- Resyncs recorded within the last W (R267, R269). -/
def Mach.recentResyncs (m : Mach) (n : Nat) : Nat :=
  let w := Nat.max 1 (m.prof n MON_PROF_B.W) * 200000
  countIf (fun t => m.now < t + w) (m.ch n).resyncs

/-- The channel becomes RETIRED (R271). -/
def Mach.retireFor (n cause : Nat) (m : Mach) : Mach :=
  (m.postList n 2 cause).raise fMonRetire n (word cause)

/-- The rebuild of R271, or the retirement where none applies; `src` is the start's source. One whose pin's bank is absent or does not match
is refused with BANK_DOWN (R95, R230), and no spare is eligible for it (R241). -/
def Mach.rebuild (n cause : Nat) (src : StartSrc) (m : Mach) : Mach :=
  if !m.tb n CH_MON.SPARE_OK then m.retireFor n cause
  else match m.eligibleSpare n with
  | none => ((if m.bankUp n then m else m.startRej n (rBANK_DOWN, none))).retireFor n caNOSPARE
  | some k => ((m.route n k).updCh n (fun c => { c with verifyDue := true })).push (.start n src)

/-- What a permanent decision does once the channel is STOPPED (R270 step 3). -/
def Mach.retireStep (n cause : Nat) (src : StartSrc) (m : Mach) : Mach :=
  let m1 := (m.updCh n (fun c => { c with retireDue := none })).put (MR_STAT.RELPEND n) 0
  let m2 := m1.unroute n
  if cause = caPAD || cause = caREBUILD_FAIL then m2.retireFor n cause else m2.rebuild n cause src

/-- The spare that a channel runs on is marked failed (R272). -/
def Mach.markSpare (n : Nat) (m : Mach) : Mach := (m.spareOf n).elim m (fun k => m.postMark k true)

/-- The cause of a permanent decision: a presence failure in re-verification is the pad's, and a second failure there ends the
rebuilding (R268, R272). -/
def Mach.permanentCause (m : Mach) (n cause : Nat) : Nat :=
  if m.fb (MR_STAT.VERIFY n) then (if cause = 1 then caPAD else if (m.ch n).further then caREBUILD_FAIL else cause) else cause

/-- A permanent decision (R270, R272): the list entry is posted, and the channel stops with cause RETIRE. -/
def Mach.permanent (n cause : Nat) (m : Mach) : Mach :=
  if (m.ch n).retireDue.isSome then m
  else
    let ca := m.permanentCause n cause
    let m1 := if ca = caPAD then m else m.markSpare n
    let m2 := m1.updCh n (fun c => { c with further := m.fb (MR_STAT.VERIFY n) && !(ca == caPAD), verifyDue := false })
    let m3 := (m2.put (MR_STAT.VERIFY n) 0).postList n 2 ca
    let m4 := if ca = caPAD then m3.raise fMonPadfail n (word (if m.fb (MR_STAT.VERIFY n) then 2 else 1)) else m3
    if m.chst n = 0 then m4.retireStep n ca .host
    else (m4.updCh n (fun c => { c with retireDue := some ca })).stop n csRETIRE false

/-- A channel has reached STOPPED: a permanent decision goes on, or a pending release of its route is made (R270, R275). -/
def Mach.monStopped (n : Nat) (m : Mach) : Mach :=
  match (m.ch n).retireDue with
  | some c => m.retireStep n c .rebuild
  | none => if m.fb (MR_STAT.RELPEND n) then (m.unroute n).put (MR_STAT.RELPEND n) 0 else m

/-- The decision on a valid measurement (R268, R269, R272). -/
def Mach.visitOutcome (n : Nat) (fs : List Bool) (echoMissing : Bool) (m : Mach) : Mach :=
  match fs.findIdx? id with
  | none =>
    if !m.fb (MR_STAT.VERIFY n) then m
    else
      let k := (m.ch n).passes + 1
      let m1 := m.updCh n (fun c => { c with passes := k })
      if k < 4 then m1
      else (((m1.put (MR_STAT.VERIFY n) 0).updCh n (fun c => { c with further := false })).postList n 1 (m.listCause n)).raise
        fMonRebuild n (word ((m.spareOf n).getD 0))
  | some i =>
    let cal := (m.f MON_CAL.OK).testBit (bankOf n)
    if m.fb (MR_STAT.VERIFY n) then (if cal then m.permanent n (i + 1) else m.updCh n (fun c => { c with passes := 0 }))
    else if fs.getD 0 false && echoMissing && (m.ch n).echoSeen && m.tb n CH_STAT.SELFCHK then (if cal then m.permanent n caPAD else m)
    else if m.recentResyncs n < Nat.max 1 (m.prof n MON_PROF_A.K) then
      (m.updCh n (fun c => { c with resyncs := m.now :: c.resyncs.filter (fun t => m.now < t + 12000000000) })).resync n
    else if cal then m.permanent n (i + 1) else m

/-- The flags, results and fault codes of a valid measurement, and its decision (R259, R260, R263, R269). -/
def Mach.monResult (n : Nat) (fail : Nat) (x : Seen) (m : Mach) : Mach :=
  let fs := m.checks n x
  let a := (((((m.put (MR_STAT.PRES_F n) (b2n (fs.getD 0 false))).put (MR_STAT.FREQ_F n) (b2n (fs.getD 1 false))).put
    (MR_STAT.DUTY_F n) (b2n (fs.getD 2 false))).put (MR_STAT.PHASE_F n) (b2n (fs.getD 3 false))).put (MR_STAT.ENG_F n)
    (b2n (fs.getD 4 false))).put (MR_STAT.COUNT n) (Nat.min 255 x.padCount)
  let b := match x.phaseErr with | some e => a.put (MR_PHASE.ERR n) (unsign 32 e) | none => a
  let c := match x.dutyErr with | some e => b.put (MR_DUTY.DERR n) (unsign 16 e) | none => b
  let e := c.put (MR_STAT.ECHO_F n) (b2n (fail ≠ 0))
  let g := (e.raiseChecks n x fs).updCh n (fun y => { y with healthy := !fs.any id })
  let h := if fail ≠ 0 then g.raise fMonEcho n (word ((m.ch n).rtLast % 2 ^ 24 + 2 ^ 24 * fail)) else g
  h.visitOutcome n fs (m.echoPresent n && 2 ≤ x.sinceEcho)

/-- The slot of a request comes while its channel has no scheduled visit: REJ, as if it had been made now (R256; DEDUCED, log entry 96). -/
def Mach.monRefuse (n : Nat) (m : Mach) : Mach :=
  forN 17 (fun i t =>
    if t.fb (MON_REQ_STAT.BUSY.inst i) && t.f (MON_REQ_STAT.CH.inst i) = n
    then (t.put (MON_REQ_STAT.BUSY.inst i) 0).put (MON_REQ_STAT.REJ.inst i) 1 else t) m

/-- MONITOR_VISIT (R257 to R269). -/
def Mach.monVisit (n : Nat) (x : Meas) (m : Mach) : Mach :=
  if !m.visited n || !m.powered then m.monRefuse n
  else
    let now := m.measurable n
    let valid := now && (m.ch n).winOk && !m.test.laneBad.getLsbD (n % 16)
    let y := m.seen n x
    let m0 := ((m.keepSeen n x).updCh n (fun c => { c with winOk := now })).put (MR_STAT.VALID n) (b2n valid)
    let present := m.echoPresent n
    let fail := if valid && present then m0.echoFail n y else 0
    let m1 := (m0.put (MR_STAT.EABS n) (b2n (m.wantsEcho n && !present))).put (MR_STAT.ECONF n) (b2n (m.echoConflict n))
    ((if valid then m1.monResult n fail y else m1).trimVisit n valid fail y).monAnswer n

/-! ## Boot and clearing (R274, R275) -/

/-- REBUILT channels get their routes at the end of Prepare (R274). -/
def Mach.rebuildAtBoot (m : Mach) : Mach :=
  forN 256 (fun n t =>
    if t.listState n ≠ 1 || t.chst n ≠ 0 || (t.spareOf n).isSome then t
    else match t.eligibleSpare n with
    | none => t.retireFor n caNOSPARE
    | some k => (t.route n k).updCh n (fun c => { c with verifyDue := true })) m

/-- Clear a channel's entry (R275): whether it changed. -/
def Mach.clearEntry (n : Nat) (m : Mach) : Mach × Nat :=
  let was := m.listState n
  let m1 := m.updCh n (fun c => { c with resyncs := [], retireDue := none, verifyDue := false, further := false })
  if was = 0 then (m1, 0)
  else
    let m2 := (m1.postList n 0 0).put (MR_STAT.VERIFY n) 0
    (if (m2.spareOf n).isNone then m2 else if m2.chst n = 0 then m2.unroute n else m2.put (MR_STAT.RELPEND n) 1, 1)

/-- RETIRE_CLEAR (R275, R379): the entries changed. -/
def Mach.retireClear (scope n mask : Nat) (m : Mach) : Mach × Nat :=
  if scope = 2 then
    (List.range 8).foldl (fun (acc : Mach × Nat) k =>
      if mask.testBit k && (acc.1.awAhead 0x1800).getLsbD k then (acc.1.postMark k false, acc.2 + 1) else acc) (m, 0)
  else
    (if scope = 1 then List.range 256 else [n]).foldl (fun (acc : Mach × Nat) i =>
      let r := acc.1.clearEntry i
      (r.1, acc.2 + r.2)) (m, 0)

/-- RET_MAP_i, RBT_MAP_i and SP_FAIL: copies of the list (R273). -/
def Mach.retMap (m : Mach) (i : Nat) : Nat :=
  (List.range 32).foldl (fun a b => if getF (m.aw (0x1000 + 8 * (32 * i + b))) 0 2 = 2 then a + 2 ^ b else a) 0
def Mach.rbtMap (m : Mach) (i : Nat) : Nat :=
  (List.range 32).foldl (fun a b =>
    if getF (m.aw (0x1000 + 8 * (32 * i + b))) 0 2 = 1 || m.fb (MR_STAT.VERIFY (32 * i + b)) then a + 2 ^ b else a) 0

end Sys2Proof.Machine
end

