-- ==== Sys2Proof/Machine/Power.lean ====
section
/-! DEFINITION. Supplies, domains, the core reset and the backup cell (chapter 04): power-driven moves, brown-outs, banks, the
charger, the gauge and the reserve estimate. -/
namespace Sys2Proof.Machine

/-! ## The core reset (R56, R293, R371, R489) -/

/-- Change the supplies' part. -/
def Mach.updPwr (f : Pwr → Pwr) (m : Mach) : Mach := { m with pwr := f m.pwr }

/-- A register word that a core reset keeps; `cut` at a loss of PG_MAIN, which takes the boot-kept words too (R489). -/
def keptWord (cut : Bool) (key : Nat) : Bool :=
  match rowOf (key % instSpan) with
  | some r => match r.kept with
    | .core | .part => false
    | .boot => !cut
    | _ => true
  | none => false

/-- The timers that stand outside the core domain: those of the banks, the cell check, the gauge and the always-on domain. -/
def keptTimer (k : Nat) : Bool := k == Timer.cell.key || k == Timer.gauge.key || (500 ≤ k && k < 600) || (1000 ≤ k && k < 3000)

/-- A precharge goes on through a core reset: only VAUX and VBAK end it, or CHG_CTL.EN (R100). -/
def Mach.chargeOn (was : Word) (m : Mach) : Mach :=
  if getF was 0 3 = 1 then (m.put CHG_STAT.STATE 1).put CHG_STAT.IOUT 5 else m.updPwr (fun x => { x with chgAt := none })

/-- Everything of the core domain returns to reset: registers, channel tables, engines, queues, windows, fault lines, links and
the image. The always-on domain, the boot-kept words and the pins' conditions stay (R56, R293, R371, R489), and so does the mark of
a meter group that has had its THEFT entry, as the latch stands (R467); its samples start anew when it is enabled (R461). -/
def Mach.coreReset (cut : Bool) (m : Mach) : Mach :=
  let m1 := if cut then m else m.markPre
  Mach.chargeOn (m.reg CHG_STAT.STATE.a) { m1 with
    regs := m1.regs.filter (fun e => keptWord cut e.1)
    tbl := []
    aonPost := if cut then [] else m1.aonPost
    ts := 0
    grid := 0
    todo := []
    spi := {}
    i2c := {}
    chWin := {}
    aonWin := {}
    wides := []
    crc := {}
    img := {}
    svc := {}
    lines := []
    recqs := []
    cmdqs := []
    normal := none
    urgent := none
    lastNormal := 15
    lastUrgent := 15
    visiting := false
    grps := []
    chans := []
    nextOrd := 1
    gov := {}
    mtrs := m1.mtrs.filter (fun e => e.2.theft)
    root := {}
    link := {}
    test := {}
    tap := if cut then .idcode else m1.tap
    bsr := if cut then [] else m1.bsr
    flash := []
    timers := m1.timers.filter (fun e => keptTimer e.1)
    boot := { m1.boot with
      step := 0, precfg := false, onboot := true, cause := 0, held := true, wakes := 0, woken := false,
      discovered := false, quad := false, erase4k := none, failWait := false, go := false, park := none, stop := false, fromConfig := false,
      clocks := false, bootPend := false, restart := none, xoOpen := cut || m1.boot.xoOpen,
      xoLatch := if cut then none else m1.boot.xoLatch } }

/-- BANK_VOK follows VSEL's reset value once the bank registers are at reset (R229). -/
def Mach.vokAfterReset (m : Mach) : Mach := forN 16 (fun k t => t.setVok k (t.matches' k)) m

/-! ## The charger's state (R100) -/

/-- The charger's state: 0 OFF, 1 PRECHARGE, 2 CC, 3 CV, 4 DONE, 5 PAUSE, 6 FAULT. -/
def Mach.chg (m : Mach) : Nat := m.f CHG_STAT.STATE

/-- The time in CC and CV by now, since the charger left OFF or DONE (R100). -/
def Mach.chgTime (m : Mach) : Nat := m.pwr.chgAcc + m.pwr.chgAt.elim 0 (fun t => m.now - t)

/-- The charger's time in CC and CV at an entry to state `s`: it starts anew with OFF, PRECHARGE and DONE behind it, and stands still in
PAUSE; the presence check runs from an entry to CC, CV or DONE on (R100, R102). -/
def Mach.chgClock (s : Nat) (m : Mach) : Mach :=
  let was := m.chg
  let acc := if was = 2 || was = 3 || was = 5 then m.chgTime else 0
  let m1 := m.updPwr (fun x => { x with chgAcc := acc, chgAt := if s = 2 || s = 3 then some m.now else none })
  let ticks := s = 2 || s = 3 || s = 4
  if ticks && (m.since .cell).isNone then m1.startTimer .cell else if ticks then m1 else m1.stopTimer .cell

/-- Enter a charger state with the current it sources (R100): ICC in CC, 0.5 mA in PRECHARGE, what the element takes in CV. -/
def Mach.setChg (s : Nat) (m : Mach) : Mach :=
  let m1 := (m.chgClock s).put CHG_STAT.STATE s
  match s with
  | 1 => m1.put CHG_STAT.IOUT 5
  | 2 => m1.put CHG_STAT.IOUT (m.f CHG_CFG.ICC)
  | 3 => let (w, m2) := m1.draw
         m2.put CHG_STAT.IOUT (getF w 0 8)
  | _ => m1.put CHG_STAT.IOUT 0

/-! ## Power-driven moves (R85, R86, R87) -/

/-- VBAK_RISE (R85): the always-on memory is initialised, and the device enters WOAD. -/
def Mach.vbakRise (m : Mach) : Mach :=
  if m.dev != .off then m
  else (({ m with dev := .woad, boot := { m.boot with nextCause := 4 } }).put AON_STAT.LOST 1).ledger 1 0 0

/-- PG_MAIN_TRUE (R85, R97, R107, R111): WOAD to BOOT at the Qualify step, and GAUGE_Q is refreshed; in OFF only the supplies'
state changes. -/
def Mach.pgMainTrue (m : Mach) : Mach :=
  let m1 := { m with pwr := { m.pwr with pgMain := true } }
  if m.dev != .woad then m1
  else
    let m2 := m1.coreReset true
    let m3 := ({ m2 with dev := .boot, boot := { m2.boot with osc := false, goodWin := 0, noclk := 0, qualified := false } }).vokAfterReset
    (m3.put GAUGE_Q.Q (Nat.min 0xFFFFFF (m.pwr.q.toNat / 100))).ledger 2 0 0

/-- The code of a main supply in LAST_DOWN and POWER_DOWN (R109). -/
def downCode : MainSupply → Nat
  | .vcore => 1
  | .vpll => 2
  | .vaux => 3

/-- PG_MAIN_LOSS (R85, R86). A loss of VAUX ends the charge, a precharge too (R100). Of two main supplies that fall within one filter
time, 1 µs, LAST_DOWN holds the lower code (R92, R109). -/
def Mach.pgMainLoss (c : MainSupply) (m : Mach) : Mach :=
  let m0 := if c = .vaux then m.setChg 0 else m
  if !m.powered then m0.updPwr (fun x => { x with
    pgMain := false, lastDown := if x.downAt.any (fun t => m.now ≤ t + usec) then Nat.min x.lastDown (downCode c) else x.lastDown })
  else
    let m1 := (m0.coreReset true).ledger 3 (downCode c) 0
    { m1 with dev := .woad
              pwr := { m1.pwr with pgMain := false, lastDown := downCode c, downAt := some m.now }
              boot := { m1.boot with nextCause := 0, osc := false, qualified := false } }

/-- VBAK_WARN of R92: the low state begins (VBAK_LOW). -/
def Mach.vbakLowStart (m : Mach) : Mach :=
  if m.dev == .off || m.pwr.vbakLow then m
  else
    let th := getF (m.aw 0x2004) 0 6
    let m1 := (({ m with pwr := { m.pwr with vbakLow := true } }).ledger 4 th 0).wakeBy 3
    if m.powered then (m1.put PWR_EVT.VBAK_LOW 1).raise fVbakLow 0 (word (th + 65536 * m.f RESERVE.DAYS)) else m1

/-- VBAK_LOW_CLEAR (R109). -/
def Mach.vbakLowEnd (m : Mach) : Mach := { m with pwr := { m.pwr with vbakLow := false } }

/-- PWR_STAT as it reads (R109). -/
def Mach.pwrStat (m : Mach) : Nat :=
  b2n m.pwr.vlinkOk + 2 * b2n m.pwr.coreWarn + 4 * b2n m.pwr.vbakLow + 16 * m.pwr.lastDown

/-- VCORE_WARN (R92): the filtered state begins; while the core is powered it brings the event and the fault. -/
def Mach.vcoreWarn (m : Mach) : Mach :=
  if m.pwr.coreWarn then m
  else
    let m1 := m.updPwr (fun x => { x with coreWarn := true })
    if !m.powered then m1 else (m1.put PWR_EVT.CORE_WARN 1).raise fVcoreWarn 0 (word m1.pwrStat)

/-- VCORE_WARN_CLEAR (R109). -/
def Mach.vcoreWarnEnd (m : Mach) : Mach := { m with pwr := { m.pwr with coreWarn := false } }

/-! ## Banks (R91, R93, R98, R556) -/

/-- The class of a measured bank supply (R98). A value on a shared bound takes the higher class (DESIGN CHOICE, log entry 30). -/
def classOf (mv : Nat) : Nat := if mv < 1550 then 0 else if mv < 2100 then 1 else if mv ≤ 2800 then 2 else 3

/-- Set one bit of a bank vector. -/
def setBit16 (v : BitVec 16) (k : Nat) (b : Bool) : BitVec 16 := if b then v ||| BitVec.ofNat 16 (2 ^ k) else v &&& ~~~ (BitVec.ofNat 16 (2 ^ k))

/-- Set a bank's detected class. -/
def Mach.setClass (k c : Nat) (m : Mach) : Mach := { m with pwr := { m.pwr with cls := cset (fun _ => 0) m.pwr.cls k c } }

/-- BANK_STOP (R93, R556): the bank is absent from the stop on. -/
def Mach.bankStop (k : Nat) (m : Mach) : Mach :=
  let running := countIf (fun q => m.chst (16 * k + q) ≠ 0) (List.range 16)
  let c := m.bankClass k
  let m1 := m.updPwr (fun x => { x with
    pres := setBit16 x.pres k false, stopped := setBit16 x.stopped k true,
    classDue := setBit16 x.classDue k false, presDue := setBit16 x.presDue k false })
  let m2 := if c = 1 then m1.setClass k 0 else m1
  if !m.present k then m2
  else if !m.powered then m2.setVok k false
  else ((((m2.put BANK_BO.BO (m.f BANK_BO.BO ||| 2 ^ k)).setVok k false).bankHalt k).trimHold).raise fBankBo k (word (running + 256 * c))

/-- A bank's classification and presence timers start (R98, R556). -/
def Mach.bankTimers (k : Nat) (m : Mach) : Mach :=
  ((m.updPwr (fun x => { x with classDue := setBit16 x.classDue k true, presDue := setBit16 x.presDue k true })).startTimer
    (.bankClass k)).startTimer (.bankPres k)

/-- BANK_RECOVERY (R556). -/
def Mach.bankRecovery (k : Nat) (m : Mach) : Mach := if m.pwr.stopped.getLsbD k then m.bankTimers k else m

/-- VDDO_RISE (R98): an absent bank's supply crosses 1.55 V; the class reads absent until it is measured. -/
def Mach.vddoRise (k : Nat) (m : Mach) : Mach := if m.present k then m else (m.setClass k 0).bankTimers k

/-- BANK_CLASSIFY (R98): 500 µs after the crossing or the recovery. -/
def Mach.bankClassify (k mv : Nat) (m : Mach) : Mach :=
  if !m.pwr.classDue.getLsbD k then m
  else ((m.reach (.bankClass k) (500 * usec)).updPwr (fun x => { x with classDue := setBit16 x.classDue k false })).setClass k (classOf mv)

/-- BANK_PRESENT (R91, R94, R229): 1 ms after the crossing or the recovery. -/
def Mach.bankPresent (k : Nat) (m : Mach) : Mach :=
  if !m.pwr.presDue.getLsbD k || m.pwr.classDue.getLsbD k then m
  else
    let m0 := m.reach (.bankPres k) msec
    let m1 := m0.updPwr (fun x => { x with
      presDue := setBit16 x.presDue k false, stopped := setBit16 x.stopped k false, pres := setBit16 x.pres k true,
      presAt := cset (fun _ => none) x.presAt k (some m0.now) })
    if m.powered && !m.boot.held then m1.checkVok k true else m1.setVok k (m1.matches' k)

/-! ## The charger (R99 to R102) -/

/-- CHG_CFG holds a supported setting (R99, R101). -/
def Mach.chgValid (m : Mach) : Bool :=
  let t := m.f CHG_CFG.CELL_TYPE
  let i := m.f CHG_CFG.ICC
  (t == 1 && 1 ≤ i && i ≤ 200 && m.f CHG_CFG.VCV ≤ 40) || (t == 2 && 1 ≤ i && i ≤ 50) || (t == 3 && 1 ≤ i && i ≤ 200)

/-- The cell is of a kind that ends its charge (R99). -/
def Mach.cellEnds (m : Mach) : Bool := m.f CHG_CFG.CELL_TYPE == 2 || m.f CHG_CFG.CELL_TYPE == 3

/-- The effect of a write of CHG_CTL (R100, R101): a 0 over a 0 clears nothing, and a precharge goes on. -/
def Mach.chgCtlHook (old new : Word) (m : Mach) : Mach :=
  if bitAt new 0 then
    if bitAt old 0 then m
    else if m.chgValid then (if m.chg ≤ 1 then m.setChg 2 else m)
    else (m.setChg 0).put CHG_STAT.CFGERR 1
  else if bitAt old 0 then (m.setChg 0).put CHG_STAT.CFGERR 0 else m

/-- CHG_PRECHARGE_START (R100): in every device state. -/
def Mach.chgPreStart (m : Mach) : Mach := if m.chg = 0 then m.setChg 1 else m

/-- CHG_PRECHARGE_END (R100). -/
def Mach.chgPreEnd (m : Mach) : Mach := if m.chg = 1 && !m.fb CHG_CTL.EN then m.setChg 0 else m

/-- CHG_CV_REACHED (R100). -/
def Mach.chgCv (m : Mach) : Mach := if m.chg = 2 then m.setChg 3 else m

/-- CHG_TERMINATE (R99, R100, R104): DONE, and the charge estimate is the capacity. ITERM 0b11 never ends. -/
def Mach.chgTerminate (m : Mach) : Mach :=
  if m.chg = 3 && m.cellEnds && m.f CHG_CFG.ITERM ≠ 3 then
    let m1 := m.setChg 4
    { m1 with pwr := { m1.pwr with q := 100 * (getF (m.aw 0x2000) 0 24 : Int) } }
  else m

/-- CHG_RECHARGE (R100). -/
def Mach.chgRecharge (m : Mach) : Mach := if m.chg = 4 then m.setChg 2 else m

/-- CHG_PAUSE (R100, R309): T_max above 105 °C. -/
def Mach.chgPause (m : Mach) : Mach :=
  if (m.chg = 2 || m.chg = 3) && m.tmax.any (fun t => 1050 < t) then m.setChg 5 else m

/-- CHG_RESUME (R100): T_max below 95 °C. -/
def Mach.chgResume (m : Mach) : Mach := if m.chg = 5 && m.tmax.any (fun t => t < 950) then m.setChg 2 else m

/-- CHG_FAULT (R100): the time in CC and CV exceeds TMAX hours; time moves on to that instant. -/
def Mach.chgFault (m : Mach) : Mach :=
  if (m.chg = 2 || m.chg = 3) && m.f CHG_CFG.TMAX ≠ 0 then
    let m0 := m.advNow (m.now + (3600 * second * m.f CHG_CFG.TMAX - m.chgTime))
    let m1 := (m0.setChg 6).put PWR_EVT.CHG_FAULT 1
    m1.raise fChgFault 0 (m1.reg 0x000228)
  else m

/-- CHG_VAUX_LOSS (R100). -/
def Mach.chgVauxLoss (m : Mach) : Mach := m.setChg 0

/-- The result of a presence check (R102): without a cell VBAK is held at CV. -/
def Mach.cellFound (fell : Bool) (m : Mach) : Mach :=
  if fell then
    let m1 := (({ m with pwr := { m.pwr with noCell := true } }).put CHG_STAT.NOCELL 1).setChg 3
    ((m1.put PWR_EVT.CELL_ABSENT 1).ledger 5 0 0).raise fCellAbsent 0 (m.reg 0x000224)
  else
    let m1 := ({ m with pwr := { m.pwr with noCell := false } }).put CHG_STAT.NOCELL 0
    if m.pwr.noCell then (m1.put PWR_EVT.CELL_RETURN 1).ledger 6 0 0 else m1

/-- CELL_PRESENCE_CHECK (R102), every 60 s: `fell` says that VBAK fell 500 mV under the test load. -/
def Mach.cellCheck (fell : Bool) (m : Mach) : Mach :=
  if !(m.chg = 2 || m.chg = 3 || m.chg = 4) then m else ((m.reach .cell (60 * second)).startTimer .cell).cellFound fell

/-! ## The gauge and the reserve (R104 to R107) -/

/-- GAUGE_CTL's triggers (R104, R105). -/
def Mach.gaugeHook (d : Word) (m : Mach) : Mach :=
  let m1 := if bitAt d 0 && m.f CHG_CFG.CELL_TYPE = 0 then
    { m with pwr := { m.pwr with q := 100 * (getF (m.aw 0x2000) 0 24 : Int) } } else m
  if bitAt d 1 then m1.updPwr (fun x => { x with woad := [] }) else m1

/-- The estimate q after a second (R104), in 0.01 µAh: `mv` is VBAK, `net` the net charge of the second. CHG_CFG is a core register, so in
WOAD its CELL_TYPE is the reset value and the gauge counts discharge only (DESIGN CHOICE, log entry 79). -/
def Mach.chargeAfter (m : Mach) (mv : Nat) (net : Int) : Int :=
  let cap : Int := 100 * (getF (m.aw 0x2000) 0 24 : Int)
  match m.f CHG_CFG.CELL_TYPE with
  | 1 => ((getF (m.aw 0x2000) 0 24 * (mv - 2000) : Nat) : Int) * 100 / 3600
  | 2 | 3 => clampI 0 cap (m.pwr.q + net)
  | _ => if net < 0 then clampI 0 m.pwr.q (m.pwr.q + net) else m.pwr.q

/-- The charge drawn over the WOAD time on record, in 0.01 µAh. -/
def Mach.woadDraw (m : Mach) : Nat := m.pwr.woad.foldl (· + ·) 0

/-- Less than 24 h of WOAD are on record: CELL_CFG.IDEF stands for I_avg (R105). -/
def Mach.woadShort (m : Mach) : Bool := m.pwr.woad.length < 86400

/-- I_avg in 0.1 µA; a mean between two steps is cut to the lower one (DESIGN CHOICE, log entry 80). -/
def Mach.iavg (m : Mach) : Nat :=
  if m.woadShort then getF (m.aw 0x2000) 24 8 else m.woadDraw * 360 / m.pwr.woad.length

/-- A second of WOAD draw enters the history, which keeps the latest 168 h (R105). -/
def Mach.woadSecond (net : Int) (m : Mach) : Mach :=
  if m.dev != .woad then m else m.updPwr (fun x => { x with woad := ((-net).toNat :: x.woad).take 604800 })

/-- floor(Q / I_avg / 24 h) of the exact mean (R106): none where nothing is drawn. -/
def Mach.reserveDays (m : Mach) : Option Nat :=
  let num := if m.woadShort then m.pwr.q.toNat else m.pwr.q.toNat * m.pwr.woad.length
  let den := if m.woadShort then 240 * m.iavg else 86400 * m.woadDraw
  if den = 0 then none else some (Nat.min 65535 (num / den))

/-- GAUGE_Q and RESERVE take the always-on values (R106, R107). A reserve over no draw at all is not stated (DESIGN CHOICE, log entry 31). -/
def Mach.showReserve (m : Mach) : Mach :=
  let x := m.draw
  let r := match m.reserveDays with
    | some d => (d, m)
    | none => (getF x.1 0 16, x.2)
  ((((r.2.put GAUGE_Q.Q (Nat.min 0xFFFFFF (m.pwr.q.toNat / 100))).put RESERVE.DAYS r.1).put RESERVE.IAVG (Nat.min 2047 m.iavg)).put
    RESERVE.DEFAULT (b2n m.woadShort)).put RESERVE.VALID (b2n m.pwr.cellWritten)

/-- RESERVE_UPDATE (R104 to R107): once per second in every state but OFF. -/
def Mach.reserveUpdate (mv : Nat) (net : Int) (m : Mach) : Mach :=
  if m.dev == .off then m
  else
    let m1 := (m.reach .gauge second).startTimer .gauge
    let q := m1.chargeAfter mv net
    ((m1.updPwr (fun x => { x with q := q })).woadSecond net).showReserve

end Sys2Proof.Machine
end

