-- ==== Sys2Proof/Machine/Security.lean ====
section
/-! DEFINITION. The security engine (chapter 18): key slots and their programming, the epoch, stored counters, the check of
authenticated messages, lockout, and the envelope of signed reports. -/
namespace Sys2Proof.Machine

/-! ## Slots and counters (R434, R438, R443) -/

/-- Key slot k. -/
def Mach.slot (m : Mach) (k : Nat) : KeySlot := cget (fun _ => {}) m.sec.slots k

/-- Replace key slot k. -/
def Mach.setSlot (k : Nat) (v : KeySlot) (m : Mach) : Mach := { m with sec := { m.sec with slots := cset (fun _ => {}) m.sec.slots k v } }

/-- Slot k is VALID. -/
def Mach.keyValid (m : Mach) (k : Nat) : Bool := (m.slot k).state == 1

/-- The key check value of a VALID slot: bytes 0 to 2 of the CMAC of the empty message (R438). -/
def Mach.kcv (m : Mach) (k : Nat) : Nat := if m.keyValid k then leNat ((cmac (m.slot k).key []).take 3) else 0

/-- The epoch E (R441). -/
def Mach.epoch (m : Mach) : Nat := m.sec.ones

/-- The floor of the present epoch (R436, R441). -/
def Mach.ctrFloor (m : Mach) : Nat := m.epoch * 2 ^ 24

/-- The stored counter of slot k (R443): its shadow and its always-on copy agree, the copy being latched with the check. -/
def Mach.storedCtr (m : Mach) (k : Nat) : Nat := (m.aw (0x3000 + 4 * k)).toNat

/-- Set a stored counter. -/
def Mach.setCtr (k v : Nat) (m : Mach) : Mach := m.setAw (0x3000 + 4 * k) (word v)

/-- The report counter (R453). -/
def Mach.rptCtr (m : Mach) : Nat := (m.aw 0x3018).toNat

/-- The low 24 bits of a counter have reached their end (R445, R453). -/
def ctrEnded (c : Nat) : Bool := c % 2 ^ 24 == 0xFFFFFF

/-- KEY_EPOCH.DONE (R441). -/
def Mach.epochDone (m : Mach) : Bool := bitAt (m.aw 0x3040) 8

/-! ## Lockout (R446, R447) -/

/-- The lockout word of slot k: N and T of a lockout that runs. -/
def Mach.lockWord (m : Mach) (k : Nat) : Word := m.aw (0x3020 + 4 * k)

/-- Slot k is in lockout. -/
def Mach.lockedOut (m : Mach) (k : Nat) : Bool := getF (m.lockWord k) 16 16 != 0

/-- The failure window of slot k with the times of its failures. -/
def Mach.failsOf (m : Mach) (k : Nat) : Nat × List Nat := cget (fun _ => (0, [])) m.sec.fails k

/-- Replace them. -/
def Mach.setFails (k : Nat) (v : Nat × List Nat) (m : Mach) : Mach :=
  { m with sec := { m.sec with fails := cset (fun _ => (0, [])) m.sec.fails k v } }

/-- The failures of slot k that are not older than a window of `w` seconds (R446). -/
def Mach.failsIn (m : Mach) (k w : Nat) : List Nat := (m.failsOf k).2.filter (fun t => m.now ≤ t + w * second)

/-- KEY_FAIL_k.FAILS: the failures within the window. -/
def Mach.failCount (m : Mach) (k : Nat) : Nat := (m.failsIn k (m.failsOf k).1).length

/-- End a slot's lockout and return its failure count and level to 0. -/
def Mach.lockClear (k : Nat) (m : Mach) : Mach := (m.setAw (0x3020 + 4 * k) 0).setFails k (0, [])

/-- A field of SEC_CFG in which 0 acts as 1 (R458). -/
def Mach.secLim (m : Mach) (x : Fld) : Nat := Nat.max 1 (m.f x)

/-- A failure at step 3 of the check: one more failure within the window that SEC_CFG gives now, and a lockout when the count reaches
FAIL_N (R446). -/
def Mach.lockFail (k : Nat) (m : Mach) : Mach :=
  let w := m.lockWord k
  let n := getF w 4 3
  let win := m.secLim SEC_CFG.FAIL_WIN
  let fs := m.now :: m.failsIn k win
  if fs.length < m.secLim SEC_CFG.FAIL_N then m.setFails k (win, fs)
  else
    let t := m.secLim SEC_CFG.LOCK_T * 2 ^ Nat.min n 6
    let m1 := (m.setAw (0x3020 + 4 * k) (word (16 * Nat.min 7 (n + 1) + 65536 * t))).setFails k (0, [])
    (({ m1 with sec := { m1.sec with lockAt := cset (fun _ => 0) m1.sec.lockAt k m.now } }).raise fLockout k (word t)).ledger 0x20 (k + 16) t

/-- LOCKOUT_EXPIRE (R446): time moves on to the end of T, on AON32. -/
def Mach.lockExpire (k : Nat) (m : Mach) : Mach :=
  let t := getF (m.lockWord k) 16 16
  if t = 0 || m.dev == .off then m
  else
    let m1 := m.advNow (aonAt (aonCycles (cget (fun _ => 0) m.sec.lockAt k) + 32768 * t))
    m1.setAw (0x3020 + 4 * k) (setF (m1.lockWord k) 16 16 0)

/-- KEY_FAIL_AGE (R446): time moves on until the oldest failure that counts is older than the window, and it drops out. -/
def Mach.failAge (k : Nat) (m : Mach) : Mach :=
  let w := (m.failsOf k).1
  match (m.failsIn k w).getLast? with
  | some t =>
    if m.dev == .off then m
    else
      let m1 := m.advNow (t + w * second + 1)
      m1.setFails k (w, m1.failsIn k w)
  | none => m

/-- Seconds left of a slot's lockout, a begun second counting whole. -/
def Mach.lockLeft (m : Mach) (k : Nat) : Nat :=
  getF (m.lockWord k) 16 16 - (aonCycles m.now - aonCycles (cget (fun _ => 0) m.sec.lockAt k)) / 32768

/-- LOCKOUT_CLEAR (R447): the mask of slots that were in lockout. -/
def Mach.lockoutClear (mask : Nat) (m : Mach) : Mach × Nat :=
  let was := (List.range 6).foldl (fun a k => if mask.testBit k && m.lockedOut k then a + 2 ^ k else a) 0
  ((forN 6 (fun k t => applyIf (mask.testBit k) (Mach.lockClear k) t) m).ledger 0x20 24 mask, was)

/-! ## The check (R442) -/

/-- The results of the check: 0 passed, 1 BLANK, 2 LOCKOUT, 3 AUTH, 4 REPLAY. `pay` is what AUTH_FAIL records of the message. -/
def Mach.authCheck (k ctr : Nat) (msg tag : List Byte) (pay : Nat) (m : Mach) : Mach × Nat :=
  if !m.keyValid k then (m.raise fKeyBlank k (word (pay % 256)), 1)
  else if m.lockedOut k then (m.raise fLockout k (word (getF (m.lockWord k) 16 16)), 2)
  else if cmac (m.slot k).key msg ≠ tag then ((m.raise fAuthFail k (word pay)).lockFail k, 3)
  else if ctr / 2 ^ 24 ≠ m.epoch || ctr ≤ m.storedCtr k then (m.raise fReplay k (word ctr), 4)
  else
    let m1 := (m.setCtr k ctr).lockClear k
    (if ctrEnded ctr then m1.raise fCtrExhaust k (word ctr) else m1, 0)

/-! ## Programming (R435 to R437) -/

/-- The staged key. -/
def Mach.stagedKey (m : Mach) : List Byte := (List.range 4).flatMap (fun i => wordBytes (m.reg (0x0B0100 + 4 * i)))

/-- An operation of KEY_PROG ends with a result: KEY_STG is cleared, and KEY_EVENT and KEY_KCV are written. While the core is
held in reset only the slot and the ledger change. -/
def Mach.keyEnd (k res : Nat) (m : Mach) : Mach :=
  let m1 := if m.boot.held then m
    else (forN 4 (fun i t => t.setReg (0x0B0100 + 4 * i) 0) ((m.put KEY_PROG_STAT.DONE 1).put KEY_PROG_STAT.RES res))
  (m1.ledger 0x20 (k + 8) res).ledger 0x21 (m1.kcv k % 256) (m1.kcv k / 256)

/-- The first failed check of R435, in its order. -/
def Mach.keyRefusal (m : Mach) (k : Nat) : Option Nat :=
  if m.dev != .run && m.dev != .ochre && m.dev != .teasel then some 5
  else if !((2 ≤ k && k ≤ 5) || (k ≤ 1 && m.dev == .teasel)) then some 1
  else if (m.slot k).state ≠ 0 then some 2
  else if (m.slot k).dirty then some 3
  else if m.stagedKey = List.replicate 16 0 || m.stagedKey = List.replicate 16 255 then some 6
  else none

/-- A write of KEY_PROG with GO = 1 (R435, R437). -/
def Mach.keyProg (m : Mach) : Mach :=
  let k := m.f KEY_PROG.SLOT
  if m.sec.burning.isSome then m.put KEY_PROG_STAT.REJ 1
  else match m.keyRefusal k with
  | some r => (if r = 3 then m.setSlot k { m.slot k with state := 2 } else m).keyEnd k r
  | none => { m with sec := { m.sec with burning := some (k, m.stagedKey) } }

/-- KEY_BURN_DONE (R435, R436): every bit verified, or not. -/
def Mach.keyBurnDone (verified : Bool) (m : Mach) : Mach :=
  match m.sec.burning with
  | none => m
  | some (k, key) =>
    let m1 := { m with sec := { m.sec with burning := none } }
    if verified then ((m1.setSlot k { state := 1, key := key }).setCtr k m1.ctrFloor).keyEnd k 0
    else (m1.setSlot k { state := 2, key := [], dirty := true }).keyEnd k 4

/-- A loss of PG_MAIN during a burn leaves the slot DAMAGED, its written mark not being burned (R437). -/
def Mach.keyCut (m : Mach) : Mach :=
  match m.sec.burning with
  | none => m
  | some (k, _) => ({ m with sec := { m.sec with burning := none } }).setSlot k { state := 2, key := [], dirty := true }

/-! ## The epoch (R441) -/

/-- The counters start at the floor of the epoch. -/
def Mach.epochFloor (m : Mach) : Mach :=
  (forN 6 (fun k t => applyIf (k ≠ 0 && t.keyValid k) (Mach.setCtr k m.ctrFloor) t) m).setAw 0x3018 (word m.ctrFloor)

/-- EPOCH_BURN: `fails` bits failed before the one that verified, four that none did; a full row has no bit to burn. -/
def Mach.epochBurn (fails : Nat) (m : Mach) : Mach :=
  if m.dev != .boot || m.boot.held || m.epochDone then m
  else
    let left := 255 - m.sec.ones
    let none' := 4 ≤ fails || left ≤ fails
    let m1 := { m with sec := { m.sec with ones := if none' then m.sec.ones else m.sec.ones + 1, bfail := Nat.min fails left } }
    let m2 := m1.epochFloor.setAw 0x3040 (word (256 + 512 * b2n none'))
    if none' then m2.raise fCtrExhaust 6 (word m2.ctrFloor) else m2

/-! ## Reports (R452 to R454) -/

/-- The signing slot of a report: VALID and in the partition's AUTH set (R453). -/
def Mach.signer (m : Mach) (p k : Nat) : Bool := 1 ≤ k && k ≤ 5 && m.keyValid k && (m.reg (0x080400 + 0x20 * p)).getLsbD k

/-- Write bytes into words of four, from an address. -/
def Mach.setBytes (key : Nat) (bs : List Byte) (m : Mach) : Mach :=
  forN ((bs.length + 3) / 4) (fun i t => t.setReg (key + 4 * i) (word (fieldAt bs (4 * i) 4))) m

/-- The bytes of a report before its tag (R452). -/
def Mach.reportBytes (m : Mach) (rtype key p rctr : Nat) (nonce body : List Byte) : List Byte :=
  [0x56, 0x58, 0x52, 0x50] ++ toLE 4 (rtype + 256 * key + 65536 * (if m.fb LNK_ID.ENUM then m.f LNK_ID.NODE else 0) + 16777216 * p)
    ++ toLE 8 m.sec.uid ++ toLE 4 rctr ++ toLE 4 m.tod ++ nonce ++ toLE 2 body.length ++ [0, 0] ++ body

/-- Build and sign a report in the partition's RPT_BUF: its length (R452 to R454). The report counter rises first; the words
beyond the report read zero. -/
def Mach.signReport (rtype key p : Nat) (nonce body : List Byte) (m : Mach) : Mach × Nat :=
  let rctr := m.rptCtr + 1
  let bs := m.reportBytes rtype key p rctr nonce body
  let all := bs ++ cmac (m.slot key).key bs
  let m1 := m.setAw 0x3018 (word rctr)
  let m2 := ((m1.setBytes (0x0B0400 + p * instSpan) (padTo 256 all)).put (RPT_STAT.LEN.inst p) all.length).put (RPT_STAT.VALID.inst p) 1
  (if ctrEnded rctr then m2.raise fCtrExhaust 7 (word rctr) else m2, all.length)

/-- KEY_STAT as it reads (R458). -/
def Mach.keyStat (m : Mach) : Nat :=
  (List.range 6).foldl (fun a k => a + (m.slot k).state * 4 ^ k + 2 ^ (16 + k) * b2n (k ≠ 0 && m.lockedOut k)
    + 2 ^ (24 + k) * b2n (k ≠ 0 && ctrEnded (m.storedCtr k))) 0

/-- KEY_EPOCH as it reads (R458). -/
def Mach.keyEpoch (m : Mach) : Nat := m.epoch + getF (m.aw 0x3040) 8 2 * 256 + 4096 * m.sec.bfail

end Sys2Proof.Machine
end

