-- ==== Sys2Proof/Machine/Meter.lean ====
section
/-! DEFINITION. Meter groups, hire sessions, the sentinel and the ledger (chapter 19). -/
namespace Sys2Proof.Machine

/-! ## Meter groups (R461 to R465) -/

/-- A meter group's hidden part. -/
def Mach.mtr (m : Mach) (i : Nat) : Meter := cget (fun _ => {}) m.mtrs i

/-- Replace a meter group's hidden part. -/
def Mach.setMtr (i : Nat) (v : Meter) (m : Mach) : Mach := { m with mtrs := cset (fun _ => {}) m.mtrs i v }

/-- The members of group i: the channels of its mask that are not RETIRED (R462). -/
def Mach.members (m : Mach) (i : Nat) : List Nat := (List.range 256).filter (fun n => m.mtrMember i n && m.listState n ≠ 2)

/-- The channel is running, for the meters. -/
def Mach.memberRuns (m : Mach) (n : Nat) : Bool := m.chst n == 2 || m.chst n == 3

/-- The channel qualifies in group i (R462). -/
def Mach.memberQual (m : Mach) (i n : Nat) : Bool :=
  m.memberRuns n && !m.gated n && m.tb n CH_MON.MEN && m.fb MON_CTL.EN && (m.ch n).healthy &&
  (!m.fb (MTR_CFG.ECHOREQ i) || ((m.tb n CH_MON.ECHO_EN || m.tb n CH_MON.TRIM_EN) && !m.fb (MR_STAT.EABS n) && !m.fb (MR_STAT.ECONF n)
    && !m.fb (MR_STAT.ECHO_F n)))

/-- A quorum is met: Q members, all of them where QUOR is 0; a group with no members never (R463). -/
def quorum (q members met : Nat) : Bool := members != 0 && (if q = 0 then members else q) ≤ met

/-- The group is running. -/
def Mach.mtrRuns (m : Mach) (i : Nat) : Bool :=
  quorum (m.f (MTR_CFG.QUOR i)) (m.members i).length (countIf (fun n => m.memberRuns n) (m.members i))

/-- Members that qualify. -/
def Mach.mtrQuals (m : Mach) (i : Nat) : Nat := countIf (fun n => m.memberQual i n) (m.members i)

/-- The group is qualifying. -/
def Mach.mtrQual (m : Mach) (i : Nat) : Bool := quorum (m.f (MTR_CFG.QUOR i)) (m.members i).length (m.mtrQuals i)

/-- The ticks of group i, its fault time and its starts: words of the always-on window (R486). -/
def Mach.ticks (m : Mach) (i : Nat) : Nat := (m.aw (16 * i)).toNat + 2 ^ 32 * getF (m.aw (16 * i + 4)) 0 8
def Mach.faultTicks (m : Mach) (i : Nat) : Nat := (m.aw (16 * i + 8)).toNat + 2 ^ 32 * getF (m.aw (16 * i + 4)) 8 8
def Mach.starts (m : Mach) (i : Nat) : Nat := (m.aw (16 * i + 12)).toNat

/-- Whole hours of the tick count. -/
def Mach.mtrHours (m : Mach) (i : Nat) : Nat := m.ticks i / 28800

/-- MTR_CFG_m.EN changed (R461). -/
def Mach.mtrCfgHook (i : Nat) (old new : Word) (m : Mach) : Mach :=
  let st := m.f (MTR_STAT.STATE i)
  if bitAt new 0 && !bitAt old 0 then
    (if st = 0 then ((m.put (MTR_STAT.STATE i) 1).setMtr i { theft := (m.mtr i).theft, wait := true }).ledger 0x30 i 0
     else if st = 2 then m.put (MTR_STAT.ENHELD i) 1 else m)
  else if bitAt old 0 && !bitAt new 0 then
    (if st = 1 then m.put (MTR_STAT.STATE i) 2 else m.put (MTR_STAT.ENHELD i) 0)
  else m

/-- METER_SAMPLE (R464): at the next 128th AON32 cycle each ACTIVE group takes one sample, while PG_MAIN is true; one that was enabled within
the tick in progress waits for the next (R461). -/
def Mach.meterSample (s : Mach) : Mach :=
  if !s.powered then s
  else
    let m := s.nextAon .sample 128
    forN 32 (fun i t =>
      if t.f (MTR_STAT.STATE i) ≠ 1 || (t.mtr i).wait then t
      else t.setMtr i { t.mtr i with run := (t.mtr i).run + b2n (m.mtrRuns i), qual := (t.mtr i).qual + b2n (m.mtrQual i) }) m

/-- The tick of group i is a run tick (R464). -/
def Meter.runTick (x : Meter) : Bool := 16 ≤ x.qual || 16 ≤ x.run

/-- Count one qualifying tick, with its mark (R464, R465). -/
def Mach.countTick (i : Nat) (m : Mach) : Mach :=
  let k := m.ticks i
  if k + 1 ≥ 2 ^ 40 then m
  else
    let m1 := (m.setAw (16 * i) (word (k + 1))).setAw (16 * i + 4) (setF (m.aw (16 * i + 4)) 0 8 ((k + 1) / 2 ^ 32))
    let h := m.f (MTR_CFG.MARK i)
    if h ≠ 0 && (k + 1) % (28800 * h) = 0 then m1.ledger 0x32 i (m1.mtrHours i) else m1

/-- Count one tick of fault time. -/
def Mach.countFault (i : Nat) (m : Mach) : Mach :=
  let k := m.faultTicks i
  if k + 1 ≥ 2 ^ 40 then m
  else (m.setAw (16 * i + 8) (word (k + 1))).setAw (16 * i + 4) (setF (m.aw (16 * i + 4)) 8 8 ((k + 1) / 2 ^ 32))

/-- The close of group i at a tick boundary (R461). -/
def Mach.mtrClose (i : Nat) (m : Mach) : Mach :=
  let m1 := m.ledger 0x31 i (m.mtrHours i)
  if m.fb (MTR_STAT.ENHELD i) then
    (((m1.put (MTR_STAT.STATE i) 1).put (MTR_STAT.ENHELD i) 0).setMtr i { theft := (m.mtr i).theft }).ledger 0x30 i 0
  else (m1.put (MTR_STAT.STATE i) 0).setMtr i { theft := (m.mtr i).theft }

/-- One group at a tick boundary (R464). -/
def Mach.mtrTick (i : Nat) (m : Mach) : Mach :=
  let st := m.f (MTR_STAT.STATE i)
  let x := m.mtr i
  if st = 0 then m
  else
    let m1 := if 16 ≤ x.qual then m.countTick i else if 16 ≤ x.run then m.countFault i else m
    let m2 := if x.runTick && !x.prev then m1.setAw (16 * i + 12) (word (satInc 0xFFFFFFFF (m1.starts i))) else m1
    let m3 := m2.setMtr i { x with run := 0, qual := 0, wait := false, prev := x.runTick }
    if st = 2 then m3.mtrClose i else m3

/-! ## Theft (R467) -/

/-- THEFT of one group: its entry, THEFT_SUSPECT and the mark that it has been written. -/
def Mach.theftOf (i : Nat) (m : Mach) : Mach :=
  ((m.setMtr i { m.mtr i with theft := true }).ledger 0x48 i 0).raise fTheftSuspect i (word m.tod)

/-- The tick boundary as the theft guard sees it: `ran` are the traction groups with a run tick. G counts with the latch set too. -/
def Mach.theftTick (ran : List Nat) (m : Mach) : Mach :=
  let counts := m.fb HIRE_CFG.GUARD && m.f HIRE_STAT.STATE == 0 && !ran.isEmpty
  let m1 := if counts then m.put HIRE_STAT.G (satInc 0xFFFFFF (m.f HIRE_STAT.G)) else m
  if m.fb HIRE_STAT.THEFT then (ran.filter (fun i => !(m.mtr i).theft)).foldl (fun t i => t.theftOf i) m1
  else if !counts || m1.f HIRE_STAT.G ≤ 8 * m.f HIRE_CFG.GRACE then m1
  else
    let m2 := (m1.put HIRE_STAT.THEFT 1).put HIRE_STAT.TGRP (ran.headD 0)
    let m3 := forN 32 (fun i t => t.setMtr i { t.mtr i with theft := false }) m2
    (ran.foldl (fun t i => t.theftOf i) m3).wakeBy 0

/-- METER_TICK (R464, R467): at the next 4,096th AON32 cycle every group accrues, then the theft guard looks at the boundary. -/
def Mach.meterTick (s : Mach) : Mach :=
  if s.dev == .off then s
  else
    let m := s.nextAon .tick 4096
    let ran := (List.range 32).filter (fun i => m.f (MTR_STAT.STATE i) ≠ 0 && m.fb (MTR_CFG.TRACTION i) && (m.mtr i).runTick)
    ((forN 32 Mach.mtrTick m).theftTick ran).immobRefresh

/-- The THEFT latch is cleared: `who` 1 by HIRE_OPEN, 2 by SENT_CLR (R467). -/
def Mach.theftClear (who : Nat) (m : Mach) : Mach :=
  if m.fb HIRE_STAT.THEFT then (((m.put HIRE_STAT.THEFT 0).put HIRE_STAT.G 0).ledger 0x4A who 0).immobRefresh else m

/-! ## Hire sessions (R466) -/

/-- The END argument's rule of R466. -/
def Mach.hireEndOk (m : Mach) (e : Nat) : Bool := e = 0 || m.tod < e

/-- HIRE_OPEN: none where its guard fails, else the machine and DETAIL. -/
def Mach.hireOpen (ses e : Nat) (m : Mach) : Option (Mach × Nat) :=
  if !m.hireEndOk e then none
  else if m.f HIRE_STAT.STATE = 0 then
    if ses = 0 then none
    else
      let m1 := (((((m.theftClear 1).put HIRE_STAT.G 0).put HIRE_STAT.STATE 1).put HIRE_SES.SES ses).put HIRE_T0.T0 m.tod).put HIRE_END.TEND e
      some ((m1.ledger 0x40 ses (ses / 256)).immobRefresh, 0)
  else if ses ≠ m.f HIRE_SES.SES then none
  else some ((m.put HIRE_END.TEND e).ledger 0x43 ses (ses / 256), 1)

/-- HIRE_CLOSE, likewise. -/
def Mach.hireClose (ses : Nat) (m : Mach) : Option (Mach × Nat) :=
  if m.f HIRE_STAT.STATE = 0 || ses ≠ m.f HIRE_SES.SES then none
  else some ((((m.put HIRE_STAT.STATE 0).put HIRE_STAT.G 0).ledger 0x41 ses (ses / 256)).immobRefresh, m.tod - m.f HIRE_T0.T0)

/-- HIRE_EXPIRE (R466): time moves on until time-of-day reaches HIRE_END. -/
def Mach.hireExpire (m : Mach) : Mach :=
  let e := m.f HIRE_END.TEND
  if m.dev == .off || m.f HIRE_STAT.STATE ≠ 1 || e = 0 then m
  else (if m.tod < e then m.advNow (aonAt (aonCycles m.now + 32768 * (e - m.tod) - m.sub)) else m).hireCheck.immobRefresh

/-! ## The sentinel (R470 to R472) -/

/-- TAMPER_STROBE of input i (R470): at the next STROBE period, 1/8 s × 2^STROBE. -/
def Mach.tamperStrobe (i : Nat) (high : Bool) (s : Mach) : Mach :=
  if s.dev == .off || bitAt (s.aw 0x2008) i then s
  else
    let m := s.nextAon (.strobe i) (4096 * 2 ^ getF (s.aw 0x2008) 4 2)
    let k := if m.sent.last.getD i false == high then Nat.min 2 (m.sent.same.getD i 0 + 1) else 1
    let m1 := { m with sent := { m.sent with last := m.sent.last.set i high, same := m.sent.same.set i k } }
    let live := (m.f SENT_STAT.TLIVE).testBit i
    if k < 2 || live == high then m1
    else if high then
      let m2 := (m1.put SENT_STAT.TLIVE (m.f SENT_STAT.TLIVE + 2 ^ i)).put SENT_STAT.TAMP (m.f SENT_STAT.TAMP ||| 2 ^ i)
      ((m2.ledger 0x50 i 1).raise fTamper i (word m.tod)).wakeBy 1
    else (m1.put SENT_STAT.TLIVE (m.f SENT_STAT.TLIVE - 2 ^ i)).ledger 0x50 i 0

/-- MMODE allows an edge to be acted on now (R471). -/
def Mach.motionOn (m : Mach) : Bool :=
  match getF (m.aw 0x2008) 8 2 with
  | 0 => false
  | 1 => m.dev == .woad
  | _ => m.dev != .off

/-- MOTION_EDGE (R471). A MOTION entry carries the edges counted in holds since the entry before it (DEDUCED, log entry 32). -/
def Mach.motionEdge (m : Mach) : Mach :=
  if !m.motionOn then m
  else if m.sent.hold then
    ({ m with sent := { m.sent with edges := satInc 65535 m.sent.edges } }).put SENT_STAT.MCNT (satInc 255 (m.f SENT_STAT.MCNT))
  else
    let m1 := (m.put SENT_STAT.MOT 1).ledger 0x51 0 m.sent.edges
    ((({ m1 with sent := { m1.sent with hold := true, edges := 0 } }).startTimer .hold).raise fMotion 0 (word m.tod)).wakeBy 2

/-- MOTION_HOLD_END (R471): time moves on to the end of MHOLD. -/
def Mach.motionHoldEnd (m : Mach) : Mach :=
  if !m.sent.hold then m
  else
    let m1 := m.reachAon .hold (32768 * Nat.max 1 (getF (m.aw 0x2008) 16 8))
    { m1 with sent := { m1.sent with hold := false } }

/-- WAKE_TIMEOUT (R472): time moves on to 2^WAKE_T seconds after the latest asserting event. -/
def Mach.wakeTimeout (m : Mach) : Mach :=
  let t := getF (m.aw 0x2008) 28 4
  if t = 0 || !m.fb SENT_STAT.WAKE then m else (m.reachAon .wake (32768 * 2 ^ t)).put SENT_STAT.WAKE 0

/-- The effect of a write of SENT_CLR (R472). -/
def Mach.sentClrHook (d : Word) (m : Mach) : Mach :=
  let m1 := m.put SENT_STAT.TAMP (m.f SENT_STAT.TAMP &&& (15 - getF d 0 4))
  let m2 := if bitAt d 8 then m1.put SENT_STAT.MOT 0 else m1
  let m3 := if bitAt d 16 then m2.put SENT_STAT.MCNT 0 else m2
  let m4 := if bitAt d 24 then m3.put SENT_STAT.WAKE 0 else m3
  if bitAt d 25 then m4.theftClear 2 else m4

/-! ## The ledger (R473 to R479) -/

/-- The owner other than P0 of the subject of an entry (R479). -/
def Mach.ldgOwner (m : Mach) (w : Word) : Nat :=
  match getF w 0 8 with
  | 0x18 => if bitAt w 22 then 0 else m.ownCh (getF w 8 8)
  | 0x49 => m.ownCh (getF w 8 8)
  | 0x30 | 0x31 | 0x32 | 0x48 => m.ownMtr (getF w 8 8 % 32)
  | 0x09 => if bitAt w 28 then getF w 24 4 else 0
  | _ => 0

/-- An entry takes effect at its index: the window's words, and the ledger-queue records (R473, R479). -/
def Mach.ldgStore (idx : Nat) (w0 w1 : Word) (m : Mach) : Mach :=
  let m1 := (m.setAw (0x8000 + 8 * idx) w0).setAw (0x8004 + 8 * idx) w1
  let p := m.ldgOwner w0
  if !m.anyInst then m1
  else
    let m2 := m1.post 3 (16 + idx / 256) 0 (idx % 256) m.ts32 w0 w1
    if p ≠ 0 && m.instd p then m2.post (4 * p + 3) (16 + idx / 256) 0 (idx % 256) m.ts32 w0 w1 else m2

/-- One more entry is unread; a full ring loses its oldest one (R477). -/
def Mach.ldgGrow (m : Mach) : Mach :=
  if m.ldg.unread < 4096 then { m with ldg := { m.ldg with unread := m.ldg.unread + 1 } }
  else ((m.put LDG_STAT.WRAP 1).put LDG_RD.RD ((m.f LDG_RD.RD + 1) % 4096)).raise fLedgerWrap 0 (word (m.f LDG_RD.RD))

/-- The block sequence number of a block, plus 1; 0 where the block has never been started. -/
def Mach.blkSeq (m : Mach) (b : Nat) : Nat := cget (fun _ => 0) m.ldg.seqs b

/-- The seal of block b stands. -/
def Mach.sealedBlk (m : Mach) (b : Nat) : Bool := cget (fun _ => false) m.ldg.sealed b

/-- The writer steps from slot 14 of block b to the next block (R473, R475): b waits for its seal, and the next block takes the
next sequence number; one that still waited for its seal is lost without it. -/
def Mach.ldgNextBlock (b : Nat) (m : Mach) : Mach :=
  let nb := (b + 1) % 256
  let q := (m.f LDG_BSEQ.BSEQ + 1) % 2 ^ 32
  let lost := m.ldg.due.contains nb
  let m1 := ((m.put LDG_STAT.WR (16 * nb)).put LDG_BSEQ.BSEQ q).ldgGrow
  let m2 := { m1 with ldg := { m1.ldg with
    due := m1.ldg.due.filter (fun x => x ≠ nb) ++ [b], seqs := cset (fun _ => 0) m1.ldg.seqs nb (q + 1),
    sealed := cset (fun _ => false) m1.ldg.sealed nb false } }
  if lost then m2.put LDG_STAT.SKIP 1 else m2

/-- The oldest buffered entry is written with the time of day, and dropped entries are reported once there is room (R476). -/
def Mach.ledgerPut (m : Mach) : Mach :=
  match m.ldgBuf with
  | [] => m
  | e :: rest =>
    let i := m.f LDG_STAT.WR
    let m1 := ({ m with ldgBuf := rest }).ldgGrow.ldgStore i e.word (e.time.getD (word m.tod))
    let m2 := if i % 16 = 14 then m1.ldgNextBlock (i / 16) else m1.put LDG_STAT.WR (i + 1)
    if m2.ldgDrop = 0 then m2
    else ({ m2 with ldgDrop := 0 }.put LDG_STAT.DROP 1).ledger 0x60 0 (Nat.min 65535 m2.ldgDrop)

/-- LEDGER_WRITE (R476): the next AON32 cycle writes one buffered entry. -/
def Mach.ledgerWrite (m : Mach) : Mach :=
  if m.ldgBuf.isEmpty || m.dev == .off then m else (m.nextAon .entry 1).ledgerPut

/-- The bytes of entries from an index. -/
def Mach.ldgBytes (m : Mach) (i k : Nat) : List Byte :=
  (List.range k).flatMap (fun j =>
    wordBytes (m.aw (0x8000 + 8 * ((i + j) % 4096))) ++ wordBytes (m.aw (0x8004 + 8 * ((i + j) % 4096))))

/-- The six seal bytes of block b chained from `prev`, under a key (R475). -/
def Mach.sealOf (m : Mach) (key prev : List Byte) (b : Nat) : List Byte :=
  (cmac key (prev ++ toLE 4 (m.blkSeq b - 1) ++ m.ldgBytes (16 * b) 15)).take 6

/-- The all-zero key. -/
def zeroKey : List Byte := List.replicate 16 0

/-- The device seals blocks in this state (R475). -/
def Mach.sealing (m : Mach) : Bool := m.hostUp

/-- LEDGER_SEAL (R475): the oldest block that waits. -/
def Mach.ledgerSeal (m : Mach) : Mach :=
  match m.ldg.due with
  | [] => m
  | b :: rest =>
    if !m.sealing then m
    else
      let s := m.sealOf (if m.keyValid 1 then (m.slot 1).key else zeroKey) m.ldg.chain b
      let w0 := word (0xFF + 256 * ((m.blkSeq b - 1) % 256) + 65536 * fieldAt s 0 2)
      ({ m with ldg := { m.ldg with due := rest, chain := s, sealed := cset (fun _ => false) m.ldg.sealed b true } }).ldgStore
        (16 * b + 15) w0 (word (fieldAt s 2 4))

/-- The seal bytes that stand in block b. -/
def Mach.sealBytes (m : Mach) (b : Nat) : List Byte := (m.ldgBytes (16 * b + 15) 1).drop 2

/-- The sealed block that precedes block b in sequence, if it is present (R478). -/
def Mach.sealedBefore (m : Mach) (b : Nat) : Option Nat :=
  firstIdx 256 (fun a => m.sealedBlk a && m.blkSeq a ≠ 0 && m.blkSeq a + 1 = m.blkSeq b)

/-- The seal of block b fails the chain check (R478). -/
def Mach.sealBad (m : Mach) (b : Nat) : Bool :=
  m.sealedBlk b &&
  match m.sealedBefore b with
  | none => false
  | some a =>
    let s := m.sealBytes b
    !(m.keyValid 1 && s = m.sealOf (m.slot 1).key (m.sealBytes a) b) && !(s = m.sealOf zeroKey (m.sealBytes a) b : Bool)

/-- A chain check starts (R478). -/
def Mach.chainStart (m : Mach) : Mach := m.put LDG_STAT.CHK 1

/-- CHAIN_CHECK_DONE (R478): the first failing block in sequence order. -/
def Mach.chainDone (m : Mach) : Mach :=
  if m.f LDG_STAT.CHK ≠ 1 || !m.powered then m
  else
    match sortBy (fun (a b : Nat) => Nat.ble (m.blkSeq a) (m.blkSeq b)) ((List.range 256).filter (fun b => m.sealBad b)) with
    | [] => m.put LDG_STAT.CHK 2
    | b :: _ => ((m.put LDG_STAT.CHK 3).put LDG_STAT.BADBLK b).raise fChainBad 0 (word b)

/-- The effect of a write of LDG_CTL (R478). -/
def Mach.ldgCtlHook (d : Word) (m : Mach) : Mach :=
  let m1 := if bitAt d 1 then ((m.put LDG_STAT.WRAP 0).put LDG_STAT.DROP 0).put LDG_STAT.SKIP 0 else m
  if bitAt d 0 then m1.chainStart else m1

/-- The effect of a write of LDG_RD (R477): the unread entries are those from it up to the writer. -/
def Mach.ldgRdHook (m : Mach) : Mach :=
  { m with ldg := { m.ldg with unread := (m.f LDG_STAT.WR + 4096 - m.f LDG_RD.RD) % 4096 } }

/-! ## Time-of-day writes (R47, R460) -/

/-- An accepted write of time-of-day. `setter` is a partition, or 16 for a link-secure master. -/
def Mach.todWrite (setter sec sub : Nat) (m : Mach) : Mach :=
  let m1 := m.ledgerAt (some (word m.tod)) 0x10 setter 0
  ((({ m1 with tod := sec, sub := sub }).ledgerAt (some (word sec)) 0x11 setter 0).put TOD_STAT.UNSET 0).hireCheck.immobRefresh

/-! ## Report bodies (R480) -/

/-- One group's record of a METER_REPORT. -/
def Mach.mtrRecord (m : Mach) (i : Nat) : List Byte :=
  toLE 2 (i + 256 * (b2n (m.fb (MTR_CFG.EN i)) + 2 * b2n (m.fb (MTR_CFG.TRACTION i)) + 4 * b2n (m.fb (MTR_CFG.ECHOREQ i)) + 16 * m.ownMtr i))
    ++ toLE 5 (m.ticks i) ++ toLE 5 (m.faultTicks i) ++ toLE 4 (m.starts i)

/-- The body of a METER_REPORT over the groups of a mask. -/
def Mach.meterBody (m : Mach) (mask : Nat) : List Byte :=
  let gs := (List.range 32).filter (fun i => mask.testBit i)
  toLE 4 (m.f HIRE_STAT.STATE + 256 * (m.f HIRE_STAT.THEFT + 2 * m.f TOD_STAT.UNSET + 4 * m.f AON_STAT.LOST) + 65536 * m.epoch
      + 16777216 * gs.length)
    ++ toLE 4 (m.f HIRE_SES.SES) ++ toLE 4 (m.f HIRE_T0.T0) ++ toLE 4 (m.f LDG_STAT.WR) ++ gs.flatMap (fun i => m.mtrRecord i)

/-- The body of a LEDGER_REPORT: COUNT entries from START. -/
def Mach.ledgerBody (m : Mach) (start count : Nat) : List Byte :=
  toLE 4 (start + 65536 * count) ++ toLE 4 (m.f LDG_STAT.WR) ++ toLE 4 (m.blkSeq (start / 16) - 1) ++ toLE 4 (m.f LDG_BSEQ.BSEQ)
    ++ m.ldgBytes start count

end Sys2Proof.Machine
end

