-- ==== Sys2Proof/Machine/Refs.lean ====
section
/-! DEFINITION. References, selection and the root (chapter 07): qualification of the ten sources, the selector, switches, the
DPLL with holdover, and the 1 pps input with its discipline of time-of-day. -/
namespace Sys2Proof.Machine

/-- The APLL is LOCKED (R171). -/
def Mach.locked (m : Mach) : Bool := m.f ROOT_STAT.APLL == 2

/-- Measurement runs: while the APLL is LOCKED, from the Clocks step onward (R157). -/
def Mach.measuring (m : Mach) : Bool := m.powered && m.locked && m.boot.clocks

/-! ## The DPLL's tuning word (R154, R167) -/

/-- The bound of ROOT_TUNE in ppt. -/
def tuneMax : Int := 200000000

/-- TUNE_INIT as it acts. -/
def Mach.tuneInit (m : Mach) : Int := clampI (-tuneMax) tuneMax (signed 32 (m.f TUNE_INIT.TUNE))

/-- Set ROOT_TUNE. -/
def Mach.setTune (y : Int) (m : Mach) : Mach := m.put ROOT_TUNE.TUNE (unsign 32 y)

/-- ROOT_TUNE moves to a target within its range and stays there: at once without a slew limit, else it slews as time passes (R154,
R167, R169). -/
def Mach.tuneTo (y : Int) (m : Mach) : Mach :=
  let d := clampI (-tuneMax) tuneMax y
  let m1 := m.updRoot (fun r => { r with target := d, slewFrac := if m.fb ROOT_STAT.FSLEWING then r.slewFrac else 0 })
  if m.tune = d || m.slewSteps.isNone then (m1.setTune d).put ROOT_STAT.FSLEWING 0 else m1.put ROOT_STAT.FSLEWING 1

/-- ROOT_TUNE stays where it is: a slew under way ends (R163, R165). -/
def Mach.tuneHold (m : Mach) : Mach := m.put ROOT_STAT.FSLEWING 0

/-- The steps after which a slew under way has reached its target (R167). -/
def Mach.slewLeft (m : Mach) : Nat :=
  m.slewSteps.elim 0 (fun q => (m.root.target - m.tune).natAbs * q - m.root.slewFrac)

/-- TUNE_SLEW_DONE (R167): time moves on until ROOT_TUNE has slewed to the target of FREERUN or HOLDOVER. -/
def Mach.tuneDone (m : Mach) : Mach :=
  if m.fb ROOT_STAT.FSLEWING && (m.f ROOT_STAT.DPLL = 0 || m.f ROOT_STAT.DPLL = 3) && m.locked then m.advNow (m.now + m.slewLeft) else m

/-- The configured bandwidth code; 9 to 15 act as 8. -/
def Mach.bwCode (m : Mach) : Nat := Nat.min 8 (m.f ROOT_CFG.BW)

/-- A bandwidth code in 0.01 Hz. -/
def bwHz : Nat → Nat
  | 0 => 1 | 1 => 3 | 2 => 10 | 3 => 30 | 4 => 100 | 5 => 300 | 6 => 1000 | 7 => 3000 | _ => 10000

/-- The effective bandwidth for a source: the largest code not above the configured one and f_PD / 20 (R167). -/
def Mach.bwFor (m : Mach) (i : Nat) : Nat :=
  (((List.range (m.bwCode + 1)).reverse.find? (fun c => bwHz c * 20 * m.f (REF_FB.FB i) ≤ 240000000000))).getD 0

/-- The source that the DPLL follows. -/
def Mach.src (m : Mach) : Option Nat := if m.f SEL_STAT.SRC < 10 then some (m.f SEL_STAT.SRC) else none

/-- The effective bandwidth code; with no source it is the configured code (R167). -/
def Mach.bwEff (m : Mach) : Nat := m.src.elim m.bwCode m.bwFor

/-- ROOT_STAT as it reads: BW_EFF and BWCLAMP are present conditions once the APLL has left OFF (R167). -/
def Mach.rootStat (m : Mach) : Word :=
  if m.f ROOT_STAT.APLL = 0 then m.reg 0x010310
  else setF (setF (m.reg 0x010310) 16 4 m.bwEff) 10 1 (b2n (m.bwEff < m.bwCode))

/-! ## The selector (R160 to R162) -/

/-- Source i is QUALIFIED. -/
def Mach.qualified (m : Mach) (i : Nat) : Bool := i < 10 && m.f (REF_STAT.STATE i) == 3

/-- The best candidate of R161. -/
def Mach.bestSrc (m : Mach) : Option Nat :=
  ((List.range 10).filter (fun i => m.qualified i && m.f (REF_CFG.PRIO i) ≠ 0)).foldl (fun (acc : Option Nat) i =>
    match acc with
    | none => some i
    | some b => if m.f (REF_CFG.PRIO i) < m.f (REF_CFG.PRIO b) then some i else some b) none

/-- Mark the followed source in REF_STAT. -/
def Mach.showSrc (v : Nat) (m : Mach) : Mach :=
  (forN 10 (fun i t => t.put (REF_STAT.SELECTED i) (b2n (i = v))) m).put SEL_STAT.SRC v

/-- The timer of a pending source stops. -/
def Mach.noPend (m : Mach) : Mach := (m.put SEL_STAT.PEND 15).put SEL_STAT.WTR_LEFT 0

/-- Steps of HAVG and of HGUARD (R168). -/
def Mach.histWin (m : Mach) : Nat := 200000000 * 10 ^ Nat.min 4 (m.f HOLD_CFG.HAVG)
def Mach.histGuard (m : Mach) : Nat :=
  match m.f HOLD_CFG.HGUARD with
  | 0 => 0
  | 1 => 20000000
  | 2 => 200000000
  | _ => 2000000000

/-- The sum of ROOT_TUNE over `want` steps of the history, behind the latest `skip` steps of it: a span that an end of the window cuts
counts with its mean. -/
def histSum : Nat → Nat → List (Nat × Int) → Int
  | _, _, [] => 0
  | skip, want, x :: xs =>
    if x.1 ≤ skip then histSum (skip - x.1) want xs
    else
      let c := Nat.min (x.1 - skip) want
      x.2 * c / x.1 + histSum 0 (want - c) xs

/-- TRACK time in the history. -/
def Mach.histLen (m : Mach) : Nat := m.root.hist.foldl (fun a x => a + x.1) 0

/-- HOLD_AVG once HIST_VALID is 1: the mean of ROOT_TUNE over HAVG seconds of TRACK time that end HGUARD seconds before its present end,
rounded down to 1 ppt (R168; DESIGN CHOICE, log entry 90). -/
def Mach.holdAvg (m : Mach) : Int := histSum m.histGuard m.histWin m.root.hist / m.histWin

/-- The DPLL enters HOLDOVER (R165, R169). -/
def Mach.holdover (m : Mach) : Mach :=
  let weak := !m.fb ROOT_STAT.HIST_VALID
  let y := if weak then m.tune else m.holdAvg
  let m1 := ((((m.noPend.showSrc 14).put ROOT_STAT.DPLL 3).put ROOT_STAT.WEAK (b2n weak)).put ROOT_STAT.PSLEWING 0).put ROOT_EVT.HOLDOVER 1
  let m2 := (m1.updRoot (fun r => { r with holdAt := m.now, holdRaised := false, good := 0, far := 0 })).put HOLD_TIME.TIME 0
  (m2.raise fHoldover 0 (word (unsign 32 y))).tuneTo y

/-- The DPLL returns to FREERUN (R165). -/
def Mach.freerun (m : Mach) : Mach :=
  let m1 := (((m.noPend.showSrc 15).put ROOT_STAT.DPLL 0).put ROOT_STAT.WEAK 0).put ROOT_STAT.PSLEWING 0
  (m1.updRoot (fun r => { r with good := 0, far := 0 })).tuneTo m.tuneInit

/-- The selector delivers a source (R163 step 1): ROOT_TUNE holds until its first divided edge. -/
def Mach.switchTo (i : Nat) (m : Mach) : Mach :=
  let m1 := (((m.noPend.showSrc i).put SEL_STAT.SWITCHING 1).put ROOT_STAT.DPLL 1).put ROOT_STAT.WEAK 0
  (m1.updRoot (fun r => { r with prev := m.f SEL_STAT.SRC, good := 0, far := 0, edgeAt := none })).tuneHold

/-- No source may be followed: HOLDOVER, with NOSRC where the selected source was lost. -/
def Mach.noSource (lost : Bool) (m : Mach) : Mach :=
  if m.f ROOT_STAT.DPLL = 3 then m else (if lost then m.put SEL_EVT.NOSRC 1 else m).holdover

/-- The rules of AUTO (R161). -/
def Mach.selAuto (m : Mach) : Mach :=
  match m.src, m.bestSrc with
  | none, none => m
  | none, some b => m.switchTo b
  | some s, best =>
    if !m.qualified s then
      (match best with
       | some b => m.switchTo b
       | none => m.noSource true)
    else
      let p := fun i => if m.f (REF_CFG.PRIO i) = 0 then 16 else m.f (REF_CFG.PRIO i)
      match best with
      | none => m.noPend
      | some b =>
        if b = s || !(p b < p s || (p b = p s && b < s)) || !m.fb SEL_CFG.REVERT then m.noPend
        else if m.f SEL_STAT.PEND = b then (if m.f SEL_CFG.WTR = 0 then m.switchTo b else m)
        else ((m.put SEL_STAT.PEND b).put SEL_STAT.WTR_LEFT (m.f SEL_CFG.WTR)).updRoot (fun r => { r with wtrAt := m.now })

/-- One evaluation of the selector. A change that falls in a switch waits for it (R162). -/
def Mach.selEval (m : Mach) : Mach :=
  if !m.locked then m
  else if m.fb SEL_STAT.SWITCHING then m.updRoot (fun r => { r with again := true })
  else match m.f SEL_CTL.MODE with
  | 0 => m.selAuto
  | 1 =>
    let s := m.f SEL_CTL.FORCE_SRC
    if m.qualified s then (if m.src = some s then m.noPend else m.switchTo s) else m.noSource false
  | 2 => m.noSource false
  | _ => if m.f ROOT_STAT.DPLL = 0 && m.f SEL_STAT.SRC = 15 then m else m.freerun

/-- What is left at real time `now` of a count of `v` units of `u` steps that began at real time t, begun units counted. -/
def unitsLeft (now v u t : Nat) : Nat := (v * u - (now - t) + u - 1) / u

/-- The real time that the qualification timers have reached: they are frozen while the APLL is not LOCKED (R157). -/
def Mach.qualNow (m : Mach) : Nat := m.root.frozen.getD m.now

/-- WTR_EXPIRE (R161): the timer ends. -/
def Mach.wtrExpire (s : Mach) : Mach :=
  let b := s.f SEL_STAT.PEND
  let m := if b = 15 then s else s.advNow (s.root.wtrAt + 200000000 * s.f SEL_STAT.WTR_LEFT)
  if b = 15 || !m.locked || m.fb SEL_STAT.SWITCHING then s
  else if m.bestSrc = some b then m.switchTo b else m.noPend.selEval

/-- SWITCH_EDGE (R163 steps 2 and 3): the first divided edge of the new source arrives with a phase difference. -/
def Mach.switchEdge (err : Word) (m : Mach) : Mach :=
  match m.src with
  | none => m
  | some i =>
    if !m.fb SEL_STAT.SWITCHING || !m.measuring then m
    else
      let built := m.fb SEL_CFG.PBO && i ≠ 9
      let m1 := (((m.put SEL_STAT.SWITCHING 0).put SEL_EVT.SWITCH 1).put SEL_STAT.SWITCHES (satInc 255 (m.f SEL_STAT.SWITCHES))).put
        PHASE_ERR.ERR (if built then 0 else err.toNat)
      let m2 := ((m1.put ROOT_STAT.PSLEWING (b2n (!built && err ≠ 0))).updRoot (fun r => { r with edgeAt := some m.now })).raise fSrcSwitch i
        (word (m.root.prev + 16 * i))
      if m2.root.again then (m2.updRoot (fun r => { r with again := false })).selEval else m2

/-! ## Qualification (R155 to R159) -/

/-- The range of R74 for an input mode holds: f_i = 2.4 GHz × RDIV / FB. -/
def modeRange (mode rdiv fb : Nat) : Bool :=
  let f := 2400000000 * rdiv
  match mode with
  | 0 => fb ≤ f && f ≤ 800000000 * fb
  | 1 => 1000 * fb ≤ f && f ≤ 800000000 * fb
  | 2 => fb ≤ f && f ≤ 250000000 * fb
  | _ => false

/-- R155 holds for source i. -/
def Mach.refOk (m : Mach) (i : Nat) : Bool :=
  let fb := m.f (REF_FB.FB i)
  let rdiv := m.f (REF_DIV.RDIV i)
  1 ≤ rdiv && 96 ≤ fb && fb ≤ 2400000000 && (8 ≤ i || modeRange (m.f (REF_CFG.MODE i)) rdiv fb)
    && !(i = 9 && m.boot.straps.getLsbD 2)

/-- The code of source i's frequency gate: FGATE, raised to the shortest of at least 4/f_PD (R156). -/
def Mach.gateCode (m : Mach) (i : Nat) : Nat :=
  ((List.range 5).find? (fun c => Nat.min 4 (m.f (REF_QUAL.FGATE i)) ≤ c && m.f (REF_FB.FB i) ≤ 6000000 * 10 ^ c)).getD 4

/-- The steps of source i's frequency gate. -/
def Mach.gateLen (m : Mach) (i : Nat) : Nat := 2000000 * 10 ^ m.gateCode i

/-- A fresh gate of an enabled source begins where measurement runs (R156, R157). -/
def Mach.gateStart (i : Nat) (m : Mach) : Mach := if m.measuring then m.startTimer (.gate i) else m

/-- Source i enters a state; the selector evaluates. -/
def Mach.setRef (i st : Nat) (m : Mach) : Mach := (m.put (REF_STAT.STATE i) st).selEval

/-- The effect of a write of REF_CFG_i (R155, R158, R161). -/
def Mach.refCfgHook (i : Nat) (old new : Word) (m : Mach) : Mach :=
  if bitAt new 0 && !bitAt old 0 then
    (if m.refOk i then ((m.put (REF_STAT.CFGERR i) 0).gateStart i).setRef i 1 else m.put (REF_STAT.CFGERR i) 1)
  else if bitAt old 0 && !bitAt new 0 then
    ((((m.put (REF_STAT.CFGERR i) 0).put (REF_STAT.ACT i) 0).put (REF_STAT.QUAL_LEFT i) 0).stopTimer (.gate i)).setRef i 0
  else if getF old 8 4 ≠ getF new 8 4 then m.selEval else m

/-- QUAL_T as it acts. -/
def Mach.qualT (m : Mach) (i : Nat) : Nat := Nat.max 1 (m.f (REF_QUAL.QUAL_T i))

/-- REF_ACTIVITY (R158). -/
def Mach.refActivity (i : Nat) (m : Mach) : Mach :=
  if !m.measuring || m.f (REF_STAT.STATE i) = 0 then m
  else
    let m1 := m.put (REF_STAT.ACT i) 1
    if m.f (REF_STAT.STATE i) ≠ 1 then m1
    else
      let m2 := ((m1.put (REF_STAT.QUAL_LEFT i) (m.qualT i)).updRoot (fun r => { r with
        gates := cset (fun _ => 0) r.gates i 0
        qualAt := cset (fun _ => 0) r.qualAt i m.now
        ripe := cset (fun _ => false) r.ripe i false })).gateStart i
      m2.setRef i 2

/-- Source i is disqualified by a failing check: its event and fault. -/
def Mach.refFail (i : Nat) (evt : Fld) (code : Nat × Nat) (pay : Word) (m : Mach) : Mach :=
  (((((m.put evt 1).put (REF_STAT.STATE i) 1).put (REF_STAT.QUAL_LEFT i) 0).raise code i pay)).selEval

/-- The source is QUALIFYING or QUALIFIED. -/
def Mach.refUp (m : Mach) (i : Nat) : Bool := 2 ≤ m.f (REF_STAT.STATE i)

/-- REF_LOS (R158). The payload is REF_STAT as the failure leaves it. While measurement does not run only ACT follows, of the sources whose
activity is a condition and no edge (R156, R157). -/
def Mach.refLos (i : Nat) (m : Mach) : Mach :=
  if m.f (REF_STAT.STATE i) = 0 || (!m.measuring && i < 8) then m
  else
    let m1 := m.put (REF_STAT.ACT i) 0
    if !m.refUp i || !m.measuring then m1
    else m1.refFail i (REF_EVT.LOS i) fRefLos (((m1.put (REF_STAT.STATE i) 1).put (REF_STAT.QUAL_LEFT i) 0).reg (0x010010 + 0x20 * i))

/-- An edge that deviates by `dev` steps of 52.08 ps lies beyond the PHIT threshold: 0.5 ns × 2^(PHIT − 1), which is 4.8 × 2^PHIT
steps (R156). -/
def Mach.beyondPhit (m : Mach) (i : Nat) (dev : Word) : Bool :=
  let c := m.f (REF_QUAL.PHIT i)
  c ≠ 0 && 24 * 2 ^ c < 5 * (signed 32 dev.toNat).natAbs

/-- REF_PHIT (R156, R158): an edge with its signed deviation from the predicted time. -/
def Mach.refPhit (i : Nat) (dev : Word) (m : Mach) : Mach :=
  if m.measuring && m.refUp i && m.beyondPhit i dev then m.refFail i (REF_EVT.PHIT i) fRefPhit dev else m

/-- A source becomes QUALIFIED (R158). -/
def Mach.refQualify (i : Nat) (m : Mach) : Mach :=
  ((m.put (REF_EVT.QUAL i) 1).put (REF_STAT.QUAL_LEFT i) 0).setRef i 3

/-- FREQ_GATE_END (R156, R158): the gate ends with an offset in ppb, signed, and the next begins. -/
def Mach.freqGate (i : Nat) (ppb : Word) (s : Mach) : Mach :=
  let m := (s.reach (.gate i) (s.gateLen i)).gateStart i
  if !s.measuring || s.f (REF_STAT.STATE i) = 0 then s
  else
    let o := (signed 32 ppb.toNat).natAbs
    let acc := Nat.max 1 (m.f (REF_QUAL.FWIN_ACC i))
    let rej := Nat.max acc (m.f (REF_QUAL.FWIN_REJ i))
    let ok := if o ≤ 1000 * acc then 1 else if 1000 * rej < o then 0 else m.f (REF_STAT.FREQ_OK i)
    let m1 := (m.put (REF_MEAS.OFFSET i) ppb.toNat).put (REF_STAT.FREQ_OK i) ok
    let m2 := m1.updRoot (fun r => { r with gates := cset (fun _ => 0) r.gates i (Nat.min 1 (cget (fun _ => 0) r.gates i + 1)) })
    if m.refUp i && 1000 * rej < o then m2.refFail i (REF_EVT.FREQ i) fRefFreq ppb
    else if m.f (REF_STAT.STATE i) = 2 && ok = 1 && cget (fun _ => false) m.root.ripe i then m2.refQualify i
    else m2

/-- REF_QUAL_DONE (R158): QUAL_T elapses; without a passing gate the source waits for one. -/
def Mach.refQualDone (i : Nat) (s : Mach) : Mach :=
  let m := s.advNow (cget (fun _ => 0) s.root.qualAt i + 20000000 * s.f (REF_STAT.QUAL_LEFT i))
  if !s.measuring || s.f (REF_STAT.STATE i) ≠ 2 then s
  else if cget (fun _ => 0) m.root.gates i ≠ 0 && m.fb (REF_STAT.FREQ_OK i) then m.refQualify i
  else (m.put (REF_STAT.QUAL_LEFT i) 0).updRoot (fun r => { r with ripe := cset (fun _ => false) r.ripe i true })

/-! ## The DPLL (R165 to R169) -/

/-- The PSLEW rate in ppt (R163): 10 ns/s are 10,000. -/
def Mach.pslew (m : Mach) : Int := 10000 * (10 ^ m.f SEL_CFG.PSLEW : Nat)

/-- The demand while a phase difference is removed without build-out (R163): within the PSLEW rate of the tuning word that would follow
the source, which lies `fdiff` ppb above the present one (DESIGN CHOICE, log entry 91). -/
def Mach.pslewHold (fdiff demand : Int) (m : Mach) : Int :=
  let y := m.tune + 1000 * fdiff
  if m.fb ROOT_STAT.PSLEWING then clampI (y - m.pslew) (y + m.pslew) demand else demand

/-- Steering toward a demand: range and slew (R167). -/
def Mach.steer (demand : Int) (m : Mach) : Mach :=
  let far := clampI (-tuneMax) tuneMax demand ≠ demand
  (if far then (m.put ROOT_STAT.TUNE_LIMIT 1).put ROOT_EVT.TUNE_LIMIT 1 else m.put ROOT_STAT.TUNE_LIMIT 0).tuneTo demand

/-- The next divided edge of source i at the phase detector: one nominal divided period, FB ROOT cycles, after the latest (R155). -/
def Mach.toEdge (i : Nat) (m : Mach) : Mach := m.root.edgeAt.elim m (fun t => m.advNow (t + m.f (REF_FB.FB i) / 12))

/-- The phase error with the offset that the phase detector carries on source 9: d_up, in fine steps of a quarter of 52.08 ps, rounded down
(R422; DEDUCED, log entry 101). -/
def Mach.carried (m : Mach) (i : Nat) (raw : Int) : Int := if i = 9 then (4 * raw - m.link.dOff) / 4 else raw

/-- DPLL_EDGE (R165 to R167): the phase of the edge against the local feedback edge in steps of 52.08 ps, the frequency difference in ppb, the steering demand in ppt.
10 ns are 192 steps, 100 ns are 1,920. -/
def Mach.dpllEdge (raw fdiff demand : Word) (s : Mach) : Mach :=
  match s.src with
  | none => s
  | some i =>
    let m := s.toEdge i
    let st := m.f ROOT_STAT.DPLL
    if (st ≠ 1 && st ≠ 2) || s.fb SEL_STAT.SWITCHING || !s.measuring then s
    else
      let err := word (unsign 32 (m.carried i (signed 32 raw.toNat)))
      let e := (signed 32 err.toNat).natAbs
      let df := signed 32 fdiff.toNat
      let good := if e ≤ 192 && df.natAbs ≤ 100 then m.root.good + 1 else 0
      let far := if 1920 < e then m.root.far + 1 else 0
      let m1 := (((m.put PHASE_ERR.ERR err.toNat).put ROOT_STAT.PSLEWING (b2n (m.fb ROOT_STAT.PSLEWING && err ≠ 0))).steer
        (m.pslewHold df (signed 32 demand.toNat))).updRoot (fun r => { r with good := good, far := far, edgeAt := some m.now })
      if st = 1 && 16 ≤ good then
        ((m1.put ROOT_STAT.DPLL 2).put ROOT_EVT.TRACK 1).updRoot (fun r => { r with good := 0, far := 0 })
      else if st = 2 && 4 ≤ far then (m1.put ROOT_STAT.DPLL 1).updRoot (fun r => { r with good := 0, far := 0 })
      else m1

/-- HIST_VALID (R168): time moves on until TRACK time totalling HAVG + HGUARD has accumulated. -/
def Mach.histValid (m : Mach) : Mach :=
  if m.f ROOT_STAT.DPLL = 2 && m.measuring then
    (m.advNow (m.now + (m.histWin + m.histGuard - m.histLen))).put ROOT_STAT.HIST_VALID 1
  else m

/-- A change of HAVG or HGUARD starts the history anew (R168). What HOLD_AVG holds until it is valid again is free. -/
def Mach.holdCfgHook (old new : Word) (m : Mach) : Mach :=
  if (old ^^^ new) &&& word 0x707 = 0 then m
  else (m.draw.2.setReg 0x01031C m.draw.1).put ROOT_STAT.HIST_VALID 0 |>.updRoot (fun r => { r with hist := [] })

/-- HOLD_TIME as it reads: seconds in the present holdover. -/
def Mach.holdTime (m : Mach) : Nat :=
  if m.f ROOT_STAT.DPLL = 3 then Nat.min 0xFFFFFFFF ((m.now - m.root.holdAt) / 200000000) else m.f HOLD_TIME.TIME

/-- HOLD_LONG (R169): once per holdover. -/
def Mach.holdLong (m : Mach) : Mach :=
  let h := m.f HOLD_CFG.HMAX
  if m.f ROOT_STAT.DPLL ≠ 3 || h = 0 || m.root.holdRaised then m
  else
    let m1 := (m.advNow (m.root.holdAt + h * 60 * 200000000)).updRoot (fun r => { r with holdRaised := true })
    (m1.put ROOT_EVT.HOLD_LONG 1).raise fHoldLong 0 (word m1.holdTime)

/-! ## The 1 pps input (R173 to R175) -/

/-- TOL as it acts, in ROOT cycles of a second. -/
def Mach.ppsTol (m : Mach) : Nat := Nat.max 1 (m.f PPS_CFG.TOL) * 24000

/-- The discipline of time-of-day at an accepted edge (R175); the count is set at the first AON32 edge after it. -/
def Mach.todAlign (m : Mach) : Mach :=
  let s := m.sub % 32768
  let e : Int := if s < 16384 then (s : Int) else (s : Int) - 32768
  let m1 := m.put PPS_STAT.TOD_ERR (unsign 16 e)
  let m2 := if e = 0 then m1 else m1.updRoot (fun r => { r with todDue := some (e < 0) })
  if 32 < e.natAbs then m2.ledger 0x12 0 (unsign 16 e) else m2

/-- An accepted edge (R173, R174). VALID is the activity of source 8. -/
def Mach.ppsAccept (m : Mach) : Mach :=
  let run := if m.root.anchor.isSome then Nat.min 2 (m.root.run + 1) else 0
  let m1 := m.updRoot (fun r => { r with anchor := some m.root.phs, run := run })
  let sets := run = 2 && !m.fb PPS_STAT.VALID
  let m2 := if sets then (m1.put PPS_STAT.VALID 1).refActivity 8 else m1
  if m2.fb PPS_CFG.TOD_EN && m2.fb PPS_STAT.VALID then m2.todAlign else m2

/-- ROOT cycles without an accepted edge after which the anchor is dropped: MISS + 1 s + TOL × 10 ppm (R173). -/
def Mach.ppsLimit (m : Mach) : Nat := (Nat.max 1 (m.f PPS_CFG.MISS) + 1) * 2400000000 + m.ppsTol

/-- PPS_MISS (R173, R174): time moves on to the end of the interval in which an edge was due; the anchor is dropped. -/
def Mach.ppsMiss (s : Mach) : Mach :=
  match s.root.anchor with
  | none => s
  | some a =>
    let m := s.advPhs (a + s.ppsLimit / 2)
    let m1 := m.updRoot (fun r => { r with anchor := none, run := 0 })
    if !s.measuring then s
    else if !m.fb PPS_STAT.VALID then m1
    else
      let m2 := m1.put PPS_STAT.VALID 0
      (m2.raise fPpsLost 8 (m2.reg 0x010404)).refLos 8

/-- An edge of PPS_IN `interval` ROOT cycles after the anchor: accepted where its levels and its interval are (R173). -/
def Mach.ppsJudge (levels : Bool) (interval : Nat) (m : Mach) : Mach :=
  if levels && (m.root.anchor.isNone || (interval ≤ 2400000000 + m.ppsTol && 2400000000 ≤ interval + m.ppsTol)) then m.ppsAccept
  else m.put PPS_STAT.REJ (satInc 255 (m.f PPS_STAT.REJ))

/-- PPS_EDGE (R173): `interval` is in ROOT cycles from the anchor, to which time moves on; one beyond the limit finds no anchor left. -/
def Mach.ppsEdge (levels : Bool) (interval : Nat) (m : Mach) : Mach :=
  if !m.measuring then m
  else match m.root.anchor with
  | none => m.ppsJudge levels interval
  | some a => ((if m.ppsLimit < interval then m.ppsMiss else m).advPhs (a + interval / 2)).ppsJudge levels interval

/-! ## The APLL as the root sees it (R165, R171, R174) -/

/-- The APLL enters LOCKED; in the Lock step the DPLL starts in FREERUN at TUNE_INIT (R165). -/
def Mach.rootLocked (lockStep : Bool) (m : Mach) : Mach :=
  let m1 := m.put ROOT_STAT.APLL 2
  if lockStep then
    ((((m1.noPend.put ROOT_STAT.DPLL 0).put ROOT_STAT.WEAK 0).put ROOT_STAT.PSLEWING 0).showSrc 15).setTune m.tuneInit
      |>.updRoot (fun r => { r with target := m.tuneInit, good := 0, far := 0 })
  else if m1.f ROOT_STAT.DPLL = 3 then m1.tuneTo m1.root.target
  else if m1.f ROOT_STAT.DPLL = 0 then m1.tuneTo m1.tuneInit else m1

/-- Measurement runs again, or for the first time (R157): the frozen qualification times go on, a fresh gate begins for each enabled source,
and sources 8 and 9 fail where the condition that is their activity does not hold (R156); the selector evaluates. -/
def Mach.measureStart (live : Nat → Bool) (m : Mach) : Mach :=
  let d := m.root.frozen.elim 0 (fun t => m.now - t)
  let m1 := m.updRoot (fun r => { r with
    frozen := none
    qualAt := (List.range 10).foldl (fun q i => cset (fun _ => 0) q i (cget (fun _ => 0) r.qualAt i + d)) r.qualAt })
  let m2 := forN 10 (fun i t => if t.f (REF_STAT.STATE i) = 0 then t else t.gateStart i) m1
  (forN 2 (fun i t => if live (8 + i) then t else t.refLos (8 + i)) m2).selEval

/-- The APLL is no longer LOCKED (R165, R171, R174): ROOT_TUNE is frozen, the DPLL holds, PPS starts afresh. -/
def Mach.rootDrop (m : Mach) : Mach :=
  let y := m.tune
  let m2 := ((((m.put ROOT_STAT.APLL 1).put PPS_STAT.VALID 0).refLos 8).put SEL_STAT.SWITCHING 0).updRoot (fun r => { r with
    anchor := none, run := 0, again := false, frozen := some (r.frozen.getD m.now) })
  let m3 := if m2.f ROOT_STAT.DPLL = 0 || m2.f ROOT_STAT.DPLL = 3 then m2 else m2.holdover
  (m3.setTune y).put ROOT_STAT.FSLEWING 0

/-- The APLL leaves LOCKED, with its event and fault (R171). -/
def Mach.rootLost (m : Mach) : Mach :=
  let m1 := (m.put ROOT_STAT.APLL 1).put ROOT_EVT.LOL 1
  (m1.raise fRootLol 0 m1.rootStat).rootDrop

/-! ## Wide transfers (R44, R45) -/

/-- The transfers under way. -/
def Mach.wide (m : Mach) (i : Nat) : Wide := cget (fun _ => {}) m.wides i

/-- Replace a transfer. -/
def Mach.setWide (i : Nat) (v : Wide) (m : Mach) : Mach := { m with wides := cset (fun _ => {}) m.wides i v }

/-- The place of a write transfer of instance i whose mailbox a partition reset has cleared (R55). -/
def wideLeft : Nat := 32

/-- A write transfer that outlived its mailbox meets its condition and takes effect, and is shown nowhere (R45, R55, R175). -/
def Mach.wideLate (i : Nat) (m : Mach) : Mach :=
  let x := m.wide (wideLeft + i)
  let m1 := m.setWide (wideLeft + i) {}
  if !x.busy then m else if m.fb PPS_CFG.TOD_EN then m1 else m1.todWrite x.who x.lo.toNat (getF x.hi 0 15)

/-- A partition reset clears the mailbox of p: a snapshot under way is lost, a write that was committed stands (R55) and completes
later, after one that an earlier reset left. -/
def Mach.wideCut (p : Nat) (m : Mach) : Mach :=
  let x := m.wide p
  let m1 := m.setWide p {}
  if x.busy && x.wr then (m1.wideLate p).setWide (wideLeft + p) x else m1

end Sys2Proof.Machine
end

