-- ==== Sys2Proof/Machine/LinkBase.lean ====
section
/-! DEFINITION. Byra-Link's sending side (R404 to R410): frames, the window of each port, routes over an intact or broken ring,
broadcasts, and the start and end of transactions. -/
namespace Sys2Proof.Machine

/-! Transaction types (R408). -/
def ttRREQ : Nat := 1
def ttRRSP : Nat := 2
def ttCMD : Nat := 3
def ttCPL : Nat := 4
def ttEVT : Nat := 5
def ttLDG : Nat := 6
def ttAGACK : Nat := 7
def ttENUM : Nat := 8
def ttENUM_DONE : Nat := 9
def ttBUDGET : Nat := 10
def ttNOTICE : Nat := 11
def ttCAL : Nat := 12

/-- The index of a port: 0 UP, 1 DOWN. -/
def portIdx : LPort → Nat
  | .up => 0
  | .down => 1

/-- The other port. -/
def otherPort : LPort → LPort
  | .up => .down
  | .down => .up

/-- The hidden part of a port. -/
def Mach.lp (m : Mach) : LPort → LinkPort
  | .up => m.link.up
  | .down => m.link.down

/-- Change the hidden part of Byra-Link. -/
def Mach.updLink (f : Link → Link) (m : Mach) : Mach := { m with link := f m.link }

/-- Replace the hidden part of a port. -/
def Mach.setLp (p : LPort) (v : LinkPort) (m : Mach) : Mach :=
  match p with
  | .up => m.updLink (fun l => { l with up := v })
  | .down => m.updLink (fun l => { l with down := v })

/-- PSTAT.STATE of a port: 0 IDLE, 1 DETECT, 2 ALIGN, 3 TRAIN, 4 UP (R400). -/
def Mach.lstate (m : Mach) (p : LPort) : Nat := m.f (LNK_PSTAT.STATE (portIdx p))

/-- The port is UP. -/
def Mach.isUp (m : Mach) (p : LPort) : Bool := m.lstate p == 4

/-- Set PSTAT.STATE. -/
def Mach.setLstate (p : LPort) (s : Nat) (m : Mach) : Mach := m.put (LNK_PSTAT.STATE (portIdx p)) s

/-- This node's address. -/
def Mach.node (m : Mach) : Nat := m.f LNK_ID.NODE

/-- This node is enumerated. -/
def Mach.enumd (m : Mach) : Bool := m.fb LNK_ID.ENUM

/-- The ring's node count. -/
def Mach.nodes (m : Mach) : Nat := m.f LNK_ID.COUNT

/-- This node is N0: STRAP_ANCHOR (R72). -/
def Mach.isN0 (m : Mach) : Bool := m.boot.straps.getLsbD 2

/-! ## What a lane carries (R398 to R401, R404) -/

/-- The ordered sets of a lane (R398): the sender places EPOCH, GRID, ACK, NAK, BUSY, DQ and DR anywhere, also inside a frame (R399). -/
inductive LaneSet where
  | idle
  | ts (second : Bool) (flags node nexp : Nat)
  | epoch (ecnt : Nat)
  | grid (flags g : Nat)
  | skp
  | dq (id : Nat)
  | dr (id turn : Nat)
  | ack (seq : Nat)
  | nak (seq : Nat)
  | busy (seq : Nat)
  | sof
  | eof
  deriving DecidableEq, Repr

/-- The control character K x.y, as (true, its byte). -/
def kChar (x y : Nat) : Bool × Byte := (true, BitVec.ofNat 8 (32 * y + x))

/-- The data characters of bytes. -/
def dChars (b : List Byte) : List (Bool × Byte) := b.map (fun x => (false, x))

/-- The characters of an ordered set (R398, R401). -/
def LaneSet.chars : LaneSet → List (Bool × Byte)
  | .idle => kChar 28 5 :: dChars [0x50]
  | .ts second flags node nexp => kChar 28 5 :: dChars ([if second then 0x45 else 0x4A] ++ toLE 1 flags ++ toLE 1 node ++ toLE 1 nexp ++ [0])
  | .epoch ecnt => kChar 28 1 :: dChars (toLE 1 ecnt)
  | .grid flags g => kChar 28 2 :: dChars (toLE 1 flags ++ toLE 8 g)
  | .skp => [kChar 28 0]
  | .dq id => kChar 28 3 :: dChars (toLE 1 id)
  | .dr id turn => kChar 28 4 :: dChars (toLE 1 id ++ toLE 3 turn)
  | .ack seq => kChar 23 7 :: dChars (toLE 1 seq)
  | .nak seq => kChar 30 7 :: dChars (toLE 1 seq)
  | .busy seq => kChar 28 6 :: dChars (toLE 1 seq)
  | .sof => [kChar 27 7]
  | .eof => [kChar 29 7]

/-- The training set that a port sends (R400, R401); an unenumerated node has no address. -/
def Mach.trainSent (p : LPort) (m : Mach) : LaneSet :=
  let v := m.lp p
  .ts v.ts2 (portIdx p + 2 * b2n m.isN0 + 4 * b2n m.enumd + 8 * b2n v.fresh) (if m.enumd then m.node else 0x7F) v.nexp

/-- The EPOCH of a grid count, sent on every port in UP at each multiple of 1,200 PHS cycles (R398, R399). -/
def epochOf (grid : Nat) : LaneSet := .epoch (grid / 1200 % 256)

/-- The GRID set that follows the latest EPOCH with ECNT 0 (R398, R399). -/
def Mach.gridSent (m : Mach) : LaneSet :=
  .grid (m.f LNK_CSTAT.GL + 2 * m.f LNK_CSTAT.CALDONE) (m.grid - m.grid % 307200)

/-- The set with which a port answered last (R406). -/
def LinkPort.answered (v : LinkPort) : Option LaneSet :=
  v.ack.map (fun a => match a.1 with | 1 => .ack a.2 | 2 => .nak a.2 | _ => .busy a.2)

/-- A frame between SOF and EOF (R404): the header with its reserved bits 0, the payload, and the CRC-32C over both, little-endian. -/
def frameBytes (seq : Nat) (f : Frame) : List Byte :=
  let b := toLE 1 (f.payload.length / 4) ++ toLE 1 f.tid ++ toLE 1 seq ++ toLE 1 (f.dst % 64 + 64 * b2n f.bcast) ++ toLE 1 f.typ
    ++ toLE 1 f.hops ++ toLE 1 (f.src % 64) ++ [0] ++ f.payload
  b ++ toLE 4 (crc32c b)

/-- The characters of a frame as it leaves, the sets that stand between two of them apart (R399, R404). -/
def frameChars (b : List Byte) : List (Bool × Byte) := LaneSet.sof.chars ++ dChars b ++ LaneSet.eof.chars

/-! ## The window (R406) -/

/-- The frames of a window as they are laid out on the line. -/
def laidOut (w : List WinFrame) : List (List Byte) := w.map (fun e => frameBytes e.seq e.frame)

/-- Move waiting frames into the window of 8 while the port is UP, at a real time: each takes the next hop sequence number. -/
def LinkPort.fill (now : Nat) (v : LinkPort) : LinkPort :=
  let k := 8 - v.unack.length
  let take := v.q.take k
  let new : List WinFrame := take.zipIdx.map (fun e => ⟨(v.nextSeq + e.2) % 256, e.1, now⟩)
  { v with unack := v.unack ++ new, q := v.q.drop k, nextSeq := (v.nextSeq + take.length) % 256,
           sent := if take.isEmpty then v.sent else laidOut new }

/-- The window sent again from its oldest frame, with what it admits beside (R406, R407). -/
def LinkPort.again (now : Nat) (v : LinkPort) : LinkPort :=
  let x := ({ v with unack := v.unack.map (fun (e : WinFrame) => { e with at' := now }) } : LinkPort).fill now
  { x with sent := laidOut x.unack }

/-- Send what the window admits. -/
def Mach.pump (p : LPort) (m : Mach) : Mach := if m.isUp p then m.setLp p ((m.lp p).fill m.now) else m

/-- Queue a frame at a port. -/
def Mach.sendOn (p : LPort) (f : Frame) (m : Mach) : Mach := (m.setLp p { m.lp p with q := (m.lp p).q ++ [f] }).pump p

/-! ## Routes (R409, R427) -/

/-- Hop k, from node k to its downstream neighbour, is down as far as this node knows. -/
def Mach.hopDown (m : Mach) (k : Nat) : Bool :=
  m.link.breaks.contains k || (m.link.open' && k + 1 = m.nodes) || (k = m.node && !m.isUp .down)
    || ((k + 1) % Nat.max 1 m.nodes = m.node && !m.isUp .up)

/-- The hops of a path of `len` hops downstream from node a are up. -/
def Mach.pathUp (m : Mach) (a len : Nat) : Bool := (List.range len).all (fun i => !m.hopDown ((a + i) % Nat.max 1 m.nodes))

/-- The port by which a unicast frame leaves for node b: the way with fewer hops, ties downstream; on a broken ring the way that
crosses no hop that is down. -/
def Mach.routeTo (m : Mach) (b : Nat) : Option LPort :=
  let c := m.nodes
  if !m.enumd || c ≤ b || b = m.node then none
  else
    let d := (b + c - m.node) % c
    let down := m.pathUp m.node d
    let up := m.pathUp b (c - d)
    if down && (d ≤ c - d || !up) then some .down else if up then some .up else none

/-- Send a unicast frame; without a route it is lost (R409). -/
def Mach.sendTo (dst typ tid : Nat) (payload : List Byte) (m : Mach) : Mach :=
  match m.routeTo dst with
  | none => m
  | some p => m.sendOn p { typ := typ, tid := tid, dst := dst, bcast := false, src := m.node, hops := 1, payload := payload }

/-- Originate a broadcast: N0 downstream, and on a broken ring also upstream; any other node on each port that is UP (R409). -/
def Mach.broadcast (typ : Nat) (payload : List Byte) (m : Mach) : Mach :=
  let f : Frame := { typ := typ, tid := 0, dst := 0, bcast := true, src := m.node, hops := 1, payload := payload }
  let m1 := if m.isUp .down then m.sendOn .down f else m
  if m.isUp .up && (m.node ≠ 0 || !m.link.breaks.isEmpty) then m1.sendOn .up f else m1

/-! ## Transactions (R414 to R416) -/

/-- The next transaction identifier. -/
def Mach.nextTid (m : Mach) : Nat × Mach := (m.link.tid, m.updLink (fun l => { l with tid := (l.tid + 1) % 256 }))

/-- What a new transaction aimed at node b meets: DOMAIN_DOWN where the node has announced a restart, or this node's port toward it has
left UP, and it has not been enumerated since (R331); NO_NODE where no path reaches it (R409, R414). -/
def Mach.denied (m : Mach) (b : Nat) : Nat :=
  if m.link.gone.contains b then rDOMAIN_DOWN else if (m.routeTo b).isNone then rNO_NODE else rOK

/-- A partition's LRA request ends with a result (R414). -/
def Mach.lraEnd (inst res flags nc : Nat) (m : Mach) : Mach :=
  ((((m.put (LRA_STAT.BUSY.inst inst) 0).put (LRA_STAT.DONE.inst inst) 1).put (LRA_STAT.RES.inst inst) res).put
    (LRA_STAT.FLAGS.inst inst) flags).put (LRA_STAT.NC.inst inst) nc

/-- The payload of a CPL frame: the record as the target would post it, and OPART (R410). -/
def cplPayload (x : Rec) (opart : Nat) : List Byte :=
  wordBytes x.w0 ++ wordBytes x.w1 ++ wordBytes x.w2 ++ wordBytes x.w3 ++ toLE 4 opart

/-- TTO as it acts, in steps (R415). -/
def Mach.tto (m : Mach) : Nat := Nat.max 1 (m.f LNK_CFG.TTO) * msec

/-- Send a forwarded record to N0 (R417), if it still waits. -/
def Mach.sendForward (q fseq : Nat) (m : Mach) : Mach :=
  match (if q = 3 then m.link.lds else m.link.evs).find? (fun e => e.1 == fseq) with
  | none => m
  | some e =>
    let (t, m1) := m.nextTid
    let m2 := if (m1.since (.forward (q - 2))).isNone then m1.startTimer (.forward (q - 2)) else m1
    m2.sendTo 0 (if q = 3 then ttLDG else ttEVT) t (cplPayload e.2 0 |>.take 16 |> (· ++ toLE 4 fseq))

end Sys2Proof.Machine
end

