-- ==== Sys2Proof/Machine/Commands.lean ====
section
/-! DEFINITION. Command descriptors (R372 to R377): their layout, the checks of a push, the command table, and completion. -/
namespace Sys2Proof.Machine

/-! ## The descriptor (R374) -/

/-- Fields of a descriptor. -/
def Desc.op (d : Desc) : Nat := byteAt d.bytes 0
def Desc.auth (d : Desc) : Bool := byteAt d.bytes 1 % 2 == 1
def Desc.nocpl (d : Desc) : Bool := byteAt d.bytes 1 / 2 % 2 == 1
def Desc.key (d : Desc) : Nat := byteAt d.bytes 2
def Desc.remote (d : Desc) : Bool := 128 ≤ byteAt d.bytes 3
def Desc.dest (d : Desc) : Nat := byteAt d.bytes 3 % 64
def Desc.tagid (d : Desc) : Nat := fieldAt d.bytes 4 2
def Desc.ctr (d : Desc) : Nat := fieldAt d.bytes 44 4
/-- An argument of `len` bytes at a descriptor offset. -/
def Desc.arg (d : Desc) (off len : Nat) : Nat := fieldAt d.bytes off len

/-- A row of the command table (R377): steps, urgent-eligible, for P0 only, key set (bit k is Kk), and whether it executes in
ARMING and in TEASEL, in RUN and OCHRE or in RUN only. -/
structure CmdRow where
  steps : Nat
  urgent : Bool
  p0 : Bool
  keys : Nat
  arming : Bool
  ochre : Bool
  teasel : Bool
  used : List (Nat × Nat)
  deriving DecidableEq, Repr

/-- The command table (R377 to R379). `used` are the argument bytes as ranges from, to. -/
def cmdRow : Nat → Option CmdRow
  | 0x01 => some ⟨1, true, false, 0, true, true, true, []⟩
  | 0x10 => some ⟨4, false, false, 0, false, false, true, [(8, 40)]⟩
  | 0x11 => some ⟨1, true, false, 0, true, true, true, [(8, 40)]⟩
  | 0x12 => some ⟨1, true, false, 0, false, false, true, [(8, 40)]⟩
  | 0x13 => some ⟨1, true, false, 0, false, false, true, [(8, 40)]⟩
  | 0x30 => some ⟨1, true, true, 0, true, true, true, [(8, 10)]⟩
  | 0x50 => some ⟨2, false, true, 6, false, true, false, []⟩
  | 0x51 => some ⟨2, false, true, 2, false, true, false, [(8, 11)]⟩
  | 0x60 => some ⟨4, false, false, 8, false, true, false, [(8, 16)]⟩
  | 0x61 => some ⟨4, false, false, 8, false, true, false, [(8, 12)]⟩
  | 0x62 => some ⟨16, false, false, 0, false, true, false, [(8, 13), (16, 20)]⟩
  | 0x63 => some ⟨16, false, false, 0, false, true, false, [(8, 13), (14, 17)]⟩
  | 0x70 => some ⟨2, false, true, 2, false, true, false, [(8, 9)]⟩
  | _ => none

/-- The command executes in a device state. -/
def CmdRow.runsIn (r : CmdRow) (d : Dev) : Bool :=
  match d with
  | .run => true
  | .arming => r.arming
  | .ochre => r.ochre
  | .teasel => r.teasel
  | _ => false

/-- Argument bytes that the command does not use are 0; RETIRE_CLEAR's CH and SPMASK are 0 where its SCOPE does not use them. -/
def Desc.argsOk (d : Desc) (r : CmdRow) : Bool :=
  (List.range 36).all (fun i => r.used.any (fun u => u.1 ≤ 8 + i && 8 + i < u.2) || byteAt d.bytes (8 + i) = 0)
  && (d.op ≠ 0x51 || ((d.arg 8 1 = 0 || d.arg 9 1 = 0) && (d.arg 8 1 = 2 || d.arg 10 1 = 0)))

/-- The descriptor meets R374 to R376. -/
def Desc.wellFormed (d : Desc) (r : CmdRow) : Bool :=
  byteAt d.bytes 1 < 4 && byteAt d.bytes 3 / 64 % 2 = 0 && (d.remote || d.dest = 0) && fieldAt d.bytes 6 2 = 0
  && d.auth == (r.keys != 0)
  && (if d.auth then 1 ≤ d.key && d.key ≤ 5 else d.key = 0 && fieldAt d.bytes 44 20 = 0)
  && d.argsOk r

/-! ## Heads (R344, R382) -/

/-- A queue's head has been dispatched: it is in service here, or sent to another node (R382, R416). -/
def Mach.headTaken (m : Mach) (q : Nat) : Bool :=
  (m.cq q).out.isSome || m.normal.any (fun s => 4 * s.part == q) || m.urgent.any (fun s => 4 * s.part + 1 == q)

/-- A queue's command that waits for dispatch: its head, unless that has been dispatched. -/
def Mach.headWaits (m : Mach) (q : Nat) : Option Desc := if m.headTaken q then none else (m.cq q).cmds.head?

/-- An urgent head of an ACTIVE partition that waits without a token raises URG_LIMIT, once per wait (R344). -/
def Mach.urgWait (q : Nat) (m : Mach) : Mach :=
  if q % 4 = 1 && m.pstate (q / 4) = 1 && (m.headWaits q).isSome && m.f (PART_STAT.TOKENS (q / 4)) = 0 && !(m.cq q).waitRaised then
    (m.setCq q { m.cq q with waitRaised := true }).raise fUrgLimit q 0
  else m

/-! ## A push (R373) -/

/-- The checks of a push in their order; rOK where it passes. `linkSec` marks a link-secure master. -/
def Mach.pushVerdict (m : Mach) (p : Nat) (urg linkSec : Bool) (d : Desc) : Nat :=
  if m.pstate p ≠ 1 || m.boot.stop then rDOMAIN_DOWN
  else match cmdRow d.op with
  | none => rBAD_OP
  | some r =>
    if !d.wellFormed r then rBAD_DESC
    else if urg && !r.urgent then rNOT_URGENT
    else if (r.p0 && p ≠ 0) || (d.auth && !r.keys.testBit d.key) || (linkSec && d.remote) then rNOT_PRIV
    else if (m.cq (4 * p + b2n urg)).cmds.length ≥ qCap (4 * p + b2n urg) then rQUEUE_FULL
    else if d.remote && m.link.gone.contains d.dest then rDOMAIN_DOWN
    else rOK

/-- Push a descriptor: it is enqueued, or refused with the faults of R394. -/
def Mach.enqueue (p : Nat) (urg linkSec : Bool) (d : Desc) (m : Mach) : Mach × Nat :=
  let q := 4 * p + b2n urg
  let v := m.pushVerdict p urg linkSec d
  if v = rOK then
    let c := m.cq q
    ((m.setCq q { c with cmds := c.cmds ++ [d], hiwat := Nat.max c.hiwat (c.cmds.length + 1) }).urgWait q, v)
  else if v = rQUEUE_FULL then ((m.put (Q_STAT.REFUSED q) 1).raise fQOvf q (word (qCap q)), v)
  else if v = rDOMAIN_DOWN then (m, v)
  else (m.raise fDescBad q (word (d.op + 256 * v)), v)

/-- The effect of a write of CMD_PUSH with GO = 1 (R372): the staged words of the same instance are pushed. -/
def Mach.cmdPushHook (w : Who) (port : Port) (d : Word) (m : Mach) : Mach :=
  let i := 1200 + 17 * portNum port + w.inst
  match w.rights with
  | none => m
  | some p =>
    if !bitAt d 0 then m
    else
      let bytes := (List.range 16).flatMap (fun k => wordBytes (m.reg (0x090400 + 4 * k + i * instSpan)))
      let r := m.enqueue p (m.fb (CMD_PUSH.URG.inst i)) (w == .sec) { bytes := bytes }
      let m1 := r.1.put (CMD_PUSH_STAT.RES.inst i) r.2
      if r.2 = rOK then m1.put (CMD_PUSH_STAT.ACC.inst i) (m1.f (CMD_PUSH_STAT.ACC.inst i) + 1)
      else m1.put (CMD_PUSH_STAT.REF.inst i) (satInc 255 (m1.f (CMD_PUSH_STAT.REF.inst i)))

/-! ## Completion (R382, R389, R416) -/

/-- Bytes 8 to 11 of a completion record. -/
def cplWord (d : Desc) (res : Nat) : Word := word (d.op + 256 * res + 65536 * d.tagid)

/-- A command of partition p ends with a result: its record is posted, or returned to the node it came from. -/
def Mach.complete (p : Nat) (d : Desc) (res detail : Nat) (m : Mach) : Mach :=
  match d.origin with
  | some o => m.sendTo o.node ttCPL o.tid (cplPayload ⟨recHead 1 0 0 0, m.ts32, cplWord d res, word detail⟩ o.opart)
  | none => if d.nocpl && res = rOK then m else m.post (4 * p + 2) 1 0 0 m.ts32 (cplWord d res) (word detail)

/-- Commands that wait in a queue complete with DOMAIN_DOWN (R329); a head already dispatched runs to its end. -/
def Mach.downQueue (p q : Nat) (m : Mach) : Mach :=
  let c := m.cq q
  let k := b2n (m.headTaken q)
  let keep := c.cmds.take k
  let gone := c.cmds.drop k
  gone.foldl (fun t d => t.complete p d rDOMAIN_DOWN 0) (m.setCq q { c with cmds := keep, waitRaised := false })

/-- Both command queues of a partition. -/
def Mach.downQueues (p : Nat) (m : Mach) : Mach := (m.downQueue p (4 * p)).downQueue p (4 * p + 1)

/-- A normal queue that is empty sets its partition's deficit to 0, and the visit is over (R383 step 3). -/
def Mach.emptied (q : Nat) (m : Mach) : Mach :=
  if q % 4 = 0 && (m.cq q).cmds.isEmpty then
    { m.put (Q_DEF.DEF (q / 4)) 0 with visiting := m.visiting && m.lastNormal != q / 4 }
  else m

end Sys2Proof.Machine
end

