-- ==== Sys2Proof/Machine/Image.lean ====
section
/-! DEFINITION. The configuration image (chapter 06): header and section table, the shape of records, the words that a record
writes with the rights of its section, roll-back, and the service path. -/
namespace Sys2Proof.Machine

/-! ## Header, table and sections (R128 to R135) -/

/-- The first header field in error, by its offset (R128, R129, R135). -/
def headerError (h : List Byte) : Option Nat :=
  if fieldAt h 0 4 ≠ 0x4B545856 then some 0
  else if fieldAt h 4 2 ≠ 1 then some 4
  else if fieldAt h 6 2 ≠ 0x20 then some 6
  else if fieldAt h 8 4 % 4 ≠ 0 || fieldAt h 8 4 < 60 || 131072 < fieldAt h 8 4 then some 8
  else if fieldAt h 12 2 = 0 || 64 < fieldAt h 12 2 then some 12
  else if fieldAt h 14 2 ≠ 0 then some 14
  else if fieldAt h 16 4 ≠ 0x2564 then some 16
  else if fieldAt h 28 4 ≠ 0 then some 28 else none

/-- A section whose records are applied. -/
def Section.applied (s : Section) : Bool := 1 ≤ s.typ && s.typ ≤ 3

/-- The first error of one table entry, as the offset within it, given the entries before it (R129 to R132): a breach of order is one of
TYPE, and among PARTITION sections one of SUB. -/
def entryError (before : List Section) (e : List Byte) : Option Nat :=
  let t := byteAt e 0
  let u := byteAt e 1
  if !(t = 1 || t = 2 || t = 3 || t = 0x10) && byteAt e 2 % 2 = 0 then some 0
  else if before.isEmpty != (t == 1) then some 0
  else if t = 2 && before.any (fun s => s.typ == 2 || s.typ == 3) then some 0
  else if u ≠ 0 && (t ≠ 3 || 15 < u) then some 1
  else if t = 3 && before.any (fun s => s.typ == 3 && u ≤ s.sub) then some 1
  else if 2 ≤ byteAt e 2 then some 2
  else if byteAt e 3 ≠ 0 then some 3
  else if fieldAt e 4 4 % 4 ≠ 0 || 65532 < fieldAt e 4 4 then some 4 else none

/-- Read `k` table entries: the sections with the offsets of their payloads, or the offset of the first field in error. `at'` is
the image offset of the next entry and `pos` that of its payload. -/
def readTable : Nat → Nat → Nat → List Section → List Byte → Nat ⊕ List Section
  | 0, _, _, acc, _ => .inr acc
  | k + 1, at', pos, acc, bs =>
    match entryError acc (bs.take 8) with
    | some o => .inl (at' + o)
    | none =>
      readTable k (at' + 8) (pos + fieldAt bs 4 4 + 4)
        (acc ++ [{ typ := byteAt bs 0, sub := byteAt bs 1, opt := byteAt bs 2 % 2 == 1, off := pos, len := fieldAt bs 4 4 }]) (bs.drop 8)

/-- The sections of an image whose header has passed, or the offset of the first field in error; a length sum that differs is
an error of IMG_LEN (R129). -/
def tableOf (img : List Byte) : Nat ⊕ List Section :=
  let c := fieldAt img 12 2
  match readTable c 32 (32 + 8 * c) [] (img.drop 32) with
  | .inl o => .inl o
  | .inr ss => if (ss.map (fun s => s.len + 4)).sum + 32 + 8 * c + 16 = fieldAt img 8 4 then .inr ss else .inl 8

/-- The payload of a section. -/
def Section.payload (s : Section) (img : List Byte) : List Byte := (img.drop s.off).take s.len

/-- The CRC of a section stands (R133). -/
def Section.crcOk (s : Section) (img : List Byte) : Bool := crc32c (s.payload img) == fieldAt img (s.off + s.len) 4

/-- The index of the first section whose CRC fails. -/
def firstBadCrc (ss : List Section) (img : List Byte) : Option Nat :=
  ((ss.zipIdx).find? (fun e => !e.1.crcOk img)).map Prod.snd

/-! ## Records (R137, R138, R143) -/

/-- What a record is, where its header stands at the start of the bytes left in its section: its operation, N and ADDR; none
where its shape alone refuses it (the part of R142 that needs no register state). -/
def recordShape (typ : Nat) (seen : Bool) (bs : List Byte) : Option (Nat × Nat × Nat) :=
  let op := byteAt bs 0
  let n := byteAt bs 1
  let a := fieldAt bs 4 4
  if bs.length < 8 || bs.length < 8 + 4 * n then none
  else if 0x80 ≤ op then some (op, n, a)
  else if fieldAt bs 2 2 ≠ 0 || 0x1000000 ≤ a || n = 0 || a % 4 ≠ 0 then none
  else match op with
  | 1 => if a < 0x0F0000 then some (op, n, a) else none
  | 2 => if typ ≠ 2 && a + 4 * (n - 1) ≤ 0x41FC then some (op, n, a) else none
  | 3 => if typ ≠ 2 && n ≤ 32 && a + 4 * (n - 1) ≤ 0xFFFC then some (op, n, a) else none
  | 4 => if typ = 3 && n = 8 && a = 0 && !seen then some (op, n, a) else none
  | _ => none

/-- The data words of a record. -/
def recordWords (n : Nat) (bs : List Byte) : List Word := (List.range n).map (fun i => word (fieldAt bs (8 + 4 * i) 4))

/-- Walk the records of a section (R151): the offset in it of the first record that its shape refuses. -/
def walkRecords (typ : Nat) : Nat → Bool → Nat → List Byte → Option Nat
  | 0, _, _, _ => none
  | k + 1, seen, pos, bs =>
    if bs.isEmpty then none
    else match recordShape typ seen bs with
    | none => some pos
    | some (op, n, _) => walkRecords typ k (seen || op == 4) (pos + 8 + 4 * n) (bs.drop (8 + 4 * n))

/-! ## Words of a record (R139 to R142) -/

/-- The registers that only the OWNERSHIP section may write. -/
def ownershipReg (addr : Nat) : Bool :=
  (0x080000 ≤ addr && addr < 0x0800A8) || addr == 0x0800B0 || (0x080400 ≤ addr && addr < 0x080600 && addr % 0x20 == 0)

/-- A register serves a resource that a partition can own: what a PARTITION section may reach. -/
def Row.ownable (r : Row) : Bool :=
  match r.writer with
  | .none | .p0 | .p0key | .holder => false
  | _ => true

/-- The access as which a section's words act; its port is of no account. -/
def imgAcc : Acc := ⟨.spi, false, 0, 0, 0, false⟩

/-- For whom a section's words act (R139). -/
def Section.who (s : Section) : Who := .part (if s.typ = 3 then s.sub else 0) 1

/-- Whether a word sets a trigger field of a register marked T (R491). -/
def Row.trigSet (r : Row) (d : Word) : Bool := d &&& word r.trg != 0

/-- PART_MASK_p, which only p's PARTITION section may write (R346). -/
def partMaskReg (addr : Nat) : Bool := 0x080400 ≤ addr && addr < 0x080600 && addr % 0x20 == 0x18

/-- The section may write a register (R139, R140, R346). -/
def Mach.imgReach (m : Mach) (s : Section) (r : Row) (addr : Nat) : Bool :=
  r.img != .n &&
  (match s.typ with
   | 1 => !ownershipReg addr && !partMaskReg addr
   | 2 => ownershipReg addr
   | _ => r.ownable && m.mayWrite r s.who addr)

/-- One word of a WRITE record: none where it is refused (R139 to R142). A word of an always-on register is held (R141). -/
def Mach.imgWrite (s : Section) (addr : Nat) (d : Word) (m : Mach) : Option Mach :=
  match rowOf addr with
  | none => none
  | some r =>
    let w := s.who
    let isP0 := w.isP0
    if !m.imgReach s r addr || r.trigSet d || (!isP0 && d &&& word r.own != 0) then none
    else match aonAlias addr with
    | some off =>
      if m.img.heldAon.length < 32 then
        some { m with img := { m.img with heldAon := m.img.heldAon ++ [(off, blend (m.aw off) d (word (aonMask off)))] } }
      else none
    | none =>
      let key := instKey r w imgAcc addr
      let m1 := m.unmarked.fieldUpdate w imgAcc r key addr d isP0 true
      if m1.accFlag || m1.ignFlag then none
      else some { m1 with img := { m1.img with wrote := key :: m1.img.wrote } }

/-- One word of a CHWRITE record. -/
def Mach.imgChWrite (s : Section) (off : Nat) (d : Word) (m : Mach) : Option Mach :=
  let e := off / 64
  let wd := off % 64 / 4
  if e ≥ 256 || s.who.rights != some (m.ownCh e) || (tblRow wd).img == .n || (tblRow wd).trigSet d then none
  else
    let m1 := m.unmarked.tblWrite s.who .spi off e wd d
    if m1.accFlag || m1.ignFlag then none
    else some { m1 with img := { m1.img with wroteTbl := off :: m1.img.wroteTbl } }

/-- One word of an AONWRITE record: the writable always-on words are device-wide, so only DEVICE reaches them (R139, R512). -/
def Mach.imgAonWrite (s : Section) (off : Nat) (d : Word) (m : Mach) : Option Mach :=
  if s.typ = 1 && aonRw off && m.img.heldAon.length < 32 then
    some { m with img := { m.img with heldAon := m.img.heldAon ++ [(off, blend (m.aw off) d (word (aonMask off)))] } }
  else none

/-- Mark the channels of a BOOTSTART list, all of the section's partition. -/
def Mach.imgBootStart (s : Section) (ws : List Word) (m : Mach) : Option Mach :=
  let marked := (List.range 256).filter (fun n => (ws.getD (n / 32) 0).getLsbD (n % 32))
  if marked.all (fun n => m.ownCh n = s.sub) then
    some (marked.foldl (fun t n => { t.tput n CH_CTL.BOOT_START 1 with img := { t.img with wroteTbl := 64 * n :: t.img.wroteTbl } })
      { m with img := { m.img with bootSeen := true } })
  else none

/-- The words of a record in order, each with its effects before the next (R144): `run` works off the effects of a word. -/
def Mach.imgWords (run : Mach → Mach) (f : Nat → Word → Mach → Option Mach) (a : Nat) (ws : List Word) (m : Mach) : Option Mach :=
  (ws.zipIdx).foldl (fun t e => t.bind (fun u => (f (a + 4 * e.2) e.1 u).map run)) (some m)

/-- Apply the record at the present place of a section: none where it is refused (R142). -/
def Mach.imgRecord (run : Mach → Mach) (s : Section) (boot : Bool) (m : Mach) : Option Mach :=
  let bs := (s.payload m.img.staged).drop m.img.pos
  match recordShape s.typ m.img.bootSeen bs with
  | none => none
  | some (op, n, a) =>
    let ws := recordWords n bs
    let r := match op with
      | 1 => m.imgWords run (Mach.imgWrite s) a ws
      | 2 => m.imgWords run (Mach.imgChWrite s) a ws
      | 3 => m.imgWords run (Mach.imgAonWrite s) a ws
      | 4 => m.imgBootStart s ws
      | _ => some (if boot then m.put IMG_STAT.SKIPREC (satInc 65535 (m.f IMG_STAT.SKIPREC)) else m)
    r.map (fun t => { t with img := { t.img with pos := t.img.pos + 8 + 4 * n } })

/-- Move on to the next record of the image: past ended sections, and past those that are skipped, which count in SKIPSEC but
for NOTE sections (R131). -/
def Mach.imgSeek : Nat → Mach → Mach
  | 0, m => m
  | k + 1, m =>
    match m.img.secs[m.img.sec]? with
    | none => m
    | some s =>
      if s.applied && m.img.pos < s.len then m
      else
        let m1 := if s.applied || s.typ = 0x10 then m else m.put IMG_STAT.SKIPSEC (m.f IMG_STAT.SKIPSEC + 1)
        { m1 with img := { m1.img with sec := m1.img.sec + 1, pos := 0, bootSeen := false } }.imgSeek k

/-- A word that waits for a group's epoch is dropped (R145, R221). -/
def Mach.grpUnqueue (addr : Nat) (m : Mach) : Mach :=
  if addr / 0x10000 ≠ 3 || (0x030400 ≤ addr && addr < 0x031000) then m
  else
    let q := m.grp (grpOf addr)
    let ws := q.commit.filter (fun e => e.1 ≠ addr)
    m.setGrp (grpOf addr) { q with commit := ws, committed := q.committed && !(ws.isEmpty && q.lockWords.isEmpty) }

/-- A register word that the image wrote returns to its reset value, with the effects of the change. A group's EN returns to 0 whatever
its members do: no pattern is in force any longer. -/
def Mach.wordBack (k : Nat) (m : Mach) : Mach :=
  let t := (m.grpUnqueue (k % instSpan)).setReg k (regReset k)
  if k / 0x10000 = 3 && k < 0x030400 && k % 0x20 = 0 then applyIf (bitAt (m.reg k) 0) (Mach.grpDisable (grpOf k)) t
  else t.push (.hook (.part 0 1) imgAcc (k % instSpan) (regReset k) (m.reg k) (regReset k))

/-- Every word that the Apply step or a restart wrote returns to its reset value, the held words are discarded (R116, R141,
R145). The effects of the change follow as those of a write. -/
def Mach.rollBack (m : Mach) : Mach :=
  let m1 := m.img.wrote.eraseDups.foldl (fun t k => t.wordBack k) m.cfgChanged
  let m2 := m.img.wroteTbl.eraseDups.foldl (fun t o =>
    (t.setTw (o / 64) (o % 64 / 4) (tblReset o)).push (.tblHook (o / 64) (o % 64 / 4) (tblReset o &&& ~~~ (word (tblRow (o % 64 / 4)).trg))
      (t.tw (o / 64) (o % 64 / 4)) (tblReset o))) m1
  { m2 with img := { m2.img with wrote := [], wroteTbl := [], heldAon := [] } }

/-- The held always-on words are posted in image order (R141). -/
def Mach.postHeld (m : Mach) : Mach :=
  { m.img.heldAon.foldl (fun t e => t.postAon e.1 e.2) m with img := { m.img with heldAon := [], wrote := [], wroteTbl := [] } }

/-! ## Verification of a whole image (R151) -/

/-- Offset and section of the first record whose shape is refused. -/
def walkImage (ss : List Section) (img : List Byte) : Option (Nat × Nat) :=
  (ss.zipIdx).findSome? (fun e =>
    if e.1.applied then (walkRecords e.1.typ (e.1.len / 8 + 1) false 0 (e.1.payload img)).map (fun o => (e.1.off + o, e.2)) else none)

/-- The code, offset and index with which a VERIFY of these flash bytes ends. -/
def Mach.verifyImage (m : Mach) (bs : List Byte) : Nat × Nat × Nat :=
  if !m.keyValid 0 then (6, 0, 0)
  else match headerError (bs.take 32) with
  | some o => (3, o, 0)
  | none =>
    let img := bs.take (fieldAt bs 8 4)
    match tableOf img with
    | .inl o => (3, o, 0)
    | .inr ss =>
      match firstBadCrc ss img with
      | some i => (4, (ss.getD i ⟨0, 0, false, 0, 0⟩).off + (ss.getD i ⟨0, 0, false, 0, 0⟩).len, i)
      | none =>
        let l := fieldAt bs 8 4 - 16
        if cmac (m.slot 0).key (img.take l) ≠ img.drop l then (5, l, 0)
        else match walkImage ss img with
        | some (o, i) => (7, o, i)
        | none => (0, 0, 0)

/-- What a Discover step finds (R114): the failure code 1 or 2, or none. -/
def sfdpCode (t : Sfdp) : Option Nat :=
  if t.sig ≠ [0x53, 0x46, 0x44, 0x50] then some 1 else if t.major ≠ 1 || !t.addr3 then some 2 else none

/-- The read mode that a basic table allows: 1-1-4 (R114 step 3). -/
def sfdpQuad (t : Sfdp) : Bool :=
  t.fast114 &&
  match t.qer.toNat with
  | 0 => true
  | 2 => t.status.getLsbD 6
  | 3 => t.status.getLsbD 7
  | 4 | 5 | 6 => t.status.getLsbD 1
  | _ => false

/-! ## The service path (R146 to R151) -/

/-- The device sends commands on the flash pins: what it sent before is past (R114, R147). -/
def Mach.flashSend (cmds : List (List Byte)) (m : Mach) : Mach := { m with flash := cmds }

/-- A flash command with a 3-byte address. -/
def flashCmd (op : Byte) (addr : Nat) : List Byte :=
  [op, BitVec.ofNat 8 (addr / 65536), BitVec.ofNat 8 (addr / 256), BitVec.ofNat 8 addr]

/-- The read command of a mode: 0x6B in 1-1-4, 0x0B in single mode (R114). -/
def readCmd (quad : Bool) : List Byte := flashCmd (if quad then 0x6B else 0x0B) 0

/-- What a Discover step sends (R114): the SFDP read, and the read of the status register that the quad-enable requirement names where
the table advertises 1-1-4. -/
def discoverCmds (t : Sfdp) : List (List Byte) :=
  flashCmd 0x5A 0 ::
  (if (sfdpCode t).isSome || !t.fast114 then []
   else match t.qer.toNat with
   | 2 => [[0x05]]
   | 3 => [[0x3F]]
   | 4 | 5 | 6 => [[0x35]]
   | _ => [])

/-- The service session closes, with one IMG_WRITE entry if an ERASE or PROGRAM ran in it (R148). -/
def Mach.svcClose (m : Mach) : Mach :=
  if !m.fb SVC_STAT.OPEN then m
  else
    let m1 := if m.fb SVC_STAT.WROTE then
        m.ledger 0x0A (m.f SVC_STAT.ERASED) (if m.fb SVC_VRES.VALID then m.f SVC_VRES.CODE else 0xFF)
      else m
    ((m1.put SVC_STAT.OPEN 0).put SVC_STAT.WROTE 0).put SVC_STAT.ERASED 0

/-- SVC_OPEN opens a session (R148). Its 60 s run from the completion of the last operation; the opening counts as one where none has
completed in it yet (DESIGN CHOICE, log entry 89). -/
def Mach.svcOpenSession (m : Mach) : Mach := (m.put SVC_STAT.OPEN 1).startTimer .svcSession

/-- An operation completes with a result. -/
def Mach.svcEnd (err : Nat) (m : Mach) : Mach :=
  (((m.put SVC_STAT.BUSY 0).put SVC_STAT.DONE 1).put SVC_STAT.ERR err).startTimer .svcSession

/-- The operation lies within its limits (R147). -/
def svcInLimits (op addr len : Nat) : Bool :=
  let lenOk := 4 ≤ len && len ≤ 256 && len % 4 == 0
  match op with
  | 1 => lenOk && addr + len ≤ 0x1000000
  | 2 => addr % 4096 == 0 && addr < 0x20000
  | 3 => lenOk && addr % 4 == 0 && addr % 256 + len ≤ 256 && addr < 0x20000
  | 4 | 15 => true
  | _ => false

/-- The first SVC_LEN bytes of the service buffer. -/
def Mach.svcBytes (m : Mach) (len : Nat) : List Byte :=
  ((List.range 64).flatMap (fun i => wordBytes (m.reg (0x000500 + 4 * i)))).take len

/-- The flash commands of an operation that starts (R147, R151): the reads, or write enable and the operation's own command, whose
progress 0x05 then polls. A VERIFY with no Discover step behind it begins with Wake. -/
def Mach.svcCmds (m : Mach) (op addr len : Nat) : List (List Byte) :=
  match op with
  | 1 => [flashCmd 0x0B addr]
  | 2 => [[0x06], flashCmd (m.boot.erase4k.getD 0) addr, [0x05]]
  | 3 => [[0x06], flashCmd 0x02 addr ++ m.svcBytes len, [0x05]]
  | _ => if m.boot.discovered then [readCmd m.boot.quad] else [[0xAB]]

/-- The time limit of an operation in steps of 5 ns (R147); `img` is the IMG_LEN that a VERIFY reads. A VERIFY that runs Wake and
Discover first has their times besides (R119). -/
def Mach.svcLimit (m : Mach) (img : Nat) : Nat :=
  match m.svc.op with
  | 1 => 640 + 128 * m.svc.len
  | 2 => 400 * msec
  | 3 => 5 * msec
  | _ => 640 + (if m.boot.quad then 32 else 128) * img + (if m.boot.discovered then 0 else 250 * usec)

/-- The effect of an accepted write of SVC_CTL (R146, R147). -/
def Mach.svcHook (d : Word) (m : Mach) : Mach :=
  let op := getF d 0 4
  let a := m.f SVC_ADDR.ADDR
  let l := m.f SVC_LEN.LEN
  if m.dev != .run && m.dev != .ochre then m.svcEnd 5
  else if !svcInLimits op a l then m.svcEnd 1
  else if (op = 2 || op = 3) && !m.fb SVC_STAT.OPEN then m.svcEnd 2
  else if op = 2 && m.boot.erase4k.isNone then m.svcEnd 4
  else if op = 15 then m.svcClose.svcEnd 0
  else
    let m1 := (if op = 2 || op = 3 then m.put SVC_STAT.WROTE 1 else m).put SVC_STAT.BUSY 1
    ({ m1 with svc := { op := op, addr := a, len := l } }.flashSend (m.svcCmds op a l)).startTimer .svcOp

/-- Record a VERIFY. -/
def Mach.svcVerdict (r : Nat × Nat × Nat) (same : Bool) (m : Mach) : Mach :=
  ((((m.put SVC_VRES.CODE r.1).put SVC_VRES.INDEX r.2.2).put SVC_VRES.SAME (b2n same)).put SVC_VRES.VALID 1).put SVC_VOFF.OFFSET r.2.1

/-- The tag of the image that booted, as BOOT_TAG holds it. -/
def Mach.bootTag (m : Mach) : List Byte := (List.range 4).flatMap (fun i => wordBytes (m.reg (0x000320 + 4 * i)))

/-- The verdict on an image whose read mode is known: SAME stands only where the tag was verified (R151). -/
def Mach.svcCheck (bytes : List Byte) (m : Mach) : Mach :=
  let len := fieldAt bytes 8 4
  let v := m.verifyImage bytes
  m.svcVerdict v ((v.1 == 0 || v.1 == 7) && m.bootTag == (bytes.take len).drop (len - 16))

/-- A VERIFY completes over the flash bytes; where no Discover step had completed it has run one (R151). -/
def Mach.svcVerified (bytes : List Byte) (sfdp : Option Sfdp) (m : Mach) : Mach :=
  if m.boot.discovered then m.svcCheck bytes
  else match sfdp with
  | none => m.svcVerdict (1, 0, 0) false
  | some t =>
    match sfdpCode t with
    | some c => (m.flashSend ([0xAB] :: discoverCmds t)).svcVerdict (c, 0, 0) false
    | none => ({ m with boot := { m.boot with discovered := true, erase4k := t.erase4k, quad := sfdpQuad t } }.flashSend
        ([0xAB] :: discoverCmds t ++ [readCmd (sfdpQuad t)])).svcCheck bytes

/-- SVC_OP_DONE (R147): the running operation completes, or passes its time limit. -/
def Mach.svcDone (timeout : Bool) (bytes : List Byte) (sfdp : Option Sfdp) (m : Mach) : Mach :=
  if !m.fb SVC_STAT.BUSY then m
  else if timeout then (m.reach .svcOp (m.svcLimit (Nat.min 131072 (fieldAt bytes 8 4)))).svcEnd 3
  else match m.svc.op with
  | 1 => (m.setBytes 0x000500 (padTo m.svc.len bytes)).svcEnd 0
  | 2 => (if m.fb SVC_STAT.OPEN then m.put SVC_STAT.ERASED (satInc 255 (m.f SVC_STAT.ERASED)) else m).svcEnd 0
  | 4 => (m.svcVerified bytes sfdp).svcEnd 0
  | _ => m.svcEnd 0

/-- SVC_SESSION_TIMEOUT (R148): 60 s with no operation started. -/
def Mach.svcTimeout (m : Mach) : Mach :=
  if m.fb SVC_STAT.BUSY || !m.fb SVC_STAT.OPEN then m else (m.reach .svcSession (60 * second)).svcClose

end Sys2Proof.Machine
end

