-- ==== Sys2Proof/Machine/Partition.lean ====
section
/-! DEFINITION. Partitions (chapter 14): instantiation and reset, ownership, ATTACH and bindings, interrupt sources, and the
urgent token bucket. -/
namespace Sys2Proof.Machine

/-- Reset causes (R345). -/
def prSELF : Nat := 1
def prOWNER : Nat := 2
def prRESTART : Nat := 3
def prDISABLE : Nat := 4

/-! ## Instantiation and the cut (R325, R327) -/

/-- A register word is one of partition p's banked ones, which a partition reset returns to reset (R55, R489). -/
def bankedOf (p key : Nat) : Bool :=
  match rowOf (key % instSpan) with
  | some r => r.kept == .part &&
    (match r.inst with
     | .bank => key / instSpan == p
     | .portPart => [1200 + p, 1217 + p, 1234 + p].contains (key / instSpan)
     | _ => false)
  | none => false

/-- Partition p's banked registers return to their reset values, its KEY arms among them. -/
def Mach.bankClear (p : Nat) (m : Mach) : Mach := { m with regs := cdrop (bankedOf p) m.regs }

/-- The depth of the urgent bucket as it acts (R344). -/
def Mach.depth (m : Mach) (p : Nat) : Nat := Nat.max 1 (m.f (PART_SVC.BDEPTH p))

/-- What instantiation and the cut share: banked registers, fault lines, a full bucket and no deficit (R325, R327, R344, R383). -/
def Mach.freshen (p : Nat) (m : Mach) : Mach :=
  let m1 := (m.bankClear p).clearLines p
  ((m1.put (PART_STAT.TOKENS p) (m1.depth p)).stopTimer (.token p)).put (Q_DEF.DEF p) 0

/-- Instantiation of partition p (R325). -/
def Mach.instantiate (p : Nat) (m : Mach) : Mach :=
  let m1 := (m.freshen p).put (PART_STAT.STATE p) 1
  { m1 with recqs := cdrop (fun q => q / 4 == p) m1.recqs, cmdqs := cdrop (fun q => q / 4 == p) m1.cmdqs }

/-- The enabled partitions that are not yet instantiated are instantiated (R117, R324). -/
def Mach.instantiateAll (m : Mach) : Mach :=
  forN 16 (fun p t => applyIf (!t.instd p && (p == 0 || (t.reg 0x0800B0).getLsbD p)) (Mach.instantiate p) t) m

/-- The diagnostic P0 of R120, which a boot failure leaves: instantiated alone, if P0 does not exist. -/
def Mach.diagnostic (m : Mach) : Mach := applyIf (!m.instd 0) (Mach.instantiate 0) m

/-- The channels of p that are not STOPPED. -/
def Mach.chLeft (m : Mach) (p : Nat) : Nat := countIf (fun n => m.ownCh n = p && m.chst n ≠ 0) (List.range 256)

/-- Entry to CLEARING (R327). The answer of a remote access in flight has no mailbox any more. -/
def Mach.cut (p : Nat) (m : Mach) : Mach :=
  let m1 := (m.freshen p).put (PART_STAT.STATE p) 3
  let m2 := forN 256 (fun n t => applyIf (t.ownCh n = p && t.tb n CH_GOV.SHEDPEND) (Mach.tput n CH_GOV.SHEDPEND 0) t) m1
  let m3 := { m2.wideCut p with
                      link := { m2.link with txns := m2.link.txns.map (fun x => if x.lra = some p then { x with lra := none } else x) } }
  if p = 0 then forN 4 (fun i t => t.setReg (0x0B0100 + 4 * i) 0) m3 else m3

/-- STOPPING ends when no channel of p is left (R324). -/
def Mach.partCheck (p : Nat) (m : Mach) : Mach :=
  if m.pstate p = 2 && (List.range 256).all (fun n => m.ownCh n != p || m.chst n == 0) then m.cut p else m

/-! ## Reset (R324, R326, R329) -/

/-- The pins of p that R239 parks at once: LEVEL and PGPO. -/
def Mach.parkPins (p : Nat) (m : Mach) : Mach :=
  forN 256 (fun n t =>
    applyIf (t.ownCh n = p && (t.t n CH_PIN.FUNC = 1 || t.t n CH_PIN.FUNC = 3)) (Mach.updCh n (fun c => { c with resetPark := true })) t) m

/-- Clean stops of p's channels, and its waiting start requests withdrawn. -/
def Mach.stopAll (p cause : Nat) (m : Mach) : Mach :=
  forN 256 (fun n t => applyIf (t.ownCh n = p) (fun u => if u.chst n = 0 then u.withdraw n else u.stop n cause false) t) m

/-- A reset request of partition p: its entry to STOPPING (R324, R326). The first cause stays; the diagnostic P0 of R120 stays ACTIVE. -/
def Mach.partReset (p cause : Nat) (m : Mach) : Mach :=
  if m.pstate p ≠ 1 || (p = 0 && m.boot.precfg) then m
  else
    let m1 := (((m.put (PART_STAT.STATE p) 2).put (PART_STAT.CAUSE p) cause).put (PART_STAT.EN_HELD p) 0).raise fPartReset p (word cause)
    let m2 := (m1.downQueues p).freeLocks p 1
    let m3 := forN 14 (fun b t => t.put ((UNLOCK.ARMED (0x10000 * b)).inst p) 0) m2
    let m4 := (m3.stopAll p csPART_RESET).parkPins p
    (if p = 0 then m4.svcClose else m4).push (.partCheck p)

/-- The ATT_BIND keys of the port instances that hold anything. -/
def Mach.bindKeys (m : Mach) : List Nat := (m.regs.map Prod.fst).filter (fun k => k % instSpan == 0x080328)

/-- The bindings to partition p end (R324, R338). -/
def Mach.dropBindings (p : Nat) (m : Mach) : Mach :=
  m.bindKeys.foldl (fun t k =>
    let i := k / instSpan
    (t.put ((ATT_KEY.KEY p).inst i) 0).setReg k (setF (t.reg k) p 1 0)) m

/-- PART_CLEAR_DONE (R324): ACTIVE again, with RSTDONE and a PART_READY record, or DISABLED. -/
def Mach.clearDone (p : Nat) (m : Mach) : Mach :=
  if m.pstate p ≠ 3 then m
  else if p = 0 || (m.reg 0x0800B0).getLsbD p then
    ((m.put (PART_STAT.STATE p) 1).put (PART_EVT.RSTDONE p) 1).event p 6 0 (word (p + 256 * m.f (PART_STAT.CAUSE p))) 0
  else (m.put (PART_STAT.STATE p) 0).dropBindings p

/-- A write of 1 bits to PART_ORST (R324). -/
def Mach.orstHook (d : Word) (m : Mach) : Mach := forN 16 (fun p t => applyIf (d.getLsbD p) (Mach.push (.partReset p prOWNER)) t) m

/-- A partition that is enabled late is instantiated at once: in ARMING after Prepare, RUN, OCHRE or TEASEL (R324). -/
def Mach.lateEnable (m : Mach) : Bool := m.running || m.dev == .ochre || (m.dev == .arming && m.boot.step == 9)

/-- The effect of a write of PART_EN (R324). -/
def Mach.partEnHook (old new : Word) (m : Mach) : Mach :=
  forN 16 (fun p t =>
    if old.getLsbD p = new.getLsbD p || p = 0 then t
    else if new.getLsbD p then
      (if t.pstate p = 0 then applyIf t.lateEnable (Mach.instantiate p) t
       else if t.resetting p then t.put (PART_STAT.EN_HELD p) 1 else t)
    else t.push (.partReset p prDISABLE)) m

/-- K4 and K5 stand in the AUTH set of one partition at most (R440): a bit that another partition has keeps its value. -/
def Mach.partCfgHook (p : Nat) (old new : Word) (m : Mach) : Mach :=
  [4, 5].foldl (fun t k =>
    if new.getLsbD k && !old.getLsbD k && (List.range 16).any (fun q => q != p && (t.reg (0x080400 + 0x20 * q)).getLsbD k) then
      (t.setReg (0x080400 + 0x20 * p) (setF (t.reg (0x080400 + 0x20 * p)) k 1 0)).put PART_GSTAT.OWNREJ 1
    else t) m

/-- The refill interval of a bucket that is not full runs; a full one has none (R344). It is counted from the instant at which the bucket
ceased to be full (DESIGN CHOICE, log entry 98). -/
def Mach.bucketClock (p : Nat) (m : Mach) : Mach :=
  if m.depth p ≤ m.f (PART_STAT.TOKENS p) then m.stopTimer (.token p)
  else if (m.since (.token p)).isNone then m.startTimer (.token p) else m

/-- A bucket depth below the level takes the level down at once (R347). -/
def Mach.partSvcHook (p : Nat) (m : Mach) : Mach :=
  (if m.depth p < m.f (PART_STAT.TOKENS p) then m.put (PART_STAT.TOKENS p) (m.depth p) else m).bucketClock p

/-- TOKEN_REFILL (R344): one token every BRATE µs, 0 acting as 1. -/
def Mach.tokenRefill (p : Nat) (m : Mach) : Mach :=
  if m.instd p && m.f (PART_STAT.TOKENS p) < m.depth p then
    let m1 := m.reach (.token p) (Nat.max 1 (m.f (PART_SVC.BRATE p)) * usec)
    ((m1.stopTimer (.token p)).put (PART_STAT.TOKENS p) (m.f (PART_STAT.TOKENS p) + 1)).bucketClock p
  else m

/-- An urgent command takes a token (R344). -/
def Mach.takeToken (p : Nat) (m : Mach) : Mach := (m.put (PART_STAT.TOKENS p) (m.f (PART_STAT.TOKENS p) - 1)).bucketClock p

/-! ## Ownership (R333, R334) -/

/-- A channel has a new owner: its group consent and its events were the old owner's (R334). -/
def Mach.newOwner (n : Nat) (m : Mach) : Mach :=
  let old := m.tw n 15
  let m1 := (m.setTw n 9 0).tput n CH_GRP.ACCEPT 0
  m1.chGrpHook n old (m1.tw n 15)

/-- The effect of a write of an ownership register of channels. -/
def Mach.ownHook (addr : Nat) (old new : Word) (m : Mach) : Mach :=
  if 0x080080 ≤ addr then m
  else forN 8 (fun j t => applyIf (getF old (4 * j) 4 ≠ getF new (4 * j) 4) (Mach.newOwner (2 * (addr - 0x080000) + j)) t) m

/-! ## ATTACH (R335 to R338) -/

/-- The originating node of a link port instance; 0 for the other ports. -/
def instNode (i : Nat) : Nat := if i < 64 then 0 else (i - 64) / 16

/-- The result of an ATTACH message, with the machine after its checks (R337). `i` is the port's instance. -/
def Mach.attachCheck (port : Port) (i : Nat) (m : Mach) : Mach × Nat :=
  let msg := (List.range 8).flatMap (fun k => wordBytes (m.f ((ATT_DATA.DATA k).inst i)))
  let p := byteAt msg 1 % 16
  let k := byteAt msg 3
  let fail := fun (t : Mach) (r : Nat) => (t.raise fAttachFail p (word (portNum port)), r)
  if byteAt msg 0 ≠ 0xA7 || 16 ≤ byteAt msg 1 || byteAt msg 2 ≠ portNum port || byteAt msg 8 ≠ instNode i || fieldAt msg 9 7 ≠ 0 then (m, 1)
  else if !m.instd p then (m, 2)
  else if k = 0 || 5 < k || !(m.reg (0x080400 + 0x20 * p)).getLsbD k then fail m 3
  else
    let r := m.authCheck k (fieldAt msg 4 4) (msg.take 16) (msg.drop 16) (0xA7 + 256 * p)
    match r.2 with
    | 0 => ((r.1.setReg (0x080328 + i * instSpan) (setF (r.1.reg (0x080328 + i * instSpan)) p 1 1)).put ((ATT_KEY.KEY p).inst i) k, 0)
    | 1 => fail r.1 4
    | 2 => fail r.1 5
    | _ => fail r.1 6

/-- A write of 1 to ATT_CTL.GO. -/
def Mach.attach (port : Port) (i : Nat) (m : Mach) : Mach :=
  let r := m.attachCheck port i
  ((r.1.put (ATT_STAT.DONE.inst i) 1).put (ATT_STAT.RES.inst i) r.2).put (ATT_STAT.PART.inst i) (getF (m.reg (0x080300 + i * instSpan)) 8 4)

/-- Unbinding: the recorded key of an ended binding reads 0 (R338). -/
def Mach.unbindHook (i : Nat) (d : Word) (m : Mach) : Mach :=
  forN 16 (fun p t => applyIf (d.getLsbD p) (Mach.put ((ATT_KEY.KEY p).inst i) 0) t) m

/-! ## Interrupts (R339, R340) -/

/-- A channel owned by p has an unmasked CH_EVT bit. -/
def Mach.chEvtSrc (m : Mach) (p : Nat) : Bool :=
  (List.range 256).any (fun n => m.ownCh n = p && m.tw n 9 &&& word (m.f (PART_MASK.CH p)) ≠ 0)

/-- A group owned by p has an unmasked GRP_EVT bit. -/
def Mach.grpEvtSrc (m : Mach) (p : Nat) : Bool :=
  (List.range 32).any (fun g => m.ownGrp g = p && m.reg (0x03001C + 0x20 * g) &&& word (m.f (PART_MASK.GRP p)) ≠ 0)

/-- A record queue stands at or above its watermark; a watermark of 0 acts as 1 (R396). -/
def Mach.atMark (m : Mach) (q : Nat) : Bool := Nat.max 1 (m.f (Q_CFG.WM q)) ≤ (m.rq q).level

/-- PART_ISTAT_p (R339). -/
def Mach.istat (m : Mach) (p : Nat) : Nat :=
  b2n (m.fltSum p != 0) + 2 * b2n (m.atMark (4 * p + 2)) + 4 * b2n (m.atMark (4 * p + 3)) + 8 * b2n (m.chEvtSrc p)
    + 16 * b2n (m.grpEvtSrc p) + 32 * m.f (PART_EVT.RSTDONE p) + 64 * b2n (m.fb HALT_STAT.EVT_ASSERT || m.fb HALT_STAT.EVT_RELEASE)

/-- The level of pin IRQj (R340). The pins are mapped from ARMING on (R66). -/
def Mach.irqPin (m : Mach) (j : Nat) : Bool :=
  let p := getF (m.reg (0x0800A0 + 4 * (j / 8))) (4 * (j % 8)) 4
  m.hostUp && m.dev != .config && m.instd p && m.fb (IRQ_CFG.EN j) && m.istat p &&& m.f (IRQ_CFG.SRC j) ≠ 0

end Sys2Proof.Machine
end

