-- ==== Sys2Proof/Machine/Link.lean ====
section
/-! DEFINITION. Byra-Link (chapter 17): port training and losses, hop delay, frames with their retry, remote access and forwarded
commands at their origin, event and ledger forwarding, budget words, enumeration, loop calibration, break and heal. -/
namespace Sys2Proof.Machine

/-! ## Ends of transactions (R414 to R416) -/

/-- The head of command queue q, sent to another node as transaction t, ends: its place is free, and so is the one reserved for
its completion (R385, R416). -/
def Mach.endRemote (q t : Nat) (post : Desc → Mach → Mach) (m : Mach) : Mach :=
  let c := m.cq q
  match c.cmds with
  | [] => m
  | d :: rest =>
    if c.out = some t then (post d (((m.setCq q { c with cmds := rest, out := none }).emptied q).release (q / 4))).urgWait q else m

/-- A transaction ends without a response, with DOMAIN_DOWN (R415). -/
def Mach.dropTxn (x : Txn) (m : Mach) : Mach :=
  let m1 := m.updLink (fun l => { l with txns := l.txns.erase x })
  let m2 := match x.lra with
    | some i => m1.lraEnd i rDOMAIN_DOWN 0 0
    | none => m1
  match x.queue with
  | some q => m2.endRemote q x.tid (fun d t => t.complete (q / 4) d rDOMAIN_DOWN 0)
  | none => m2

/-- Every outstanding transaction that a test names ends with DOMAIN_DOWN. -/
def Mach.dropTxns (p : Txn → Bool) (m : Mach) : Mach := (m.link.txns.filter p).foldl (fun t x => t.dropTxn x) m

/-- TRANSACTION_TIMEOUT (R415): time moves on to TTO after the sending. -/
def Mach.txnTimeout (tid : Nat) (m : Mach) : Mach :=
  match m.link.txns.find? (fun x => x.tid == tid) with
  | some x => ((m.advNow (x.at' + m.tto)).dropTxns (fun y => y.tid == tid)).put LNK_EVT.TTO 1
  | none => m

/-! ## Chains and breaks (R427) -/

/-- LNK_CSTAT.CHAIN of an enumerated node: 0 ring, 1 chain A, 2 chain B, 3 between two breaks. -/
def Mach.chainOf (m : Mach) : Nat :=
  let ks := m.link.breaks
  if ks.isEmpty then b2n m.link.open'
  else if ks.all (fun k => m.node ≤ k) then 1
  else if ks.all (fun k => k < m.node) then 2 else 3

/-- Show the chain. -/
def Mach.showChain (m : Mach) : Mach := m.put LNK_CSTAT.CHAIN m.chainOf

/-- A calibration on N0 ends in failure (R424, R425). Reason 4 comes of tracking and leaves CALDONE. -/
def Mach.calFail (reason : Nat) (m : Mach) : Mach :=
  let m1 := (m.put LNK_CSTAT.RUNNING 0).put LNK_CSTAT.REASON reason
  (((if reason = 4 then m1.put LNK_CSTAT.ALIGNED 0 else m1).broadcast ttCAL [3, BitVec.ofNat 8 reason, 0, 0])).raise fLoopCalFail 0 (word reason)

/-- This node learns that hop k is down (R427). -/
def Mach.hopLost (k : Nat) (m : Mach) : Mach :=
  if m.link.breaks.contains k then m
  else
    let m1 := ((m.updLink (fun l => { l with breaks := k :: l.breaks })).put LNK_EVT.BREAK 1).put LNK_CSTAT.ALIGNED 0
    let m2 := m1.showChain
    if !m.isN0 then m2
    else
      let m3 := m2.raise fRingBreak 0 (word k)
      if m3.fb LNK_CSTAT.RUNNING then m3.calFail 3 else m3

/-- This node learns that hop k is up again (R428). -/
def Mach.hopBack (k : Nat) (m : Mach) : Mach :=
  ((m.updLink (fun l => { l with breaks := l.breaks.erase k, healed := some k })).put LNK_EVT.HEAL 1).showChain

/-- The node at the far end of a port. -/
def Mach.neighbour (m : Mach) (p : LPort) : Nat :=
  match p with
  | .up => (m.node + m.nodes - 1) % Nat.max 1 m.nodes
  | .down => (m.node + 1) % Nat.max 1 m.nodes

/-- The hop of a port: hop k runs from node k downstream. -/
def Mach.hopOf (m : Mach) (p : LPort) : Nat :=
  match p with
  | .up => (m.node + m.nodes - 1) % Nat.max 1 m.nodes
  | .down => m.node

/-- A four-byte notice (R410). -/
def noticeBytes (kind subject port : Nat) : List Byte := toLE 4 (kind + 256 * subject + 65536 * port)

/-! ## Ports (R400, R402) -/

/-- Frames of a lost hop go the other way round where a route is left; the rest are lost (R427), and so are those to a node that has
announced its restart (R430). -/
def Mach.reroute (fs : List Frame) (m : Mach) : Mach :=
  fs.foldl (fun t f => if f.bcast || f.typ = ttENUM || m.link.gone.contains f.dst then t
    else (t.routeTo f.dst).elim t (fun p => t.sendOn p f)) m

/-- The condition under which a source's edges reach its checks: source 9 is the link's, and needs its port, its address and its
delay; source 8 is PPS, whose activity is VALID (R156, R422). -/
def Mach.refLive (i : Nat) (m : Mach) : Bool :=
  if i = 9 then m.isUp .up && m.enumd && m.fb LNK_DLY.DVALID
  else if i = 8 then m.fb PPS_STAT.VALID else true

/-- Source 9's activity passes or fails as the epoch received on the UP port becomes valid or ceases to be (R422). -/
def Mach.epochCheck (m : Mach) : Mach := if m.refLive 9 then m.refActivity 9 else m.refLos 9

/-- The window locks that the link-secure masters hold are freed (R54). -/
def Mach.secFree (m : Mach) : Mach :=
  let m1 := if m.chWin.holder == some 16 then m.winFree .chan false else m
  if m1.aonWin.holder == some 16 then m1.winFree .aon false else m1

/-- No link port is in UP any longer: the link-secure locks are freed (R54). -/
def Mach.secCheck (m : Mach) : Mach := if m.isUp .up || m.isUp .down then m else m.secFree

/-- The far end of a port is lost to this node (R331): new transactions aimed at it are refused until it is enumerated again, unless the
other port reaches it still. -/
def Mach.nodeLost (p : LPort) (m : Mach) : Mach :=
  let b := m.neighbour p
  if m.isUp (otherPort p) && m.neighbour (otherPort p) = b then m
  else m.updLink (fun l => { l with gone := if l.gone.contains b then l.gone else b :: l.gone })

/-- A port that was UP leaves it for a cause of R402: its state, counts and fault, and source 9 (R422). The frames of an enumerated
ring's hop leave the port. -/
def Mach.portLost (p : LPort) (cause : Nat) (m : Mach) : Mach :=
  let i := portIdx p
  let v := m.lp p
  let ring := m.enumd
  let m1 := (((m.setLstate p (if cause = 5 || cause = 6 then 0 else 1)).secCheck.put (LNK_PSTAT.RETRAINS i) (satInc 65535 (m.f (LNK_PSTAT.RETRAINS i)))).put
    (LNK_PSTAT.NVALID i) 0).raise fLinkDown i (word (4 + 256 * cause))
  let m2 := m1.setLp p { v with ts2 := false, busyWait := false, retries := 0, broken := v.broken || ring,
                                q := if ring then [] else v.q, unack := if ring then [] else v.unack }
  if p == .up then (((m2.put LNK_DLY.DVALID 0).updLink (fun l => { l with rtts := [], dqs := [] })).stopTimer .dup).epochCheck else m2

/-- What a lost hop means for an enumerated ring (R331, R415, R427): transactions aimed at the node beyond it end, the frames `fs` of the
port are rerouted, and the break is known and announced. -/
def Mach.ringLost (p : LPort) (fs : List Frame) (m : Mach) : Mach :=
  let m1 := (((m.dropTxns (fun x => x.node == m.neighbour p)).reroute fs).nodeLost p)
  (m1.hopLost (m1.hopOf p)).broadcast ttNOTICE (noticeBytes 1 (m1.neighbour p) (portIdx p))

/-- The frames that a port holds, the oldest first. -/
def LinkPort.held (v : LinkPort) : List Frame := v.unack.map WinFrame.frame ++ v.q

/-- A port leaves UP for a cause of R402: its fault, and what follows for the ring, its queued frames and source 9. -/
def Mach.leaveUp (p : LPort) (cause : Nat) (m : Mach) : Mach :=
  if !m.isUp p then m
  else if m.enumd then (m.portLost p cause).ringLost p (m.lp p).held else m.portLost p cause

/-- Both ports go to electrical idle, at one instant (R400). -/
def Mach.portsIdle (cause : Nat) (m : Mach) : Mach :=
  let ups := [LPort.up, LPort.down].filter m.isUp
  let m1 := ups.foldl (fun t p => t.portLost p cause) m
  let m2 := if m.enumd then ups.foldl (fun t p => t.ringLost p (m.lp p).held) m1 else m1
  (m2.setLstate .up 0).setLstate .down 0

/-- A port leaves IDLE: VLINK is above its release threshold and the root is locked (R400). -/
def Mach.portStart (p : LPort) (m : Mach) : Mach :=
  if m.lstate p = 0 && m.pwr.vlinkOk && m.locked then m.setLstate p 1 else m

/-- Both ports start (R118, R172, R533). N0 holds GL whenever it runs (R423). -/
def Mach.portsStart (m : Mach) : Mach :=
  let m1 := (m.portStart .up).portStart .down
  if m1.isN0 then m1.put LNK_CSTAT.GL 1 else m1

/-- LINK_DETECT and LINK_ALIGN: signal, then aligned commas (R400). -/
def Mach.portStep (p : LPort) (s : Nat) (m : Mach) : Mach :=
  if m.lstate p ≠ s then m
  else
    let m1 := (m.setLstate p (s + 1)).setLp p { m.lp p with ts2 := false }
    if s = 1 then m1.startTimer (.train (portIdx p)) else m1

/-- TRAIN_TIMEOUT (R400): time moves on to 2 ms since the entry to ALIGN. -/
def Mach.trainTimeout (p : LPort) (m : Mach) : Mach :=
  if m.lstate p = 2 || m.lstate p = 3 then (m.reach (.train (portIdx p)) (2 * msec)).setLstate p 1 else m

/-! ## Enumeration, first part: N0's token (R419) -/

/-- N0 sends a token with a fresh NONCE (R419). The value of the NONCE is free (DESIGN CHOICE, log entry 4). -/
def Mach.startEnum (m : Mach) : Mach :=
  if !m.isN0 || !m.isUp .down then m
  else
    let r := m.draw
    let nonce := getF r.1 0 24
    let m1 := ((r.2.updLink (fun l => { l with nonce := nonce, token := some nonce, failed := false, heard := 0 })).put LNK_CSTAT.RUNNING 0).startTimer .enumTo
    m1.sendOn .down { typ := ttENUM, tid := 0, dst := 0, bcast := false, src := 0, hops := 1, payload := toLE 4 (1 + 256 * nonce) }

/-- A partner without an address has joined (R421). A node without an address of its own has no subject to name and sends nothing (DEDUCED,
log entry 38). -/
def Mach.joinSeen (p : LPort) (m : Mach) : Mach :=
  if m.enumd then m.broadcast ttNOTICE (noticeBytes 4 m.node (portIdx p)) else m

/-! ## Loop calibration, N0's side (R423, R424) -/

/-- What a START does at a node (R423): GL is cleared, except at N0, and after a heal only downstream of the healed hop (R428). -/
def Mach.calBegin (m : Mach) : Mach :=
  let keep := m.isN0 || m.link.healed.any (fun h => m.node ≤ h)
  let m1 := (m.put LNK_CSTAT.RUNNING 1).put LNK_CSTAT.CALDONE 0
  (if keep then m1 else m1.put LNK_CSTAT.GL 0).updLink (fun l => { l with healed := none, drift := 0 })

/-- N0 starts a calibration (R423). -/
def Mach.calStartAll (m : Mach) : Mach :=
  if !m.isN0 then m
  else ((m.calBegin.put LNK_CSTAT.GL 1).startTimer .cal).broadcast ttCAL [1, 0, 0, 0]

/-- A calibration completes at a node: CALDONE and ALIGNED (R424). -/
def Mach.calOkHere (m : Mach) : Mach :=
  ((((m.put LNK_CSTAT.RUNNING 0).put LNK_CSTAT.CALDONE 1).put LNK_CSTAT.ALIGNED 1).put LNK_EVT.CALDONE 1).push .bootGo

/-- N0 closes a calibration (R424). -/
def Mach.calOk (m : Mach) : Mach := m.calOkHere.broadcast ttCAL [2, 0, 0, 0]

/-- CAL_TIMEOUT (R424): time moves on to CAL_TO after the START. -/
def Mach.calTimeout (m : Mach) : Mach :=
  if m.isN0 && m.fb LNK_CSTAT.RUNNING then (m.reach .cal (Nat.max 1 (m.f LNK_CAL.CAL_TO) * second)).calFail 2 else m

/-! ## Training (R400, R401, R407) -/

/-- The replay rule at the entry to UP (R407): the frames that are kept are sent again, and counted as resent. -/
def Mach.replay (p : LPort) (t : TrainSet) (m : Mach) : Mach :=
  let v := m.lp p
  let fresh := t.flags.getLsbD 3
  let nexp := t.nexp.toNat
  let kept :=
    if fresh then
      ((v.unack.filter (fun e => e.frame.bcast || e.frame.typ == ttENUM || e.frame.dst != t.node.toNat)).zipIdx.map (fun e => { e.1 with seq := e.2 }))
    else if v.unack.any (fun e => e.seq == nexp) then v.unack.dropWhile (fun e => e.seq != nexp) else []
  let x : LinkPort := { v with unack := kept, nextSeq := if fresh || v.fresh then kept.length else if kept.isEmpty then nexp else v.nextSeq,
                               nexp := if fresh || v.fresh then 0 else v.nexp, fresh := false, ts2 := false, retries := 0, busyWait := false }
  (m.setLp p (x.again m.now)).put (LNK_PCNT.RESENT (portIdx p)) (Nat.min 65535 (m.f (LNK_PCNT.RESENT (portIdx p)) + kept.length))

/-- A node other than N0 that no token has reached counts ENUM_TO from the entry of its first port to UP (R420). -/
def Mach.enumWait (p : LPort) (m : Mach) : Mach :=
  if m.isN0 || m.enumd || m.link.token.isSome || m.isUp (otherPort p) then m else m.startTimer .enumTo

/-- A port enters UP (R400), with what a new or returning partner sets off (R419, R421, R428). A partner that returns over a healed hop with its
address is no longer lost (DEDUCED, log entry 39). -/
def Mach.enterUp (p : LPort) (t : TrainSet) (m : Mach) : Mach :=
  let i := portIdx p
  let healing := m.enumd && (m.lp p).broken && t.flags.getLsbD 2
  let m1 := (((m.setLstate p 4).put (LNK_PSTAT.NEIGH i) t.node.toNat).put (LNK_PSTAT.NVALID i) (b2n (t.node != 0x7F))).put LNK_EVT.UP 1
  let m2 := (m1.replay p t).enumWait p
  let m3 := if healing then (m2.setLp p { m2.lp p with broken := false }).updLink (fun l => { l with gone := l.gone.erase t.node.toNat }) else m2
  let m4 := if healing && p == .up then (m3.hopBack (m3.hopOf p)).broadcast ttNOTICE (noticeBytes 2 (m3.neighbour p) 0) else m3
  let m5 := if healing && p == .up && m4.isN0 then m4.calStartAll else m4
  if !t.flags.getLsbD 2 then (if m5.isN0 && p == .down then m5.startEnum else m5.joinSeen p)
  else if m5.isN0 && p == .down && !healing then m5.startEnum else m5

/-- TRAINING_SET_RX (R400): eight identical training sets. In UP a TS1 says that the partner retrains (R402). -/
def Mach.trainSet (p : LPort) (t : TrainSet) (sent16 : Bool) (m : Mach) : Mach :=
  let i := portIdx p
  if m.isUp p then (if t.ts2 then m else m.leaveUp p 4)
  else if m.lstate p ≠ 3 then m
  else if t.flags.getLsbD 0 == (p == .down) then m.put (LNK_PSTAT.MISWIRE i) 1
  else
    let m1 := (m.put (LNK_PSTAT.MISWIRE i) 0).setLp p { m.lp p with ts2 := true }
    if t.ts2 && sent16 then m1.enterUp p t else m1

/-! ## Hop delay (R403, R425) -/

/-- DELAY_QUERY: the UP port sends a DQ. -/
def Mach.delayQuery (m : Mach) : Mach :=
  if m.isUp .up then m.updLink (fun l => { l with dqId := (l.dqId + 1) % 256, dqs := ((l.dqId + 1) % 256) :: l.dqs.take 15 }) else m

/-- DQ_ANSWER: the DOWN port answers with a DR. -/
def Mach.dqAnswer (id turn : Nat) (m : Mach) : Mach := if m.isUp .down then m.updLink (fun l => { l with dr := some (id, turn) }) else m

/-- The inbound delay of 1,024 samples, halves rounded up. -/
def delayOf (sum asym : Int) : Int := (sum - 1024 * asym + 1024) / 2048

/-- DELAY_RESPONSE: a sample is formed; with 1,024 of them d_up is valid. -/
def Mach.delayResponse (id : Nat) (rtt : Int) (turn : Nat) (m : Mach) : Mach :=
  if !m.isUp .up || !m.link.dqs.contains id then m
  else
    let rs := ((rtt - (m.link.up.k.getD (Config.nominalK 0)) - turn) :: m.link.rtts).take 1024
    let m1 := m.updLink (fun l => { l with rtts := rs, dqs := l.dqs.erase id })
    if rs.length < 1024 then m1
    else
      let d := delayOf (rs.foldl (· + ·) 0) (signed 16 (m.f LNK_DLY_CFG.ASYM))
      let m2 := m1.put LNK_DLY.D_UP (unsign 24 d)
      if m.fb LNK_DLY.DVALID then m2
      else (((m2.updLink (fun l => { l with dOff := d })).startTimer .dup).put LNK_DLY.DVALID 1).epochCheck

/-- DUP_TRACK (R425): time moves on to 100 ms after the latest step. -/
def Mach.dupTrack (s : Mach) : Mach :=
  if !s.fb LNK_DLY.DVALID then s
  else
    let m := (s.reach .dup (100 * msec)).startTimer .dup
    let d := signed 24 (m.f LNK_DLY.D_UP)
    m.updLink (fun l => { l with dOff := if l.dOff < d then l.dOff + 1 else if d < l.dOff then l.dOff - 1 else l.dOff })

/-! ## Frames (R404 to R410) -/

/-- A transaction type with a payload of that many words is defined (R408). -/
def lenwOk (typ n : Nat) : Bool :=
  match typ with
  | 1 => 2 ≤ n && n ≤ 18
  | 2 => 1 ≤ n && n ≤ 17
  | 3 => n == 17
  | 4 | 5 | 6 => n == 5
  | 7 | 8 | 9 | 11 | 12 => n == 1
  | 10 => 1 ≤ n && n ≤ 33
  | _ => false

/-- A payload keeps to its layout: reserved bytes are 0 and fields lie in their ranges (R410). -/
def payloadOk (typ : Nat) (b : List Byte) : Bool :=
  match typ with
  | 1 => byteAt b 0 < 4 && byteAt b 1 / 16 % 4 == 0 && byteAt b 2 < 16 && byteAt b 3 < 16 && byteAt b 7 == 0 && b.length == (if byteAt b 0 % 2 = 1 then 8 else 12 + 4 * byteAt b 3)
  | 2 => byteAt b 3 == 0
  | 3 => byteAt b 0 < 16 && fieldAt b 1 3 == 0
  | 4 => byteAt b 16 < 16 && fieldAt b 17 3 == 0
  | 5 | 6 => fieldAt b 18 2 == 0
  | 7 => byteAt b 0 < 2 && byteAt b 1 == 0
  | 8 => byteAt b 0 < 128
  | 9 => 1 ≤ byteAt b 0 && byteAt b 0 ≤ 64
  | 10 => fieldAt b 2 2 == 0 && b.length == 4 + 4 * ((byteAt b 1 + 1) / 2) && (b.drop (4 + 2 * byteAt b 1)).all (fun x => x == 0)
  | 11 => 1 ≤ byteAt b 0 && byteAt b 0 ≤ 4 && byteAt b 1 < 64 && byteAt b 2 < 2 && byteAt b 3 == 0
  | 12 => 1 ≤ byteAt b 0 && byteAt b 0 ≤ 3 && fieldAt b 2 2 == 0
  | _ => false

/-- Answer a frame: 1 ACK, 2 NAK, 3 BUSY, with the last number accepted. -/
def Mach.answer (p : LPort) (kind : Nat) (m : Mach) : Mach :=
  m.setLp p { m.lp p with ack := some (kind, ((m.lp p).nexp + 255) % 256) }

/-- A frame is taken for local processing; one that breaks R410 is discarded. -/
def Mach.takeLocal (p : LPort) (f : Frame) (m : Mach) : Mach :=
  if payloadOk f.typ f.payload then m.updLink (fun l => { l with inbox := l.inbox ++ [(p, f)] }) else m.put LNK_EVT.BADT 1

/-- A frame is passed on by the other port, or where that is down the other way round (R409, R427). -/
def Mach.passOn (p : LPort) (f : Frame) (m : Mach) : Mach :=
  if 64 ≤ f.hops then m
  else
    let f' := { f with hops := f.hops + 1 }
    if m.isUp (otherPort p) then m.sendOn (otherPort p) f'
    else if f.bcast then m else (m.routeTo f.dst).elim m (fun x => m.sendOn x f')

/-- What becomes of an accepted frame (R408, R409, R420): a node without an address takes only enumeration. -/
def Mach.dispose (p : LPort) (f : Frame) (m : Mach) : Mach :=
  let m := if m.isN0 then m.updLink (fun l => { l with heard := Nat.max l.heard f.src }) else m
  if !lenwOk f.typ (f.payload.length / 4) then m.put LNK_EVT.BADT 1
  else if f.typ = ttENUM then m.takeLocal p f
  else if f.bcast then
    (let m1 := if f.src = m.node && m.enumd then m else m.takeLocal p f
     if m.isN0 then m1 else m1.passOn p f)
  else if !m.enumd then m
  else if f.dst = m.node then m.takeLocal p f else m.passOn p f

/-- LINK_FRAME_RX (R405, R406): the bytes between SOF and EOF, whether EOF follows them, and whether there is a buffer. -/
def Mach.frameRx (p : LPort) (bytes : List Byte) (eof room : Bool) (m : Mach) : Mach :=
  let i := portIdx p
  let n := byteAt bytes 0
  let len := 8 + 4 * n
  let v := m.lp p
  if !m.isUp p then m
  else if n > 64 || bytes.length ≠ len + 4 || !eof then m.answer p 2
  else if crc32c (bytes.take len) ≠ fieldAt bytes len 4 then
    (m.put (LNK_PCNT.CRCERR i) (satInc 65535 (m.f (LNK_PCNT.CRCERR i)))).raise fLinkCrc i (word (byteAt bytes 2))
  else if 128 ≤ byteAt bytes 3 || 64 ≤ byteAt bytes 6 || byteAt bytes 7 ≠ 0 || byteAt bytes 2 ≠ v.nexp then m.answer p 2
  else if !room then m.answer p 3
  else
    let f : Frame := { typ := byteAt bytes 4, tid := byteAt bytes 1, dst := byteAt bytes 3 % 64, bcast := 64 ≤ byteAt bytes 3,
                       src := byteAt bytes 6, hops := byteAt bytes 5, payload := (bytes.drop 8).take (4 * n) }
    ((m.setLp p { v with nexp := (v.nexp + 1) % 256 }).answer p 1).dispose p f

/-- The window from the frame after a sequence number on; none where it is not in the window. -/
def LinkPort.after (v : LinkPort) (seq : Nat) : Option (List WinFrame) :=
  if v.unack.any (fun e => e.seq == seq) then some ((v.unack.dropWhile (fun e => e.seq != seq)).drop 1) else none

/-- Frames up to a sequence number are acknowledged. -/
def Mach.ackUpTo (p : LPort) (seq : Nat) (m : Mach) : Mach :=
  match (m.lp p).after seq with
  | some rest => (m.setLp p { m.lp p with unack := rest, retries := 0 }).pump p
  | none => m

/-- The unacknowledged frames are sent again, or the retries are exhausted (R406). -/
def Mach.resend (p : LPort) (m : Mach) : Mach :=
  let v := m.lp p
  let i := portIdx p
  match v.unack with
  | [] => m
  | e :: _ =>
    if v.retries ≥ 4 then (m.raise fRetryExh i (word e.seq)).leaveUp p 3
    else (m.setLp p ({ v with retries := v.retries + 1 }.again m.now)).put (LNK_PCNT.RESENT i) (Nat.min 65535 (m.f (LNK_PCNT.RESENT i) + v.unack.length))

/-- LINK_ACK_RX. -/
def Mach.ackRx (p : LPort) (seq : Nat) (m : Mach) : Mach := if m.isUp p then m.ackUpTo p seq else m

/-- LINK_NAK_RX. -/
def Mach.nakRx (p : LPort) (seq : Nat) (m : Mach) : Mach := if m.isUp p then (m.ackUpTo p seq).resend p else m

/-- LINK_BUSY_RX: a resend 4 µs later; the retry count starts afresh. -/
def Mach.busyRx (p : LPort) (seq : Nat) (m : Mach) : Mach :=
  if m.isUp p then
    let m1 := m.ackUpTo p seq
    (m1.setLp p { m1.lp p with retries := 0, busyWait := true }).startTimer (.busyWait (portIdx p))
  else m

/-- BUSY_WAIT_EXPIRE (R406): time moves on to 4 µs after the BUSY. -/
def Mach.busyExpire (p : LPort) (s : Mach) : Mach :=
  if s.isUp p && (s.lp p).busyWait then
    let m := s.reach (.busyWait (portIdx p)) (4 * usec)
    (m.setLp p { m.lp p with busyWait := false }).resend p
  else s

/-- LINK_RETRY_TIMEOUT (R406): time moves on to 16 µs after the latest sending of the oldest frame of the window. -/
def Mach.retryTimeout (p : LPort) (m : Mach) : Mach :=
  match (if m.isUp p then (m.lp p).unack.head? else none) with
  | some e => (m.advNow (e.at' + 16 * usec)).resend p
  | none => m

/-! ## The inbox -/

/-- The first accepted frame of one of the types, taken from the inbox. -/
def Mach.takeFrame (typs : List Nat) (m : Mach) : Option ((LPort × Frame) × Mach) :=
  (m.link.inbox.find? (fun e => typs.contains e.2.typ)).map (fun e => (e, m.updLink (fun l => { l with inbox := l.inbox.erase e })))

/-- Act on the first accepted frame of a type; without one nothing happens. -/
def Mach.onFrame (typs : List Nat) (f : LPort → Frame → Mach → Mach) (m : Mach) : Mach :=
  match m.takeFrame typs with
  | some (e, t) => f e.1 e.2 t
  | none => m

/-! ## Remote access, origin's side (R414) -/

/-- The effect of a write of LRA_CTL with GO through the instance `i` of partition i. -/
def Mach.lraGo (w : Who) (port : Port) (d : Word) (m : Mach) : Mach :=
  match w with
  | .part i _ =>
    if !bitAt d 0 then m
    else if m.fb (LRA_STAT.BUSY.inst i) then m.accErr w port 0x0A0200 cWINDOW
    else
      let b := m.f (LRA_CTL.NODE.inst i)
      let rd := m.fb (LRA_CTL.RD.inst i)
      let n := m.f (LRA_CTL.LENM1.inst i)
      if m.denied b ≠ rOK then m.lraEnd i (m.denied b) 0 0
      else
        let r := m.nextTid
        let hdr := toLE 1 (b2n rd + 2 * m.f (LRA_CTL.SEC.inst i)) ++ toLE 1 (m.f (LRA_ADDR.TAG.inst i)) ++ toLE 1 i ++ toLE 1 n
          ++ toLE 3 (m.f (LRA_ADDR.ADDR.inst i)) ++ [0]
        let data := if rd then [] else (List.range (n + 1)).flatMap (fun k => wordBytes (m.reg (0x0A0240 + 4 * k + i * instSpan)))
        ((r.2.put (LRA_STAT.BUSY.inst i) 1).updLink (fun l => { l with txns := l.txns ++ [⟨r.1, b, m.now, some i, none⟩] })).sendTo b ttRREQ r.1 (hdr ++ data)
  | .sec => if bitAt d 0 then m.accErr w port 0x0A0200 cOWNER else m
  | .unbound => m

/-- RRSP: the response of a remote access. -/
def Mach.rrsp (f : Frame) (m : Mach) : Mach :=
  match m.link.txns.find? (fun x => x.tid == f.tid && x.node == f.src && x.lra.isSome) with
  | none => m
  | some x =>
    let i := x.lra.getD 0
    let m1 := m.updLink (fun l => { l with txns := l.txns.erase x })
    (m1.setBytes (0x0A0240 + i * instSpan) (f.payload.drop 4)).lraEnd i (byteAt f.payload 0) (byteAt f.payload 1) (byteAt f.payload 2)

/-! ## Forwarded commands (R415, R416) -/

/-- A request of a node has been executed before; else it is remembered among the last 16 (R415). -/
def Mach.dupCheck (f : Frame) (m : Mach) : Bool × Mach :=
  (m.link.dups.contains (f.src, f.tid), m.updLink (fun l => { l with dups := ((f.src, f.tid) :: l.dups).take 16 }))

/-- The link port's binding for a node and partition includes that partition; or the pair is link-secure (R411, R416). -/
def Mach.linkBound (m : Mach) (src p : Nat) : Bool :=
  ((m.reg (0x080328 + (64 + 16 * src + p) * instSpan)).getLsbD p && m.instd p)
    || (p = 0 && (m.reg (0x0A0040 + 4 * (src / 32))).getLsbD (src % 32))

/-- LINK_CMD: a forwarded command is enqueued at its target, or refused with a CPL at once. The frame names no queue, so the
command takes the normal one (DEDUCED, log entry 33). -/
def Mach.linkCmd (f : Frame) (m : Mach) : Mach :=
  let r := m.dupCheck f
  if r.1 then m
  else
    let p := byteAt f.payload 0
    let d : Desc := { bytes := f.payload.drop 4, origin := some { node := f.src, tid := f.tid, opart := p } }
    if r.2.boot.stop then r.2.complete p d rDOMAIN_DOWN 0
    else if !r.2.linkBound f.src p then r.2.complete p d rNOT_PRIV 0
    else
      let e := r.2.enqueue p false false d
      if e.2 = rOK then e.1 else e.1.complete p d e.2 0

/-- LINK_CPL: the completion of a forwarded command is posted at its origin. -/
def Mach.linkCpl (f : Frame) (m : Mach) : Mach :=
  match m.link.txns.find? (fun x => x.tid == f.tid && x.node == f.src && x.queue.isSome) with
  | none => m
  | some x =>
    let q := x.queue.getD 0
    let w2 := word (fieldAt f.payload 8 4)
    (m.updLink (fun l => { l with txns := l.txns.erase x })).endRemote q x.tid (fun d t =>
      if d.nocpl && getF w2 8 8 = rOK then t
      else t.post (4 * (q / 4) + 2) 1 (128 + f.src) 0 t.ts32 w2 (word (fieldAt f.payload 12 4)))

/-! ## Event and ledger forwarding (R417) -/

/-- EVT_FORWARD: N0 posts a forwarded record, with a LOST record for a gap before it, and acknowledges it. -/
def Mach.forwardRx (f : Frame) (m : Mach) : Mach :=
  if !m.isN0 then m
  else
    let ldg := f.typ = ttLDG
    let q := if ldg then 3 else 2
    let s := fieldAt f.payload 16 2
    let k := 64 * b2n ldg + f.src
    let gap := (s + 65536 - cget (fun _ => 0) m.link.got k) % 65536
    let w := fun (i : Nat) => word (fieldAt f.payload (4 * i) 4)
    let ack := fun (t : Mach) => let r := t.nextTid; r.2.sendTo f.src ttAGACK r.1 (toLE 4 (b2n ldg + 65536 * s))
    if 32768 ≤ gap then ack m
    else
      let m1 := m.updLink (fun l => { l with got := cset (fun _ => 0) l.got k ((s + 1) % 65536) })
      let m2 := if gap = 0 || !m1.instd 0 then m1 else m1.post q 7 (128 + f.src) 0 m1.ts32 (word gap) 0
      ack (if m2.instd 0 then m2.post q (getF (w 0) 0 8) (128 + f.src) (getF (w 0) 24 8) m2.ts32 (w 2) (w 3) else m2)

/-- AGACK: forwarded records up to a number are acknowledged. -/
def Mach.agack (f : Frame) (m : Mach) : Mach :=
  let s := fieldAt f.payload 2 2
  let keep := fun (xs : List (Nat × Rec)) => xs.filter (fun e => (e.1 + 65535 - s) % 65536 < 32768)
  let ldg : Bool := byteAt f.payload 0 = 1
  let old := if ldg then m.link.lds else m.link.evs
  let new := keep old
  let m1 := m.updLink (fun l => if ldg then { l with lds := new } else { l with evs := new })
  if new.isEmpty then m1.stopTimer (.forward (b2n ldg))
  else if new.length < old.length then m1.startTimer (.forward (b2n ldg)) else m1

/-- FORWARD_RESEND (R417): time moves on to TTO after the latest sending without progress, and the unacknowledged records of a kind are
sent again. -/
def Mach.forwardResend (ledger : Bool) (s : Mach) : Mach :=
  let rs := if ledger then s.link.lds else s.link.evs
  if rs.isEmpty then s
  else rs.foldl (fun t e => t.sendForward (if ledger then 3 else 2) e.1)
    ((s.reach (.forward (b2n ledger)) s.tto).startTimer (.forward (b2n ledger)))

/-- At its enumeration a node numbers what it still holds from 0 (R417). -/
def Mach.renumber (m : Mach) : Mach :=
  m.updLink (fun l => { l with
    evs := l.evs.zipIdx.map (fun e => (e.2, e.1.2)), evSeq := l.evs.length
    lds := l.lds.zipIdx.map (fun e => (e.2, e.1.2)), ldSeq := l.lds.length })

/-! ## Budget words (R418) -/

/-- This node takes its budget entry. -/
def Mach.takeBudget (b : Nat) (m : Mach) : Mach :=
  Mach.refreshBudget { m with gov := { m.gov with linkB := b } }

/-- N0 broadcasts the budgets of the ring's nodes, and takes its own. -/
def Mach.budgetOut (m : Mach) : Mach :=
  let c := m.nodes
  let words := (List.range c).flatMap (fun n => toLE 2 (m.f (LNK_BUD.B n)))
  (m.broadcast ttBUDGET (padTo (4 + 4 * ((c + 1) / 2)) (toLE 4 (256 * c) ++ words))).takeBudget (m.f (LNK_BUD.B 0))

/-- BUDGET_SEND (R418): after a write of a budget at once; else, unless BPER is 0, time moves on to BPER after the latest periodic
sending. -/
def Mach.budgetSend (m : Mach) : Mach :=
  if !m.isN0 || !m.enumd then m
  else if m.link.budDue then (m.updLink (fun l => { l with budDue := false })).budgetOut
  else if m.f LNK_CFG.BPER = 0 then m
  else ((m.reach .budgets (m.f LNK_CFG.BPER * msec)).startTimer .budgets).budgetOut

/-- BUDGET_RX. -/
def Mach.budgetRx (f : Frame) (m : Mach) : Mach :=
  let first := byteAt f.payload 0
  if first ≤ m.node && m.node < first + byteAt f.payload 1 && m.enumd then m.takeBudget (fieldAt f.payload (4 + 2 * (m.node - first)) 2) else m

/-! ## Enumeration (R419 to R421) -/

/-- The link bindings of the nodes from `first` on end (R412, R419). -/
def Mach.dropLinkBindings (first : Nat) (m : Mach) : Mach :=
  { m with regs := cdrop (fun k => 64 + 16 * first ≤ k / instSpan && k / instSpan < 1088 && [0x080328, 0x080330, 0x080334].contains (k % instSpan)) m.regs }

/-- The node is not enumerated, or ceases to be (R420): the link-secure locks are freed (R54), and source 9 loses its activity (R422). -/
def Mach.unenum (m : Mach) : Mach :=
  let m1 := (m.put LNK_ID.ENUM 0).put LNK_CSTAT.CHAIN 3
  if m.enumd then m1.secFree.epochCheck else m1

/-- ENUM_FAIL, once per enumeration (R420). -/
def Mach.enumFail (reason : Nat) (m : Mach) : Mach :=
  if m.link.failed then m else (m.updLink (fun l => { l with failed := true })).raise fEnumFail 0 (word reason)

/-- ENUM_DONE at a node: its count and state, and what an enumeration renews. No node holds an address from COUNT on any longer, so the
bindings of such addresses end (R412; DEDUCED, log entry 100). -/
def Mach.enumSet (count : Nat) (openChain : Bool) (m : Mach) : Mach :=
  let m1 := ((((m.dropLinkBindings count).put LNK_ID.ENUM 1).put LNK_ID.COUNT count).put LNK_EVT.ENUM_DONE 1).stopTimer .enumTo
  ((m1.updLink (fun l => { l with open' := openChain, breaks := [], gone := [], healed := none, token := none,
                                  up := { l.up with broken := false }, down := { l.down with broken := false } })).renumber).showChain.epochCheck

/-- N0 ends an enumeration: ENUM_DONE, and a calibration after it (R419, R421). -/
def Mach.enumEnd (count : Nat) (openChain : Bool) (m : Mach) : Mach :=
  ((((m.updLink (fun l => { l with got := [] })).put LNK_ID.NODE 0).enumSet count openChain).startTimer .budgets).broadcast
    ttENUM_DONE (toLE 4 (count + 256 * m.link.nonce)) |>.calStartAll

/-- ENUM: the token arrives on the UP port. -/
def Mach.enumRx (p : LPort) (f : Frame) (m : Mach) : Mach :=
  let next := byteAt f.payload 0
  let nonce := fieldAt f.payload 1 3
  if p == .down then m
  else if m.isN0 then
    if m.link.token.isSome && nonce = m.link.nonce then m.enumEnd next false
    else if nonce = m.link.nonce then m
    else ((m.enumFail 2).updLink (fun l => { l with token := none })).unenum
  else if next = 64 then (m.enumFail 3).unenum
  else
    let moved := m.enumd && m.node ≠ next
    let m1 := if moved then (((m.dropLinkBindings 0).dropTxns (fun _ => true)).put LNK_EVT.RENUM 1) else m
    let m2 := (((m1.put LNK_ID.NODE next).put LNK_CSTAT.RUNNING 0)).updLink (fun l => { l with nonce := nonce, failed := false, token := some nonce })
    m2.sendOn .down { typ := ttENUM, tid := f.tid, dst := 0, bcast := false, src := 0, hops := f.hops + 1, payload := toLE 4 (next + 1 + 256 * nonce) }

/-- ENUM_DONE arrives: it counts where its NONCE is the recorded one. -/
def Mach.enumDoneRx (f : Frame) (m : Mach) : Mach :=
  if !m.isN0 && m.link.token == some (fieldAt f.payload 1 3) then m.enumSet (byteAt f.payload 0) false else m

/-- ENUM_TIMEOUT (R420): reason 4 at N0, whose token has not returned; reason 1 at a node that no token has reached. Time moves on to the
end of ENUM_TO. -/
def Mach.enumTimeout (s : Mach) : Mach :=
  let m := s.reach .enumTo (Nat.max 1 (s.f LNK_CFG.ENUM_TO) * msec)
  if s.isN0 then (if s.link.token.isSome then (m.enumFail 4).enumEnd (1 + m.link.heard) true else s)
  else if !s.enumd && s.link.token.isNone && (s.isUp .up || s.isUp .down) then (m.enumFail 1).unenum else s

/-! ## Notices (R331, R421, R427, R428) -/

/-- The hop neighbour of a node that restarts drops the frames that wait for it (R430). -/
def Mach.dropFramesTo (b : Nat) (m : Mach) : Mach :=
  let keep := fun (v : LinkPort) => { v with q := v.q.filter (fun f => f.bcast || f.typ == ttENUM || f.dst != b) }
  m.updLink (fun l => { l with up := if m.neighbour .up = b then keep l.up else l.up, down := if m.neighbour .down = b then keep l.down else l.down })

/-- NOTICE_RX. -/
def Mach.noticeRx (f : Frame) (m : Mach) : Mach :=
  let subject := byteAt f.payload 1
  let hop := if byteAt f.payload 2 = 1 then f.src else (f.src + m.nodes - 1) % Nat.max 1 m.nodes
  match byteAt f.payload 0 with
  | 1 => (m.dropTxns (fun x => x.node == subject)).hopLost hop
  | 2 => (let m1 := m.hopBack hop; if m1.isN0 then m1.calStartAll else m1)
  | 3 => (((m.updLink (fun l => { l with gone := if l.gone.contains subject then l.gone else subject :: l.gone })).dropFramesTo subject).dropTxns
      (fun x => x.node == subject))
  | _ => if m.isN0 then m.startEnum else m

/-- A node in its WARM stop phase announces its restart, and its ports go to electrical idle (R123, R429). -/
def Mach.linkWarm (m : Mach) : Mach :=
  (if m.enumd then m.broadcast ttNOTICE (noticeBytes 3 m.node 0) else m).portsIdle 6

/-! ## Loop calibration (R423 to R425) -/

/-- CAL_START: a START at a node other than N0. -/
def Mach.calStartRx (m : Mach) : Mach := if m.isN0 then m else m.calBegin

/-- CAL_RESULT: OK or FAIL at a node other than N0. -/
def Mach.calResult (f : Frame) (m : Mach) : Mach :=
  let r := byteAt f.payload 1
  if m.isN0 then m
  else if byteAt f.payload 0 = 2 then m.calOkHere
  else
    let m1 := (m.put LNK_CSTAT.RUNNING 0).put LNK_CSTAT.REASON r
    if r = 4 then m1.put LNK_CSTAT.ALIGNED 0 else m1

/-- The closure error that N0 forms at a GRID with GL = 1 (R424). -/
def Mach.closure (m : Mach) (g arrival : Nat) : Int := (arrival : Int) - signed 24 (m.f LNK_DLY.D_UP) - 64 * g

/-- N0 judges a closure error: it ends a calibration, or follows the drift (R424, R425). -/
def Mach.judge (e : Int) (m : Mach) : Mach :=
  let m1 := m.put LNK_LOOP_ERR.E (unsign 32 e)
  let ok := e.natAbs ≤ m.f LNK_CAL.TOL
  if m1.fb LNK_CSTAT.RUNNING then (if ok then m1.calOk else m1.calFail 1)
  else if !m1.fb LNK_CSTAT.CALDONE then m1
  else if ok then
    (let m2 := m1.updLink (fun l => { l with drift := 0 })
     if m.link.drift ≥ 3 && m.link.breaks.isEmpty then (m2.put LNK_CSTAT.ALIGNED 1).broadcast ttCAL [2, 0, 0, 0] else m2)
  else if m.link.drift ≥ 3 then m1
  else
    let m2 := m1.updLink (fun l => { l with drift := l.drift + 1 })
    if m.link.drift = 2 then m2.calFail 4 else m2

/-- A node other than N0 loads its grid at this GRID (R423). -/
def Mach.loadsGrid (m : Mach) : Bool :=
  m.fb LNK_CSTAT.RUNNING && !m.fb LNK_CSTAT.GL && m.link.gl && m.f SEL_STAT.SRC == 9 && m.f ROOT_STAT.DPLL == 2 && m.fb LNK_DLY.DVALID

/-- GRID_RX: a GRID with its flags and count, at a grid time of arrival in fine steps. -/
def Mach.gridRx (p : LPort) (gl : Bool) (g arrival : Nat) (m : Mach) : Mach :=
  if !m.isUp p then m
  else if m.isN0 then
    if p == .up then
      (if (gl || !m.fb LNK_CSTAT.RUNNING) && m.fb LNK_DLY.DVALID && !m.link.open' then m.judge (m.closure g arrival) else m)
    else if gl && m.link.open' && m.fb LNK_CSTAT.RUNNING then m.calOk else m
  else if p == .down then m
  else
    let m1 := if m.loadsGrid then (m.gridLoad g).put LNK_CSTAT.GL 1 else m
    m1.updLink (fun l => { l with gl := gl })

/-! ## VLINK (R92, R400, R430) -/

/-- VLINK_BO: both ports go to electrical idle. -/
def Mach.vlinkBo (m : Mach) : Mach :=
  let m0 := m.updPwr (fun x => { x with vlinkOk := false })
  if !m.powered || !m.pwr.vlinkOk then m0
  else (m0.put PWR_EVT.VLINK_BO 1).raise fVlinkBo 0 (word m0.pwrStat) |>.portsIdle 5

/-- VLINK recovers: the ports start again in RUN, OCHRE or TEASEL while the root is locked. -/
def Mach.vlinkBack (m : Mach) : Mach :=
  let m1 := m.updPwr (fun x => { x with vlinkOk := true })
  if m1.running || m1.dev == .ochre then m1.portsStart else m1

end Sys2Proof.Machine
end

