-- ==== Sys2Proof/Machine/SelfTest.lean ====
section
/-! DEFINITION. Self-test and calibration (chapter 22): fine-delay passes, lane and queue-engine tests, scrub, loopback, and the
activities that TST_RUN starts in TEASEL. -/
namespace Sys2Proof.Machine

/-- Change the hidden part of self-test. -/
def Mach.updTest (f : SelfTest → SelfTest) (m : Mach) : Mach := { m with test := f m.test }

/-- The test code and index by which TST_RUN names an activity (R532). -/
def tstCode : Activity → Nat × Nat
  | .fdcal g => (1, g.val)
  | .lane l => (3, l.val)
  | .qeng => (4, 0)
  | .scrub i => (5, i.val)
  | .loopback p => (6, portIdx p)

/-- An activity runs: it holds a slot in RUN or OCHRE, or TST_RUN started it in TEASEL; the APLL is LOCKED (R518, R519, R532). -/
def Mach.actRuns (m : Mach) (a : Activity) : Bool :=
  m.locked && (((m.dev == .run || m.dev == .ochre) && m.gov.slots.contains a) || (m.dev == .teasel && m.test.run == some (tstCode a)))

/-- The cadence timer of an activity: one for each group and port, one for all lanes, and one for all memories (R519). -/
def dueIdx : Activity → Nat
  | .fdcal g => g.val
  | .loopback p => 17 + portIdx p
  | .lane _ => 19
  | .qeng => 20
  | .scrub _ => 21

/-- The time from an activity's latest end to its next turn (R519). -/
def cadence : Activity → Nat
  | .fdcal _ | .scrub _ => 60 * second
  | _ => 10 * second

/-- An activity may fall due: lanes and memories take turns, and a port's loopback needs IDLE or DETECT (R519). -/
def Mach.mayFallDue (m : Mach) : Activity → Bool
  | .loopback p => m.lstate p ≤ 1
  | .lane l => l.val == m.test.laneTurn
  | .scrub i => i.val == m.test.scrubTurn
  | _ => true

/-- T_max has moved by 5.0 °C or more from its value at the start of a group's latest pass (R519). -/
def Mach.drifted (m : Mach) : Activity → Bool
  | .fdcal g => (cget (fun _ => none) m.test.warm g.val).any (fun t => m.tmax.any (fun u => 50 ≤ (u - t).natAbs))
  | _ => false

/-- SELFTEST_DUE (R519): the activity asks for a slot; time moves on to the end of its cadence timer, unless T_max has moved. -/
def Mach.testDue (a : Activity) (m : Mach) : Mach :=
  if m.gov.slots.contains a || (m.gov.want.map Prod.fst).contains a || !m.mayFallDue a || !m.locked || !(m.dev == .run || m.dev == .ochre) then m
  else (if m.drifted a then m else m.reach (.due (dueIdx a)) (cadence a)).askSlot a

/-- The activity of TST_RUN ends with its verdict (R532). -/
def Mach.tstEnd (pass : Bool) (step data : Nat) (m : Mach) : Mach :=
  (((((m.put TST_RES.BUSY 0).put TST_RES.DONE 1).put TST_RES.PASS (b2n pass)).put TST_RES.STEP step).put TST_RES.DATA (data % 65536)).updTest
    (fun x => { x with run := none })

/-- The turn passes to the next lane or memory (R519). -/
def Mach.nextTurn (a : Activity) (m : Mach) : Mach :=
  match a with
  | .lane l => m.updTest (fun x => { x with laneTurn := (l.val + 1) % 16 })
  | .scrub i => m.updTest (fun x => { x with scrubTurn := (i.val + 1) % 5 })
  | _ => m

/-- An activity ends: its slot is free and its cadence timer runs (R317, R519), or TST_RES takes the verdict (R532). -/
def Mach.actEnd (a : Activity) (pass : Bool) (step data : Nat) (m : Mach) : Mach :=
  if m.dev == .teasel && m.test.run == some (tstCode a) then m.tstEnd pass step data
  else ((m.slotEnd a).startTimer (.due (dueIdx a))).nextTurn a

/-! ## Fine-delay and stamper calibration (R520 to R522) -/

/-- The pass of a group. -/
def Mach.pass (m : Mach) (g : Nat) : Pass := cget (fun _ => {}) m.test.passes g

/-- Replace the pass of a group. -/
def Mach.setPass (g : Nat) (v : Pass) (m : Mach) : Mach := m.updTest (fun x => { x with passes := cset (fun _ => {}) x.passes g v })

/-- The last line of a group: 15, or 7 of the spare group. -/
def lastLine (g : Nat) : Nat := if g = 16 then 7 else 15

/-- The engine of a line. -/
def lineEngine (g q : Nat) : Nat := if g = 16 then 256 + q else 16 * g + q

/-- The lowest line that a mask names. -/
def firstBit (w : Nat) : Nat := (firstIdx 16 (fun q => w.testBit q)).getD 0

/-- A group's failed lines are reported, once per pass (R522). -/
def Mach.lineVerdict (g fails : Nat) (m : Mach) : Mach := if fails = 0 then m else m.raise fFdcalFail g (word fails)

/-- A bank's stamper calibration: its offsets, MON_CAL, and STAMP_CAL where pins failed (R253). -/
def Mach.stampVerdict (k pins : Nat) (m : Mach) : Mach :=
  let m0 := { (m.updTest (fun x => { x with offs := cset (fun _ => none) x.offs k (if pins = 0 then some m.free else none) })) with
              free := if pins = 0 then m.free + 36 else m.free }
  let m1 := (m0.setReg 0x050018 (setF (m.reg 0x050018) k 1 (b2n (pins == 0)))).put MON_CAL.DONE 1
  if pins = 0 then m1 else m1.raise fStampCal k (word pins)

/-- The pass moves on from a line (R520). -/
def Mach.passStep (g : Nat) (m : Mach) : Mach :=
  let x := m.pass g
  m.setPass g { x with next := x.next + 1, ready := none }

/-- The last piece of a pass, after its last line: the bank's stampers or the spare group's matching delays; the pass completes (R520). -/
def Mach.passEnd (g : Fin 17) (stamp : Nat) (m : Mach) : Mach :=
  let x := m.pass g.val
  let bad := if g.val < 16 then stamp else 0
  let m1 := (m.setPass g.val {}).lineVerdict g.val x.fails
  (if g.val < 16 then m1.stampVerdict g.val stamp else m1).actEnd (.fdcal g) (x.fails = 0 && bad = 0)
    (firstBit x.fails) (if x.fails = 0 then bad else x.fails)

/-- FDCAL_LINE_DONE: the shadow is calibrated with the settings of a line, or fails. The swap is made at once where the line's
engine gives no clock (R521). After the last line's swap the command names that line again for the last piece of the pass, and `stamp` are
the pins whose stamper calibration fails (R520, R522; log entry 102). -/
def Mach.lineDone (g : Fin 17) (q : Nat) (ok : Bool) (stamp : Nat) (m : Mach) : Mach :=
  if m.dev == .teasel && m.test.run == some (2, g.val) then
    if m.locked then (m.stampVerdict g.val stamp).tstEnd (stamp = 0) 0 stamp else m
  else
    let x := m.pass g.val
    if !m.actRuns (.fdcal g) || lastLine g < q then m
    else if x.next = lastLine g.val + 1 && q = lastLine g.val then m.passEnd g stamp
    else if x.next ≠ q || x.ready.isSome then m
    else if !ok then (m.setPass g.val { x with fails := x.fails + 2 ^ q }).passStep g.val
    else
      let idle := match m.engineCh (lineEngine g.val q) with
        | some n => m.chst n == 0
        | none => true
      if idle then m.passStep g.val else m.setPass g.val { x with ready := some m.fine }

/-- FDCAL_SWAP (R521): time moves on to the PHS cycle with the first low time of the line's engine after the calibration. -/
def Mach.lineSwap (g : Fin 17) (q : Nat) (m : Mach) : Mach :=
  let x := m.pass g.val
  match x.ready.bind (fun r => (m.engineCh (lineEngine g.val q)).bind (fun n => m.lowTurn n r)) with
  | some t => if x.next = q then (m.advTo ((t + 63) / 64)).passStep g.val else m
  | none => m

/-- An engine that stops takes a pending swap (R521), and so does the odd engine of a DOUBLE pair with the even one (R182). -/
def Mach.stoppedSwap (n : Nat) (m : Mach) : Mach :=
  let take := fun (k : Nat) (t : Mach) =>
    let e := match t.spareOf k with
      | some s => 256 + s
      | none => k
    let g := if e < 256 then e / 16 else 16
    applyIf ((t.pass g).ready.isSome && (t.pass g).next = e % 16) (Mach.passStep g) t
  if m.doubled n && n % 2 = 0 then take (n + 1) (take n m) else take n m

/-- The calibration of the Prepare step (R117, R253, R519, R522): every line, and the stampers of every bank. The cadence of every activity
counts from its end (DESIGN CHOICE for those that have not run, log entry 102). -/
def Mach.prepareCal (lines stamps : Nat → Nat) (m : Mach) : Mach :=
  let m1 := forN 17 (fun g t => (t.passBegins g).lineVerdict g (lines g % 2 ^ (lastLine g + 1))) (m.updTest (fun x => { x with passes := [] }))
  forN 22 (fun i t => t.startTimer (.due i)) (forN 16 (fun k t => t.stampVerdict k (stamps k)) m1)

/-! ## Lane test (R523 to R525) -/

/-- The lane under test. -/
def Mach.laneUnder (m : Mach) : Option (Fin 16) :=
  ((List.range 16).map (fun l => (⟨l % 16, Nat.mod_lt _ (by decide)⟩ : Fin 16))).find? (fun l => m.actRuns (.lane l))

/-- The length in steps of a round with an appended period (R523). -/
def Mach.testRound (m : Mach) : Nat :=
  let si := m.f MON_STAT.SI_EFF * 10 * usec
  si + Nat.max (si / 16) (5 * usec)

/-- LANE_TEST_STEP: one step, a round after the one before; after the eighth the test ends, and a test that passed every step clears the lane's failure. -/
def Mach.laneTest (ok : Bool) (m0 : Mach) : Mach :=
  match m0.laneUnder with
  | none => m0
  | some l =>
    let m := (m0.reach .round m0.testRound).startTimer .round
    let x := m.test
    let k := if x.lane = l.val then x.laneStep + 1 else 1
    let first := if x.lane = l.val then x.laneFail else 0
    let bad := if first = 0 && !ok then k else first
    let m1 := if ok then m else (m.updTest (fun y => { y with laneBad := setBit16 y.laneBad l.val true })).raise fLaneFail l.val (word k)
    if k < 8 then m1.updTest (fun y => { y with lane := l.val, laneStep := k, laneFail := bad })
    else
      (m1.updTest (fun y => { y with lane := l.val, laneStep := 0, laneFail := 0, laneBad := if bad = 0 then setBit16 y.laneBad l.val false else y.laneBad })).actEnd
        (.lane l) (bad = 0) bad bad

/-! ## Queue-engine test (R526) -/

/-- QENG_PIECE: one of 16 pieces, at least 20 µs after the one before; a wrong result skips the rest. -/
def Mach.qengTest (ok : Bool) (m0 : Mach) : Mach :=
  if !m0.actRuns .qeng then m0
  else
    let m := (m0.reach .piece (20 * usec)).startTimer .piece
    let k := m.test.pieces + 1
    if !ok then ((m.updTest (fun y => { y with pieces := 0 })).raise fQengFail 0 (word k)).actEnd .qeng false k k
    else if k = 16 then (m.updTest (fun y => { y with pieces := 0 })).actEnd .qeng true 0 0
    else m.updTest (fun y => { y with pieces := k })

/-! ## Memory scrub (R527) -/

/-- The words of a memory (DEDUCED, log entry 34). -/
def memWords (i : Nat) : Nat :=
  match i with
  | 0 => 32768
  | 1 => 17408
  | 2 => 4224
  | 3 => 448
  | _ => 8192

/-- The memory under scrub. -/
def Mach.scrubUnder (m : Mach) : Option (Fin 5) := [0, 1, 2, 3, 4].find? (fun i => m.actRuns (.scrub i))

/-- SCRUB_WORD: a word for a REG cycle; a double error is left as read and raises MEM_FAIL; a single one is corrected and nothing is raised. -/
def Mach.scrubTest (r : ScrubResult) (m0 : Mach) : Mach :=
  match m0.scrubUnder with
  | none => m0
  | some i =>
    let m := m0.advReg (m0.rclk + 1)
    let a := if m.test.scrubMem = i.val then m.test.scrubAt else 0
    let m1 := if r == .double then m.raise fMemFail i.val (word a) else m
    let fin := a + 1 = memWords i.val
    let old := if m.test.scrubMem = i.val then m.test.scrubFail else 0
    let bad := if old = 0 && r == .double then a + 1 else old
    let m2 := m1.updTest (fun y => { y with scrubMem := i.val, scrubAt := if fin then 0 else a + 1, scrubFail := if fin then 0 else bad })
    if fin then m2.actEnd (.scrub i) (bad = 0) 0 (bad - 1) else m2

/-! ## Link loopback (R528) -/

/-- The reason for which a loopback fails, 0 for none: no alignment or code errors as measured, else a K more than 2 fine steps from its
previous value. -/
def Mach.loopReason (m : Mach) (p : LPort) (seen : Nat) (k : Int) : Nat :=
  if seen = 1 || seen = 2 then seen else if (m.lp p).k.any (fun a => decide (2 < (k - a).natAbs)) then 3 else 0

/-- LINK_LOOPBACK: what the receiver saw (1 no alignment, 2 code errors) and the port's path offset K. In Prepare both ports run it without
a slot. -/
def Mach.loopback (p : LPort) (seen : Nat) (k : Int) (m : Mach) : Mach :=
  let prep := m.dev == .arming && m.boot.step == 8
  if 1 < m.lstate p || (!prep && !m.actRuns (.loopback p)) then m
  else
    let why := m.loopReason p seen k
    let m1 := if why = 0 then m.setLp p { m.lp p with k := some k } else m.raise fLoopFail (portIdx p) (word why)
    if prep then m1 else m1.actEnd (.loopback p) (why = 0) 0 why

/-- A port that leaves DETECT ends its loopback without a result (R528): its slot or its request is gone, and a TST_RUN of it ends
without a pass (DEDUCED, log entry 71). -/
def Mach.loopbackCut (p : LPort) (m : Mach) : Mach :=
  let m1 := ({ m with gov := { m.gov with slots := m.gov.slots.erase (.loopback p),
                                          want := m.gov.want.filter (fun w => w.1 != Activity.loopback p) } }).showSlots
  if m1.test.run == some (6, portIdx p) then m1.tstEnd false 0 0 else m1

/-- LINK_DETECT (R400, R528): signal at a port in DETECT. -/
def Mach.detect (p : LPort) (m : Mach) : Mach := if m.lstate p = 1 then (m.portStep p 1).loopbackCut p else m

/-! ## Abandonment (R529) and TST_RUN (R532) -/

/-- Scheduled activities yield as on a revocation: their checkpoints stay (R529). -/
def Mach.yieldAll (m : Mach) : Mach := ({ m with gov := { m.gov with slots := [], want := [] } }).showSlots

/-- A root loss abandons every activity; its checkpoint stays, as only the last row of resets loses it (R529; DEDUCED, log entry 102). A
test that TST_RUN runs ends without a pass. -/
def Mach.testAbandon (m : Mach) : Mach :=
  let m1 := m.yieldAll
  if m1.test.run.isSome && m1.test.run.all (fun r => r.1 != 7) then m1.tstEnd false 0 0 else m1

/-- The index range of a test; none where the test is undefined. -/
def tstRange : Nat → Nat
  | 1 => 17
  | 2 | 3 => 16
  | 4 | 7 => 1
  | 5 => 5
  | 6 => 2
  | _ => 0

/-- A request of TST_RUN is refused (R532). -/
def Mach.tstRefused (m : Mach) (t i : Nat) : Bool :=
  m.fb TST_RES.BUSY || tstRange t ≤ i || (t = 6 && 1 < m.lstate (if i = 0 then .up else .down))
    || (t = 7 && (List.range 256).any (fun n => m.chst n != 0))

/-- The checkpoints of an activity that starts anew. -/
def Mach.testFresh (t i : Nat) (m : Mach) : Mach :=
  let m := if t = 1 then m.passBegins i else m
  m.updTest (fun x => { x with
    passes := if t = 1 then cset (fun _ => {}) x.passes i {} else x.passes
    laneStep := if t = 3 then 0 else x.laneStep
    laneFail := if t = 3 then 0 else x.laneFail
    pieces := if t = 4 then 0 else x.pieces
    scrubAt := if t = 5 then 0 else x.scrubAt
    scrubFail := if t = 5 then 0 else x.scrubFail
    run := some (t, i) })

/-- The clock family stops, and the register file runs on BOOT (R112, R172). -/
def Mach.clocksStop (m : Mach) : Mach := { m with boot := { m.boot with clocks := false, onboot := true } }

/-- The root PLL test takes the root away: no ROOT_LOL, the register file on BOOT, both ports IDLE (R533). -/
def Mach.apllStart (m : Mach) : Mach :=
  (m.rootDrop.clocksStop).portsIdle 6

/-- The effect of a write of TST_RUN (R532). -/
def Mach.tstHook (d : Word) (m : Mach) : Mach :=
  let t := getF d 0 4
  let i := getF d 8 5
  if !bitAt d 31 then m
  else
    let m0 := m.put TST_RES.TEST t
    if m.tstRefused t i then (m0.put TST_RES.REFUSED 1).put TST_RES.DONE 1
    else
      let m1 := ((((m0.put TST_RES.BUSY 1).put TST_RES.REFUSED 0).put TST_RES.PASS 0).put TST_RES.STEP 0).put TST_RES.DATA 0
      let m2 := m1.testFresh t i
      if t = 7 then m2.apllStart else m2

end Sys2Proof.Machine
end

