-- ==== Sys2Proof/Machine/Mailbox.lean ====
section
/-! DEFINITION. The wide-value mailbox and the running configuration CRC (R40 to R47). -/
namespace Sys2Proof.Machine

/-! ## Wide values (R44 to R47) -/

/-- A value class with its index exists (R47). -/
def wideExists (cls idx : Nat) : Bool := ((cls == 1 || cls == 2) && idx == 0) || ((cls == 0x10 || cls == 0x11) && idx < 32)

/-- The low and high words of a value. -/
def Mach.wideValue (m : Mach) (cls idx : Nat) : Nat × Nat :=
  match cls with
  | 1 => (m.tod, m.sub)
  | 2 => (m.ts % 2 ^ 32, m.ts / 2 ^ 32)
  | 0x10 => (m.ticks idx % 2 ^ 32, m.ticks idx / 2 ^ 32)
  | _ => (m.faultTicks idx % 2 ^ 32, m.faultTicks idx / 2 ^ 32)

/-- Deliver a snapshot. -/
def Mach.wideDeliver (i cls idx : Nat) (m : Mach) : Mach :=
  (((m.put (WIDE_LO.DATA.inst i) (m.wideValue cls idx).1).put (WIDE_HI.DATA.inst i) (m.wideValue cls idx).2).put (WIDE_STAT.VALID.inst i) 1).put
    (WIDE_STAT.BUSY.inst i) 0

/-- A write transfer is refused (R45). -/
def Mach.wideRefuse (i : Nat) (m : Mach) : Mach := (m.put (WIDE_STAT.BUSY.inst i) 0).put (WIDE_STAT.REFUSED.inst i) 1

/-- The effect of a write of WIDE_SEL: a core value is delivered at once, an always-on transfer runs until WIDE_DONE. Time of day
is the one writable class, for the owner's masters only. -/
def Mach.wideHook (w : Who) (d : Word) (m : Mach) : Mach :=
  let i := w.inst
  let cls := getF d 0 8
  let idx := getF d 8 8
  let wr := bitAt d 31
  let m1 := (((m.put (WIDE_STAT.VALID.inst i) 0).put (WIDE_STAT.BADSEL.inst i) 0).put (WIDE_STAT.REFUSED.inst i) 0).put (WIDE_STAT.CLASS.inst i) cls
  if !wideExists cls idx then m1.put (WIDE_STAT.BADSEL.inst i) 1
  else if wr && (cls != 1 || !w.isP0) then m1.wideRefuse i
  else if cls = 2 then m1.wideDeliver i cls idx
  else (m1.put (WIDE_STAT.BUSY.inst i) 1).setWide i
    { busy := true, wr := wr, cls := cls, idx := idx, lo := m.reg (0x000118 + i * instSpan), hi := m.reg (0x00011C + i * instSpan), who := i }

/-- WIDE_DONE: the always-on domain completes a transfer, first one that its partition's reset has cut off. A time-of-day write
meets its condition now (R45, R175). -/
def Mach.wideDone (i : Nat) (m : Mach) : Mach :=
  let x := m.wide i
  let m1 := m.setWide i {}
  if (m.wide (wideLeft + i)).busy then m.wideLate i
  else if !x.busy then m
  else if !x.wr then m1.wideDeliver i x.cls x.idx
  else if m.fb PPS_CFG.TOD_EN then m1.wideRefuse i
  else ((m1.todWrite x.who x.lo.toNat (getF x.hi 0 15)).put (WIDE_STAT.BUSY.inst i) 0).put (WIDE_STAT.VALID.inst i) 1

/-! ## The configuration CRC (R40 to R43) -/

/-- A capture is launched: by CAPTURE, or at the end of CONFIG (R41). -/
def Mach.capture (setEn : Bool) (m : Mach) : Mach := { m with crc := { m.crc with capture := true, fresh := false, setEn := m.crc.setEn || setEn } }

/-- The effect of a write of CFGCRC_CTL. -/
def Mach.crcCtlHook (d : Word) (m : Mach) : Mach := if bitAt d 1 then m.capture false else m

/-- The effect of a write of CFGCRC_REF: the reference enters. -/
def Mach.crcRefHook (m : Mach) : Mach := m.put CFGCRC_STAT.STALE 0

/-- The captured reference is loaded. -/
def Mach.crcLoad (v : Nat) (m : Mach) : Mach :=
  let m1 := ((m.put CFGCRC_REF.REF v).put CFGCRC_STAT.STALE 0).put CFGCRC_CTL.CAPTURE 0
  let m2 := if m1.crc.setEn then m1.put CFGCRC_CTL.EN 1 else m1
  { m2 with crc := { m2.crc with capture := false, fresh := false, setEn := false } }

/-- CFGCRC_SWEEP_END: the words that the sweep has not yet taken are taken as they stand; then the result, a capture that this sweep
covers, and the comparison (R40 to R42). -/
def Mach.sweepEnd (m : Mach) : Mach :=
  if !m.powered || m.boot.held then m
  else
    let r := m.sweepCrc
    let m1 := ({ m with crc := { m.crc with pos := 0, run := 0xFFFFFFFF } }).put CFGCRC_CUR.CRC r
    let m2 := if !m1.crc.capture then m1
      else if m1.crc.fresh then m1.crcLoad r else { m1 with crc := { m1.crc with fresh := true } }
    if m2.fb CFGCRC_CTL.EN && !m2.fb CFGCRC_STAT.STALE && m2.f CFGCRC_REF.REF ≠ r then
      (m2.put CFGCRC_STAT.MISMATCH 1).raise fCfgDrift 0 (word r)
    else m2

end Sys2Proof.Machine
end

