-- ==== Sys2Proof/Machine/Boot.lean ====
section
/-! DEFINITION. From power to running (chapter 05): the steps of BOOT, CONFIG and ARMING, boot failures, OCHRE, warm restart,
partition restart and the codes of DEV_CTL; and the entry to TEASEL (chapter 22). -/
namespace Sys2Proof.Machine

/-- Change the start-up part. -/
def Mach.updBoot (f : Boot → Boot) (m : Mach) : Mach := { m with boot := f m.boot }

/-- Change the image part. -/
def Mach.updImg (f : Img → Img) (m : Mach) : Mach := { m with img := f m.img }

/-- A step of BOOT is in progress: the core reset is released, and no failure waits for the epoch burn (R441). -/
def Mach.inBoot (m : Mach) (step : Nat) : Bool := m.dev == .boot && !m.boot.held && m.boot.step == step && !m.boot.failWait

/-- Microseconds since the core reset release, saturating (R127). -/
def Mach.bootMicros (m : Mach) : Nat := Nat.min 65535 ((m.now - m.boot.relTime) / 200)

/-! ## Clock and reset (R68, R70, R111) -/

/-- OSCILLATOR_START (R111). -/
def Mach.oscStart (m : Mach) : Mach := if m.dev == .boot && m.boot.held then m.updBoot (fun b => { b with osc := true }) else m

/-- QUALIFY_WINDOW (R111): two accepted windows in a row qualify; a rejected one is counted. -/
def Mach.qualifyWindow (count : Nat) (m : Mach) : Mach :=
  if m.dev != .boot || !m.boot.held || !m.boot.osc || m.boot.qualified then m
  else if 11841 ≤ count && count ≤ 12573 then
    m.updBoot (fun b => { b with goodWin := b.goodWin + 1, qualified := b.goodWin + 1 == 2 })
  else
    let m1 := m.updBoot (fun b => { b with goodWin := 0, noclk := satInc 255 b.noclk })
    if m.boot.noclk = 0 then m1.ledger 8 0 1 else m1

/-- The majority of three samples of four straps. -/
def majority (a b c : BitVec 4) : BitVec 4 := (a &&& b) ||| (a &&& c) ||| (b &&& c)

/-- STRAP_STAT[4:0] from the four sampled straps and the latch of STRAP_XO. -/
def strapBits (s : BitVec 4) (xo : Bool) : BitVec 5 :=
  BitVec.ofNat 5 (s.toNat % 8 + 8 * b2n xo + 16 * (s.toNat / 8))

/-- CORE_RESET_RELEASE (R70, R111). The latch of STRAP_XO takes the strap only where a power-on reset or RESET_N has opened it; a change
of the value that it holds restarts qualification. An instruction that the TAP has in force stays, whatever TEST_MODE the release
samples (DESIGN CHOICE, log entry 78). -/
def Mach.coreRelease (s1 s2 s3 : BitVec 4) (xo : Bool) (m : Mach) : Mach :=
  let v := if m.boot.xoOpen then xo else m.boot.xoLatch.getD xo
  if m.dev != .boot || !m.boot.held || !m.boot.qualified then m
  else if m.boot.xoLatch = some (!v) then
    m.updBoot (fun b => { b with xoLatch := some v, xoOpen := false, qualified := false, osc := false, goodWin := 0, noclk := 0, resetN := false })
  else
    let bits := strapBits (majority s1 s2 s3) v
    let m1 := (m.put RESET_CAUSE.CAUSE m.boot.nextCause).put BOOT_STAT.NOCLK m.boot.noclk
    m1.updBoot (fun b => { b with held := false, resetN := false, straps := bits, xoLatch := some v, xoOpen := false, noclk := 0, goodWin := 0, step := 1,
                                  relTime := m.now })

/-- RESET_N recognised (R68, R110), in every powered state. An open service session closes first (R148). -/
def Mach.resetN (m : Mach) : Mach :=
  if !m.powered then m
  else
    let cold := m.boot.held && (m.boot.nextCause = 0 || m.boot.nextCause = 4)
    let cause := if cold then m.boot.nextCause else if m.dev == .teasel then 5 else 1
    let m1 := m.svcClose.coreReset false
    ({ m1 with dev := .boot, boot := { m1.boot with resetN := true, xoOpen := true, nextCause := cause } }).vokAfterReset

/-! ## Failures (R120) -/

/-- Record a boot failure, with its ledger entry. -/
def Mach.bootRecord (code index addr part prst : Nat) (m : Mach) : Mach :=
  (((((m.put BOOT_FAIL.CODE code).put BOOT_FAIL.INDEX index).put BOOT_FAIL.PART part).put BOOT_FAIL.PRST prst).put BOOT_FAIL_ADDR.ADDR addr).ledger
    9 code (index + 256 * part + 4096 * prst)

/-- OCHRE is entered. -/
def Mach.enterOchre (precfg : Bool) (cause : Nat) (m : Mach) : Mach :=
  { m with dev := .ochre, boot := { m.boot with precfg := precfg, cause := cause, park := none, go := false, fromConfig := false } }

/-- OCHRE before CONFIG has completed: the diagnostic P0 (R120). -/
def Mach.preOchre (m : Mach) : Mach := ((m.updBoot (fun b => { b with failWait := false })).enterOchre true 1).diagnostic

/-- A failure in BOOT: OCHRE follows once the epoch burn has completed (R441). -/
def Mach.bootFail (code index addr : Nat) (m : Mach) : Mach :=
  let m1 := m.bootRecord code index addr 0 0
  if m1.epochDone then m1.preOchre else m1.updBoot (fun b => { b with failWait := true })

/-- EPOCH_BURN (R441), after which a failure that waited takes the device to OCHRE. -/
def Mach.epochStep (fails : Nat) (m : Mach) : Mach :=
  let m1 := m.epochBurn fails
  if m1.boot.failWait && m1.epochDone then m1.preOchre else m1

/-! ## Wake, Discover, Read, Finalise (R114, R115) -/

/-- FLASH_WAKE. -/
def Mach.flashWake (m : Mach) : Mach := 
  if m.inBoot 1 then (m.flashSend [[0xAB]]).updBoot (fun b => { b with step := 2, woken := true }) else m

/-- SFDP_DISCOVER: the signature, the basic table and the read mode; the Read step begins with the check of K0, before any byte of
the image (R120). BOOT_FAIL.INDEX and BOOT_FAIL_ADDR of codes 0x01 and 0x02 are 0: the spec gives them none (DESIGN CHOICE, log
entry 83). -/
def Mach.discover (t : Sfdp) (m : Mach) : Mach :=
  if !m.inBoot 2 || !m.boot.woken then m
  else
  let m := m.flashSend (discoverCmds t)
  match sfdpCode t with
  | some 1 =>
    let m1 := (m.updBoot (fun b => { b with woken := false, wakes := b.wakes + 1 })).startTimer .sfdp
    if m1.boot.wakes = 3 then m1.bootFail 1 0 0 else m1
  | some c => m.bootFail c 0 0
  | none =>
    let q := sfdpQuad t
    let m1 := m.updBoot (fun b => { b with step := 3, discovered := true, erase4k := t.erase4k, quad := q })
    if m1.keyValid 0 then (m1.flashSend (discoverCmds t ++ [readCmd q])).put BOOT_STAT.QUAD (b2n q) else m1.bootFail 6 0 0

/-- SFDP_RETRY: 1 ms after a missing signature both steps are repeated. -/
def Mach.sfdpRetry (m : Mach) : Mach :=
  if m.inBoot 2 && !m.boot.woken then (m.reach .sfdp msec).updBoot (fun b => { b with step := 1 }) else m

/-- IMAGE_HEADER_CHECK: the header, and then the section table, when its last byte arrives (R129). -/
def Mach.headerCheck (bytes : List Byte) (m : Mach) : Mach :=
  if !m.inBoot 3 || m.img.tableRead then m
  else if m.img.staged.isEmpty then
    (let h := padTo 32 bytes
     match headerError h with
     | some o => m.bootFail 3 0 o
     | none => m.updImg (fun x => { x with staged := h }))
  else
    let img := m.img.staged ++ padTo (8 * fieldAt m.img.staged 12 2) bytes
    match tableOf img with
    | .inl o => m.bootFail 3 0 o
    | .inr ss => m.updImg (fun x => { x with staged := img, secs := ss, tableRead := true, next := 0 })

/-- SECTION_CRC_CHECK (R115): the next section; the first failure reads the image again from byte 0 in single mode. -/
def Mach.sectionCheck (payload : List Byte) (crc : Word) (m : Mach) : Mach :=
  if !m.inBoot 3 || !m.img.tableRead then m
  else match m.img.secs[m.img.next]? with
  | none => m
  | some s =>
    let pl := padTo s.len payload
    if crc32c pl = crc.toNat then m.updImg (fun x => { x with staged := x.staged ++ pl ++ wordBytes crc, next := x.next + 1 })
    else if m.img.second then m.bootFail 4 m.img.next (s.off + s.len)
    else ((((m.put BOOT_STAT.RETRY 1).put BOOT_STAT.RETRY_SEC m.img.next).put BOOT_STAT.QUAD 0).flashSend [readCmd false]).updImg
      (fun _ => { second := true })

/-- The registers that describe the image whose tag has matched (R115, R152). -/
def Mach.imgShow (tag : List Byte) (m : Mach) : Mach :=
  let h := m.img.staged
  (((((m.put IMG_INFO.FMT (fieldAt h 4 2)).put IMG_INFO.SEC_COUNT (fieldAt h 12 2)).put IMG_INFO.VALID 1).put IMG_VER.VER (fieldAt h 20 4)).put
    IMG_LEN.LEN (fieldAt h 8 4)).put IMG_BUILD.TIME (fieldAt h 24 4) |>.setBytes 0x000320 tag

/-- CMAC_FINALISE (R115, R134), once the epoch burn has completed (R441). -/
def Mach.cmacFinalise (tag : List Byte) (m : Mach) : Mach :=
  if !m.inBoot 3 || !m.img.tableRead || m.img.next < m.img.secs.length || !m.epochDone then m
  else
    let t := padTo 16 tag
    let m1 := m.updBoot (fun b => { b with step := 4 })
    if cmac (m.slot 0).key m.img.staged ≠ t then m1.bootFail 5 0 m.img.staged.length
    else
      let m2 := (m1.imgShow t).updImg (fun x => { x with staged := x.staged ++ t, shadow := true, sec := 0, pos := 0, bootSeen := false })
      { m2 with dev := .config, boot := { m2.boot with step := 5 } }

/-! ## CONFIG and partition restart (R116, R124, R145) -/

/-- The marked channels of a partition, or of every one, submit their start requests (R118, R124). -/
def Mach.bootStarts (p : Nat → Bool) (m : Mach) : Mach :=
  forN 256 (fun n t => applyIf (t.tb n CH_CTL.BOOT_START && p (t.ownCh n) && (t.listState n = 0 || (t.spareOf n).isSome)) (Mach.push (.start n .boot)) t) m

/-- A partition restart that succeeds: pins that the reset parked drive again (R239), held words are posted, marked channels start, and a 0x09 record is cleared (R124, R127). -/
def Mach.restartDone (p : Nat) (m : Mach) : Mach :=
  let m1 := if m.f BOOT_FAIL.CODE = 9 then (m.setReg 0x000310 0).setReg 0x000314 0 else m
  (((forN 256 (fun n t => applyIf (t.ownCh n = p) (Mach.unpark n) t) m1).updBoot (fun b => { b with restart := none })).postHeld).bootStarts
    (fun q => q == p)

/-- The re-application of a restart begins: the section CRCs of the shadow are recomputed first (R124). -/
def Mach.restartBegin (p : Nat) (m : Mach) : Mach :=
  match firstBadCrc m.img.secs m.img.staged with
  | some i =>
    let s := m.img.secs.getD i ⟨0, 0, false, 0, 0⟩
    (m.updBoot (fun b => { b with restart := none })).bootRecord 9 i (s.off + s.len) p 1
  | none =>
    match (m.img.secs.zipIdx).find? (fun e => e.1.typ == 3 && e.1.sub == p) with
    | none => m.restartDone p
    | some e =>
      let m1 := m.updImg (fun x => { x with sec := e.2, pos := 0, bootSeen := false, wrote := [], wroteTbl := [], heldAon := [] })
      if e.1.len = 0 then m1.restartDone p else m1

/-- RECORD_APPLY: the next record, in CONFIG or in a partition restart; `run` works off the effects of each word. -/
def Mach.recordApply (run : Mach → Mach) (m : Mach) : Mach :=
  if m.dev == .config then
    let m1 := m.imgSeek 66
    match m1.img.secs[m1.img.sec]? with
    | none => m1
    | some s =>
      match m1.imgRecord run s true with
      | some t => t
      | none => ((run m1.rollBack).bootRecord 7 m1.img.sec (s.off + m1.img.pos) 0 0).preOchre
  else match m.boot.restart with
  | none => m
  | some p =>
    if m.resetting p || !m.running then m
    else match m.img.secs[m.img.sec]? with
    | none => m
    | some s =>
      match m.imgRecord run s false with
      | some t => if t.img.pos < s.len then t else t.restartDone p
      | none => ((run m.rollBack).updBoot (fun b => { b with restart := none })).bootRecord 9 m.img.sec (s.off + m.img.pos) p 1

/-- Channels of bank k that are marked for start at boot. -/
def Mach.marked (m : Mach) (k : Nat) : Nat := countIf (fun q => m.tb (16 * k + q) CH_CTL.BOOT_START) (List.range 16)

/-- Bank k has a start, an echo pairing or a crossbar route configured on it (R95). -/
def Mach.bankUsed (m : Mach) (k : Nat) : Bool :=
  m.marked k != 0
  || (List.range 256).any (fun n => m.wantsEcho n &&
        (bankOf n == k || (if m.t n CH_MON.ESRC < 64 then m.t n CH_MON.ESRC / 4 == k else bankOf (m.t n CH_MON.ESRC - 256) == k)))
  || (List.range 8).any (fun s => (m.f (XB_CFG.SCOPE s)).testBit k)

/-- CONFIG_END (R110, R115, R141): after the last record the capture is launched, the checks are made and ARMING begins. -/
def Mach.configEnd (m : Mach) : Mach :=
  let m0 := m.imgSeek 66
  if m.dev != .config || m0.img.sec < m0.img.secs.length then m
  else
    let m1 := (m0.postHeld).capture true
    let m2 := forN 16 (fun k t => applyIf (!t.present k && t.bankUsed k) (Mach.raise fBankAbsent k (word (t.marked k))) t) m1
    let m3 := if m2.fb AON_STAT.LOST then m2.raise fAonLost 0 0 else m2
    let m4 := (m3.put BOOT_TIME.T_CFG m3.bootMicros).put ROOT_STAT.APLL 1
    (({ m4 with dev := .arming, boot := { m4.boot with step := 6, fromConfig := true } }).startTimer .rootTo).chainStart

/-! ## ARMING and RUN (R117, R118, R172, R179) -/

/-- The clock family starts, with the grid counter at 0; a family that runs is left alone (R117, R122, R179). -/
def Mach.clocksStart (m : Mach) : Mach :=
  if m.boot.clocks then m
  else
    let m1 := { m with grid := 0, boot := { m.boot with clocks := true, onboot := false }, root := { m.root with phs := 0, part := 0 } }
    forN 256 (fun n t => t.updCh n (fun c => { shiftPin (-(m.grid : Int)) c with rootPark := false })) m1

/-- The clock family starts after a lock, and measurement with it (R119, R157, R172). -/
def Mach.familyStart (m : Mach) : Mach :=
  let m1 := m.clocksStart
  m1.measureStart (fun i => m1.refLive i)

/-- The Lock step ends: Clocks, and Prepare begins. -/
def Mach.lockEnd (m : Mach) : Mach := m.familyStart.updBoot (fun b => { b with step := 8 })

/-- APLL_LOCK (R117, R171, R172). The relock of the root PLL test is APLL_TEST's (R533). -/
def Mach.apllLock (m : Mach) : Mach :=
  if !m.powered || m.f ROOT_STAT.APLL ≠ 1 || m.test.run.any (fun r => r.1 == 7) then m
  else if m.dev == .arming then (m.rootLocked true).lockEnd
  else if m.dev == .ochre || m.dev == .teasel then ((m.rootLocked false).familyStart).portsStart
  else m

/-- Every channel stops at once, and start requests that are pending or held are completed with DOMAIN_DOWN (R121, R531). -/
def Mach.haltAll (cause : Nat) (m : Mach) : Mach :=
  forN 256 (fun n t => if t.chst n = 0 then t.withdraw n else (t.tput n CH_STAT.HELD 0).parkNow n cause 0) m

/-- A root loss of lock in ARMING (R110, R117): the clock family stops, the step in progress is abandoned, ROOT_TO counts afresh, and
the link transmitters are idle. -/
def Mach.armingLost (m : Mach) : Mach :=
  (((m.clocksStop).portsIdle 6).startTimer .rootTo).updBoot (fun b => { b with step := 6 }) |>.put BOOT_STAT.GO_WAIT 0

/-- TEASEL is entered from RUN or OCHRE (R530); scheduled activities yield (R529). DEV_STATE.STEP keeps the code that it had (DESIGN
CHOICE, log entry 86). -/
def Mach.teaselGo (m : Mach) : Mach :=
  let m1 := (m.setReg 0x0F0000 (word ((if m.dev == .run then 5 else 6) + 16 * b2n m.boot.precfg))).yieldAll
  { m1 with dev := .teasel, test := { m1.test with held := false, entry := m.now, run := none } }

/-- A park phase ends in OCHRE with its cause (R121). A TEASEL entry that it held follows where TEST_MODE is still high: no command brings
the live level, so that is free (R530; DESIGN CHOICE, log entry 5). -/
def Mach.parkEnds (cause : Nat) (m : Mach) : Mach :=
  let m1 := m.enterOchre false cause
  if !m1.test.held then m1
  else
    let x := m1.draw
    let m2 := x.2.updTest (fun t => { t with held := false })
    if m2.boot.straps.getLsbD 4 && bitAt x.1 0 then m2.teaselGo else m2

/-- APLL_LOL (R110, R117, R121, R531): what a loss of lock does in each state. A loss in a park phase ends that phase. -/
def Mach.apllLol (m : Mach) : Mach :=
  if !m.powered || !m.locked then m
  else
    let m1 := m.rootLost.testAbandon
    match m.dev with
    | .run =>
      let m2 := ((m1.rootParkAll.haltAll csROOT_LOSS).clocksStop).portsIdle 6
      if m2.boot.stop then m2.push .phaseCheck else (m2.updBoot (fun b => { b with restart := none })).parkEnds 4
    | .teasel => ((m1.rootParkAll.haltAll csROOT_LOSS).clocksStop).portsIdle 6
    | .arming => m1.armingLost
    | _ => (m1.clocksStop).portsIdle 6

/-- ROOT_TO_EXPIRE (R117, R120): ROOT_TO ms after the Lock step began it ends in OCHRE with code 0x08. BOOT_FAIL.INDEX and
BOOT_FAIL_ADDR of the code are 0: the spec gives them none (DESIGN CHOICE, log entry 83). -/
def Mach.rootTimeout (m : Mach) : Mach :=
  if m.dev == .arming && m.boot.step = 6 && !m.locked then
    (((m.reach .rootTo (Nat.max 1 (m.f BOOT_CFG.ROOT_TO) * msec)).bootRecord 8 0 0 0 0).enterOchre false 2).diagnostic
  else m

/-- The boot-start requests are submitted, and start-up is over (R118, R127). -/
def Mach.bootGo (m : Mach) : Mach :=
  if m.dev == .run && m.boot.bootPend then (m.updBoot (fun b => { b with bootPend := false, step := 15 })).bootStarts (fun _ => true) else m

/-- Entry to RUN (R110, R118, R127). T_ARM is loaded at every entry (DESIGN CHOICE, log entry 84), and a loop calibration that stands
completed holds no boot start back (DESIGN CHOICE, log entry 85). -/
def Mach.enterRun (m : Mach) : Mach :=
  let m1 := (if m.boot.fromConfig then (m.setReg 0x000310 0).setReg 0x000314 0 else m).startTimer .linkTo
  let m2 := ((m1.put BOOT_TIME.T_ARM m1.bootMicros).put BOOT_STAT.GO_WAIT 0)
  let m3 := ({ m2 with dev := .run, boot := { m2.boot with step := 10, go := false, fromConfig := false, bootPend := true } }).portsStart
  if m3.fb BOOT_CFG.LINK_WAIT && !m3.fb LNK_CSTAT.CALDONE then m3 else m3.bootGo

/-- The Gate (R117). -/
def Mach.gate (m : Mach) : Mach :=
  if m.fb BOOT_CFG.AUTORUN || m.boot.go then m.enterRun else (m.put BOOT_STAT.GO_WAIT 1).updBoot (fun b => { b with step := 9 })

/-- The mask that a list names for an index; 0 where it names none. -/
def maskOf {n : Nat} (l : List (Fin n × BitVec 16)) (i : Nat) : Nat := ((l.find? (fun e => e.1.val == i)).map (fun e => e.2.toNat)).getD 0

/-- PREPARE_DONE (R117): partitions are instantiated and every line is calibrated; `lines` and `stamps` name what failed. Channels
whose list entry says REBUILT are routed to spares (R274). -/
def Mach.prepareDone (lines : List (Fin 17 × BitVec 16)) (stamps : List (Bank × BitVec 16)) (m : Mach) : Mach :=
  if m.dev != .arming || m.boot.step ≠ 8 then m
  else
    let m1 := (m.instantiateAll).prepareCal (maskOf lines) (maskOf stamps)
    (m1.rebuildAtBoot).gate

/-- LINK_TO_EXPIRE (R118): LINK_TO ms after the entry to RUN. -/
def Mach.linkTimeout (m : Mach) : Mach :=
  if m.dev == .run && m.boot.bootPend then
    ((m.reach .linkTo (Nat.max 1 (m.f BOOT_CFG.LINK_TO) * msec)).put BOOT_STAT.LINK_LATE 1).bootGo
  else m

/-! ## OCHRE, RESUME, WARM (R121 to R123) -/

/-- Clean stops of every running channel, and pending requests withdrawn with DOMAIN_DOWN. -/
def Mach.stopEvery (cause : Nat) (m : Mach) : Mach :=
  forN 256 (fun n t => if t.chst n = 0 then t.withdraw n else t.stop n cause false) m

/-- A park phase begins (R121), unless one runs or a stop phase does. `cause`: 3 ENTER_OCHRE, 5 fault action. It abandons what is still
to come of a partition restart (R126; log entry 87). -/
def Mach.parkBegins (cause : Nat) (m : Mach) : Mach :=
  if m.goingDown || !(m.dev == .run || m.dev == .arming) then m
  else
    let m1 := m.updBoot (fun b => { b with park := some cause, step := 12, restart := none, bootPend := false })
    ((m1.stopEvery (if cause = 5 then csFAULT else csOCHRE)).put BOOT_STAT.GO_WAIT 0).push .phaseCheck

/-- TEASEL_ENTRY: the TEST_MODE sequence ends (R530). In a park phase it is held; in a stop phase it is discarded. -/
def Mach.teaselEntry (m : Mach) : Mach :=
  if !m.boot.straps.getLsbD 4 || m.boot.stop then m
  else if m.boot.park.isSome then m.updTest (fun x => { x with held := true })
  else if m.dev == .run || m.dev == .ochre then m.teaselGo else m

/-- The core reset of a WARM restart (R123). -/
def Mach.warmReset (m : Mach) : Mach :=
  let cause := if m.dev == .teasel then 3 else 2
  let m1 := m.coreReset false
  ({ m1 with dev := .boot, boot := { m1.boot with nextCause := cause } }).vokAfterReset

/-- A park or stop phase ends when no channel runs (R121, R123). -/
def Mach.phaseCheck (m : Mach) : Mach :=
  if (List.range 256).any (fun n => m.chst n != 0) then m
  else if m.boot.stop then m.warmReset
  else match m.boot.park with
  | none => m
  | some c => m.parkEnds c

/-- WARM (R123): the stop phase. The service session closes and its operation is abandoned (R148, R150). Of a partition restart only what
is still to come is abandoned: a partition reset that has begun runs to its end (DESIGN CHOICE, log entry 87). -/
def Mach.warm (m : Mach) : Mach :=
  let m1 := ((m.svcClose.put SVC_STAT.BUSY 0).startTimer .warmStop).updBoot (fun b => { b with stop := true, park := none, restart := none, bootPend := false, step := 11 })
  let m2 := forN 16 Mach.downQueues m1
  ((m2.linkWarm).stopEvery csWARM).push .phaseCheck

/-- WARM_STOP_TIMEOUT (R123, R190): channels not STOPPED after 10 ms are stopped at once, as by the watchdog. -/
def Mach.warmTimeout (m : Mach) : Mach :=
  if m.boot.stop then (forN 256 Mach.forceStop (m.reach .warmStop (10 * msec))).push .phaseCheck else m

/-- RESUME (R122): ARMING from Lock; the step ends at once where the APLL is LOCKED. The link transmitters are idle throughout ARMING
(R117; DEDUCED, log entry 82), and OCHRE_CAUSE keeps its value (DESIGN CHOICE, log entry 88). -/
def Mach.resume (m : Mach) : Mach :=
  let m1 := (({ m with dev := .arming, boot := { m.boot with step := 6 } }).startTimer .rootTo).portsIdle 6
  if m1.locked then m1.lockEnd else m1

/-! ## DEV_CTL (R125) -/

/-- A code is refused. -/
def Mach.codeRej (m : Mach) : Mach := m.put BOOT_STAT.CODE_REJ 1

/-- PART_RESTART of partition p (R124). A partition that no reset begins for re-applies at once. -/
def Mach.partRestart (p : Nat) (m : Mach) : Mach :=
  let m1 := m.updBoot (fun b => { b with restart := some p })
  if m.pstate p = 0 then m1.restartBegin p else m1.push (.partReset p prRESTART)

/-- The effect of a write of DEV_CTL: the code, where the state accepts it. -/
def Mach.devCtl (d : Word) (m : Mach) : Mach :=
  let up := m.dev == .run || m.dev == .arming
  match getF d 0 8 with
  | 0xA5 => if (up || m.dev == .ochre || m.dev == .teasel) && !m.boot.stop then m.warm else m.codeRej
  | 0x5A => if m.dev == .arming && !m.boot.stop then
      (let m1 := m.updBoot (fun b => { b with go := true }); if m1.boot.step = 9 then m1.gate else m1)
    else m.codeRej
  | 0x3C => if up && !m.goingDown then m.parkBegins 3 else m.codeRej
  | 0xC3 => if m.dev == .ochre && !m.boot.precfg && !m.anyL3 && !m.boot.stop then m.resume else m.codeRej
  | 0x69 => if m.dev == .run && !m.goingDown && m.boot.restart.isNone then m.partRestart (getF d 8 4) else m.codeRej
  | _ => m.codeRej

/-- PART_CLEAR_DONE, with the continuation of a partition restart (R124, R324). -/
def Mach.partCleared (p : Nat) (m : Mach) : Mach :=
  if m.pstate p ≠ 3 then m
  else
    let m1 := m.clearDone p
    if m1.boot.restart = some p then m1.restartBegin p else m1

/-! ## Power (R85) with what it cuts -/

/-- PG_MAIN_LOSS: an open service session closes, a key burn is cut, and the core is lost (R85, R148, R437). -/
def Mach.mainLoss (c : MainSupply) (m : Mach) : Mach := if m.powered then m.svcClose.keyCut.pgMainLoss c else m.pgMainLoss c

/-- VBAK_LOSS: OFF from every state (R85); OTP, time and the supplies' presence are all that is left. -/
def Mach.vbakLoss (m : Mach) : Mach :=
  let c := if m.powered then m.keyCut else m
  { ({} : Mach) with
    sec := { slots := c.sec.slots, uid := c.sec.uid, ones := c.sec.ones }
    now := m.now, free := m.free
    timers := m.timers.filter (fun e => 1000 ≤ e.1 && e.1 < 3000)
    pwr := { pgMain := m.pwr.pgMain, vlinkOk := m.pwr.vlinkOk, coreWarn := m.pwr.coreWarn, pres := m.pwr.pres, cls := m.pwr.cls,
             presAt := m.pwr.presAt, stopped := m.pwr.stopped, classDue := m.pwr.classDue, presDue := m.pwr.presDue } }

/-- VBAK_RISE: WOAD, and straight on to BOOT where PG_MAIN is already true (R85, R89). -/
def Mach.backupRise (m : Mach) : Mach :=
  let m1 := m.vbakRise
  if m1.dev == .woad && m.dev == .off && m1.pwr.pgMain then m1.pgMainTrue else m1

end Sys2Proof.Machine
end

