-- ==== Sys2Proof/Machine/Queue.lean ====
section
/-! DEFINITION. The queue engine (R380 to R385): arbitration, the checks at dispatch, and the commands it executes. A command
keeps its place in its queue until it completes (R382). -/
namespace Sys2Proof.Machine

/-! ## A command in service -/

/-- The queue of a command in service. -/
def Serving.queue (s : Serving) : Nat := 4 * s.part + b2n s.urgent

/-- Replace or clear the command in service of one kind. -/
def Mach.setServing (urg : Bool) (s : Option Serving) (m : Mach) : Mach :=
  if urg then { m with urgent := s } else { m with normal := s }

/-- A command ends: its place and the reserved one are free, and its completion is posted (R382, R385). -/
def Mach.finish (s : Serving) (res detail : Nat) (m : Mach) : Mach :=
  let c := m.cq s.queue
  let m1 := ((m.setServing s.urgent none).setCq s.queue { c with cmds := c.cmds.erase s.desc }).emptied s.queue
  ((if s.desc.origin.isNone then m1.release s.part else m1).complete s.part s.desc res detail).urgWait s.queue

/-! ## Checks at dispatch (R380) -/

/-- Bit n of the channel mask of a command (R378). -/
def Desc.names (d : Desc) (n : Nat) : Bool := (d.arg (8 + n / 8) 1).testBit (n % 8)

/-- The channels that a command names, ascending. -/
def Desc.channels (d : Desc) : List Nat := (List.range 256).filter d.names

/-- The command-specific checks of R378 and R379: the result where one fails. -/
def Mach.preCheck (m : Mach) (p : Nat) (d : Desc) : Option Nat :=
  if 0x10 ≤ d.op && d.op ≤ 0x13 then
    if d.channels.isEmpty then some rBAD_PARAM
    else if d.channels.any (fun n => m.ownCh n != p) then some rNOT_OWNER else none
  else if d.op = 0x51 then
    if 2 < d.arg 8 1 || (d.arg 8 1 = 2 && d.arg 10 1 = 0) then some rBAD_PARAM else none
  else none

/-- The command result of a failed authentication (R442). -/
def authResult : Nat → Nat
  | 1 => rKEY_BLANK
  | 2 => rLOCKOUT
  | 3 => rAUTH_FAIL
  | _ => rREPLAY

/-- The checks of R380 on a command just taken into service; a failure ends it at once. -/
def Mach.dispatchChecks (s : Serving) (m : Mach) : Mach :=
  let d := s.desc
  match cmdRow d.op with
  | none => m.finish s rBAD_OP 0
  | some r =>
    if !r.runsIn m.dev then m.finish s rSTATE 0
    else
      let a := if d.auth then m.authCheck d.key d.ctr (d.bytes.take 48) (d.bytes.drop 48) (d.op + 256 * s.part) else (m, 0)
      if a.2 ≠ 0 then a.1.finish s (authResult a.2) 0
      else match a.1.preCheck s.part d with
      | some res => a.1.finish s res 0
      | none => a.1

/-- A command for another node is sent as a CMD frame; its head keeps its place (R376, R416). Of the checks of R380 the origin makes the
first; the target makes all, for its own state and resources (DEDUCED, log entry 41). -/
def Mach.sendRemote (s : Serving) (m : Mach) : Mach :=
  if !(cmdRow s.desc.op).any (fun r => r.runsIn m.dev) then m.finish s rSTATE 0
  else if m.denied s.desc.dest ≠ rOK then m.finish s (m.denied s.desc.dest) 0
  else
    let r := (m.setServing s.urgent none).nextTid
    let q := s.queue
    ((r.2.setCq q { r.2.cq q with out := some r.1 }).updLink (fun l => { l with txns := l.txns ++ [⟨r.1, s.desc.dest, m.now, none, some q⟩] })).sendTo
      s.desc.dest ttCMD r.1 (toLE 4 s.part ++ s.desc.bytes)

/-- The command executes on this node (R376, R416). -/
def Mach.isLocal (m : Mach) (d : Desc) : Bool := !d.remote || d.origin.isSome || (m.enumd && d.dest == m.node)

/-- Dispatch a queue's head: the place of its completion record is reserved (R385), and its checks are made (R380). -/
def Mach.take (p : Nat) (urg : Bool) (d : Desc) (m : Mach) : Mach :=
  let s : Serving := { part := p, urgent := urg, desc := d }
  let e := m.rq (4 * p + 2)
  let e' := { e with reserved := e.reserved + 1 }
  let m1 := if d.origin.isNone then m.setRq (4 * p + 2) { e' with hiwat := Nat.max e'.hiwat e'.level } else m
  let m2 := (m1.setCq s.queue { m1.cq s.queue with waitRaised := false }).setServing urg (some s)
  if m.isLocal d then m2.dispatchChecks s else m2.sendRemote s

/-! ## Arbitration (R383 to R385) -/

/-- The partition's event queue has a usable place (R385). -/
def Mach.hasRoom (m : Mach) (p : Nat) : Bool := (m.rq (4 * p + 2)).used < qCap 2

/-- A command that needs no place here, or has one (R385): that of a forwarded command is posted at its origin. -/
def Mach.mayGo (m : Mach) (p : Nat) (d : Desc) : Bool := d.origin.isSome || m.hasRoom p

/-- The partitions in ascending number, starting after one and wrapping (R383, R384). -/
def after (p : Nat) : List Nat := (List.range 16).map (fun i => (p + 1 + i) % 16)

/-- The command at the head of a queue of an ACTIVE partition that R385 does not hold. -/
def Mach.ready (m : Mach) (p : Nat) (urg : Bool) : Option Desc :=
  if m.pstate p ≠ 1 then none else (m.headWaits (4 * p + b2n urg)).filter (fun d => m.mayGo p d)

/-- The partition whose urgent command is dispatched next (R384). -/
def Mach.nextUrgent (m : Mach) : Option Nat :=
  (after m.lastUrgent).find? (fun p => (m.ready p true).isSome && m.f (PART_STAT.TOKENS p) != 0)

/-- D_p, in steps (R383). -/
def Mach.deficit (m : Mach) (p : Nat) : Nat := m.f (Q_DEF.DEF p)

/-- The weight as it acts (R343). -/
def Mach.weight (m : Mach) (p : Nat) : Nat := Nat.max 1 (m.f (PART_SVC.WEIGHT p))

/-- The steps of a command. -/
def Desc.steps (d : Desc) : Nat := match cmdRow d.op with
  | some r => r.steps
  | none => 1

/-- The head of p fits its deficit. -/
def Mach.fits (m : Mach) (p : Nat) : Option Desc := (m.ready p false).filter (fun d => d.steps ≤ m.deficit p)

/-- Serve a fitting head of p: the visit goes on with it (R383 step 2). -/
def Mach.serveNormal (p : Nat) (d : Desc) (m : Mach) : Mach :=
  ({ m.put (Q_DEF.DEF p) (m.deficit p - d.steps) with lastNormal := p, visiting := true }).take p false d

/-- The visits of the arbitration (R383): each adds the partition's weight, until a head fits. -/
def Mach.visits : Nat → Mach → Mach
  | 0, m => m
  | k + 1, m =>
    match (after m.lastNormal).find? (fun p => (m.ready p false).isSome) with
    | none => m
    | some p =>
      let m1 := { m.put (Q_DEF.DEF p) (m.deficit p + m.weight p) with lastNormal := p }
      match m1.fits p with
      | some d => m1.serveNormal p d
      | none => m1.visits k

/-- The next normal command by weighted deficit round robin (R383): the open visit goes on while a head fits. At most 16 rounds
of 16 visits give any head its steps. -/
def Mach.nextNormal (m : Mach) : Mach :=
  match (if m.visiting then m.fits m.lastNormal else none) with
  | some d => m.serveNormal m.lastNormal d
  | none => ({ m with visiting := false }).visits 272

/-- CMD_DISPATCH (R380, R383, R384): an urgent command first, between any two steps; else the next normal command once none is
in service. -/
def Mach.dispatch (m : Mach) : Mach :=
  if !m.powered || m.boot.held || m.urgent.isSome then m
  else
    match m.nextUrgent with
    | some p =>
      match m.ready p true with
      | some d => ({ (m.takeToken p).put QENG_STAT.UPART p with lastUrgent := p }).take p true d
      | none => m
    | none => if m.normal.isSome then m else m.nextNormal

/-! ## Execution (R378, R379, R382) -/

/-- Act on the command in service where it is the one that a row names: an urgent one goes first (R384). -/
def Mach.onCommand (op : Nat) (f : Serving → Mach → Mach) (m : Mach) : Mach :=
  match m.urgent with
  | some s => if s.desc.op = op then f s m else m
  | none =>
    match m.normal with
    | some s => if s.desc.op = op then f s m else m
    | none => m

/-- NOP (R377). -/
def Mach.cmdNop (s : Serving) (m : Mach) : Mach := m.finish s rOK 0

/-- Count the outcome of a channel command on one channel (R381). -/
def Serving.note (s : Serving) (n res : Nat) : Serving :=
  if res = rOK then { s with acted := s.acted + 1 }
  else { s with refused := some (s.refused.getD (n, res)) }

/-- The end of a channel command: RESULT and DETAIL (R381). -/
def Mach.chFinish (s : Serving) (m : Mach) : Mach :=
  match s.refused with
  | none => m.finish s rOK s.acted
  | some (n, r) => m.finish s (if s.acted = 0 then r else rPARTIAL) (s.acted + 65536 * n + 16777216 * r)

/-- One step of CH_START (R378): 64 channels; the fourth step ends it. Between two steps the engine dispatches an urgent command
that may go, and the step waits (R384). -/
def Mach.cmdChStart (s : Serving) (m : Mach) : Mach :=
  if 0 < s.done && m.nextUrgent.isSome then m.dispatch
  else
    let ns := s.desc.channels.filter (fun n => n / 64 == s.done)
    let r := ns.foldl (fun (acc : Mach × Serving) n =>
      let x := acc.1.submit n .host
      (x.1, acc.2.note n x.2)) (m, s)
    if s.done = 3 then r.1.chFinish r.2
    else r.1.setServing s.urgent (some { r.2 with done := s.done + 1 })

/-- A channel command of one step (R378): each named channel as a write of its trigger would; the odd channel of a DOUBLE pair is
refused (R182). -/
def Mach.cmdChannels (f : Nat → Mach → Mach) (s : Serving) (m : Mach) : Mach :=
  let r := s.desc.channels.foldl (fun (acc : Mach × Serving) n =>
    (f n acc.1, acc.2.note n (if acc.1.oddDouble n then rBAD_PARAM else rOK))) (m, s)
  r.1.chFinish r.2

/-- GOV_BUDGET_SET (R379, R302). -/
def Mach.cmdBudget (s : Serving) (m : Mach) : Mach :=
  let m2 := (m.put GOV_BUDGET.B (s.desc.arg 8 2)).refreshBudget
  m2.finish s rOK (m2.f GOV_BEFF.BEFF)

/-- SVC_OPEN (R379, R148). -/
def Mach.cmdSvcOpen (s : Serving) (m : Mach) : Mach := m.svcOpenSession.finish s rOK 0

/-- RETIRE_CLEAR (R379, R275). -/
def Mach.cmdRetireClear (s : Serving) (m : Mach) : Mach :=
  let r := m.retireClear (s.desc.arg 8 1) (s.desc.arg 9 1) (s.desc.arg 10 1)
  r.1.finish s rOK r.2

/-- End a hire command: a failed guard completes with BAD_PARAM and changes nothing (R466). -/
def Mach.hireFinish (s : Serving) (r : Option (Mach × Nat)) (m : Mach) : Mach :=
  match r with
  | none => m.finish s rBAD_PARAM 0
  | some x => x.1.finish s rOK x.2

/-- HIRE_OPEN (R466). -/
def Mach.cmdHireOpen (s : Serving) (m : Mach) : Mach := m.hireFinish s (m.hireOpen (s.desc.arg 8 4) (s.desc.arg 12 4))

/-- HIRE_CLOSE (R466). -/
def Mach.cmdHireClose (s : Serving) (m : Mach) : Mach := m.hireFinish s (m.hireClose (s.desc.arg 8 4))

/-- A report: STATE once the report counter has ended, BAD_PARAM for a bad argument or signing slot (R453, R480). -/
def Mach.cmdReport (rtype : Nat) (ok : Bool) (body : List Byte) (s : Serving) (m : Mach) : Mach :=
  if ctrEnded m.rptCtr then m.finish s rSTATE 0
  else if !ok || !m.signer s.part (s.desc.arg 12 1) then m.finish s rBAD_PARAM 0
  else
    let r := m.signReport rtype (s.desc.arg 12 1) s.part ((s.desc.bytes.drop 8).take 4) body
    r.1.finish s rOK r.2

/-- METER_REPORT (R480): at most 12 groups. -/
def Mach.cmdMeterReport (s : Serving) (m : Mach) : Mach :=
  let mask := s.desc.arg 16 4
  let k := countIf (fun i => mask.testBit i) (List.range 32)
  m.cmdReport 1 (1 ≤ k && k ≤ 12) (m.meterBody mask) s

/-- LEDGER_REPORT (R480): 1 to 24 entries from START. -/
def Mach.cmdLedgerReport (s : Serving) (m : Mach) : Mach :=
  let start := s.desc.arg 14 2
  let k := s.desc.arg 16 1
  m.cmdReport 2 (start ≤ 4095 && 1 ≤ k && k ≤ 24) (m.ledgerBody start k) s

/-- LOCKOUT_CLEAR (R447). -/
def Mach.cmdLockoutClear (s : Serving) (m : Mach) : Mach :=
  let mask := s.desc.arg 8 1
  if mask = 0 || mask % 2 = 1 || 64 ≤ mask then m.finish s rBAD_PARAM 0
  else
    let r := m.lockoutClear mask
    r.1.finish s rOK r.2

/-! ## Pops (R391, R392) -/

/-- The effect of a write of EVQ_POP or LDQ_POP: COUNT records of the queue are removed. -/
def Mach.popHook (w : Who) (kind : Nat) (d : Word) (m : Mach) : Mach :=
  match w.rights with
  | some p => m.pop (4 * p + kind) (getF d 0 8)
  | none => m

/-- The effect of CLRHI (R396). -/
def Mach.clearHi (q : Nat) (m : Mach) : Mach :=
  if q % 4 < 2 then m.setCq q { m.cq q with hiwat := (m.cq q).cmds.length }
  else m.setRq q { m.rq q with hiwat := (m.rq q).level }

end Sys2Proof.Machine
end

