-- ==== Sys2Proof/Machine/Live.lean ====
section
/-! DEFINITION. Reads: the words that report a present condition, the words of the channel and always-on windows, and a word read
from a port (R29 to R32, R38, R48 to R52, R113, R335, R488, R515). -/
namespace Sys2Proof.Machine

/-! ## Pins other than the OUT pins (R65, R66) -/

/-- The pin groups of R66 beside the OUT pins; `control` is HALT_N, RESET_N, the straps and the TAP's inputs. -/
inductive PinGroup where
  | echo | ref | xtal | linkTx | linkRx | host | irq | flash | control | tdo | sentinel
  deriving DecidableEq, Repr

/-- What the pins of a group do, in the words of R66; `service` is a service-path access (note d). -/
inductive PinMode where
  | z | pullDown | input | osc | electricalIdle | link | test | released | host | low | map | bootRead | idle | service | sentinel
  deriving DecidableEq, Repr

/-- What a pin group does in a powered state. TDO is driven only in the TAP's shift states, which no command enters (R65); while the core
reset is held the flash pins are as RESET_N leaves them. -/
def Mach.poweredMode (m : Mach) : PinGroup → PinMode
  | .echo => if m.dev == .teasel then .test else .pullDown
  | .ref | .control => .input
  | .xtal => .osc
  | .linkTx =>
    if m.dev == .teasel then .test else if m.dev == .run || (m.dev == .ochre && m.locked) then .link else .electricalIdle
  | .linkRx => if m.dev == .teasel then .test else .input
  | .host => if m.hostUp then .host else .released
  | .irq => if m.hostUp && m.dev != .config then .map else .low
  | .flash => if m.dev == .boot && !m.boot.held then .bootRead else if m.fb SVC_STAT.BUSY then .service else .idle
  | .tdo => .z
  | .sentinel => .sentinel

/-- What a pin group does now (R66). -/
def Mach.groupMode (m : Mach) (g : PinGroup) : PinMode :=
  if m.powered then m.poweredMode g else if m.dev == .woad && g == .sentinel then .sentinel else .z

/-- A 32-bit map of the indices 32i to 32i + 31 for which a test holds. -/
def bitMap (i : Nat) (p : Nat → Bool) : Nat := (List.range 32).foldl (fun a b => if p (32 * i + b) then a + 2 ^ b else a) 0

/-- DEV_STATE.STATE (R127). -/
def Dev.code : Dev → Nat
  | .off => 0
  | .woad => 1
  | .boot => 2
  | .config => 3
  | .arming => 4
  | .run => 5
  | .ochre => 6
  | .teasel => 7

/-- DEV_STATE as it reads (R127). -/
def Mach.devState (m : Mach) : Nat :=
  m.dev.code + 16 * m.boot.step + 256 * b2n m.boot.precfg + 512 * b2n m.boot.onboot + 1024 * b2n m.armed + 4096 * m.boot.cause

/-- The live words of the global block; PIN_LVL shows WAKE_OUT here, and its other bits at the read. -/
def Mach.liveGlobal (m : Mach) (addr : Nat) : Option Nat :=
  match addr with
  | 0x000140 => some (m.boot.straps.toNat + 256 * (0x58 + m.boot.straps.toNat % 4))
  | 0x000148 => some (4 * m.f SENT_STAT.WAKE)
  | 0x000200 => some m.pwrStat
  | 0x000208 => some m.pwr.pres.toNat
  | 0x000210 => some ((List.range 16).foldl (fun a k => a + 4 ^ k * m.bankClass k) 0)
  | 0x000300 => some m.devState
  | _ => (aonAlias addr).map (fun off => (m.aw off).toNat)

/-- The live words of the root block: timers count down as they are read. -/
def Mach.liveRoot (m : Mach) (addr : Nat) : Option Nat :=
  if addr = 0x010310 then some m.rootStat.toNat
  else if addr = 0x010324 then some m.holdTime
  else if addr = 0x01031C && m.fb ROOT_STAT.HIST_VALID then some (unsign 32 m.holdAvg)
  else if addr = 0x010208 then some (setF (m.reg addr) 8 8 (unitsLeft m.now (m.f SEL_STAT.WTR_LEFT) 200000000 m.root.wtrAt)).toNat
  else if addr < 0x010140 && addr % 0x20 = 0x10 then
    let i := (addr - 0x010010) / 0x20
    some (setF (m.reg addr) 8 8 (unitsLeft m.qualNow (m.f (REF_STAT.QUAL_LEFT i)) 20000000 (cget (fun _ => 0) m.root.qualAt i))).toNat
  else none

/-- IND_LOCK and IND_STAT for a reader (R49, R54). -/
def Mach.liveWindow (m : Mach) (x : Win) (w : Who) (o : Nat) : Option Nat :=
  let v := m.win x
  if o = 0xC then
    some (match v.holder with
      | none => 0
      | some h => 3 * b2n (m.holds x w) + 256 * (if h < 16 then h else 0) + 4096 * b2n (!m.holds x w) + 8192 * b2n (h == 16))
  else if o = 0x10 then some (setF (m.reg (winBase x + 0x10)) 0 5 v.staged.length).toNat
  else none

/-- The live words of the group block. -/
def Mach.liveGroup (m : Mach) (addr : Nat) : Option Nat :=
  if addr < 0x030400 && addr % 0x20 = 0x18 then
    some (setF (m.reg addr) 10 1 (b2n (m.grp ((addr - 0x030000) / 0x20)).holder.isSome)).toNat
  else if 0x030400 ≤ addr && addr < 0x030480 then
    let q := m.grp ((addr - 0x030400) / 4)
    some (setF (setF (m.reg addr) 0 2 (3 * b2n q.holder.isSome)) 16 7 q.staged.length).toNat
  else none

/-- The live words of the output block. -/
def Mach.liveOutput (m : Mach) (addr : Nat) : Option Nat :=
  if addr = 0x040104 then some (setF (m.reg addr) 2 1 (b2n ((List.range 256).any m.gated))).toNat
  else if 0x040110 ≤ addr && addr < 0x040130 then some (bitMap ((addr - 0x040110) / 4) m.gated)
  else none

/-- The live words of the monitor block: copies of the retired list with its causes (R273, R513; DEDUCED, log entry 37), resyncs of the last W (R267), the borrowed lane. -/
def Mach.liveMonitor (m : Mach) (addr : Nat) : Option Nat :=
  if addr = 0x050008 then
    some (match m.laneUnder with
      | some l => (setF (setF (m.reg addr) 16 4 l.val) 20 1 1).toNat
      | none => (m.reg addr).toNat)
  else if 0x050100 ≤ addr && addr < 0x050120 then some (m.retMap ((addr - 0x050100) / 4))
  else if 0x050120 ≤ addr && addr < 0x050140 then some (m.rbtMap ((addr - 0x050120) / 4))
  else if addr = 0x050140 then some (getF (m.aw 0x1800) 0 8)
  else if 0x051000 ≤ addr && addr < 0x052000 && addr % 16 = 0 then
    let n := (addr - 0x051000) / 16
    let e := m.aw (0x1000 + 8 * n)
    some (setF (setF (setF (m.reg addr) 10 2 (getF e 0 2)) 20 4 (getF e 4 4)) 16 4 (Nat.min 15 (m.recentResyncs n))).toNat
  else none

/-- The live words of the partition block (R339, R345). -/
def Mach.livePart (m : Mach) (addr : Nat) : Option Nat :=
  if addr < 0x080400 || 0x080600 ≤ addr then none
  else
    let p := (addr - 0x080400) / 0x20
    if addr % 0x20 = 0xC then some (setF (m.reg addr) 8 9 (m.chLeft p)).toNat
    else if addr % 0x20 = 0x10 then some (m.istat p) else none

/-- Q_STAT_q as it reads (R396): LEVEL, HIWAT, LOST, WMHIT and BLOCKED are present conditions. -/
def Mach.qStat (m : Mach) (q : Nat) : Nat :=
  let base := 2 ^ 25 * m.f (Q_STAT.REFUSED q)
  if q % 4 < 2 then
    base + (m.cq q).cmds.length + 256 * (m.cq q).hiwat + 2 ^ 26 * b2n (!m.hasRoom (q / 4))
  else base + (m.rq q).level + 256 * (m.rq q).hiwat + 65536 * (m.rq q).lost + 2 ^ 24 * b2n (m.atMark q)

/-- A word of the head record of a queue; zero when it is empty (R392). -/
def Mach.headWord (m : Mach) (q i : Nat) : Nat :=
  match (m.rq q).recs with
  | [] => 0
  | x :: _ => ([x.w0, x.w1, x.w2, x.w3].getD i 0).toNat

/-- QENG_STAT as it reads (R396). -/
def Mach.qengStat (m : Mach) : Nat :=
  b2n (m.actRuns .qeng) + 2 * b2n m.urgent.isSome + 4 * b2n m.normal.isSome + 256 * (m.normal.elim 0 Serving.part)
    + 4096 * m.f QENG_STAT.UPART

/-- The live words of the queue block for a reader of instance p. -/
def Mach.liveQueue (m : Mach) (p addr : Nat) : Option Nat :=
  if addr < 0x090200 && addr % 8 = 4 then some (m.qStat ((addr - 0x090000) / 8))
  else if 0x090480 ≤ addr && addr < 0x090490 then some (m.headWord (4 * p + 2) ((addr - 0x090480) / 4))
  else if 0x0904A0 ≤ addr && addr < 0x0904B0 then some (m.headWord (4 * p + 3) ((addr - 0x0904A0) / 4))
  else if addr = 0x090500 then some m.qengStat else none

/-- KEY_FAIL_k as it reads: the seconds left count down (R446). -/
def Mach.keyFail (m : Mach) (k : Nat) : Nat := (setF (setF (m.lockWord k) 0 4 (m.failCount k)) 16 16 (m.lockLeft k)).toNat

/-- The live words of the security block (R458). -/
def Mach.liveSecurity (m : Mach) (addr : Nat) : Option Nat :=
  let i := addr % 0x100 / 4
  if addr = 0x0B0000 then some (m.sec.uid % 2 ^ 32)
  else if addr = 0x0B0004 then some (m.sec.uid / 2 ^ 32)
  else if addr = 0x0B0010 then some m.keyStat
  else if addr = 0x0B0014 then some m.keyEpoch
  else if 0x0B0020 ≤ addr && addr < 0x0B0038 then some (m.kcv (i - 8))
  else if 0x0B0044 ≤ addr && addr < 0x0B0058 then some (m.storedCtr (i - 16))
  else if 0x0B0064 ≤ addr && addr < 0x0B0078 then some (m.keyFail (i - 24))
  else if addr = 0x0B0090 then some m.rptCtr
  else if 0x0B0100 ≤ addr && addr < 0x0B0110 then some 0
  else if addr = 0x0B0114 then some (setF (m.reg addr) 0 1 (b2n m.sec.burning.isSome)).toNat else none

/-- MTR_STAT_m as it reads: the present decisions of R463. -/
def Mach.mtrStat (m : Mach) (i : Nat) : Nat :=
  let run := m.f (MTR_STAT.STATE i) != 0
  m.f (MTR_STAT.STATE i) + 4 * m.f (MTR_STAT.ENHELD i) + 8 * b2n (run && m.mtrRuns i) + 16 * b2n (run && m.mtrQual i)
    + 256 * (m.members i).length + 2 ^ 17 * m.mtrQuals i

/-- The live words of the always-on block. -/
def Mach.liveAon (m : Mach) (addr : Nat) : Option Nat :=
  if 0x0C0080 ≤ addr && addr < 0x0C0100 then some (m.mtrStat ((addr - 0x0C0080) / 4)) else (aonAlias addr).map (fun off => (m.aw off).toNat)

/-- The live words of the fault blocks: FLT_SUM, and the pending raw events and escalation time left in FLT_CUR (R282, R294, R298). -/
def Mach.liveFault (m : Mach) (p addr : Nat) : Option Nat :=
  let b := (addr - 0x060000) / 0x400
  let c := (addr % 0x400 - 0x300) / 4
  if addr = 0x06F000 then some (if p < 16 then m.fltSum p else 0)
  else if b < 14 && 0x300 ≤ addr % 0x400 then
    some (setF (setF (m.reg (addr + p * instSpan)) 4 4 (m.rawsIn b c p).length) 16 16 (m.escLeft b c p)).toNat
  else none

/-- A word that is computed at the read; `p` is the reader's instance. -/
def Mach.liveAt (m : Mach) (w : Who) (p addr : Nat) : Option Nat :=
  match addr / 0x10000 with
  | 0 => m.liveGlobal addr
  | 1 => m.liveRoot addr
  | 2 =>
    if addr < 0x020020 then some (bitMap ((addr - 0x020000) / 4) (fun n => m.chst n != 0))
    else if addr < 0x020040 then some (bitMap ((addr - 0x020020) / 4) (fun n => m.tw n 9 != 0))
    else m.liveWindow .chan w (addr - 0x02E000)
  | 3 => m.liveGroup addr
  | 4 => m.liveOutput addr
  | 5 => m.liveMonitor addr
  | 6 => m.liveFault p addr
  | 8 => m.livePart addr
  | 9 => m.liveQueue p addr
  | 10 => if addr = 0x0A0004 then some (setF (m.reg addr) 24 1 (b2n m.isN0)).toNat else none
  | 11 => m.liveSecurity addr
  | 12 => if 0x0CE000 ≤ addr then m.liveWindow .aon w (addr - 0x0CE000) else m.liveAon addr
  | 15 => if addr = 0x0F0000 then some (setF (m.reg addr) 16 16 (Nat.min 65535 ((m.now - m.test.entry) / 200000000))).toNat else none
  | _ => none

/-- Whether the device waits with a CLOCK one-shot for a trigger (R200). -/
def Mach.shotArmed (m : Mach) (n : Nat) : Bool := m.chst n = 2 && (rollShot (m.ch n) m.fine).pulse.isNone

/-- Word `w` of channel n's table as it reads: CH_STAT, CH_CNT and the mirrors of CH_PIN report the present. -/
def Mach.chRead (m : Mach) (n w : Nat) : Word :=
  match w with
  | 8 => if m.t n CH_CTL.MODE = 2 then setF (m.tw n 8) 5 1 (b2n (m.shotArmed n)) else m.tw n 8
  | 10 => word (m.edges n)
  | 14 => setF (setF (setF (m.tw n 14) 4 1 (m.f (PGPO.BIT n))) 17 1 (b2n (m.gated n))) 19 1 (b2n (m.vok (bankOf n)))
  | _ => m.tw n w

/-- A word of the channel window (R48, R202): a spare's table reads the words of the channel it hosts. -/
def Mach.tblRead (m : Mach) (e w : Nat) : Word :=
  if e < 256 then m.chRead e w
  else match m.hosted (e - 256) with
  | none => if w = 8 || w = 9 || w = 10 then m.tw e w else 0
  | some n =>
    if w = 8 then setF (setF (m.chRead n 8) 16 9 e) 26 1 (m.t e CH_STAT.SELFCHK) else if w = 9 then m.tw e 9 else m.chRead n w

/-- A word of the always-on window (R512). -/
def Mach.aonRead (m : Mach) (off : Nat) : Word :=
  if 0x3024 ≤ off && off ≤ 0x3034 then word (m.keyFail ((off - 0x3020) / 4)) else m.aw off

/-- A read of IND_DATA or its alias (R49, R50, R52, R514). -/
def Mach.winRead (x : Win) (w : Who) (port : Port) (addr : Nat) (m : Mach) : Word × Mach :=
  let off := m.f (IND_ADDR.OFF (winBase x))
  if m.winShut x w then (0, m.accErr w port addr cWINDOW)
  else if off % 4 ≠ 0 then (0, (m.accErr w port addr cALIGN).winStep x)
  else if !winWord x off then (0, (m.accErr w port addr cUNMAPPED).winStep x)
  else ((match x with
    | .chan => m.tblRead (off / 64) (off % 64 / 4)
    | .aon => m.aonRead off), m.winStep x)

/-- The reader may see OWN fields: a master acting for P0 or link-secure, and in TEASEL any master at the registers open there
(R38, R450). -/
def Mach.seesOwn (m : Mach) (w : Who) (addr : Nat) : Bool := w.isP0 || m.teaselOpen addr

/-- An unbound master may read a register: those of the global block, its port's own once a partition exists, and in TEASEL those
open there (R113, R335, R450, R516). -/
def Mach.unboundReads (m : Mach) (r : Row) (addr : Nat) : Bool :=
  addr < 0x010000 || (r.inst == .port && m.anyInst) || m.teaselOpen addr

/-- Bank k stopped in the 2.5 V or 3.3 V class and has not recovered: its supply may lie above or below 1.55 V (R93, R98). -/
def Mach.classOpen (m : Mach) (k : Nat) : Bool :=
  m.pwr.stopped.getLsbD k && !m.pwr.classDue.getLsbD k && !m.pwr.presDue.getLsbD k && 2 ≤ m.bankClass k

/-- What no command brings is free at each read (DESIGN CHOICE, log entry 5): in PIN_LVL the levels of HALT_N before its glitch
filter, of PPS_IN and of the straps (R82); in BANK_CLASS whether the supply of a stopped bank has fallen below 1.55 V, where the field
reads absent (R98). -/
def Mach.seenWord (m : Mach) (x : Word) (addr : Nat) (v : Word) : Word :=
  if addr = 0x000148 then setF (setF v 0 2 (getF x 0 2)) 3 5 (getF x 3 5)
  else if addr = 0x000210 then (List.range 16).foldl (fun a k => if m.classOpen k && x.getLsbD k then setF a (2 * k) 2 0 else a) v
  else v

/-- The value of a register for a reader that may read it. -/
def Mach.regRead (w : Who) (a : Acc) (r : Row) (addr : Nat) (m : Mach) : Word × Mach :=
  let key := instKey r w a addr
  if w == .sec && r.inst == .bank && addr / 0x10000 = 6 && addr != 0x06FFF0 then (0, m)
  else
    let v := match m.liveAt w (key / instSpan) addr with
      | some x => word x
      | none => m.reg key
    let v' := if m.seesOwn w addr then v else v &&& ~~~ (word r.own)
    if addr = 0x000148 || addr = 0x000210 then (m.seenWord m.draw.1 addr v', m.draw.2) else (v', m)

/-- A word read from a port: its value, and its side effects. -/
def Mach.busRead (a : Acc) (addr : Nat) (m : Mach) : Word × Mach :=
  let w := m.bind a
  let m := m.unmarked
  if !m.hostUp then (0, m)
  else if addr % 4 ≠ 0 then (0, m.accErr w a.port addr cALIGN)
  else if addr / 0x10000 = 15 && m.dev != .teasel then (0, m.accErr w a.port addr cUNMAPPED)
  else match rowOf addr with
  | none => (0, m.accErr w a.port addr cUNMAPPED)
  | some r =>
    if w == .unbound && !m.unboundReads r addr then (0, m)
    else match winOf addr with
    | some x =>
      let o := addr - winBase x
      let e := if o = 4 || 0x400 ≤ o then m.winRead x w a.port addr
        else if o = 0 && !m.holds x w then (0, m.accErr w a.port addr cWINDOW)
        else m.regRead w a r addr
      (e.1, (e.2.winTouch x w).grpTouch w addr)
    | none =>
      let e := m.regRead w a r addr
      (e.1, e.2.grpTouch w addr)

end Sys2Proof.Machine
end

