-- ==== Sys2Proof/Machine/Host.lean ====
section
/-! DEFINITION. The host ports (chapter 15): SPI frames with their segments, cuts and responses, I2C transfers, and the execution
of remote requests that arrive by the link. `run` works off the consequences of one word before the next (R354). -/
namespace Sys2Proof.Machine

/-- The access that a port's TAG byte makes for its own host. -/
def hostAcc (port : Port) (tagv : Bool) (part : Nat) : Acc :=
  { port := port, tagv := tagv, part := BitVec.ofNat 4 part |>.toFin, src := 0, opart := 0, sec := false }

/-- The access of a remote request (R411). -/
def linkAcc (src : Nat) (opart : Nat) (tag : Nat) (sec : Bool) : Acc :=
  { port := .link, tagv := 128 ≤ tag, part := BitVec.ofNat 4 tag |>.toFin, src := BitVec.ofNat 6 src |>.toFin,
    opart := BitVec.ofNat 4 opart |>.toFin, sec := sec }

/-- The address of word i of a burst (R351). -/
def burstAddr (fix : Bool) (addr i : Nat) : Nat := if fix then addr else addr + 4 * i

/-! ## SPI (R349 to R360) -/

/-- Change the SPI target's state. -/
def Mach.updSpi (f : Spi → Spi) (m : Mach) : Mach := { m with spi := f m.spi }

/-- The access of the frame in progress. -/
def Spi.access (s : Spi) : Acc := hostAcc .spi s.tagv s.part

/-- Record a frame's result (R358): SPI_STAT and SPI_CNT. -/
def Mach.spiResult (rsp nc : Nat) (m : Mach) : Mach :=
  let m1 := (m.put SPI_STAT.RSP rsp).put SPI_STAT.NC nc
  let m2 := match rsp with
    | 1 => m1.put SPI_STAT.HDR_CRC 1
    | 2 | 3 => m1.put SPI_STAT.FORMAT 1
    | 4 => m1.put SPI_STAT.SEG_CRC 1
    | 5 => m1.put SPI_STAT.ABORT 1
    | _ => m1
  if rsp = 0 then m2.put SPI_CNT.FRAMES (m2.f SPI_CNT.FRAMES + 1)
  else m2.put SPI_CNT.ERRS (satInc 65535 (m2.f SPI_CNT.ERRS))

/-- The trailer of a frame (R356). -/
def trailer (rsp flags nc : Nat) : List Byte :=
  let b := toLE 1 rsp ++ toLE 1 flags ++ toLE 2 nc
  b ++ [b.foldl (fun a x => a ^^^ x) 0xFF]

/-- The FLAGS byte of a frame. -/
def Spi.flags (s : Spi) : Nat := b2n s.acc + 2 * b2n s.ign + 4 * b2n s.unb

/-- The frame is answered with NAK (R357). -/
def Mach.spiNak (rsp nc : Nat) (m : Mach) : Mach :=
  (m.updSpi (fun s => { s with phase := 2, out := [0x3C] })).spiResult rsp nc

/-- SPI_HEADER (R350 to R352, R357): the header is checked; a failure leaves nothing of the frame in effect. -/
def Mach.spiHeader (bytes : List Byte) (m : Mach) : Mach :=
  if !m.hostUp || m.spi.phase = 1 || bytes.length ≠ 8 then m
  else
    let cmd := byteAt bytes 0
    let tag := byteAt bytes 1
    let crc := crc16 (bytes.take 6)
    let rd : Bool := 128 ≤ cmd
    let seg := cmd / 16 % 4
    let fix := getF (word tag) 6 1 == 1
    let addr := fieldAt bytes 2 3
    let len := byteAt bytes 5
    if fieldAt bytes 6 2 ≠ crc then (m.spiNak 1 0).raise fSpiCrc 0 (word (fieldAt bytes 6 2))
    else if cmd / 64 % 2 = 1 || cmd % 16 ≠ 10 || tag / 16 % 4 ≠ 0 || (rd && seg != 0) then m.spiNak 2 0
    else if !fix && 0xFFFFFC < addr + 4 * len then m.spiNak 3 0
    else
      let s : Spi := { phase := 1, rd := rd, seg := seg, tagv := 128 ≤ tag, fix := fix, part := tag % 16, addr := addr, len := len + 1, crc := crc }
      { m with spi := { s with unb := m.bind s.access == .unbound } }

/-- The words of the segment that comes next (R353). -/
def Spi.segWords (s : Spi) : Nat :=
  let k := match s.seg with
    | 0 => s.len
    | 1 => 1
    | 2 => 4
    | _ => 16
  Nat.min k (s.len - s.pos)

/-- One word of a passing segment goes through R33; a core reset that it brings about ends the frame (R354, R360). -/
def Mach.spiWord (run : Mach → Mach) (d : Word) (m : Mach) : Mach :=
  if m.spi.phase ≠ 1 then m
  else
    let s := m.spi
    let u := m.bind s.access == .unbound
    let m1 := run (m.busWrite s.access (burstAddr s.fix s.addr s.pos) d)
    if m1.spi.phase ≠ 1 then m1
    else m1.updSpi (fun x => { x with pos := x.pos + 1, acc := x.acc || m1.accFlag, ign := x.ign || m1.ignFlag, unb := x.unb || u })

/-- The end of a write frame whose last segment has passed (R356). -/
def Mach.spiWritten (m : Mach) : Mach :=
  if m.spi.phase = 1 && m.spi.pos = m.spi.len then
    (m.updSpi (fun s => { s with phase := 0, out := 0xA5 :: trailer 0 s.flags s.len })).spiResult 0 m.spi.len
  else m

/-- SPI_SEGMENT (R353, R354, R357): the CRC of a write segment arrives, and its words commit or NAK is sent. -/
def Mach.spiSegment (run : Mach → Mach) (words : List Word) (crc : Nat) (m : Mach) : Mach :=
  let s := m.spi
  if !m.hostUp || s.phase ≠ 1 || s.rd || words.length ≠ s.segWords then m
  else
    let c := (words.flatMap wordBytes).foldl crc16Byte s.crc
    if c ≠ crc then (m.spiNak 4 s.pos).raise fSpiCrc 0 (word crc)
    else (words.foldl (fun t d => t.spiWord run d) (m.updSpi (fun x => { x with crc := c }))).spiWritten

/-- Fetch the words of a read burst, in order (R355): the words, and the machine. -/
def Mach.fetch (a : Acc) (fix : Bool) (addr : Nat) : Nat → Mach → List Word × Mach
  | 0, m => ([], m)
  | k + 1, m =>
    let r := m.busRead a addr
    let u := r.2.updSpi (fun x => { x with acc := x.acc || r.2.accFlag, ign := x.ign || r.2.ignFlag })
    let t := Mach.fetch a fix (burstAddr fix addr 1) k u
    (r.1 :: t.1, t.2)

/-- A frame is cut (R359). -/
def Mach.spiCut (nc : Nat) (m : Mach) : Mach :=
  ((m.updSpi (fun s => { s with phase := 0, out := [] })).spiResult 5 nc).raise fSpiAbort 0 (word nc)

/-- SPI_READ_FRAME (R355, R356, R359): the words are fetched and returned with SYNC, DCRC and the trailer; or SPI_CS_N rises when
`cut.1` words have been fetched and `cut.2` sent. -/
def Mach.spiRead (cut : Option (Nat × Nat)) (m : Mach) : Mach :=
  let s := m.spi
  if !m.hostUp || s.phase ≠ 1 || !s.rd then m
  else
    let k := cut.elim s.len (fun c => Nat.min s.len c.1)
    let r := Mach.fetch s.access s.fix s.addr k m
    match cut with
    | some c => r.2.spiCut (Nat.min k c.2)
    | none =>
      let data := r.1.flatMap wordBytes
      (r.2.updSpi (fun x => { x with phase := 0, out := 0xA5 :: (data ++ toLE 2 (crc16 data) ++ trailer 0 x.flags s.len) })).spiResult 0 s.len

/-- SPI_ABORT (R359): SPI_CS_N rises inside a frame, in its header or later; after a NAK the frame has already ended. -/
def Mach.spiAbort (m : Mach) : Mach :=
  if !m.hostUp then m
  else if m.spi.phase = 2 then m.updSpi (fun s => { s with phase := 0, out := [] })
  else m.spiCut (if m.spi.phase = 1 then m.spi.pos else 0)

/-! ## I2C (R361 to R365) -/

/-- The access of the pointer's TAG. -/
def Mach.i2cAcc (m : Mach) : Acc := hostAcc .i2c (128 ≤ m.f I2C_PTR.TAG) (m.f I2C_PTR.TAG % 16)

/-- The pointer advances by 4 with FIX = 0; past the last address it wraps (DESIGN CHOICE, log entry 6). -/
def Mach.i2cNext (m : Mach) : Mach := if getF (word (m.f I2C_PTR.TAG)) 6 1 = 1 then m else m.put I2C_PTR.ADDR (m.f I2C_PTR.ADDR + 4)

/-- Count bytes of the transfer; the count saturates. -/
def Mach.i2cCount (n : Nat) (m : Mach) : Mach := m.put I2C_STAT.BYTES (Nat.min 65535 n)

/-- I2C_WRITE_HEADER (R362): TAG and ADDR load the pointer; a TAG with reserved bits is not acknowledged. -/
def Mach.i2cHeader (tag addr : Nat) (m : Mach) : Mach :=
  if !m.hostUp then m
  else if tag / 16 % 4 ≠ 0 then
    { (m.put I2C_STAT.TAGNAK 1).i2cCount 1 with i2c := { m.i2c with writing := false } }
  else { (((m.put I2C_PTR.ADDR addr).put I2C_PTR.TAG tag).i2cCount 4) with i2c := { m.i2c with writing := true } }

/-- I2C_WRITE_GROUP (R362): four data bytes are one word access at the pointer. -/
def Mach.i2cGroup (run : Mach → Mach) (d : Word) (m : Mach) : Mach :=
  if !m.hostUp || !m.i2c.writing then m
  else
    let m1 := (m.i2cCount (m.f I2C_STAT.BYTES + 4)).i2cNext
    run (m1.busWrite m.i2cAcc (m.f I2C_PTR.ADDR) d)

/-- I2C_READ_WORD (R363, R364): the word at the pointer is fetched as its first byte is due; `bytes` of it are sent before the
master ends the transfer, and `first` marks the first word of one. -/
def Mach.i2cRead (first : Bool) (bytes : Nat) (m : Mach) : Mach :=
  if !m.hostUp then m
  else
    let r := m.busRead m.i2cAcc (m.f I2C_PTR.ADDR)
    { (r.2.i2cNext.i2cCount ((if first then 0 else m.f I2C_STAT.BYTES) + Nat.min 4 bytes)) with i2c := { writing := false, out := r.1 } }

/-- A cut transfer's partial group is discarded with cause WIDTH (R30, R365). -/
def Mach.i2cDiscard (m : Mach) : Mach := m.accErr (m.bind m.i2cAcc) .i2c (m.f I2C_PTR.ADDR) cWIDTH

/-- A transfer is cut short after `bytes` bytes (R365, R368): the payload's 16 bits saturate as I2C_STAT.BYTES does (R297). -/
def Mach.i2cCut (flag : Fld) (bytes : Nat) (m : Mach) : Mach :=
  ({ ((m.put flag 1).i2cCount bytes) with i2c := { m.i2c with writing := false } }).raise fI2cAbort 1 (word (Nat.min 65535 bytes))

/-- I2C_ABORT (R365): a write transfer ends inside its header (`hdr`) or, once a header has been taken, inside a data group,
after `bytes` bytes. -/
def Mach.i2cAbort (bytes : Nat) (hdr : Bool) (m : Mach) : Mach :=
  if !m.hostUp || (!hdr && !m.i2c.writing) then m
  else (if hdr then m else m.i2cDiscard).i2cCut I2C_STAT.ABORT bytes

/-- I2C_TIMEOUT (R365): with HOST_CFG.I2C_TO = 1 the transfer is abandoned; a write's partial group is discarded. -/
def Mach.i2cTimeout (bytes : Nat) (m : Mach) : Mach :=
  if !m.hostUp || !m.fb HOST_CFG.I2C_TO then m
  else
    (if m.i2c.writing && 4 < bytes && bytes % 4 ≠ 0 then m.i2cDiscard else m).i2cCut I2C_STAT.TIMEOUT bytes

/-! ## Remote requests (R411 to R413, R415) -/

/-- The words of a remote write, with the flags gathered in `acc` and `ign`. -/
def Mach.linkWrites (run : Mach → Mach) (a : Acc) (fix : Bool) (addr : Nat) : List Word → Bool × Bool × Mach → Bool × Bool × Mach
  | [], s => s
  | d :: t, s =>
    let m1 := run (s.2.2.busWrite a addr d)
    Mach.linkWrites run a fix (burstAddr fix addr 1) t (s.1 || m1.accFlag, s.2.1 || m1.ignFlag, m1)

/-- The words of a remote read, with the flags likewise. -/
def Mach.linkReads (a : Acc) (fix : Bool) (addr : Nat) : Nat → Bool × Bool × Mach → List Word × Bool × Bool × Mach
  | 0, s => ([], s)
  | k + 1, s =>
    let r := s.2.2.busRead a addr
    let t := Mach.linkReads a fix (burstAddr fix addr 1) k (s.1 || r.2.accFlag, s.2.1 || r.2.ignFlag, r.2)
    (r.1 :: t.1, t.2)

/-- RREQ (R413, R415): a remote request is executed and answered; a duplicate is discarded. A target in a WARM stop phase, or
one that does not serve hosts, answers DOMAIN_DOWN. -/
def Mach.rreq (run : Mach → Mach) (f : Frame) (m : Mach) : Mach :=
  let r := m.dupCheck f
  if r.1 then m
  else if r.2.boot.stop || !r.2.hostUp then r.2.sendTo f.src ttRRSP f.tid (toLE 4 rDOMAIN_DOWN)
  else
    let b := f.payload
    let tag := byteAt b 1
    let a := linkAcc f.src (byteAt b 2) tag (getF (word (byteAt b 0)) 1 1 == 1)
    let fix := getF (word tag) 6 1 == 1
    let n := byteAt b 3 + 1
    let u := b2n (r.2.bind a == .unbound)
    let addr := fieldAt b 4 3
    if byteAt b 0 % 2 = 1 then
      let x := Mach.linkReads a fix addr n (false, false, r.2)
      x.2.2.2.sendTo f.src ttRRSP f.tid
        (toLE 4 (rOK + 256 * (b2n x.2.1 + 2 * b2n x.2.2.1 + 4 * u) + 65536 * n) ++ x.1.flatMap wordBytes)
    else
      let words := (List.range n).map (fun i => word (fieldAt b (8 + 4 * i) 4))
      let x := Mach.linkWrites run a fix addr words (false, false, r.2)
      x.2.2.sendTo f.src ttRRSP f.tid (toLE 4 (rOK + 256 * (b2n x.1 + 2 * b2n x.2.1 + 4 * u) + 65536 * n))

end Sys2Proof.Machine
end

