-- ==== Sys2Proof/Machine/Hooks.lean ====
section
/-! DEFINITION. What an accepted register write does beyond its word (R33 step 10): the triggers and effects of each block, by the
written address. `d` is the written word as the gates let it through, `old` and `new` the stored word before and after. -/
namespace Sys2Proof.Machine

/-- The global block. OWN words act only for a writer that may write them (R38). -/
def Mach.hookGlobal (w : Who) (addr : Nat) (d old new : Word) (m : Mach) : Mach :=
  match addr with
  | 0x000110 => m.wideHook w d
  | 0x000120 => m.crcCtlHook d
  | 0x00012C => if m.seesOwn w addr then m.crcRefHook else m
  | 0x000220 => m.chgCtlHook old new
  | 0x000234 => m.gaugeHook d
  | 0x000304 => if m.seesOwn w addr then m.devCtl d else m
  | 0x000420 => if m.seesOwn w addr then m.svcHook d else m
  | _ => m

/-- The reference and root block. -/
def Mach.hookRoot (addr : Nat) (d old new : Word) (m : Mach) : Mach :=
  if addr < 0x010140 then (if addr % 0x20 = 0 then m.refCfgHook ((addr - 0x010000) / 0x20) old new else m)
  else if addr = 0x010200 || addr = 0x010204 then m.selEval
  else if addr = 0x010308 then m.holdCfgHook old new
  else if addr = 0x010400 && bitAt d 31 then m.put PPS_STAT.REJ 0 else m

/-- The group block. -/
def Mach.hookGroup (w : Who) (a : Acc) (addr : Nat) (d old new : Word) (m : Mach) : Mach :=
  if addr < 0x030400 then
    (match addr % 0x20 with
     | 0 => m.grpCfgHook (grpOf addr) old new
     | 4 | 8 | 12 => m.grpWordHook addr
     | _ => m)
  else if addr < 0x030480 then m.grpLockHook w a ((addr - 0x030400) / 4) d
  else if 0x031000 ≤ addr then m.grpWordHook addr else m

/-- The output block. -/
def Mach.hookOutput (w : Who) (addr : Nat) (d old new : Word) (m : Mach) : Mach :=
  if addr < 0x040040 then m.checkVok ((addr - 0x040000) / 4) false
  else if addr < 0x040080 then m.pgpoHook ((addr - 0x040040) / 4) w d old
  else if addr = 0x040100 then applyIf (bitAt d 9) Mach.haltClear m
  else if 0x040200 ≤ addr && addr < 0x040240 then m.haltModeHook ((addr - 0x040200) / 4) old new else m

/-- The monitor block. -/
def Mach.hookMonitor (w : Who) (port : Port) (addr : Nat) (d new : Word) (m : Mach) : Mach :=
  if addr = 0x050000 then applyIf (!bitAt new 0) Mach.trimHold m
  else if addr = 0x050004 then m.showSi
  else if addr = 0x050010 then m.monRequest w port d else m

/-- FLT_CTL.FF_CLR: FIRST_FAULT_b is clear. -/
def Mach.firstClear (b : Nat) (m : Mach) : Mach := forN 4 (fun i t => t.setReg (0x060020 + 0x400 * b + 4 * i) 0) m

/-- DEV_FLT_CTL.CLR: DEV_FIRST is clear. -/
def Mach.devFirstClear (m : Mach) : Mach := forN 4 (fun i t => t.setReg (0x06F010 + 4 * i) 0) (m.setReg 0x06F004 0)

/-- The fault block (R288, R291). -/
def Mach.hookFault (w : Who) (addr : Nat) (d old new : Word) (m : Mach) : Mach :=
  if addr = 0x06F020 then applyIf (bitAt d 0) Mach.devFirstClear m
  else if 0x063800 ≤ addr then m
  else
    let b := (addr - 0x060000) / 0x400
    let o := addr % 0x400
    if o = 0 then m.ackBits b w.inst (d &&& old)
    else if o = 0xC then
      let m1 := applyIf (bitAt d 0) (Mach.ackAll b) m
      applyIf (bitAt d 1) (Mach.firstClear b) m1
    else if 0x200 ≤ o && o < 0x280 then m.fltCfgChanged b ((o - 0x200) / 4) old new else m

/-- The governor block (R302 to R304). -/
def Mach.hookGovernor (addr : Nat) (m : Mach) : Mach :=
  if addr = 0x070004 then m.refreshBudget
  else if addr = 0x070014 then m.showSi
  else if addr < 0x070010 || 0x070100 ≤ addr then m.showBudget else m

/-- The partition block. -/
def Mach.hookPartition (a : Acc) (addr : Nat) (d old new : Word) (m : Mach) : Mach :=
  if addr < 0x0800A8 then m.ownHook addr old new
  else if addr = 0x0800B0 then m.partEnHook old new
  else if addr = 0x080100 then m.orstHook d
  else if addr = 0x080320 then applyIf (bitAt d 0) (Mach.attach a.port (portInst a)) m
  else if addr = 0x080328 then m.unbindHook (portInst a) d
  else if 0x080400 ≤ addr && addr < 0x080600 then
    let p := (addr - 0x080400) / 0x20
    (match addr % 0x20 with
     | 0 => m.partCfgHook p old new
     | 4 => m.partSvcHook p
     | 8 => if bitAt d 0 then m.push (.partReset p prSELF) else m
     | _ => m)
  else m

/-- The queue block. -/
def Mach.hookQueue (w : Who) (port : Port) (addr : Nat) (d : Word) (m : Mach) : Mach :=
  if addr < 0x090200 then applyIf (addr % 8 = 4 && bitAt d 31) (Mach.clearHi ((addr - 0x090000) / 8)) m
  else if addr = 0x090440 then m.cmdPushHook w port d
  else if addr = 0x090490 then m.popHook w 2 d
  else if addr = 0x0904B0 then m.popHook w 3 d else m

/-- The link block. -/
def Mach.hookLink (w : Who) (port : Port) (addr : Nat) (d : Word) (m : Mach) : Mach :=
  if addr = 0x0A0030 then applyIf (bitAt d 0 && m.isN0) Mach.calStartAll m
  else if 0x0A0100 ≤ addr && addr < 0x0A0200 then m.updLink (fun l => { l with budDue := true })
  else if addr = 0x0A0200 then m.lraGo w port d else m

/-- The security block. -/
def Mach.hookSecurity (addr : Nat) (d : Word) (m : Mach) : Mach :=
  if addr = 0x0B0110 then applyIf (bitAt d 8) Mach.keyProg m else m

/-- The always-on block. -/
def Mach.hookAon (w : Who) (addr : Nat) (d old new : Word) (m : Mach) : Mach :=
  if addr < 0x0C0080 then m.mtrCfgHook ((addr - 0x0C0000) / 4) old new
  else if addr = 0x0C0500 || (0x0C0520 ≤ addr && addr < 0x0C0540) then m.immobRefresh
  else if addr = 0x0C0548 then m.sentClrHook d
  else if addr = 0x0C0564 then (if m.seesOwn w addr then m.ldgRdHook else m)
  else if addr = 0x0C0568 then m.ldgCtlHook d else m

/-- The test space. -/
def Mach.hookTest (addr : Nat) (d : Word) (m : Mach) : Mach :=
  if addr = 0x0F0010 then m.tstHook d
  else if addr = 0x0F0600 then applyIf (bitAt d 31) Mach.inject m else m

/-- The effects of an accepted register write. -/
def Mach.hook (w : Who) (a : Acc) (addr : Nat) (d old new : Word) (m : Mach) : Mach :=
  match addr / 0x10000 with
  | 0 => m.hookGlobal w addr d old new
  | 1 => m.hookRoot addr d old new
  | 3 => m.hookGroup w a addr d old new
  | 4 => m.hookOutput w addr d old new
  | 5 => m.hookMonitor w a.port addr d new
  | 6 => m.hookFault w addr d old new
  | 7 => m.hookGovernor addr
  | 8 => m.hookPartition a addr d old new
  | 9 => m.hookQueue w a.port addr d
  | 10 => m.hookLink w a.port addr d
  | 11 => m.hookSecurity addr d
  | 12 => m.hookAon w addr d old new
  | 15 => m.hookTest addr d
  | _ => m

/-- The effects of an accepted channel-table word (R33 step 10, R192). -/
def Mach.tblHook (n wd : Nat) (d old new : Word) (m : Mach) : Mach :=
  match wd with
  | 0 =>
    let m1 := if getF old 6 1 = getF new 6 1 then m else m.showCost n
    m1.chTriggers n d
  | 1 | 2 | 3 | 4 | 5 | 7 | 11 => m.liveWord n
  | 9 => (m.spareOf n).elim m (fun k => m.setTw (256 + k) 9 (m.tw (256 + k) 9 &&& ~~~ d))
  | 12 => if getF old 2 1 = 1 && getF new 2 1 = 0 then m.tput n CH_TRIM.TRIM 0 else m
  | 14 => m.chPinHook n d old new
  | 15 => m.chGrpHook n old new
  | _ => m

end Sys2Proof.Machine
end

