-- ==== Sys2Proof/Machine/Settle.lean ====
section
/-! DEFINITION. The agenda: the consequences of a command are worked off one by one, in the order in which they arose, before the
command ends. -/
namespace Sys2Proof.Machine

/-- A channel that has reached STOPPED: a switch in progress goes on, the group, the monitor and a lane swap take note, a held or an
AUTO restart submits its request, and the partition's and the device's phases are looked at (R188, R235, R213, R270, R315, R327,
R121). -/
def Mach.afterStopped (n : Nat) (m : Mach) : Mach :=
  let m1 := (((m.switchStopped n).grpStopped n).monStopped n).stoppedSwap n
  let m2 :=
    if m1.tb n CH_STAT.HELD then (((m1.tput n CH_STAT.HELD 0).submit n .held).1)
    else if m1.t n CH_STAT.CAUSE = csSHED && m1.tb n CH_GOV.AUTO then ((m1.tput n CH_GOV.SHEDPEND 1).submit n .governor).1
    else m1
  (m2.partCheck (m2.ownCh n)).phaseCheck

/-- The STOP of a fault (R287): a STOPPED channel is left alone, and the odd engine of a DOUBLE pair stops the pair (R182). -/
def Mach.faultStop (n cause : Nat) (m : Mach) : Mach :=
  let e := if m.oddDouble n then evenOf n else n
  if m.chst e = 0 then m else m.stop e cause false

/-- One consequence. -/
def Mach.work (w : Work) (m : Mach) : Mach :=
  match w with
  | .raw r => m.takeRaw r
  | .hook w a addr d old new => m.hook w a addr d old new
  | .tblHook e wd d old new => m.tblHook e wd d old new
  | .stop n cause => m.faultStop n cause
  | .start n src => (m.submit n src).1
  | .stopped n => m.afterStopped n
  | .adopt n => m.adoptStarting n
  | .grpEval g => m.evaluate g
  | .freeLocks p why => m.freeLocks p why
  | .partReset p cause => m.partReset p cause
  | .ochre cause => m.parkBegins cause
  | .partCheck p => m.partCheck p
  | .phaseCheck => m.phaseCheck
  | .forward q fseq => m.sendForward q fseq
  | .bootGo => m.bootGo

/-- Work off the agenda, oldest first, for at most `k` consequences. -/
def Mach.settleFor : Nat → Mach → Mach
  | 0, m => m
  | k + 1, m =>
    match m.todo with
    | [] => m
    | w :: t => Mach.settleFor k (({ m with todo := t }).work w)

/-- Work off the whole agenda: no command has as many consequences as the bound allows. -/
def Mach.settle (m : Mach) : Mach := m.settleFor 100000

/-- A register write by a port with the effects of its word (R33): the store, then what the written bits do. -/
def Mach.write (a : Acc) (addr : Nat) (d : Word) (m : Mach) : Mach := (m.busWrite a addr d).settleFor 1

/-- A family's effect as the outcome of a command: the machine changed and its agenda worked off, the queue of waiting commands as
it stands. -/
def act (f : Mach → Mach) (s : State) : Host.Outcome State Fault Refusal := done (fun m => (f m).settle) s

end Sys2Proof.Machine
end

