-- ==== Sys2Proof/Machine/CmdBoot.lean ====
section
/-! DEFINITION. The meanings of the bring-up commands (chapters 03, 05 and 06) and of the codes of DEV_CTL. Every row's effect is one change of the machine, whose
consequences are worked off before the command ends. -/
namespace Sys2Proof.Machine

/-- SAMPLE/PRELOAD and EXTEST shift the boundary-scan register: no command carries the levels, so they are free (DESIGN CHOICE, log
entry 78). -/
def Mach.scanLoad (m : Mach) : Mach := forN 8 (fun _ t => { t.draw.2 with bsr := t.bsr ++ [t.draw.1] }) { m with bsr := [] }

/-- A load of the TAP's instruction register (R73): the three intrusive instructions only with TEST_MODE 1, and an unknown code loads
BYPASS. -/
def Mach.tapUpdate (i : TapInstr) (m : Mach) : Mach :=
  if !m.powered then m
  else
    let ok := match i with
      | .bypass | .idcode | .sample => true
      | .extest | .clamp | .highz => m.boot.straps.getLsbD 4
      | .other => false
    let m1 := { m with tap := if ok then i else .bypass }
    if m1.tap == .sample || m1.tap == .extest then m1.scanLoad else m1

/-- RESET_N_ASSERT (R68, R110): the core reset is held. -/
def execResetNAssert (s : State) : Host.Outcome State Fault Refusal :=
  act Mach.resetN s

/-- CORE_RESET_RELEASE (R70, R111): the straps by majority of three samples. -/
def execCoreResetRelease (s1 s2 s3 : BitVec 4) (xo : Bool) (s : State) : Host.Outcome State Fault Refusal :=
  act (fun m => m.coreRelease s1 s2 s3 xo) s

/-- QUALIFY_WINDOW (R111): one window judged. -/
def execQualifyWindow (count : Nat) (s : State) : Host.Outcome State Fault Refusal :=
  act (fun m => m.qualifyWindow count) s

/-- OSCILLATOR_START (R111): counting begins. -/
def execOscillatorStart (s : State) : Host.Outcome State Fault Refusal :=
  act Mach.oscStart s

/-- FLASH_WAKE (R114): the Wake step ends. -/
def execFlashWake (s : State) : Host.Outcome State Fault Refusal :=
  act Mach.flashWake s

/-- SFDP_DISCOVER (R114, R120): the read mode, or a boot failure. -/
def execSfdpDiscover (t : Sfdp) (s : State) : Host.Outcome State Fault Refusal :=
  act (fun m => m.discover t) s

/-- SFDP_RETRY (R114): Wake again. -/
def execSfdpRetry (s : State) : Host.Outcome State Fault Refusal :=
  act Mach.sfdpRetry s

/-- IMAGE_HEADER_CHECK (R129, R120): the header, then the section table. -/
def execImageHeaderCheck (bytes : List Byte) (s : State) : Host.Outcome State Fault Refusal :=
  act (fun m => m.headerCheck bytes) s

/-- SECTION_CRC_CHECK (R115): the next section. -/
def execSectionCrcCheck (payload : List Byte) (crc : Word) (s : State) : Host.Outcome State Fault Refusal :=
  act (fun m => m.sectionCheck payload crc) s

/-- CMAC_FINALISE (R115, R134): CONFIG, or IMG_CMAC. -/
def execCmacFinalise (tag : List Byte) (s : State) : Host.Outcome State Fault Refusal :=
  act (fun m => m.cmacFinalise tag) s

/-- RECORD_APPLY (R142, R145, R124): one record. -/
def execRecordApply (s : State) : Host.Outcome State Fault Refusal :=
  act (fun m => m.recordApply Mach.settle) s

/-- CONFIG_END (R110, R115): CONFIG to ARMING. -/
def execConfigEnd (s : State) : Host.Outcome State Fault Refusal :=
  act Mach.configEnd s

/-- APLL_LOCK (R171, R117): LOCKED, and the clock family starts. -/
def execApllLock (s : State) : Host.Outcome State Fault Refusal :=
  act Mach.apllLock s

/-- APLL_LOL (R121, R171): the loss of lock. -/
def execApllLol (s : State) : Host.Outcome State Fault Refusal :=
  act Mach.apllLol s

/-- ROOT_TO_EXPIRE (R117, R120): code 0x08. -/
def execRootToExpire (s : State) : Host.Outcome State Fault Refusal :=
  act Mach.rootTimeout s

/-- PREPARE_DONE (R117, R520): the Gate. -/
def execPrepareDone (lines : List (Fin 17 × BitVec 16)) (stamps : List (Bank × BitVec 16)) (s : State) : Host.Outcome State Fault Refusal :=
  act (fun m => m.prepareDone lines stamps) s

/-- LINK_TO_EXPIRE (R118): boot starts without loop calibration. -/
def execLinkToExpire (s : State) : Host.Outcome State Fault Refusal :=
  act Mach.linkTimeout s

/-- WARM (R123, R125): code 0xA5. -/
def execWarm (a : Acc) (s : State) : Host.Outcome State Fault Refusal :=
  act (fun m => m.write a 0x000304 0xA5) s

/-- WARM_STOP_TIMEOUT (R123): what still runs is parked. -/
def execWarmStopTimeout (s : State) : Host.Outcome State Fault Refusal :=
  act Mach.warmTimeout s

/-- GO (R117, R125): code 0x5A. -/
def execGo (a : Acc) (s : State) : Host.Outcome State Fault Refusal :=
  act (fun m => m.write a 0x000304 0x5A) s

/-- ENTER_OCHRE (R121, R125): code 0x3C. -/
def execEnterOchre (a : Acc) (s : State) : Host.Outcome State Fault Refusal :=
  act (fun m => m.write a 0x000304 0x3C) s

/-- RESUME (R122, R125): code 0xC3. -/
def execResume (a : Acc) (s : State) : Host.Outcome State Fault Refusal :=
  act (fun m => m.write a 0x000304 0xC3) s

/-- PART_RESTART (R124, R125): code 0x69 with a partition. -/
def execPartRestart (a : Acc) (p : Part) (s : State) : Host.Outcome State Fault Refusal :=
  act (fun m => m.write a 0x000304 (word (0x69 + 256 * p.val))) s

/-- TAP_INSTRUCTION_UPDATE (R73): a new TAP instruction. -/
def execTapInstructionUpdate (i : TapInstr) (s : State) : Host.Outcome State Fault Refusal :=
  act (fun m => m.tapUpdate i) s

end Sys2Proof.Machine
end

