-- ==== Sys2Proof/Machine/CmdChannel.lean ====
section
/-! DEFINITION. The meanings of the channel and group commands (chapters 08 and 09). Every row's effect is one change of the machine, whose
consequences are worked off before the command ends. -/
namespace Sys2Proof.Machine

/-- One trigger bit of CH_CTL, as a committed write of a master delivers it. -/
def Mach.chTrigger (n : Nat) (bit : Nat) (m : Mach) : Mach := if m.hostUp then m.chTriggers n (word bit) else m

/-- CH_CTL_START (R184): a start request. -/
def execChCtlStart (n : Ch) (s : State) : Host.Outcome State Fault Refusal :=
  act (fun m => m.chTrigger n.val 1) s

/-- CH_CTL_STOP (R183, R186): a clean stop with cause HOST. -/
def execChCtlStop (n : Ch) (s : State) : Host.Outcome State Fault Refusal :=
  act (fun m => m.chTrigger n.val 2) s

/-- CH_CTL_TRIG (R200): one pulse. -/
def execChCtlTrig (n : Ch) (s : State) : Host.Outcome State Fault Refusal :=
  act (fun m => m.chTrigger n.val 4) s

/-- CH_CTL_RESYNC (R201): back to the grid. -/
def execChCtlResync (n : Ch) (s : State) : Host.Outcome State Fault Refusal :=
  act (fun m => m.chTrigger n.val 8) s

/-- CH_FIRST_EDGE (R185): RUN. -/
def execChFirstEdge (n : Ch) (s : State) : Host.Outcome State Fault Refusal :=
  act (fun m => m.firstEdge n.val) s

/-- CLEAN_STOP_END (R186, R188): STOPPED. -/
def execCleanStopEnd (n : Ch) (s : State) : Host.Outcome State Fault Refusal :=
  act (fun m => m.cleanStopEnd n.val) s

/-- STOP_WATCHDOG (R190): cause FORCED. -/
def execStopWatchdog (n : Ch) (s : State) : Host.Outcome State Fault Refusal :=
  act (fun m => m.stopWatchdog n.val) s

/-- BURST_LAST_EDGE (R199): STOPPING with cause BURST_END. -/
def execBurstLastEdge (n : Ch) (s : State) : Host.Outcome State Fault Refusal :=
  act (fun m => m.burstLast n.val) s

/-- UPDATE_POINT (R192, R194): the shadowed words. -/
def execUpdatePoint (n : Ch) (s : State) : Host.Outcome State Fault Refusal :=
  act (fun m => m.updatePoint n.val) s

/-- PHASE_MOVE_DONE (R195): SLEW_DONE. -/
def execPhaseMoveDone (n : Ch) (s : State) : Host.Outcome State Fault Refusal :=
  act (fun m => m.phaseMoveDone n.val) s

/-- ENG_CHECK (R203): the counters disagree. -/
def execEngCheck (e : Eng) (c1 c2 : BitVec 16) (s : State) : Host.Outcome State Fault Refusal :=
  act (fun m => m.engCheck e.val c1.toNat c2.toNat) s

/-- SELFCHK_RESTORE (R203): SELFCHK sets again. -/
def execSelfchkRestore (e : Eng) (s : State) : Host.Outcome State Fault Refusal :=
  act (fun m => m.selfchkRestore e.val) s

/-- GRP_CFG_WRITE (R220): a write of GRP_CFG_g. -/
def execGrpCfgWrite (a : Acc) (g : Fin 32) (d : Word) (s : State) : Host.Outcome State Fault Refusal :=
  act (fun m => m.write a (0x030000 + 0x20 * g.val) d) s

/-- GROUP_EPOCH (R221, R223): the commit takes effect. -/
def execGroupEpoch (g : Fin 32) (s : State) : Host.Outcome State Fault Refusal :=
  act (fun m => m.groupEpoch g.val) s

/-- VACANCY_HOLD_EXPIRE (R214): every vacancy goes. -/
def execVacancyHoldExpire (g : Fin 32) (s : State) : Host.Outcome State Fault Refusal :=
  act (fun m => m.holdExpire g.val) s

/-- GRP_LOCK_REQ (R222): a write of GRP_LOCK_g. -/
def execGrpLockReq (a : Acc) (g : Fin 32) (d : Word) (s : State) : Host.Outcome State Fault Refusal :=
  act (fun m => m.write a (0x030400 + 4 * g.val) d) s

/-- GRP_LOCK_COMMIT (R223): COMMIT. -/
def execGrpLockCommit (a : Acc) (g : Fin 32) (d : Word) (s : State) : Host.Outcome State Fault Refusal :=
  act (fun m => m.write a (0x030400 + 4 * g.val) (d ||| 0x100)) s

/-- GRP_LOCK_DISCARD (R222): DISCARD. -/
def execGrpLockDiscard (a : Acc) (g : Fin 32) (d : Word) (s : State) : Host.Outcome State Fault Refusal :=
  act (fun m => m.write a (0x030400 + 4 * g.val) (d ||| 0x200)) s

/-- GRP_LOCK_TIMEOUT (R224): the lock is freed. -/
def execGrpLockTimeout (g : Fin 32) (s : State) : Host.Outcome State Fault Refusal :=
  act (fun m => m.grpLockTimeout g.val) s

end Sys2Proof.Machine
end

