-- ==== Sys2Proof/Machine/CmdGovernor.lean ====
section
/-! DEFINITION. The meanings of the commands of the governor and the partitions (chapters 13 and 14). Every row's effect is one change of the machine, whose
consequences are worked off before the command ends. -/
namespace Sys2Proof.Machine

/-- A reset request for partition p by its register: PART_ORST for the device owner, PART_CTL for the partition (R326). -/
def Mach.askReset (a : Acc) (p : Nat) (owner : Bool) (m : Mach) : Mach :=
  if owner then m.write a 0x080100 (word (2 ^ p)) else m.write a (0x080408 + 0x20 * p) 1

/-- GOV_PASS (R318): one pass. -/
def execGovPass (s : State) : Host.Outcome State Fault Refusal :=
  act Mach.govPass s

/-- TSENSE_READ (R309, R310): the readings and the step. -/
def execTsenseRead (t0 t1 t2 t3 : BitVec 16) (s : State) : Host.Outcome State Fault Refusal :=
  act (fun m => m.tsense [t0.toInt, t1.toInt, t2.toInt, t3.toInt]) s

/-- BUDGET_WRITE (R302): a write of GOV_BUDGET. -/
def execBudgetWrite (a : Acc) (d : Word) (s : State) : Host.Outcome State Fault Refusal :=
  act (fun m => m.write a 0x070004 d) s

/-- BUDGET_STALE (R303): the fallback. -/
def execBudgetStale (s : State) : Host.Outcome State Fault Refusal :=
  act Mach.budgetStale s

/-- BUDGET_WAIT (R308): the fault. -/
def execBudgetWait (n : Ch) (s : State) : Host.Outcome State Fault Refusal :=
  act (fun m => m.budgetWait n.val) s

/-- DWELL_END (R313): the dwell ends. -/
def execDwellEnd (s : State) : Host.Outcome State Fault Refusal :=
  act Mach.dwellEnd s

/-- SLOT_END (R317): the slot ends, and its test asks again. -/
def execSlotEnd (x : Activity) (s : State) : Host.Outcome State Fault Refusal :=
  act (fun m => m.slotLapse x) s

/-- PART_RESET_REQUEST (R326): a reset request. -/
def execPartResetRequest (a : Acc) (p : Part) (owner : Bool) (s : State) : Host.Outcome State Fault Refusal :=
  act (fun m => m.askReset a p.val owner) s

/-- PART_EN_WRITE (R324): a write of PART_EN. -/
def execPartEnWrite (a : Acc) (d : Word) (s : State) : Host.Outcome State Fault Refusal :=
  act (fun m => m.write a 0x0800B0 d) s

/-- PART_CLEAR_DONE (R324, R124): ACTIVE or DISABLED. -/
def execPartClearDone (p : Part) (s : State) : Host.Outcome State Fault Refusal :=
  act (fun m => m.partCleared p.val) s

/-- OWNERSHIP_WRITE (R333): a write of an ownership register. -/
def execOwnershipWrite (a : Acc) (addr : BitVec 24) (d : Word) (s : State) : Host.Outcome State Fault Refusal :=
  act (fun m => if 0x080000 ≤ addr.toNat && addr.toNat < 0x0800A8 then m.write a addr.toNat d else m) s

/-- ATTACH (R337): ATT_CTL with GO. -/
def execAttach (a : Acc) (s : State) : Host.Outcome State Fault Refusal :=
  act (fun m => m.write a 0x080320 1) s

/-- ATT_UNBIND (R338): a write of ATT_BIND. -/
def execAttUnbind (a : Acc) (d : Word) (s : State) : Host.Outcome State Fault Refusal :=
  act (fun m => m.write a 0x080328 d) s

/-- TOKEN_REFILL (R344): one token. -/
def execTokenRefill (p : Part) (s : State) : Host.Outcome State Fault Refusal :=
  act (fun m => m.tokenRefill p.val) s

end Sys2Proof.Machine
end

