-- ==== Sys2Proof/Machine/CmdHost.lean ====
section
/-! DEFINITION. The meanings of the commands of the host ports and the queues (chapters 15 and 16). Every row's effect is one change of the machine, whose
consequences are worked off before the command ends. -/
namespace Sys2Proof.Machine

/-- SPI_HEADER (R352, R357): a frame begins. -/
def execSpiHeader (bytes : List Byte) (s : State) : Host.Outcome State Fault Refusal :=
  act (fun m => m.spiHeader bytes) s

/-- SPI_SEGMENT (R353, R358): one write segment. -/
def execSpiSegment (words : List Word) (crc : BitVec 16) (s : State) : Host.Outcome State Fault Refusal :=
  act (fun m => m.spiSegment Mach.settle words crc.toNat) s

/-- SPI_READ_FRAME (R355): the words of a read frame. -/
def execSpiReadFrame (cut : Option (Nat × Nat)) (s : State) : Host.Outcome State Fault Refusal :=
  act (fun m => m.spiRead cut) s

/-- SPI_ABORT (R359): the frame is abandoned. -/
def execSpiAbort (s : State) : Host.Outcome State Fault Refusal :=
  act Mach.spiAbort s

/-- I2C_WRITE_HEADER (R361, R362): the pointer. -/
def execI2cWriteHeader (tag : Byte) (addr : BitVec 24) (s : State) : Host.Outcome State Fault Refusal :=
  act (fun m => m.i2cHeader tag.toNat addr.toNat) s

/-- I2C_WRITE_GROUP (R362): one word write at the pointer. -/
def execI2cWriteGroup (d : Word) (s : State) : Host.Outcome State Fault Refusal :=
  act (fun m => m.i2cGroup Mach.settle d) s

/-- I2C_READ_WORD (R363): one word read at the pointer. -/
def execI2cReadWord (first : Bool) (bytes : Nat) (s : State) : Host.Outcome State Fault Refusal :=
  act (fun m => m.i2cRead first bytes) s

/-- I2C_ABORT (R365): the partial group is discarded. -/
def execI2cAbort (bytes : Nat) (hdr : Bool) (s : State) : Host.Outcome State Fault Refusal :=
  act (fun m => m.i2cAbort bytes hdr) s

/-- I2C_TIMEOUT (R365): the transfer is abandoned. -/
def execI2cTimeout (bytes : Nat) (s : State) : Host.Outcome State Fault Refusal :=
  act (fun m => m.i2cTimeout bytes) s

/-- CMD_PUSH (R373): CMD_PUSH with GO. -/
def execCmdPush (a : Acc) (d : Word) (s : State) : Host.Outcome State Fault Refusal :=
  act (fun m => m.write a 0x090440 (d ||| 1)) s

/-- CMD_DISPATCH (R380, R383, R384): the next command. -/
def execCmdDispatch (s : State) : Host.Outcome State Fault Refusal :=
  act Mach.dispatch s

/-- NOP (R377): OK. -/
def execNop (s : State) : Host.Outcome State Fault Refusal :=
  act (fun m => m.onCommand 0x01 Mach.cmdNop) s

/-- CH_START (R378): one step: start requests of 64 channels. -/
def execChStart (s : State) : Host.Outcome State Fault Refusal :=
  act (fun m => m.onCommand 0x10 Mach.cmdChStart) s

/-- CH_STOP (R378): host stops. -/
def execChStop (s : State) : Host.Outcome State Fault Refusal :=
  act (fun m => m.onCommand 0x11 (Mach.cmdChannels (fun n t => t.stop n csHOST false))) s

/-- CH_RESYNC (R378): resyncs. -/
def execChResync (s : State) : Host.Outcome State Fault Refusal :=
  act (fun m => m.onCommand 0x12 (Mach.cmdChannels Mach.resync)) s

/-- CH_TRIG (R378): triggers. -/
def execChTrig (s : State) : Host.Outcome State Fault Refusal :=
  act (fun m => m.onCommand 0x13 (Mach.cmdChannels Mach.trig)) s

/-- GOV_BUDGET_SET (R379): the machine budget. -/
def execGovBudgetSet (s : State) : Host.Outcome State Fault Refusal :=
  act (fun m => m.onCommand 0x30 Mach.cmdBudget) s

/-- SVC_OPEN (R148): the service session. -/
def execSvcOpen (s : State) : Host.Outcome State Fault Refusal :=
  act (fun m => m.onCommand 0x50 Mach.cmdSvcOpen) s

/-- RETIRE_CLEAR (R275): list entries or spare marks. -/
def execRetireClear (s : State) : Host.Outcome State Fault Refusal :=
  act (fun m => m.onCommand 0x51 Mach.cmdRetireClear) s

/-- HIRE_OPEN (R466): the hire session. -/
def execHireOpen (s : State) : Host.Outcome State Fault Refusal :=
  act (fun m => m.onCommand 0x60 Mach.cmdHireOpen) s

/-- HIRE_CLOSE (R466): the hire session ends. -/
def execHireClose (s : State) : Host.Outcome State Fault Refusal :=
  act (fun m => m.onCommand 0x61 Mach.cmdHireClose) s

/-- METER_REPORT (R480): a signed report. -/
def execMeterReport (s : State) : Host.Outcome State Fault Refusal :=
  act (fun m => m.onCommand 0x62 Mach.cmdMeterReport) s

/-- LEDGER_REPORT (R480): a signed report. -/
def execLedgerReport (s : State) : Host.Outcome State Fault Refusal :=
  act (fun m => m.onCommand 0x63 Mach.cmdLedgerReport) s

/-- LOCKOUT_CLEAR (R447): the lockouts end. -/
def execLockoutClear (s : State) : Host.Outcome State Fault Refusal :=
  act (fun m => m.onCommand 0x70 Mach.cmdLockoutClear) s

/-- EVQ_POP (R392): records leave the event queue. -/
def execEvqPop (a : Acc) (d : Word) (s : State) : Host.Outcome State Fault Refusal :=
  act (fun m => m.write a 0x090490 d) s

/-- LDQ_POP (R392): records leave the ledger queue. -/
def execLdqPop (a : Acc) (d : Word) (s : State) : Host.Outcome State Fault Refusal :=
  act (fun m => m.write a 0x0904B0 d) s

/-- Q_HIWAT_CLEAR (R396): Q_STAT_q with CLRHI. -/
def execQHiwatClear (a : Acc) (q : Fin 64) (d : Word) (s : State) : Host.Outcome State Fault Refusal :=
  act (fun m => m.write a (0x090004 + 8 * q.val) (setF d 31 1 1)) s

end Sys2Proof.Machine
end

