-- ==== Sys2Proof/Machine/CmdLink.lean ====
section
/-! DEFINITION. The meanings of the commands of Byra-Link (chapter 17). Every row's effect is one change of the machine, whose
consequences are worked off before the command ends. -/
namespace Sys2Proof.Machine

/-- Take the first accepted CAL frame of one of the kinds, and act on it (R423, R424). -/
def Mach.onCal (kinds : List Nat) (f : Frame → Mach → Mach) (m : Mach) : Mach :=
  match m.link.inbox.find? (fun e => e.2.typ == ttCAL && kinds.contains (byteAt e.2.payload 0)) with
  | some e => f e.2 (m.updLink (fun l => { l with inbox := l.inbox.erase e }))
  | none => m

/-- A port leaves UP for one of the causes of R402. -/
def Mach.linkDown (p : LPort) (cause : Nat) (m : Mach) : Mach := if 1 ≤ cause && cause ≤ 6 then m.leaveUp p cause else m

/-- LINK_DETECT (R400): DETECT to ALIGN. -/
def execLinkDetect (p : LPort) (s : State) : Host.Outcome State Fault Refusal :=
  act (fun m => m.detect p) s

/-- LINK_ALIGN (R400): ALIGN to TRAIN. -/
def execLinkAlign (p : LPort) (s : State) : Host.Outcome State Fault Refusal :=
  act (fun m => m.portStep p 2) s

/-- TRAINING_SET_RX (R400, R401): TS2, UP or MISWIRE. -/
def execTrainingSetRx (p : LPort) (t : TrainSet) (sent16 : Bool) (s : State) : Host.Outcome State Fault Refusal :=
  act (fun m => m.trainSet p t sent16) s

/-- TRAIN_TIMEOUT (R400): DETECT again. -/
def execTrainTimeout (p : LPort) (s : State) : Host.Outcome State Fault Refusal :=
  act (fun m => m.trainTimeout p) s

/-- LINK_DOWN (R402): the port leaves UP. -/
def execLinkDown (p : LPort) (cause : Fin 8) (s : State) : Host.Outcome State Fault Refusal :=
  act (fun m => m.linkDown p cause.val) s

/-- DELAY_QUERY (R403): a DQ. -/
def execDelayQuery (s : State) : Host.Outcome State Fault Refusal :=
  act Mach.delayQuery s

/-- DQ_ANSWER (R403): a DR. -/
def execDqAnswer (id : Byte) (turn : BitVec 24) (s : State) : Host.Outcome State Fault Refusal :=
  act (fun m => m.dqAnswer id.toNat turn.toNat) s

/-- DELAY_RESPONSE (R403): one sample. -/
def execDelayResponse (id : Byte) (rtt : Int) (turn : BitVec 24) (s : State) : Host.Outcome State Fault Refusal :=
  act (fun m => m.delayResponse id.toNat rtt turn.toNat) s

/-- LINK_FRAME_RX (R404, R405, R408): accepted, forwarded or discarded. -/
def execLinkFrameRx (p : LPort) (bytes : List Byte) (eof : Bool) (room : Bool) (s : State) : Host.Outcome State Fault Refusal :=
  act (fun m => m.frameRx p bytes eof room) s

/-- LINK_ACK_RX (R406): a cumulative acknowledgement. -/
def execLinkAckRx (p : LPort) (seq : Byte) (s : State) : Host.Outcome State Fault Refusal :=
  act (fun m => m.ackRx p seq.toNat) s

/-- LINK_NAK_RX (R406): a resend. -/
def execLinkNakRx (p : LPort) (seq : Byte) (s : State) : Host.Outcome State Fault Refusal :=
  act (fun m => m.nakRx p seq.toNat) s

/-- LINK_BUSY_RX (R406): a resend in 4 µs. -/
def execLinkBusyRx (p : LPort) (seq : Byte) (s : State) : Host.Outcome State Fault Refusal :=
  act (fun m => m.busyRx p seq.toNat) s

/-- BUSY_WAIT_EXPIRE (R406): the resend. -/
def execBusyWaitExpire (p : LPort) (s : State) : Host.Outcome State Fault Refusal :=
  act (fun m => m.busyExpire p) s

/-- LINK_RETRY_TIMEOUT (R406): a resend or RETRY_EXH. -/
def execLinkRetryTimeout (p : LPort) (s : State) : Host.Outcome State Fault Refusal :=
  act (fun m => m.retryTimeout p) s

/-- RREQ (R413): a remote request at its destination. -/
def execRreq (s : State) : Host.Outcome State Fault Refusal :=
  act (fun m => m.onFrame [ttRREQ] (fun _ f t => t.rreq Mach.settle f)) s

/-- RRSP (R414): the response. -/
def execRrsp (s : State) : Host.Outcome State Fault Refusal :=
  act (fun m => m.onFrame [ttRRSP] (fun _ f t => t.rrsp f)) s

/-- LRA_GO (R414): LRA_CTL with GO. -/
def execLraGo (a : Acc) (d : Word) (s : State) : Host.Outcome State Fault Refusal :=
  act (fun m => m.write a 0x0A0200 (d ||| 1)) s

/-- TRANSACTION_TIMEOUT (R415): DOMAIN_DOWN. -/
def execTransactionTimeout (tid : Byte) (s : State) : Host.Outcome State Fault Refusal :=
  act (fun m => m.txnTimeout tid.toNat) s

/-- LINK_CMD (R416): a forwarded command. -/
def execLinkCmd (s : State) : Host.Outcome State Fault Refusal :=
  act (fun m => m.onFrame [ttCMD] (fun _ f t => t.linkCmd f)) s

/-- LINK_CPL (R416): a returned completion. -/
def execLinkCpl (s : State) : Host.Outcome State Fault Refusal :=
  act (fun m => m.onFrame [ttCPL] (fun _ f t => t.linkCpl f)) s

/-- EVT_FORWARD (R417): a forwarded record at N0. -/
def execEvtForward (s : State) : Host.Outcome State Fault Refusal :=
  act (fun m => m.onFrame [ttEVT, ttLDG] (fun _ f t => t.forwardRx f)) s

/-- AGACK (R417): records acknowledged. -/
def execAgack (s : State) : Host.Outcome State Fault Refusal :=
  act (fun m => m.onFrame [ttAGACK] (fun _ f t => t.agack f)) s

/-- FORWARD_RESEND (R417): records sent again. -/
def execForwardResend (ledger : Bool) (s : State) : Host.Outcome State Fault Refusal :=
  act (fun m => m.forwardResend ledger) s

/-- ENUM (R419): the token. -/
def execEnum (s : State) : Host.Outcome State Fault Refusal :=
  act (fun m => m.onFrame [ttENUM] Mach.enumRx) s

/-- ENUM_DONE (R419): the node count. -/
def execEnumDone (s : State) : Host.Outcome State Fault Refusal :=
  act (fun m => m.onFrame [ttENUM_DONE] (fun _ f t => t.enumDoneRx f)) s

/-- ENUM_TIMEOUT (R420): NOANCHOR or OPEN. -/
def execEnumTimeout (s : State) : Host.Outcome State Fault Refusal :=
  act Mach.enumTimeout s

/-- BUDGET_SEND (R418): BUDGET from N0. -/
def execBudgetSend (s : State) : Host.Outcome State Fault Refusal :=
  act Mach.budgetSend s

/-- BUDGET_RX (R418): the entry of this node. -/
def execBudgetRx (s : State) : Host.Outcome State Fault Refusal :=
  act (fun m => m.onFrame [ttBUDGET] (fun _ f t => t.budgetRx f)) s

/-- NOTICE_RX (R427): BREAK, HEAL, RESTART or JOIN. -/
def execNoticeRx (s : State) : Host.Outcome State Fault Refusal :=
  act (fun m => m.onFrame [ttNOTICE] (fun _ f t => t.noticeRx f)) s

/-- CAL_START (R423): GL clears. -/
def execCalStart (s : State) : Host.Outcome State Fault Refusal :=
  act (fun m => m.onCal [1] (fun _ t => t.calStartRx)) s

/-- LNK_CAL_WRITE (R423): LNK_CAL with START. -/
def execLnkCalWrite (a : Acc) (d : Word) (s : State) : Host.Outcome State Fault Refusal :=
  act (fun m => m.write a 0x0A0030 (d ||| 1)) s

/-- GRID_RX (R423, R424): a GRID set. -/
def execGridRx (p : LPort) (flags : Byte) (g arrival : BitVec 64) (s : State) : Host.Outcome State Fault Refusal :=
  act (fun m => m.gridRx p (flags.getLsbD 0) g.toNat arrival.toNat) s

/-- CAL_RESULT (R424): OK or FAIL. -/
def execCalResult (s : State) : Host.Outcome State Fault Refusal :=
  act (fun m => m.onCal [2, 3] Mach.calResult) s

/-- CAL_TIMEOUT (R424): LOOP_CAL_FAIL. -/
def execCalTimeout (s : State) : Host.Outcome State Fault Refusal :=
  act Mach.calTimeout s

/-- DUP_TRACK (R425): one fine step. -/
def execDupTrack (s : State) : Host.Outcome State Fault Refusal :=
  act Mach.dupTrack s

end Sys2Proof.Machine
end

