-- ==== Sys2Proof/Machine/CmdOutput.lean ====
section
/-! DEFINITION. The meanings of the commands of the output stage, the monitor and the fault blocks (chapters 10, 11 and 12). Every row's effect is one change of the machine, whose
consequences are worked off before the command ends. -/
namespace Sys2Proof.Machine

/-- A committed write of CH_PIN of channel n through the channel window (R51, R232, R235): by its owner, else refused with OWNER. -/
def Mach.pinWrite (a : Acc) (n : Nat) (d : Word) (m : Mach) : Mach :=
  let t := m.unmarked
  let w := m.bind a
  if !m.hostUp || w == .unbound then t
  else if w.rights != some (m.ownCh n) then t.accErr w a.port 0x02E004 cOWNER
  else match m.memberLock w (64 * n + 56) with
  | some g => t.stageGrp w a g ⟨tblKey (64 * n + 56), d, 0x02E004⟩
  | none => t.tblWrite w a.port 0x02E004 n 14 d

/-- BANK_VSEL_WRITE (R229): a write of BANK_CFG_k. -/
def execBankVselWrite (a : Acc) (k : Bank) (d : Word) (s : State) : Host.Outcome State Fault Refusal :=
  act (fun m => m.write a (0x040000 + 4 * k.val) d) s

/-- BOND_WRITE (R232): a committed write of CH_PIN with BOND. -/
def execBondWrite (a : Acc) (n : Ch) (d : Word) (s : State) : Host.Outcome State Fault Refusal :=
  act (fun m => (m.pinWrite a n.val d).settleFor 1) s

/-- PIN_FUNC_SWITCH (R235): a committed write of CH_PIN with FUNC. -/
def execPinFuncSwitch (a : Acc) (n : Ch) (d : Word) (s : State) : Host.Outcome State Fault Refusal :=
  act (fun m => (m.pinWrite a n.val d).settleFor 1) s

/-- PARK_INTERVAL_END (R235, R239): the new function or the spare. -/
def execParkIntervalEnd (n : Ch) (s : State) : Host.Outcome State Fault Refusal :=
  act (fun m => m.parkIntervalEnd n.val) s

/-- PGPO_WRITE (R234): a write of PGPO_k. -/
def execPgpoWrite (a : Acc) (k : Bank) (d : Word) (s : State) : Host.Outcome State Fault Refusal :=
  act (fun m => m.write a (0x040040 + 4 * k.val) d) s

/-- HALT_ASSERT (R244, R247): gated pins park. -/
def execHaltAssert (s : State) : Host.Outcome State Fault Refusal :=
  act Mach.haltAssert s

/-- CLEAN_GATE_EFFECT (R245): a CLEAN gate takes effect. -/
def execCleanGateEffect (n : Ch) (s : State) : Host.Outcome State Fault Refusal :=
  act (fun m => m.cleanGateEffect n.val) s

/-- HALT_RELEASE (R246): the gate goes. -/
def execHaltRelease (s : State) : Host.Outcome State Fault Refusal :=
  act Mach.haltRelease s

/-- HALT_LATCH_CLEAR (R247): HALT_CFG with CLR. -/
def execHaltLatchClear (a : Acc) (d : Word) (s : State) : Host.Outcome State Fault Refusal :=
  act (fun m => m.write a 0x040100 (d ||| 0x200)) s

/-- MONITOR_VISIT (R257): one visit. -/
def execMonitorVisit (n : Ch) (x : Meas) (s : State) : Host.Outcome State Fault Refusal :=
  act (fun m => m.monVisit n.val x) s

/-- MON_REQUEST (R256): a write of MON_REQ. -/
def execMonRequest (a : Acc) (d : Word) (s : State) : Host.Outcome State Fault Refusal :=
  act (fun m => m.write a 0x050010 d) s

/-- ESCALATION_TIMER (R290): one level up. -/
def execEscalationTimer (b : Blk) (c : Fin 32) (p : Part) (s : State) : Host.Outcome State Fault Refusal :=
  act (fun m => m.escExpire b.val c.val p.val) s

/-- FLT_ACK (R288): a write of FLT_STAT_b. -/
def execFltAck (a : Acc) (b : Blk) (d : Word) (s : State) : Host.Outcome State Fault Refusal :=
  act (fun m => m.write a (0x060000 + 0x400 * b.val) d) s

/-- FLT_ACKALL (R288): FLT_CTL_b with ACKALL. -/
def execFltAckall (a : Acc) (b : Blk) (s : State) : Host.Outcome State Fault Refusal :=
  act (fun m => m.write a (0x06000C + 0x400 * b.val) 1) s

/-- FIRST_FAULT_CLEAR (R283): FLT_CTL_b with FF_CLR. -/
def execFirstFaultClear (a : Acc) (b : Blk) (s : State) : Host.Outcome State Fault Refusal :=
  act (fun m => m.write a (0x06000C + 0x400 * b.val) 2) s

/-- DEV_FIRST_CLEAR (R285): DEV_FLT_CTL with CLR. -/
def execDevFirstClear (a : Acc) (s : State) : Host.Outcome State Fault Refusal :=
  act (fun m => m.write a 0x06F020 1) s

/-- FLT_CFG_WRITE (R291): a write of FLT_CFG_bc. -/
def execFltCfgWrite (a : Acc) (b : Blk) (c : Fin 32) (d : Word) (s : State) : Host.Outcome State Fault Refusal :=
  act (fun m => m.write a (0x060200 + 0x400 * b.val + 4 * c.val) d) s

/-- FLT_INJ (R295): one injected raw event. -/
def execFltInj (a : Acc) (d : Word) (s : State) : Host.Outcome State Fault Refusal :=
  act (fun m => m.write a 0x0F0600 d) s

/-- RAW_EVENT_AGE (R282): one pending raw event is dropped. -/
def execRawEventAge (b : Blk) (c : Fin 32) (p : Part) (s : State) : Host.Outcome State Fault Refusal :=
  act (fun m => m.ageRaw b.val c.val p.val) s

end Sys2Proof.Machine
end

