-- ==== Sys2Proof/Machine/CmdPower.lean ====
section
/-! DEFINITION. The meanings of the power commands (chapter 04). Every row's effect is one change of the machine, whose
consequences are worked off before the command ends. -/
namespace Sys2Proof.Machine

/-- VBAK_RISE (R85, R89): OFF to WOAD, and on to BOOT where PG_MAIN is already true. -/
def execVbakRise (s : State) : Host.Outcome State Fault Refusal :=
  act Mach.backupRise s

/-- PG_MAIN_TRUE (R85, R97, R111): WOAD to BOOT. -/
def execPgMainTrue (s : State) : Host.Outcome State Fault Refusal :=
  act Mach.pgMainTrue s

/-- PG_MAIN_LOSS (R85, R86): to WOAD from every powered state. -/
def execPgMainLoss (c : MainSupply) (s : State) : Host.Outcome State Fault Refusal :=
  act (fun m => m.mainLoss c) s

/-- VBAK_LOSS (R85): to OFF from every state. -/
def execVbakLoss (s : State) : Host.Outcome State Fault Refusal :=
  act Mach.vbakLoss s

/-- VCORE_WARN (R92): the event and the fault. -/
def execVcoreWarn (s : State) : Host.Outcome State Fault Refusal :=
  act Mach.vcoreWarn s

/-- VLINK_BO (R92, R402): both ports go to electrical idle. -/
def execVlinkBo (s : State) : Host.Outcome State Fault Refusal :=
  act Mach.vlinkBo s

/-- BANK_STOP (R93, R556): the bank is absent and its engines stop at once. -/
def execBankStop (k : Bank) (s : State) : Host.Outcome State Fault Refusal :=
  act (fun m => m.bankStop k) s

/-- BANK_RECOVERY (R556): the timers of a stopped bank start. -/
def execBankRecovery (k : Bank) (s : State) : Host.Outcome State Fault Refusal :=
  act (fun m => m.bankRecovery k) s

/-- BANK_CLASSIFY (R98): the class of the measured supply. -/
def execBankClassify (k : Bank) (mv : Nat) (s : State) : Host.Outcome State Fault Refusal :=
  act (fun m => m.bankClassify k mv) s

/-- BANK_PRESENT (R91, R94): the bank is back, and AUTO restarts what ran. -/
def execBankPresent (k : Bank) (s : State) : Host.Outcome State Fault Refusal :=
  act (fun m => m.bankPresent k) s

/-- VBAK_LOW (R92): the ledger entry, and the fault while PG_MAIN is true. -/
def execVbakLow (s : State) : Host.Outcome State Fault Refusal :=
  act Mach.vbakLowStart s

/-- CHG_PRECHARGE_START (R100): PRECHARGE. -/
def execChgPrechargeStart (s : State) : Host.Outcome State Fault Refusal :=
  act Mach.chgPreStart s

/-- CHG_PRECHARGE_END (R100): OFF again. -/
def execChgPrechargeEnd (s : State) : Host.Outcome State Fault Refusal :=
  act Mach.chgPreEnd s

/-- CHG_CTL_WRITE (R100, R101): a write of CHG_CTL. -/
def execChgCtlWrite (a : Acc) (d : Word) (s : State) : Host.Outcome State Fault Refusal :=
  act (fun m => m.write a 0x000220 d) s

/-- CHG_CV_REACHED (R100): CC to CV. -/
def execChgCvReached (s : State) : Host.Outcome State Fault Refusal :=
  act Mach.chgCv s

/-- CHG_TERMINATE (R100): CV to DONE for a cell that ends its charge. -/
def execChgTerminate (s : State) : Host.Outcome State Fault Refusal :=
  act Mach.chgTerminate s

/-- CHG_RECHARGE (R100): DONE to CC. -/
def execChgRecharge (s : State) : Host.Outcome State Fault Refusal :=
  act Mach.chgRecharge s

/-- CHG_PAUSE (R100): PAUSE above 105 °C. -/
def execChgPause (s : State) : Host.Outcome State Fault Refusal :=
  act Mach.chgPause s

/-- CHG_RESUME (R100): CC again below 95 °C. -/
def execChgResume (s : State) : Host.Outcome State Fault Refusal :=
  act Mach.chgResume s

/-- CHG_FAULT (R100): FAULT after TMAX hours. -/
def execChgFault (s : State) : Host.Outcome State Fault Refusal :=
  act Mach.chgFault s

/-- CHG_VAUX_LOSS (R100): OFF at once. -/
def execChgVauxLoss (s : State) : Host.Outcome State Fault Refusal :=
  act Mach.chgVauxLoss s

/-- CELL_PRESENCE_CHECK (R102): the test load, and what it shows. -/
def execCellPresenceCheck (fell : Bool) (s : State) : Host.Outcome State Fault Refusal :=
  act (fun m => m.cellCheck fell) s

/-- GAUGE_FULL (R104): a write of GAUGE_CTL with FULL. -/
def execGaugeFull (a : Acc) (d : Word) (s : State) : Host.Outcome State Fault Refusal :=
  act (fun m => m.write a 0x000234 (d ||| 1)) s

/-- GAUGE_CLR_AVG (R105): a write of GAUGE_CTL with CLR_AVG. -/
def execGaugeClrAvg (a : Acc) (d : Word) (s : State) : Host.Outcome State Fault Refusal :=
  act (fun m => m.write a 0x000234 (d ||| 2)) s

/-- RESERVE_UPDATE (R106): the second of the gauge. -/
def execReserveUpdate (mv : Nat) (net : Int) (s : State) : Host.Outcome State Fault Refusal :=
  act (fun m => m.reserveUpdate mv net) s

/-- VLINK_RECOVERY (R109, R400): VLINK is back, and the ports start again. -/
def execVlinkRecovery (s : State) : Host.Outcome State Fault Refusal :=
  act Mach.vlinkBack s

/-- VCORE_WARN_CLEAR (R109): PWR_STAT.CORE_WARN clears. -/
def execVcoreWarnClear (s : State) : Host.Outcome State Fault Refusal :=
  act Mach.vcoreWarnEnd s

/-- VBAK_LOW_CLEAR (R92, R109): PWR_STAT.VBAK_LOW clears. -/
def execVbakLowClear (s : State) : Host.Outcome State Fault Refusal :=
  act Mach.vbakLowEnd s

/-- VDDO_RISE (R98): the timers of an absent bank start. -/
def execVddoRise (k : Bank) (s : State) : Host.Outcome State Fault Refusal :=
  act (fun m => m.vddoRise k) s

end Sys2Proof.Machine
end

