-- ==== Sys2Proof/Machine/CmdRefs.lean ====
section
/-! DEFINITION. The meanings of the commands of the references and the root (chapter 07). Every row's effect is one change of the machine, whose
consequences are worked off before the command ends. -/
namespace Sys2Proof.Machine

/-- REF_CFG_WRITE (R155): a write of REF_CFG_i. -/
def execRefCfgWrite (a : Acc) (i : Fin 10) (d : Word) (s : State) : Host.Outcome State Fault Refusal :=
  act (fun m => m.write a (0x010000 + 0x20 * i.val) d) s

/-- REF_ACTIVITY (R158): QUALIFYING. -/
def execRefActivity (i : Fin 10) (s : State) : Host.Outcome State Fault Refusal :=
  act (fun m => if m.refLive i.val then m.refActivity i.val else m) s

/-- REF_LOS (R156, R158): disqualified. The activity of sources 8 and 9 is a condition, and while it holds there is no loss. -/
def execRefLos (i : Fin 10) (s : State) : Host.Outcome State Fault Refusal :=
  act (fun m => if 8 ≤ i.val && m.refLive i.val then m else m.refLos i.val) s

/-- REF_PHIT (R156): disqualified by a phase hit. -/
def execRefPhit (i : Fin 10) (dev : Word) (s : State) : Host.Outcome State Fault Refusal :=
  act (fun m => m.refPhit i.val dev) s

/-- FREQ_GATE_END (R156, R157): the frequency check. -/
def execFreqGateEnd (i : Fin 10) (ppb : Word) (s : State) : Host.Outcome State Fault Refusal :=
  act (fun m => m.freqGate i.val ppb) s

/-- REF_QUAL_DONE (R158): QUAL_T has elapsed. -/
def execRefQualDone (i : Fin 10) (s : State) : Host.Outcome State Fault Refusal :=
  act (fun m => m.refQualDone i.val) s

/-- SEL_CTL_WRITE (R160): a write of SEL_CTL. -/
def execSelCtlWrite (a : Acc) (d : Word) (s : State) : Host.Outcome State Fault Refusal :=
  act (fun m => m.write a 0x010204 d) s

/-- WTR_EXPIRE (R161): the pending source. -/
def execWtrExpire (s : State) : Host.Outcome State Fault Refusal :=
  act Mach.wtrExpire s

/-- SWITCH_EDGE (R163): build-out or slew. -/
def execSwitchEdge (err : Word) (s : State) : Host.Outcome State Fault Refusal :=
  act (fun m => m.switchEdge err) s

/-- DPLL_EDGE (R165, R166): the lock criteria. -/
def execDpllEdge (err fdiff demand : Word) (s : State) : Host.Outcome State Fault Refusal :=
  act (fun m => m.dpllEdge err fdiff demand) s

/-- HIST_VALID (R168): the holdover history. The average is the device's own (`Mach.holdAvg`): the command's operand is not read. -/
def execHistValid (_avg : Word) (s : State) : Host.Outcome State Fault Refusal :=
  act Mach.histValid s

/-- HOLD_LONG (R169): the fault. -/
def execHoldLong (s : State) : Host.Outcome State Fault Refusal :=
  act Mach.holdLong s

/-- PPS_EDGE (R173, R174): an edge of PPS_IN. -/
def execPpsEdge (levels : Bool) (interval : Nat) (s : State) : Host.Outcome State Fault Refusal :=
  act (fun m => m.ppsEdge levels interval) s

/-- PPS_MISS (R174): no accepted edge. -/
def execPpsMiss (s : State) : Host.Outcome State Fault Refusal :=
  act Mach.ppsMiss s

/-- TUNE_SLEW_DONE (R167): the target is reached. -/
def execTuneSlewDone (s : State) : Host.Outcome State Fault Refusal :=
  act Mach.tuneDone s

end Sys2Proof.Machine
end

