-- ==== Sys2Proof/Machine/CmdRegister.lean ====
section
/-! DEFINITION. The meanings of the register, window and service commands (chapters 02 and 06). Every row's effect is one change of the machine, whose
consequences are worked off before the command ends. -/
namespace Sys2Proof.Machine

/-- A write of IND_DATA, or of a word of the stream alias (R52). -/
def dataAddr (x : Win) (alias_ : Option (Fin 256)) : Nat :=
  match alias_ with
  | none => winBase x + 4
  | some i => winBase x + 0x400 + 4 * i.val

/-- A read through the bus; what it returns is kept in the model's own field (R52). -/
def Mach.readData (a : Acc) (addr : Nat) (m : Mach) : Mach :=
  let e := m.busRead a addr
  { e.2 with rdata := e.1 }

/-- A write of SVC_CTL with an operation code (R147). -/
def Mach.svcWrite (a : Acc) (op : Nat) (m : Mach) : Mach := m.write a 0x000420 (word op)

/-- The oldest posted word reaches the always-on domain (R107, R141). -/
def Mach.aonArrive (m : Mach) : Mach :=
  match m.aonPost with
  | [] => m
  | (off, v) :: t =>
    let old := m.aw off
    let m1 := ({ m with aonPost := t }).setAw off v
    if off = 0x2000 then m1.updPwr (fun x => { x with cellWritten := true })
    else if 0x1000 ≤ off && off ≤ 0x1800 then m1.listArrive off old v else m1

/-- REGISTER_WRITE (R33): the ordered checks and the update. -/
def execRegisterWrite (a : Acc) (addr : BitVec 24) (d : Word) (s : State) : Host.Outcome State Fault Refusal :=
  act (fun m => m.write a addr.toNat d) s

/-- UNLOCK_WRITE (R37): arming or disarming. -/
def execUnlockWrite (a : Acc) (blk : Fin 16) (d : Word) (s : State) : Host.Outcome State Fault Refusal :=
  act (fun m => m.write a (0x10000 * blk.val + 0xFFF0) d) s

/-- WIDE_READ (R44): WIDE_SEL with WR 0. -/
def execWideRead (a : Acc) (d : Word) (s : State) : Host.Outcome State Fault Refusal :=
  act (fun m => m.write a 0x000110 (setF d 31 1 0)) s

/-- WIDE_WRITE (R45): WIDE_SEL with WR 1. -/
def execWideWrite (a : Acc) (d : Word) (s : State) : Host.Outcome State Fault Refusal :=
  act (fun m => m.write a 0x000110 (setF d 31 1 1)) s

/-- WIDE_DONE (R44, R45): the transfer completes. -/
def execWideDone (inst : Fin 17) (s : State) : Host.Outcome State Fault Refusal :=
  act (fun m => m.wideDone inst.val) s

/-- CFGCRC_CAPTURE (R41): CFGCRC_CTL with CAPTURE. -/
def execCfgcrcCapture (a : Acc) (d : Word) (s : State) : Host.Outcome State Fault Refusal :=
  act (fun m => m.write a 0x000120 (d ||| 2)) s

/-- CFGCRC_SWEEP_END (R42): one sweep. -/
def execCfgcrcSweepEnd (s : State) : Host.Outcome State Fault Refusal :=
  act Mach.sweepEnd s

/-- IND_LOCK_REQ (R49): a write of IND_LOCK. -/
def execIndLockReq (a : Acc) (w : Win) (d : Word) (s : State) : Host.Outcome State Fault Refusal :=
  act (fun m => m.write a (winBase w + 0xC) d) s

/-- IND_ADDR_WRITE (R49, R52): a write of IND_ADDR. -/
def execIndAddrWrite (a : Acc) (w : Win) (d : Word) (s : State) : Host.Outcome State Fault Refusal :=
  act (fun m => m.write a (winBase w) d) s

/-- IND_DATA_WRITE (R50, R52): one word staged. -/
def execIndDataWrite (a : Acc) (w : Win) (alias_ : Option (Fin 256)) (d : Word) (s : State) : Host.Outcome State Fault Refusal :=
  act (fun m => m.write a (dataAddr w alias_) d) s

/-- IND_DATA_READ (R50, R52): one word read. -/
def execIndDataRead (a : Acc) (w : Win) (alias_ : Option (Fin 256)) (s : State) : Host.Outcome State Fault Refusal :=
  act (fun m => m.readData a (dataAddr w alias_)) s

/-- IND_COMMIT (R51): IND_CTL with COMMIT. -/
def execIndCommit (a : Acc) (w : Win) (d : Word) (s : State) : Host.Outcome State Fault Refusal :=
  act (fun m => m.write a (winBase w + 8) (d ||| 0x100)) s

/-- IND_DISCARD (R51): IND_CTL with DISCARD. -/
def execIndDiscard (a : Acc) (w : Win) (d : Word) (s : State) : Host.Outcome State Fault Refusal :=
  act (fun m => m.write a (winBase w + 8) (d ||| 0x200)) s

/-- IND_LOCK_TIMEOUT (R53): the lock is freed at the end of its idle count. -/
def execIndLockTimeout (w : Win) (s : State) : Host.Outcome State Fault Refusal :=
  act (Mach.winTimeout w) s

/-- SVC_READ (R147): OP READ. -/
def execSvcRead (a : Acc) (s : State) : Host.Outcome State Fault Refusal :=
  act (fun m => m.svcWrite a 1) s

/-- SVC_ERASE (R147): OP ERASE. -/
def execSvcErase (a : Acc) (s : State) : Host.Outcome State Fault Refusal :=
  act (fun m => m.svcWrite a 2) s

/-- SVC_PROGRAM (R147): OP PROGRAM. -/
def execSvcProgram (a : Acc) (s : State) : Host.Outcome State Fault Refusal :=
  act (fun m => m.svcWrite a 3) s

/-- SVC_VERIFY (R147, R151): OP VERIFY. -/
def execSvcVerify (a : Acc) (s : State) : Host.Outcome State Fault Refusal :=
  act (fun m => m.svcWrite a 4) s

/-- SVC_CLOSE (R148): OP CLOSE. -/
def execSvcClose (a : Acc) (s : State) : Host.Outcome State Fault Refusal :=
  act (fun m => m.svcWrite a 15) s

/-- SVC_OP_DONE (R147, R151): the operation completes. -/
def execSvcOpDone (timeout : Bool) (bytes : List Byte) (sfdp : Option Sfdp) (s : State) : Host.Outcome State Fault Refusal :=
  act (fun m => m.svcDone timeout bytes sfdp) s

/-- SVC_SESSION_TIMEOUT (R148): the session closes. -/
def execSvcSessionTimeout (s : State) : Host.Outcome State Fault Refusal :=
  act Mach.svcTimeout s

/-- AON_WRITE_ARRIVE (R107, R141): a posted word takes effect. -/
def execAonWriteArrive (s : State) : Host.Outcome State Fault Refusal :=
  act Mach.aonArrive s

end Sys2Proof.Machine
end

