-- ==== Sys2Proof/Machine/CmdSecurity.lean ====
section
/-! DEFINITION. The meanings of the commands of security, the meters, the sentinel and the ledger (chapters 18 and 19). Every row's effect is one change of the machine, whose
consequences are worked off before the command ends. -/
namespace Sys2Proof.Machine

/-- KEY_PROG (R435): KEY_PROG with GO. -/
def execKeyProg (a : Acc) (d : Word) (s : State) : Host.Outcome State Fault Refusal :=
  act (fun m => m.write a 0x0B0110 (d ||| 0x100)) s

/-- KEY_BURN_DONE (R435, R437): VALID or DAMAGED. -/
def execKeyBurnDone (verified : Bool) (s : State) : Host.Outcome State Fault Refusal :=
  act (fun m => m.keyBurnDone verified) s

/-- EPOCH_BURN (R441): the new floor. -/
def execEpochBurn (fails : Fin 5) (s : State) : Host.Outcome State Fault Refusal :=
  act (fun m => m.epochStep fails.val) s

/-- LOCKOUT_EXPIRE (R446): the lockout ends. -/
def execLockoutExpire (k : Fin 6) (s : State) : Host.Outcome State Fault Refusal :=
  act (fun m => m.lockExpire k.val) s

/-- KEY_FAIL_AGE (R446): one failure is forgotten. -/
def execKeyFailAge (k : Fin 6) (s : State) : Host.Outcome State Fault Refusal :=
  act (fun m => m.failAge k.val) s

/-- MTR_CFG_WRITE (R461): a write of MTR_CFG_m. -/
def execMtrCfgWrite (a : Acc) (i : Fin 32) (d : Word) (s : State) : Host.Outcome State Fault Refusal :=
  act (fun m => m.write a (0x0C0000 + 4 * i.val) d) s

/-- METER_SAMPLE (R464): one sample of each group. -/
def execMeterSample (s : State) : Host.Outcome State Fault Refusal :=
  act Mach.meterSample s

/-- METER_TICK (R464, R465): 1/8 s. -/
def execMeterTick (s : State) : Host.Outcome State Fault Refusal :=
  act Mach.meterTick s

/-- HIRE_EXPIRE (R466): the session ends. -/
def execHireExpire (s : State) : Host.Outcome State Fault Refusal :=
  act Mach.hireExpire s

/-- SENT_CLR_WRITE (R472): latches clear. -/
def execSentClrWrite (a : Acc) (d : Word) (s : State) : Host.Outcome State Fault Refusal :=
  act (fun m => m.write a 0x0C0548 d) s

/-- TAMPER_STROBE (R470): one strobe. -/
def execTamperStrobe (i : Fin 4) (high : Bool) (s : State) : Host.Outcome State Fault Refusal :=
  act (fun m => m.tamperStrobe i.val high) s

/-- MOTION_EDGE (R471): one edge. -/
def execMotionEdge (s : State) : Host.Outcome State Fault Refusal :=
  act Mach.motionEdge s

/-- MOTION_HOLD_END (R471): the hold ends. -/
def execMotionHoldEnd (s : State) : Host.Outcome State Fault Refusal :=
  act Mach.motionHoldEnd s

/-- WAKE_TIMEOUT (R472): WAKE_OUT is released. -/
def execWakeTimeout (s : State) : Host.Outcome State Fault Refusal :=
  act Mach.wakeTimeout s

/-- LEDGER_WRITE (R476): one buffered entry. -/
def execLedgerWrite (s : State) : Host.Outcome State Fault Refusal :=
  act Mach.ledgerWrite s

/-- LEDGER_SEAL (R475): one block. -/
def execLedgerSeal (s : State) : Host.Outcome State Fault Refusal :=
  act Mach.ledgerSeal s

/-- LDG_CHECK (R478): LDG_CTL with CHECK. -/
def execLdgCheck (a : Acc) (d : Word) (s : State) : Host.Outcome State Fault Refusal :=
  act (fun m => m.write a 0x0C0568 (d ||| 1)) s

/-- CHAIN_CHECK_DONE (R478): PASS or FAIL. -/
def execChainCheckDone (s : State) : Host.Outcome State Fault Refusal :=
  act Mach.chainDone s

end Sys2Proof.Machine
end

