-- ==== Sys2Proof/Machine/CmdTest.lean ====
section
/-! DEFINITION. The meanings of the commands of self-test and TEASEL (chapter 22). Every row's effect is one change of the machine, whose
consequences are worked off before the command ends. -/
namespace Sys2Proof.Machine

/-- The root PLL test ends (R533): with a relock, or at step `failed`, after which the APLL goes on trying to lock (DEDUCED for the first two
steps, log entry 102). -/
def Mach.apllTest (failed : Nat) (m : Mach) : Mach :=
  match m.test.run with
  | some (7, _) =>
    if m.dev != .teasel then m
    else
      let m1 := if failed = 0 then ((m.rootLocked false).familyStart).portsStart else m
      m1.tstEnd (failed = 0) failed 0
  | _ => m

/-- SELFTEST_DUE (R519): a slot is asked for. -/
def execSelftestDue (x : Activity) (s : State) : Host.Outcome State Fault Refusal :=
  act (fun m => m.testDue x) s

/-- FDCAL_LINE_DONE (R520): one line. -/
def execFdcalLineDone (grp : Fin 17) (line : Fin 16) (ok : Bool) (stamp : BitVec 16) (s : State) : Host.Outcome State Fault Refusal :=
  act (fun m => m.lineDone grp line.val ok stamp.toNat) s

/-- FDCAL_SWAP (R521): the swap. -/
def execFdcalSwap (grp : Fin 17) (line : Fin 16) (s : State) : Host.Outcome State Fault Refusal :=
  act (fun m => m.lineSwap grp line.val) s

/-- LANE_TEST_STEP (R523): one step. -/
def execLaneTestStep (ok : Bool) (s : State) : Host.Outcome State Fault Refusal :=
  act (fun m => m.laneTest ok) s

/-- QENG_PIECE (R526): one piece. -/
def execQengPiece (ok : Bool) (s : State) : Host.Outcome State Fault Refusal :=
  act (fun m => m.qengTest ok) s

/-- SCRUB_WORD (R527): one word. -/
def execScrubWord (x : ScrubResult) (s : State) : Host.Outcome State Fault Refusal :=
  act (fun m => m.scrubTest x) s

/-- LINK_LOOPBACK (R528): K, or the failure. -/
def execLinkLoopback (p : LPort) (reason : Fin 4) (k : Int) (s : State) : Host.Outcome State Fault Refusal :=
  act (fun m => m.loopback p reason.val k) s

/-- TEASEL_ENTRY (R530): TEASEL. -/
def execTeaselEntry (s : State) : Host.Outcome State Fault Refusal :=
  act Mach.teaselEntry s

/-- TST_RUN (R532): TST_RUN with GO. -/
def execTstRun (a : Acc) (d : Word) (s : State) : Host.Outcome State Fault Refusal :=
  act (fun m => m.write a 0x0F0010 (setF d 31 1 1)) s

/-- APLL_TEST (R533): the relock. -/
def execApllTest (failed : Fin 4) (s : State) : Host.Outcome State Fault Refusal :=
  act (fun m => m.apllTest failed.val) s

end Sys2Proof.Machine
end

