-- ==== Sys2Proof/Machine/Dispatch.lean ====
section
/-! DEFINITION. The dispatch: one arm per command, each a direct call of the command's meaning. -/
namespace Sys2Proof.Machine

def exec (i : Instr) (s : State) : Host.Outcome State Fault Refusal :=
  match i with
  | .vbakRise => Sys2Proof.Machine.execVbakRise s
  | .pgMainTrue => Sys2Proof.Machine.execPgMainTrue s
  | .pgMainLoss c => Sys2Proof.Machine.execPgMainLoss c s
  | .vbakLoss => Sys2Proof.Machine.execVbakLoss s
  | .vcoreWarn => Sys2Proof.Machine.execVcoreWarn s
  | .vlinkBo => Sys2Proof.Machine.execVlinkBo s
  | .bankStop k => Sys2Proof.Machine.execBankStop k s
  | .bankRecovery k => Sys2Proof.Machine.execBankRecovery k s
  | .bankClassify k mv => Sys2Proof.Machine.execBankClassify k mv s
  | .bankPresent k => Sys2Proof.Machine.execBankPresent k s
  | .vbakLow => Sys2Proof.Machine.execVbakLow s
  | .chgPrechargeStart => Sys2Proof.Machine.execChgPrechargeStart s
  | .chgPrechargeEnd => Sys2Proof.Machine.execChgPrechargeEnd s
  | .chgCtlWrite a d => Sys2Proof.Machine.execChgCtlWrite a d s
  | .chgCvReached => Sys2Proof.Machine.execChgCvReached s
  | .chgTerminate => Sys2Proof.Machine.execChgTerminate s
  | .chgRecharge => Sys2Proof.Machine.execChgRecharge s
  | .chgPause => Sys2Proof.Machine.execChgPause s
  | .chgResume => Sys2Proof.Machine.execChgResume s
  | .chgFault => Sys2Proof.Machine.execChgFault s
  | .chgVauxLoss => Sys2Proof.Machine.execChgVauxLoss s
  | .cellPresenceCheck fell => Sys2Proof.Machine.execCellPresenceCheck fell s
  | .gaugeFull a d => Sys2Proof.Machine.execGaugeFull a d s
  | .gaugeClrAvg a d => Sys2Proof.Machine.execGaugeClrAvg a d s
  | .reserveUpdate mv net => Sys2Proof.Machine.execReserveUpdate mv net s
  | .resetNAssert => Sys2Proof.Machine.execResetNAssert s
  | .coreResetRelease s1 s2 s3 xo => Sys2Proof.Machine.execCoreResetRelease s1 s2 s3 xo s
  | .qualifyWindow count => Sys2Proof.Machine.execQualifyWindow count s
  | .flashWake => Sys2Proof.Machine.execFlashWake s
  | .sfdpDiscover t => Sys2Proof.Machine.execSfdpDiscover t s
  | .sfdpRetry => Sys2Proof.Machine.execSfdpRetry s
  | .imageHeaderCheck bytes => Sys2Proof.Machine.execImageHeaderCheck bytes s
  | .sectionCrcCheck payload crc => Sys2Proof.Machine.execSectionCrcCheck payload crc s
  | .cmacFinalise tag => Sys2Proof.Machine.execCmacFinalise tag s
  | .recordApply => Sys2Proof.Machine.execRecordApply s
  | .configEnd => Sys2Proof.Machine.execConfigEnd s
  | .apllLock => Sys2Proof.Machine.execApllLock s
  | .apllLol => Sys2Proof.Machine.execApllLol s
  | .rootToExpire => Sys2Proof.Machine.execRootToExpire s
  | .prepareDone lines stamps => Sys2Proof.Machine.execPrepareDone lines stamps s
  | .linkToExpire => Sys2Proof.Machine.execLinkToExpire s
  | .warm a => Sys2Proof.Machine.execWarm a s
  | .warmStopTimeout => Sys2Proof.Machine.execWarmStopTimeout s
  | .go a => Sys2Proof.Machine.execGo a s
  | .enterOchre a => Sys2Proof.Machine.execEnterOchre a s
  | .resume a => Sys2Proof.Machine.execResume a s
  | .partRestart a p => Sys2Proof.Machine.execPartRestart a p s
  | .registerWrite a addr d => Sys2Proof.Machine.execRegisterWrite a addr d s
  | .unlockWrite a blk d => Sys2Proof.Machine.execUnlockWrite a blk d s
  | .wideRead a d => Sys2Proof.Machine.execWideRead a d s
  | .wideWrite a d => Sys2Proof.Machine.execWideWrite a d s
  | .wideDone inst => Sys2Proof.Machine.execWideDone inst s
  | .cfgcrcCapture a d => Sys2Proof.Machine.execCfgcrcCapture a d s
  | .cfgcrcSweepEnd => Sys2Proof.Machine.execCfgcrcSweepEnd s
  | .indLockReq a w d => Sys2Proof.Machine.execIndLockReq a w d s
  | .indAddrWrite a w d => Sys2Proof.Machine.execIndAddrWrite a w d s
  | .indDataWrite a w alias_ d => Sys2Proof.Machine.execIndDataWrite a w alias_ d s
  | .indDataRead a w alias_ => Sys2Proof.Machine.execIndDataRead a w alias_ s
  | .indCommit a w d => Sys2Proof.Machine.execIndCommit a w d s
  | .indDiscard a w d => Sys2Proof.Machine.execIndDiscard a w d s
  | .indLockTimeout w => Sys2Proof.Machine.execIndLockTimeout w s
  | .svcRead a => Sys2Proof.Machine.execSvcRead a s
  | .svcErase a => Sys2Proof.Machine.execSvcErase a s
  | .svcProgram a => Sys2Proof.Machine.execSvcProgram a s
  | .svcVerify a => Sys2Proof.Machine.execSvcVerify a s
  | .svcClose a => Sys2Proof.Machine.execSvcClose a s
  | .svcOpDone timeout bytes sfdp => Sys2Proof.Machine.execSvcOpDone timeout bytes sfdp s
  | .svcSessionTimeout => Sys2Proof.Machine.execSvcSessionTimeout s
  | .refCfgWrite a ix d => Sys2Proof.Machine.execRefCfgWrite a ix d s
  | .refActivity ix => Sys2Proof.Machine.execRefActivity ix s
  | .refLos ix => Sys2Proof.Machine.execRefLos ix s
  | .refPhit ix dev => Sys2Proof.Machine.execRefPhit ix dev s
  | .freqGateEnd ix ppb => Sys2Proof.Machine.execFreqGateEnd ix ppb s
  | .refQualDone ix => Sys2Proof.Machine.execRefQualDone ix s
  | .selCtlWrite a d => Sys2Proof.Machine.execSelCtlWrite a d s
  | .wtrExpire => Sys2Proof.Machine.execWtrExpire s
  | .switchEdge err => Sys2Proof.Machine.execSwitchEdge err s
  | .dpllEdge err fdiff demand => Sys2Proof.Machine.execDpllEdge err fdiff demand s
  | .histValid avg => Sys2Proof.Machine.execHistValid avg s
  | .holdLong => Sys2Proof.Machine.execHoldLong s
  | .ppsEdge levels interval => Sys2Proof.Machine.execPpsEdge levels interval s
  | .ppsMiss => Sys2Proof.Machine.execPpsMiss s
  | .chCtlStart n => Sys2Proof.Machine.execChCtlStart n s
  | .chCtlStop n => Sys2Proof.Machine.execChCtlStop n s
  | .chCtlTrig n => Sys2Proof.Machine.execChCtlTrig n s
  | .chCtlResync n => Sys2Proof.Machine.execChCtlResync n s
  | .chFirstEdge n => Sys2Proof.Machine.execChFirstEdge n s
  | .cleanStopEnd n => Sys2Proof.Machine.execCleanStopEnd n s
  | .stopWatchdog n => Sys2Proof.Machine.execStopWatchdog n s
  | .burstLastEdge n => Sys2Proof.Machine.execBurstLastEdge n s
  | .updatePoint n => Sys2Proof.Machine.execUpdatePoint n s
  | .phaseMoveDone n => Sys2Proof.Machine.execPhaseMoveDone n s
  | .engCheck e c1 c2 => Sys2Proof.Machine.execEngCheck e c1 c2 s
  | .selfchkRestore e => Sys2Proof.Machine.execSelfchkRestore e s
  | .grpCfgWrite a g d => Sys2Proof.Machine.execGrpCfgWrite a g d s
  | .groupEpoch g => Sys2Proof.Machine.execGroupEpoch g s
  | .vacancyHoldExpire g => Sys2Proof.Machine.execVacancyHoldExpire g s
  | .grpLockReq a g d => Sys2Proof.Machine.execGrpLockReq a g d s
  | .grpLockCommit a g d => Sys2Proof.Machine.execGrpLockCommit a g d s
  | .grpLockDiscard a g d => Sys2Proof.Machine.execGrpLockDiscard a g d s
  | .grpLockTimeout g => Sys2Proof.Machine.execGrpLockTimeout g s
  | .bankVselWrite a k d => Sys2Proof.Machine.execBankVselWrite a k d s
  | .bondWrite a n d => Sys2Proof.Machine.execBondWrite a n d s
  | .pinFuncSwitch a n d => Sys2Proof.Machine.execPinFuncSwitch a n d s
  | .parkIntervalEnd n => Sys2Proof.Machine.execParkIntervalEnd n s
  | .pgpoWrite a k d => Sys2Proof.Machine.execPgpoWrite a k d s
  | .haltAssert => Sys2Proof.Machine.execHaltAssert s
  | .cleanGateEffect n => Sys2Proof.Machine.execCleanGateEffect n s
  | .haltRelease => Sys2Proof.Machine.execHaltRelease s
  | .haltLatchClear a d => Sys2Proof.Machine.execHaltLatchClear a d s
  | .monitorVisit n x => Sys2Proof.Machine.execMonitorVisit n x s
  | .monRequest a d => Sys2Proof.Machine.execMonRequest a d s
  | .escalationTimer b c p => Sys2Proof.Machine.execEscalationTimer b c p s
  | .fltAck a b d => Sys2Proof.Machine.execFltAck a b d s
  | .fltAckall a b => Sys2Proof.Machine.execFltAckall a b s
  | .firstFaultClear a b => Sys2Proof.Machine.execFirstFaultClear a b s
  | .devFirstClear a => Sys2Proof.Machine.execDevFirstClear a s
  | .fltCfgWrite a b c d => Sys2Proof.Machine.execFltCfgWrite a b c d s
  | .fltInj a d => Sys2Proof.Machine.execFltInj a d s
  | .govPass => Sys2Proof.Machine.execGovPass s
  | .tsenseRead t0 t1 t2 t3 => Sys2Proof.Machine.execTsenseRead t0 t1 t2 t3 s
  | .budgetWrite a d => Sys2Proof.Machine.execBudgetWrite a d s
  | .budgetStale => Sys2Proof.Machine.execBudgetStale s
  | .budgetWait n => Sys2Proof.Machine.execBudgetWait n s
  | .dwellEnd => Sys2Proof.Machine.execDwellEnd s
  | .slotEnd x => Sys2Proof.Machine.execSlotEnd x s
  | .partResetRequest a p owner => Sys2Proof.Machine.execPartResetRequest a p owner s
  | .partEnWrite a d => Sys2Proof.Machine.execPartEnWrite a d s
  | .partClearDone p => Sys2Proof.Machine.execPartClearDone p s
  | .ownershipWrite a addr d => Sys2Proof.Machine.execOwnershipWrite a addr d s
  | .attach a => Sys2Proof.Machine.execAttach a s
  | .attUnbind a d => Sys2Proof.Machine.execAttUnbind a d s
  | .tokenRefill p => Sys2Proof.Machine.execTokenRefill p s
  | .spiHeader bytes => Sys2Proof.Machine.execSpiHeader bytes s
  | .spiSegment words crc => Sys2Proof.Machine.execSpiSegment words crc s
  | .spiReadFrame cut => Sys2Proof.Machine.execSpiReadFrame cut s
  | .spiAbort => Sys2Proof.Machine.execSpiAbort s
  | .i2cWriteHeader tag addr => Sys2Proof.Machine.execI2cWriteHeader tag addr s
  | .i2cWriteGroup d => Sys2Proof.Machine.execI2cWriteGroup d s
  | .i2cReadWord first bytes => Sys2Proof.Machine.execI2cReadWord first bytes s
  | .i2cAbort bytes hdr => Sys2Proof.Machine.execI2cAbort bytes hdr s
  | .i2cTimeout bytes => Sys2Proof.Machine.execI2cTimeout bytes s
  | .cmdPush a d => Sys2Proof.Machine.execCmdPush a d s
  | .cmdDispatch => Sys2Proof.Machine.execCmdDispatch s
  | .nop => Sys2Proof.Machine.execNop s
  | .chStart => Sys2Proof.Machine.execChStart s
  | .chStop => Sys2Proof.Machine.execChStop s
  | .chResync => Sys2Proof.Machine.execChResync s
  | .chTrig => Sys2Proof.Machine.execChTrig s
  | .govBudgetSet => Sys2Proof.Machine.execGovBudgetSet s
  | .svcOpen => Sys2Proof.Machine.execSvcOpen s
  | .retireClear => Sys2Proof.Machine.execRetireClear s
  | .hireOpen => Sys2Proof.Machine.execHireOpen s
  | .hireClose => Sys2Proof.Machine.execHireClose s
  | .meterReport => Sys2Proof.Machine.execMeterReport s
  | .ledgerReport => Sys2Proof.Machine.execLedgerReport s
  | .lockoutClear => Sys2Proof.Machine.execLockoutClear s
  | .evqPop a d => Sys2Proof.Machine.execEvqPop a d s
  | .ldqPop a d => Sys2Proof.Machine.execLdqPop a d s
  | .qHiwatClear a q d => Sys2Proof.Machine.execQHiwatClear a q d s
  | .linkDetect p => Sys2Proof.Machine.execLinkDetect p s
  | .linkAlign p => Sys2Proof.Machine.execLinkAlign p s
  | .trainingSetRx p t sent16 => Sys2Proof.Machine.execTrainingSetRx p t sent16 s
  | .trainTimeout p => Sys2Proof.Machine.execTrainTimeout p s
  | .linkDown p cause => Sys2Proof.Machine.execLinkDown p cause s
  | .delayQuery => Sys2Proof.Machine.execDelayQuery s
  | .dqAnswer id turn => Sys2Proof.Machine.execDqAnswer id turn s
  | .delayResponse id rtt turn => Sys2Proof.Machine.execDelayResponse id rtt turn s
  | .linkFrameRx p bytes eof room => Sys2Proof.Machine.execLinkFrameRx p bytes eof room s
  | .linkAckRx p seq => Sys2Proof.Machine.execLinkAckRx p seq s
  | .linkNakRx p seq => Sys2Proof.Machine.execLinkNakRx p seq s
  | .linkBusyRx p seq => Sys2Proof.Machine.execLinkBusyRx p seq s
  | .linkRetryTimeout p => Sys2Proof.Machine.execLinkRetryTimeout p s
  | .rreq => Sys2Proof.Machine.execRreq s
  | .rrsp => Sys2Proof.Machine.execRrsp s
  | .lraGo a d => Sys2Proof.Machine.execLraGo a d s
  | .transactionTimeout tid => Sys2Proof.Machine.execTransactionTimeout tid s
  | .linkCmd => Sys2Proof.Machine.execLinkCmd s
  | .linkCpl => Sys2Proof.Machine.execLinkCpl s
  | .evtForward => Sys2Proof.Machine.execEvtForward s
  | .agack => Sys2Proof.Machine.execAgack s
  | .enum => Sys2Proof.Machine.execEnum s
  | .enumDone => Sys2Proof.Machine.execEnumDone s
  | .enumTimeout => Sys2Proof.Machine.execEnumTimeout s
  | .budgetSend => Sys2Proof.Machine.execBudgetSend s
  | .budgetRx => Sys2Proof.Machine.execBudgetRx s
  | .noticeRx => Sys2Proof.Machine.execNoticeRx s
  | .calStart => Sys2Proof.Machine.execCalStart s
  | .lnkCalWrite a d => Sys2Proof.Machine.execLnkCalWrite a d s
  | .gridRx p flags g arrival => Sys2Proof.Machine.execGridRx p flags g arrival s
  | .calResult => Sys2Proof.Machine.execCalResult s
  | .calTimeout => Sys2Proof.Machine.execCalTimeout s
  | .dupTrack => Sys2Proof.Machine.execDupTrack s
  | .keyProg a d => Sys2Proof.Machine.execKeyProg a d s
  | .keyBurnDone verified => Sys2Proof.Machine.execKeyBurnDone verified s
  | .epochBurn fails => Sys2Proof.Machine.execEpochBurn fails s
  | .lockoutExpire k => Sys2Proof.Machine.execLockoutExpire k s
  | .mtrCfgWrite a ix d => Sys2Proof.Machine.execMtrCfgWrite a ix d s
  | .meterSample => Sys2Proof.Machine.execMeterSample s
  | .meterTick => Sys2Proof.Machine.execMeterTick s
  | .hireExpire => Sys2Proof.Machine.execHireExpire s
  | .sentClrWrite a d => Sys2Proof.Machine.execSentClrWrite a d s
  | .tamperStrobe ix high => Sys2Proof.Machine.execTamperStrobe ix high s
  | .motionEdge => Sys2Proof.Machine.execMotionEdge s
  | .motionHoldEnd => Sys2Proof.Machine.execMotionHoldEnd s
  | .wakeTimeout => Sys2Proof.Machine.execWakeTimeout s
  | .ledgerWrite => Sys2Proof.Machine.execLedgerWrite s
  | .ledgerSeal => Sys2Proof.Machine.execLedgerSeal s
  | .ldgCheck a d => Sys2Proof.Machine.execLdgCheck a d s
  | .chainCheckDone => Sys2Proof.Machine.execChainCheckDone s
  | .selftestDue x => Sys2Proof.Machine.execSelftestDue x s
  | .fdcalLineDone grp line ok stamp => Sys2Proof.Machine.execFdcalLineDone grp line ok stamp s
  | .fdcalSwap grp line => Sys2Proof.Machine.execFdcalSwap grp line s
  | .laneTestStep ok => Sys2Proof.Machine.execLaneTestStep ok s
  | .qengPiece ok => Sys2Proof.Machine.execQengPiece ok s
  | .scrubWord x => Sys2Proof.Machine.execScrubWord x s
  | .linkLoopback p reason k => Sys2Proof.Machine.execLinkLoopback p reason k s
  | .teaselEntry => Sys2Proof.Machine.execTeaselEntry s
  | .tstRun a d => Sys2Proof.Machine.execTstRun a d s
  | .apllTest failed => Sys2Proof.Machine.execApllTest failed s
  | .vlinkRecovery => Sys2Proof.Machine.execVlinkRecovery s
  | .vcoreWarnClear => Sys2Proof.Machine.execVcoreWarnClear s
  | .vbakLowClear => Sys2Proof.Machine.execVbakLowClear s
  | .vddoRise k => Sys2Proof.Machine.execVddoRise k s
  | .oscillatorStart => Sys2Proof.Machine.execOscillatorStart s
  | .tapInstructionUpdate ix => Sys2Proof.Machine.execTapInstructionUpdate ix s
  | .aonWriteArrive => Sys2Proof.Machine.execAonWriteArrive s
  | .forwardResend ledger => Sys2Proof.Machine.execForwardResend ledger s
  | .busyWaitExpire p => Sys2Proof.Machine.execBusyWaitExpire p s
  | .tuneSlewDone => Sys2Proof.Machine.execTuneSlewDone s
  | .keyFailAge k => Sys2Proof.Machine.execKeyFailAge k s
  | .rawEventAge b c p => Sys2Proof.Machine.execRawEventAge b c p s

end Sys2Proof.Machine
end

