-- ==== Sys2Proof/Machine/Step.lean ====
section
/-! DEFINITION. The step: the command at the front of the queue, or one unit of time where none waits. -/
namespace Sys2Proof.Machine

/-- The block's idle step: real time passes by one unit of 5 ns, with everything that the spec lets count by itself (DESIGN CHOICE, log entry 1). -/
def idle (s : State) : State := { s with m := (s.m.advance 1).settle }

/-- One step: the command at the front of the queue acts on the state with the queue's rest; with no command the block idles. -/
def step (s : State) : Host.Outcome State Fault Refusal :=
  match s.pending with
  | [] => .next (idle s)
  | i :: rest => exec i { s with pending := rest }

/-- The state with the command that a word spells put at the front of its queue. The table gives no row any bits, so no word spells
a command. -/
def State.withFetchWord (s : State) (nbits w : Nat) : State :=
  match Sys2Proof.decodeTableWord nbits w with
  | some i => { s with pending := i :: s.pending }
  | none => s

end Sys2Proof.Machine
end

