-- ==== Sys2Proof/Safety.lean ====
section
/-! DEFINITION. What the claims about the block are stated in. -/
namespace Sys2Proof.Machine

/-- Every sparse store of the machine is in its canonical form, so that equal contents are equal data. -/
def Mach.wf (m : Mach) : Bool :=
  cwf regReset m.regs && cwf tblReset m.tbl && cwf aonReset m.aon && cwf (fun _ => {}) m.wides && cwf (fun _ => {}) m.lines
    && cwf (fun _ => {}) m.recqs && cwf (fun _ => {}) m.cmdqs && cwf (fun _ => {}) m.grps && cwf (fun _ => {}) m.chans
    && cwf (fun _ => {}) m.mtrs && cwf (fun _ => none) m.timers

/-- The command answers the next state whose machine is `x` with its consequences worked off; the queue stands as it stood. -/
def Does (i : Instr) (s : State) (x : Mach) : Prop := exec i s = .next { s with m := x.settle }

/-- The command answers a next state of whose machine `P` holds; the queue stands as it stood. -/
def Yields (i : Instr) (s : State) (P : Mach → Prop) : Prop := ∃ m', exec i s = .next { s with m := m' } ∧ P m'

/-- The machine as an accepted register write leaves it before its word is stored: the access marks are clear (R356), and the
writer's arm of the block is used up (R37). -/
def Mach.begun (a : Acc) (addr : Nat) (m : Mach) : Mach := m.unmarked.spent (m.bind a) addr

/-- The access acts with P0's rights while the host interfaces serve, and no consequence of an earlier command is left. -/
abbrev Mach.byP0 (m : Mach) (a : Acc) : Prop := m.hostUp = true ∧ (m.bind a).isP0 = true ∧ m.todo = []

/-- The command in service that acts next: an urgent one goes first (R384). -/
abbrev Mach.serves (m : Mach) (v : Serving) : Prop := m.urgent = some v ∨ (m.urgent = none ∧ m.normal = some v)

/-- The registers whose write is a plain store under the gates of R33: no window register, UNLOCK, PGPO, ownership register
or alias of an always-on word. -/
def Row.ordinary (r : Row) (addr : Nat) : Bool :=
  addr % 4 == 0 && winOf addr == none && addr % 0x10000 != 0xFFF0 && aonAlias addr == none && (addr < 0x080000 || 0x0800A8 ≤ addr)
    && r.writer != .pgpo
    && (r.key == 0 && r.cfg == 0 || !(0x000420 ≤ addr && addr < 0x000600) && (addr / 0x10000 != 3 || addr < 0x030400 && addr % 0x20 == 0))

/-- N, H or BASEP of a group: words with limits while its EN is 1 (R220). -/
def grpLimited (addr : Nat) : Bool := addr < 0x030400 && (addr % 0x20 == 4 || addr % 0x20 == 8 || addr % 0x20 == 12) && addr / 0x10000 == 3

/-- No check of R33 refuses a write of the ordinary register `r` at `addr`: the ports serve, the access is bound or the register
is the port's own and partitions exist, it may write it, no staging takes the word, and neither the service path nor the accessor's mailbox
is busy with it; N, H and BASEP of an enabled group have a statement of their own. -/
abbrev Mach.opens (m : Mach) (a : Acc) (addr : Nat) (r : Row) : Prop :=
  m.hostUp = true ∧ m.todo = [] ∧ (m.bind a ≠ .unbound ∨ (r.inst = .port ∧ m.anyInst = true)) ∧ rowOf addr = some r ∧ r.ordinary addr = true ∧
  (addr / 0x10000 ≠ 15 ∨ m.dev = .teasel) ∧ (m.bind a ≠ .sec ∨ r.inst ≠ .bank ∨ addr / 0x10000 ≠ 6) ∧
  m.mayWrite r (m.bind a) addr = true ∧ (r.own = 0 ∨ (m.bind a).isP0 = true) ∧
  (r.writer ≠ .p0key ∨ m.mayOwnKey (m.bind a) addr = true) ∧ m.lockedGrp r (m.bind a) addr = none ∧
  (addr ≠ 0x000110 ∨ (m.begun a addr).fb (WIDE_STAT.BUSY.inst (m.bind a).inst) = false) ∧
  (m.begun a addr).svcBusy addr = false ∧ (m.begun a addr).grpPending addr = false ∧
  (grpLimited addr = false ∨ (m.begun a addr).fb (GRP_CFG.EN (grpOf addr)) = false)

end Sys2Proof.Machine
end

