-- ==== Sys2Proof/Certificates/Slice0/Obligations.lean ====
section
/-! DEFINITION. The statements about the block that are to be proved. -/
open Sys2Proof Sys2Proof.Machine

/-- From R85 and R86: the four moves that the supplies drive. The backup rises with AON_LOST; PG_MAIN true begins BOOT with the core at
reset and POWER_UP in the ledger; its loss records the cause; the loss of the backup leaves OFF. -/
def Obligations.SupplyMoves : Prop := ∀ s : State,
  (s.m.dev = .off → s.m.pwr.pgMain = false →
    Does .vbakRise s ((({ s.m with dev := .woad, boot := { s.m.boot with nextCause := 4 } }).put AON_STAT.LOST 1).ledger 0x01 0 0)) ∧
  (s.m.dev = .woad → Yields .pgMainTrue s (fun m => m.dev = .boot ∧ m.pwr.pgMain = true ∧ m.tbl = [] ∧ m.chans = [] ∧ m.ts = 0 ∧
    m.aon = s.m.aon ∧ m.tod = s.m.tod ∧ m.sec = s.m.sec ∧ m.ldgBuf = (s.m.ledger 0x02 0 0).ldgBuf)) ∧
  (∀ c, s.m.powered = true → Yields (.pgMainLoss c) s (fun m => m.dev = .woad ∧ m.pwr.pgMain = false ∧ m.pwr.lastDown = downCode c ∧
    m.tbl = [] ∧ m.chans = [] ∧ m.aonPost = [] ∧ m.todo = [] ∧ m.aon = (s.m.svcClose.keyCut).aon ∧ m.tod = s.m.tod)) ∧
  (Yields .vbakLoss s (fun m => m.dev = .off ∧ m.regs = [] ∧ m.tbl = [] ∧ m.aon = [] ∧ m.ldgBuf = [] ∧ m.tod = 0 ∧
    m.pwr.pgMain = s.m.pwr.pgMain ∧ m.sec.uid = s.m.sec.uid ∧ m.sec.ones = s.m.sec.ones))

/-- From R92, R96, R109, R293, R400 and R402: the warnings of the core and of the backup, and the link's supply, in every device state. Each
condition sets its bit of PWR_STAT (clears VLINK_OK) once until it ends; while the main supplies stand it brings its event and its fault, and a
low backup its ledger entry and the wake in every state but OFF, where nothing records; a VLINK brown-out takes both ports to IDLE with
cause 5. The end of a condition changes its bit alone, and the ports start again where VLINK is back and the root runs. -/
def Obligations.SupplyWarnings : Prop := ∀ s : State,
  (s.m.pwr.coreWarn = true → Does .vcoreWarn s s.m) ∧
  (s.m.pwr.coreWarn = false →
    let m1 := { s.m with pwr := { s.m.pwr with coreWarn := true } }
    (s.m.powered = true → Does .vcoreWarn s ((m1.put PWR_EVT.CORE_WARN 1).raise fVcoreWarn 0 (word m1.pwrStat))) ∧
    (s.m.powered = false → Does .vcoreWarn s m1)) ∧
  (Does .vcoreWarnClear s { s.m with pwr := { s.m.pwr with coreWarn := false } }) ∧
  ((s.m.dev = .off ∨ s.m.pwr.vbakLow = true) → Does .vbakLow s s.m) ∧
  (s.m.dev ≠ .off → s.m.pwr.vbakLow = false →
    let th := getF (s.m.aw 0x2004) 0 6
    let m1 := (({ s.m with pwr := { s.m.pwr with vbakLow := true } }).ledger 0x04 th 0).wakeBy 3
    (s.m.dev = .woad → Does .vbakLow s m1) ∧
    (s.m.dev ≠ .woad → Does .vbakLow s ((m1.put PWR_EVT.VBAK_LOW 1).raise fVbakLow 0 (word (th + 65536 * s.m.f RESERVE.DAYS))))) ∧
  (Does .vbakLowClear s { s.m with pwr := { s.m.pwr with vbakLow := false } }) ∧
  (s.m.powered = false ∨ s.m.pwr.vlinkOk = false → Does .vlinkBo s { s.m with pwr := { s.m.pwr with vlinkOk := false } }) ∧
  (s.m.powered = true → s.m.pwr.vlinkOk = true →
    let m1 := { s.m with pwr := { s.m.pwr with vlinkOk := false } }
    Does .vlinkBo s (((m1.put PWR_EVT.VLINK_BO 1).raise fVlinkBo 0 (word m1.pwrStat)).portsIdle 5)) ∧
  (let m1 := { s.m with pwr := { s.m.pwr with vlinkOk := true } }
   (s.m.running = true ∨ s.m.dev = .ochre → Does .vlinkRecovery s m1.portsStart) ∧
   (s.m.running = false → s.m.dev ≠ .ochre → Does .vlinkRecovery s m1))

/-- From R93, R94, R98 and R556: a bank's supply falls, rises, is measured and is found present. A bank stopped as 1.8 V reads class absent
from the stop on (R98). -/
def Obligations.BankSupplies : Prop := ∀ (s : State) (k : Bank),
  (let m0 := s.m.updPwr (fun x => { x with
      pres := setBit16 x.pres k false, stopped := setBit16 x.stopped k true,
      classDue := setBit16 x.classDue k false, presDue := setBit16 x.presDue k false })
   let m1 := if s.m.bankClass k = 1 then m0.setClass k 0 else m0
   (s.m.present k = false → Does (.bankStop k) s m1) ∧
   (s.m.present k = true → s.m.powered = false → Does (.bankStop k) s (m1.setVok k false)) ∧
   (s.m.present k = true → s.m.powered = true → Does (.bankStop k) s
     (((((m1.put BANK_BO.BO (s.m.f BANK_BO.BO ||| 2 ^ k.val)).setVok k false).bankHalt k).trimHold).raise fBankBo k
       (word (countIf (fun q => s.m.chst (16 * k + q) ≠ 0) (List.range 16) + 256 * s.m.bankClass k))))) ∧
  (s.m.pwr.stopped.getLsbD k = true → Does (.bankRecovery k) s (s.m.bankTimers k)) ∧
  (s.m.pwr.stopped.getLsbD k = false → Does (.bankRecovery k) s s.m) ∧
  (s.m.present k = false → Does (.vddoRise k) s ((s.m.setClass k 0).bankTimers k)) ∧
  (∀ mv, s.m.pwr.classDue.getLsbD k = true → Does (.bankClassify k mv) s
    (((s.m.reach (.bankClass k) (500 * usec)).updPwr (fun x => { x with classDue := setBit16 x.classDue k false })).setClass k (classOf mv))) ∧
  (s.m.pwr.presDue.getLsbD k = true → s.m.pwr.classDue.getLsbD k = false →
    let m0 := s.m.reach (.bankPres k) msec
    let m1 := m0.updPwr (fun x => { x with
      presDue := setBit16 x.presDue k false, stopped := setBit16 x.stopped k false, pres := setBit16 x.pres k true,
      presAt := cset (fun _ => none) x.presAt k (some m0.now) })
    (s.m.dev = .woad → Does (.bankPresent k) s (m1.setVok k (m1.matches' k))) ∧
    (s.m.powered = true → s.m.boot.held = false → Does (.bankPresent k) s (m1.checkVok k true)))

/-- From R100: the charger's state changes. CHG_STAT.STATE: 0 OFF, 1 PRECHARGE, 2 CC, 3 CV, 4 DONE, 5 PAUSE, 6 FAULT. In CC the charger
sources ICC, in PRECHARGE 0.5 mA, in CV a current that no rule states, else nothing. `chgClock` carries the time in CC and CV and the
60 s of the presence check on; CHG_FAULT comes when that time reaches TMAX hours. -/
def Obligations.ChargerStates : Prop := ∀ s : State,
  (s.m.f CHG_STAT.STATE = 0 → Does .chgPrechargeStart s
    (((s.m.chgClock 1).put CHG_STAT.STATE 1).put CHG_STAT.IOUT 5)) ∧
  (s.m.f CHG_STAT.STATE = 1 → s.m.f CHG_CTL.EN = 0 →
    Does .chgPrechargeEnd s (((s.m.chgClock 0).put CHG_STAT.STATE 0).put CHG_STAT.IOUT 0)) ∧
  (s.m.f CHG_STAT.STATE = 2 → Does .chgCvReached s
    (({ (s.m.chgClock 3).put CHG_STAT.STATE 3 with free := s.m.free + 1 }).put CHG_STAT.IOUT (getF (Config.freeWord s.m.free) 0 8))) ∧
  (s.m.f CHG_STAT.STATE = 3 → s.m.cellEnds = true → s.m.f CHG_CFG.ITERM ≠ 3 → Does .chgTerminate s
    ((((s.m.chgClock 4).put CHG_STAT.STATE 4).put CHG_STAT.IOUT 0).updPwr
      (fun x => { x with q := 100 * (getF (s.m.aw 0x2000) 0 24 : Int) }))) ∧
  (s.m.f CHG_STAT.STATE = 4 →
    Does .chgRecharge s (((s.m.chgClock 2).put CHG_STAT.STATE 2).put CHG_STAT.IOUT (s.m.f CHG_CFG.ICC))) ∧
  (∀ t : Int, (s.m.f CHG_STAT.STATE = 2 ∨ s.m.f CHG_STAT.STATE = 3) → s.m.tmax = some t → 1050 < t →
    Does .chgPause s (((s.m.chgClock 5).put CHG_STAT.STATE 5).put CHG_STAT.IOUT 0)) ∧
  (∀ t : Int, s.m.f CHG_STAT.STATE = 5 → s.m.tmax = some t → t < 950 →
    Does .chgResume s (((s.m.chgClock 2).put CHG_STAT.STATE 2).put CHG_STAT.IOUT (s.m.f CHG_CFG.ICC))) ∧
  ((s.m.f CHG_STAT.STATE = 2 ∨ s.m.f CHG_STAT.STATE = 3) → s.m.f CHG_CFG.TMAX ≠ 0 →
    let m0 := s.m.advNow (s.m.now + (3600 * second * s.m.f CHG_CFG.TMAX - s.m.chgTime))
    let m1 := (((m0.chgClock 6).put CHG_STAT.STATE 6).put CHG_STAT.IOUT 0).put PWR_EVT.CHG_FAULT 1
    Does .chgFault s (m1.raise fChgFault 0 (m1.reg 0x000228))) ∧
  (Does .chgVauxLoss s (((s.m.chgClock 0).put CHG_STAT.STATE 0).put CHG_STAT.IOUT 0))

/-- From R100 to R107: the writes of CHG_CTL and GAUGE_CTL by P0, the presence check of the cell, and the second of the gauge. A write of
CHG_CTL acts only where it changes EN: a 0 over a 0 leaves a precharge running (R100). -/
def Obligations.CellAndGauge : Prop := ∀ (s : State) (a : Acc) (d : Word),
  (s.m.byP0 a →
    let m1 := s.m.begun a 0x000220
    let m2 := m1.store 0x000220 (blend (m1.reg 0x000220) d 1)
    (d.getLsbD 0 = true → (m1.reg 0x000220).getLsbD 0 = false → m2.chgValid = true → m2.f CHG_STAT.STATE ≤ 1 →
      Does (.chgCtlWrite a d) s (((m2.chgClock 2).put CHG_STAT.STATE 2).put CHG_STAT.IOUT (m2.f CHG_CFG.ICC))) ∧
    (d.getLsbD 0 = true → (m1.reg 0x000220).getLsbD 0 = false → m2.chgValid = false →
      Does (.chgCtlWrite a d) s ((((m2.chgClock 0).put CHG_STAT.STATE 0).put CHG_STAT.IOUT 0).put CHG_STAT.CFGERR 1)) ∧
    (d.getLsbD 0 = false → (m1.reg 0x000220).getLsbD 0 = true →
      Does (.chgCtlWrite a d) s ((((m2.chgClock 0).put CHG_STAT.STATE 0).put CHG_STAT.IOUT 0).put CHG_STAT.CFGERR 0)) ∧
    (d.getLsbD 0 = (m1.reg 0x000220).getLsbD 0 → Does (.chgCtlWrite a d) s m2)) ∧
  (s.m.byP0 a →
    let m1 := s.m.begun a 0x000234
    let full := { m1 with pwr := { m1.pwr with q := 100 * (getF (m1.aw 0x2000) 0 24 : Int) } }
    (m1.f CHG_CFG.CELL_TYPE = 0 → d.getLsbD 1 = false → Does (.gaugeFull a d) s full) ∧
    (m1.f CHG_CFG.CELL_TYPE ≠ 0 → d.getLsbD 1 = false → Does (.gaugeFull a d) s m1) ∧
    (d.getLsbD 0 = false → Does (.gaugeClrAvg a d) s (m1.updPwr (fun x => { x with woad := [] }))) ∧
    (m1.f CHG_CFG.CELL_TYPE = 0 → d.getLsbD 0 = true → Does (.gaugeClrAvg a d) s (full.updPwr (fun x => { x with woad := [] })))) ∧
  ((s.m.f CHG_STAT.STATE = 2 ∨ s.m.f CHG_STAT.STATE = 3 ∨ s.m.f CHG_STAT.STATE = 4) →
    let m0 := (s.m.reach .cell (60 * second)).startTimer .cell
    let kept := (m0.updPwr (fun x => { x with noCell := false })).put CHG_STAT.NOCELL 0
    let lost := ((m0.updPwr (fun x => { x with noCell := true })).put CHG_STAT.NOCELL 1)
    (m0.pwr.noCell = true → Does (.cellPresenceCheck false) s ((kept.put PWR_EVT.CELL_RETURN 1).ledger 0x06 0 0)) ∧
    (m0.pwr.noCell = false → Does (.cellPresenceCheck false) s kept) ∧
    Does (.cellPresenceCheck true) s
      ((((lost.setChg 3).put PWR_EVT.CELL_ABSENT 1).ledger 0x05 0 0).raise fCellAbsent 0 (m0.reg 0x000224))) ∧
  (∀ mv net, s.m.dev ≠ .off →
    let m0 := (s.m.reach .gauge second).startTimer .gauge
    Does (.reserveUpdate mv net) s (((m0.updPwr (fun x => { x with q := m0.chargeAfter mv net })).woadSecond net).showReserve))

/-- From R68, R70, R73, R110 and R111: the core reset is asserted by RESET_N, the oscillator starts and is qualified by two accepted windows in a
row, and the release takes the straps by majority and RESET_CAUSE. A power-on reset or RESET_N opens the latch of STRAP_XO, and a release with another
value than it holds qualifies anew. The TAP takes an intrusive instruction only with TEST_MODE; the levels that SAMPLE and EXTEST leave in
the boundary-scan register are free (DESIGN CHOICE, log entry 78). -/
def Obligations.ClockAndReset : Prop := ∀ s : State,
  (s.m.powered = true → Yields .resetNAssert s (fun m => m.dev = .boot ∧ m.boot.resetN = true ∧ m.boot.held = true ∧ m.tbl = [] ∧ m.chans = [] ∧
    m.todo = [] ∧ m.tod = s.m.tod ∧ m.boot.xoOpen = true ∧
    (s.m.boot.held = false → m.boot.nextCause = if s.m.dev = .teasel then 5 else 1))) ∧
  (s.m.dev = .boot → s.m.boot.held = true → Does .oscillatorStart s { s.m with boot := { s.m.boot with osc := true } }) ∧
  (∀ n, s.m.dev = .boot → s.m.boot.held = true → s.m.boot.osc = true → s.m.boot.qualified = false →
    (11841 ≤ n → n ≤ 12573 → Does (.qualifyWindow n) s
      { s.m with boot := { s.m.boot with goodWin := s.m.boot.goodWin + 1, qualified := s.m.boot.goodWin + 1 == 2 } }) ∧
    (n < 11841 ∨ 12573 < n → s.m.boot.noclk ≠ 0 → Does (.qualifyWindow n) s
      { s.m with boot := { s.m.boot with goodWin := 0, noclk := satInc 255 s.m.boot.noclk } })) ∧
  (∀ s1 s2 s3 xo, s.m.dev = .boot → s.m.boot.held = true → s.m.boot.qualified = true →
    let v := if s.m.boot.xoOpen then xo else s.m.boot.xoLatch.getD xo
    (s.m.boot.xoLatch = some (!v) → Does (.coreResetRelease s1 s2 s3 xo) s (s.m.updBoot (fun b => { b with
      xoLatch := some v, xoOpen := false, qualified := false, osc := false, goodWin := 0, noclk := 0, resetN := false }))) ∧
    (s.m.boot.xoLatch ≠ some (!v) → Does (.coreResetRelease s1 s2 s3 xo) s
      (((s.m.put RESET_CAUSE.CAUSE s.m.boot.nextCause).put BOOT_STAT.NOCLK s.m.boot.noclk).updBoot (fun b => { b with
        held := false, resetN := false, straps := strapBits (majority s1 s2 s3) v, xoLatch := some v, xoOpen := false, noclk := 0,
        goodWin := 0, step := 1, relTime := s.m.now })))) ∧
  (s.m.powered = true → s.m.boot.straps.getLsbD 4 = true →
    Does (.tapInstructionUpdate .extest) s { s.m with tap := .extest }.scanLoad ∧
    Does (.tapInstructionUpdate .clamp) s { s.m with tap := .clamp }) ∧
  (s.m.powered = true → s.m.boot.straps.getLsbD 4 = false →
    Does (.tapInstructionUpdate .extest) s { s.m with tap := .bypass } ∧ Does (.tapInstructionUpdate .highz) s { s.m with tap := .bypass }) ∧
  (s.m.powered = true → Does (.tapInstructionUpdate .sample) s { s.m with tap := .sample }.scanLoad)

/-- From R114, R115, R120 and R129: the steps of BOOT at the flash, each in its own step, with the commands that it sends. BOOT_FAIL.INDEX and
BOOT_FAIL_ADDR are 0 where the spec names none (DESIGN CHOICE, log entry 83). -/
def Obligations.BootSteps : Prop := ∀ s : State,
  (s.m.inBoot 1 = true → Does .flashWake s
    ((s.m.flashSend [[0xAB]]).updBoot (fun b => { b with step := 2, woken := true }))) ∧
  (∀ t, s.m.inBoot 2 = true → s.m.boot.woken = true → sfdpCode t = none → s.m.keyValid 0 = true →
    Does (.sfdpDiscover t) s (((s.m.updBoot (fun b => { b with
      step := 3, discovered := true, erase4k := t.erase4k, quad := sfdpQuad t })).flashSend
        (discoverCmds t ++ [readCmd (sfdpQuad t)])).put BOOT_STAT.QUAD (b2n (sfdpQuad t)))) ∧
  (∀ t, s.m.inBoot 2 = true → s.m.boot.woken = true → sfdpCode t = some 1 → s.m.boot.wakes < 2 →
    Does (.sfdpDiscover t) s (((s.m.flashSend (discoverCmds t)).updBoot (fun b => { b with
      woken := false, wakes := b.wakes + 1 })).startTimer .sfdp)) ∧
  (∀ t, s.m.inBoot 2 = true → s.m.boot.woken = true → sfdpCode t = some 2 →
    Does (.sfdpDiscover t) s ((s.m.flashSend (discoverCmds t)).bootFail 2 0 0)) ∧
  (s.m.inBoot 2 = true → s.m.boot.woken = false →
    Does .sfdpRetry s ((s.m.reach .sfdp msec).updBoot (fun b => { b with step := 1 }))) ∧
  (∀ bytes, s.m.inBoot 3 = true → s.m.img.tableRead = false → s.m.img.staged = [] →
    (headerError (padTo 32 bytes) = none →
      Does (.imageHeaderCheck bytes) s { s.m with img := { s.m.img with staged := padTo 32 bytes } }) ∧
    (∀ o, headerError (padTo 32 bytes) = some o → Does (.imageHeaderCheck bytes) s (s.m.bootFail 3 0 o))) ∧
  (∀ (pl : List Byte) (crc : Word) (x : Section), s.m.inBoot 3 = true → s.m.img.tableRead = true → s.m.img.secs[s.m.img.next]? = some x →
    (crc32c (padTo x.len pl) = crc.toNat → Does (.sectionCrcCheck pl crc) s
      { s.m with img := { s.m.img with staged := s.m.img.staged ++ padTo x.len pl ++ wordBytes crc, next := s.m.img.next + 1 } }) ∧
    (crc32c (padTo x.len pl) ≠ crc.toNat → s.m.img.second = false → Does (.sectionCrcCheck pl crc) s
      (((((s.m.put BOOT_STAT.RETRY 1).put BOOT_STAT.RETRY_SEC s.m.img.next).put BOOT_STAT.QUAD 0).flashSend [readCmd false]).updImg
        (fun _ => { second := true }))) ∧
    (crc32c (padTo x.len pl) ≠ crc.toNat → s.m.img.second = true → Does (.sectionCrcCheck pl crc) s
      (s.m.bootFail 4 s.m.img.next (x.off + x.len)))) ∧
  (∀ tag, s.m.inBoot 3 = true → s.m.img.tableRead = true → s.m.img.secs.length ≤ s.m.img.next → s.m.epochDone = true →
    (cmac (s.m.slot 0).key s.m.img.staged = padTo 16 tag → s.m.todo = [] →
      Yields (.cmacFinalise tag) s (fun m => m.dev = .config ∧ m.boot.step = 5 ∧ m.img.shadow = true ∧ m.img.sec = 0 ∧ m.img.pos = 0 ∧
        m.img.staged = s.m.img.staged ++ padTo 16 tag)) ∧
    (cmac (s.m.slot 0).key s.m.img.staged ≠ padTo 16 tag →
      Does (.cmacFinalise tag) s ((s.m.updBoot (fun b => { b with step := 4 })).bootFail 5 0 s.m.img.staged.length)))

/-- From R110, R115 to R118, R120, R142 and R171: CONFIG record by record and its end, the lock of the APLL and its loss in every state, the
Prepare step with the Gate, and the two time-outs of start-up, each at the end of its time. -/
def Obligations.ConfigAndArming : Prop := ∀ s : State,
  (s.m.dev = .config → ∀ x, (s.m.imgSeek 66).img.secs[(s.m.imgSeek 66).img.sec]? = some x →
    (∀ t, (s.m.imgSeek 66).imgRecord Mach.settle x true = some t → Does .recordApply s t) ∧
    ((s.m.imgSeek 66).imgRecord Mach.settle x true = none → Does .recordApply s
      (((s.m.imgSeek 66).rollBack.settle.bootRecord 7 (s.m.imgSeek 66).img.sec (x.off + (s.m.imgSeek 66).img.pos) 0 0).preOchre))) ∧
  (s.m.dev = .config → (s.m.imgSeek 66).img.secs.length ≤ (s.m.imgSeek 66).img.sec →
    let m1 := ((s.m.imgSeek 66).postHeld).capture true
    let m2 := forN 16 (fun k t => applyIf (!t.present k && t.bankUsed k) (Mach.raise fBankAbsent k (word (t.marked k))) t) m1
    let m3 := if m2.fb AON_STAT.LOST then m2.raise fAonLost 0 0 else m2
    let m4 := (m3.put BOOT_TIME.T_CFG m3.bootMicros).put ROOT_STAT.APLL 1
    Does .configEnd s
      ((({ m4 with dev := .arming, boot := { m4.boot with step := 6, fromConfig := true } }).startTimer .rootTo).chainStart)) ∧
  (s.m.f ROOT_STAT.APLL = 1 → s.m.test.run.any (fun r => r.1 == 7) = false →
    (s.m.dev = .arming → Does .apllLock s (((s.m.rootLocked true).familyStart).updBoot (fun b => { b with step := 8 }))) ∧
    (s.m.dev = .ochre ∨ s.m.dev = .teasel → Does .apllLock s (((s.m.rootLocked false).familyStart).portsStart))) ∧
  (s.m.locked = true →
    let m1 := s.m.rootLost.testAbandon
    let m2 := ((m1.rootParkAll.haltAll csROOT_LOSS).clocksStop).portsIdle 6
    (s.m.dev = .run → m2.boot.stop = false → Does .apllLol s ((m2.updBoot (fun b => { b with restart := none })).parkEnds 4)) ∧
    (s.m.dev = .run → m2.boot.stop = true → Does .apllLol s (m2.push .phaseCheck)) ∧
    (s.m.dev = .teasel → Does .apllLol s m2) ∧
    (s.m.dev = .ochre → Does .apllLol s (m1.clocksStop.portsIdle 6)) ∧
    (s.m.dev = .arming → Does .apllLol s
      ((((m1.clocksStop.portsIdle 6).startTimer .rootTo).updBoot (fun b => { b with step := 6 })).put BOOT_STAT.GO_WAIT 0))) ∧
  (s.m.dev = .arming → s.m.boot.step = 6 → s.m.locked = false →
    Does .rootToExpire s (((s.m.reach .rootTo (Nat.max 1 (s.m.f BOOT_CFG.ROOT_TO) * msec)).bootRecord 8 0 0 0 0).enterOchre false 2).diagnostic) ∧
  (∀ lines stamps, s.m.dev = .arming → s.m.boot.step = 8 → Does (.prepareDone lines stamps) s
    ((((s.m.instantiateAll).prepareCal (maskOf lines) (maskOf stamps)).rebuildAtBoot).gate)) ∧
  (s.m.dev = .run → s.m.boot.bootPend = true → Does .linkToExpire s
    (((s.m.reach .linkTo (Nat.max 1 (s.m.f BOOT_CFG.LINK_TO) * msec)).put BOOT_STAT.LINK_LATE 1).bootGo))

/-- From R117 and R121 to R125: the five codes of DEV_CTL, written by P0 where the device's state accepts them, and the time-out of a stop phase.
`m1` is the machine as the accepted write finds it; DEV_CTL itself keeps nothing. -/
def Obligations.DeviceCodes : Prop := ∀ (s : State) (a : Acc), s.m.byP0 a →
  let m1 := s.m.begun a 0x000304
  ((s.m.dev = .run ∨ s.m.dev = .arming ∨ s.m.dev = .ochre ∨ s.m.dev = .teasel) → s.m.boot.stop = false → Does (.warm a) s m1.warm) ∧
  (s.m.dev = .arming → s.m.boot.stop = false → s.m.boot.step ≠ 9 → Does (.go a) s { m1 with boot := { m1.boot with go := true } }) ∧
  (s.m.dev = .arming → s.m.boot.stop = false → s.m.boot.step = 9 → Does (.go a) s ({ m1 with boot := { m1.boot with go := true } }).enterRun) ∧
  ((s.m.dev = .run ∨ s.m.dev = .arming) → s.m.goingDown = false → Does (.enterOchre a) s
    ((({ m1 with boot := { m1.boot with park := some 3, step := 12, restart := none, bootPend := false } }.stopEvery csOCHRE).put
      BOOT_STAT.GO_WAIT 0).push .phaseCheck)) ∧
  (s.m.dev = .ochre → s.m.boot.precfg = false → m1.anyL3 = false → s.m.boot.stop = false → Does (.resume a) s m1.resume) ∧
  (∀ p : Part, s.m.dev = .run → s.m.goingDown = false → s.m.boot.restart = none → m1.pstate p.val ≠ 0 → Does (.partRestart a p) s
    ({ m1 with boot := { m1.boot with restart := some p.val } }.push (.partReset p.val prRESTART))) ∧
  (∀ p : Part, s.m.dev = .run → s.m.goingDown = false → s.m.boot.restart = none → m1.pstate p.val = 0 → Does (.partRestart a p) s
    ({ m1 with boot := { m1.boot with restart := some p.val } }.restartBegin p.val)) ∧
  (s.m.boot.stop = true → Does .warmStopTimeout s ((forN 256 Mach.forceStop (s.m.reach .warmStop (10 * msec))).push .phaseCheck)) ∧
  (s.m.dev = .config → Does (.warm a) s (m1.put BOOT_STAT.CODE_REJ 1) ∧ Does (.go a) s (m1.put BOOT_STAT.CODE_REJ 1) ∧
    Does (.enterOchre a) s (m1.put BOOT_STAT.CODE_REJ 1) ∧ Does (.resume a) s (m1.put BOOT_STAT.CODE_REJ 1))

/-- From R33, R36 and R37: a write of an ordinary register that no check refuses. The arm is used up; a KEY field that differs without an arm
and a CFG field that differs while its enable is 1 leave their marks and keep their bits; the open bits take the written value; a changed
CFG field makes the reference stale; a write by the holder of a group's lock restarts its idle count (R224); then the word acts. An address off the word boundary and one that holds no register are refused. -/
def Obligations.RegisterWrites : Prop := ∀ (s : State) (a : Acc) (addr : BitVec 24) (d : Word),
  (∀ r : Row, s.m.opens a addr.toNat r →
    let w := s.m.bind a
    let key := instKey r w a addr.toNat
    let armed := s.m.isArmed w addr.toNat
    let m1 := s.m.begun a addr.toNat
    let m2 := if r.key = 0 ∨ (d ^^^ s.m.reg key) &&& word r.key = 0 ∨ armed = true then m1 else m1.accErr w a.port addr.toNat cKEY
    let m3 := if !m2.cfgOpen addr.toNat && (d ^^^ m2.reg key) &&& word r.cfg ≠ 0 then m2.cfgIgn w else m2
    let mask := m2.writeMask w r addr.toNat d true armed
    let new := writeNew r addr.toNat d (m2.reg key) mask
    let m4 := (if (m3.reg key ^^^ new) &&& word r.cfg ≠ 0 then m3.cfgChanged else m3).store key new
    Does (.registerWrite a addr d) s
      ((m4.grpTouch w addr.toNat).hook w a addr.toNat (if r.wm then d else d &&& (mask ||| word r.w1c)) (m3.reg key) new)) ∧
  (s.m.hostUp = false → s.m.todo = [] → Does (.registerWrite a addr d) s s.m.unmarked) ∧
  (s.m.hostUp = true → s.m.todo = [] → addr.toNat % 4 ≠ 0 →
    Does (.registerWrite a addr d) s (s.m.unmarked.accErr (s.m.bind a) a.port addr.toNat cALIGN)) ∧
  (s.m.hostUp = true → s.m.todo = [] → addr.toNat % 4 = 0 → addr.toNat / 0x10000 ≠ 15 → rowOf addr.toNat = none →
    Does (.registerWrite a addr d) s (s.m.unmarked.accErr (s.m.bind a) a.port addr.toNat cUNMAPPED))

/-- From R37: UNLOCK arms the block for the writer's partition with the key word, and any other word disarms it with cause KEY. R44 to R47: a
wide read of a core value is delivered at once, one of an always-on value runs until WIDE_DONE delivers the snapshot, and a write of
time of day acts at WIDE_DONE. WIDE_SEL is open while WIDE_STAT.BUSY reads 0; a write that a partition's reset has cut from its mailbox still
acts, and shows nowhere (R55). -/
def Obligations.UnlockAndMailbox : Prop := ∀ (s : State) (a : Acc) (p : Part) (k : Nat) (d : Word),
  s.m.bind a = .part p.val k → s.m.hostUp = true → s.m.todo = [] →
  (∀ blk : Fin 16, blk.val ≤ 12 →
    (getF d 0 16 = 0xC3A5 → Does (.unlockWrite a blk d) s (s.m.unmarked.put ((UNLOCK.ARMED (0x10000 * blk.val)).inst p.val) 1)) ∧
    (getF d 0 16 ≠ 0xC3A5 → Does (.unlockWrite a blk d) s
      ((s.m.unmarked.put ((UNLOCK.ARMED (0x10000 * blk.val)).inst p.val) 0).accErr (.part p.val k) a.port (0x10000 * blk.val + 0xFFF0) cKEY))) ∧
  ((s.m.begun a 0x000110).fb (WIDE_STAT.BUSY.inst p.val) = false →
    let key := 0x000110 + p.val * instSpan
    let m1 := s.m.begun a 0x000110
    let sel := fun (wr : Nat) => blend (m1.reg key) (setF d 31 1 wr) 0x8000FFFF
    let shown := fun (wr : Nat) => ((((m1.store key (sel wr)).put (WIDE_STAT.VALID.inst p.val) 0).put (WIDE_STAT.BADSEL.inst p.val) 0).put
      (WIDE_STAT.REFUSED.inst p.val) 0).put (WIDE_STAT.CLASS.inst p.val) (getF d 0 8)
    let begins := fun (wr : Bool) => ((shown (b2n wr)).put (WIDE_STAT.BUSY.inst p.val) 1).setWide p.val
      { busy := true, wr := wr, cls := getF d 0 8, idx := getF d 8 8, lo := (m1.store key (sel (b2n wr))).reg (0x000118 + p.val * instSpan),
        hi := (m1.store key (sel (b2n wr))).reg (0x00011C + p.val * instSpan), who := p.val }
    (wideExists (getF d 0 8) (getF d 8 8) = false →
      Does (.wideRead a d) s ((shown 0).put (WIDE_STAT.BADSEL.inst p.val) 1) ∧
      Does (.wideWrite a d) s ((shown 1).put (WIDE_STAT.BADSEL.inst p.val) 1)) ∧
    (wideExists (getF d 0 8) (getF d 8 8) = true →
      (getF d 0 8 = 2 → Does (.wideRead a d) s ((shown 0).wideDeliver p.val 2 (getF d 8 8))) ∧
      (getF d 0 8 ≠ 2 → Does (.wideRead a d) s (begins false)) ∧
      (getF d 0 8 = 1 → p.val = 0 → Does (.wideWrite a d) s (begins true)) ∧
      (getF d 0 8 ≠ 1 ∨ p.val ≠ 0 → Does (.wideWrite a d) s ((shown 1).wideRefuse p.val)))) ∧
  (∀ i : Fin 17, (s.m.wide (wideLeft + i.val)).busy = false → (s.m.wide i.val).busy = true →
    let x := s.m.wide i.val
    let m1 := s.m.setWide i.val {}
    (x.wr = false → Does (.wideDone i) s (m1.wideDeliver i.val x.cls x.idx)) ∧
    (x.wr = true → s.m.fb PPS_CFG.TOD_EN = true → Does (.wideDone i) s (m1.wideRefuse i.val)) ∧
    (x.wr = true → s.m.fb PPS_CFG.TOD_EN = false → Does (.wideDone i) s
      (((m1.todWrite x.who x.lo.toNat (getF x.hi 0 15)).put (WIDE_STAT.BUSY.inst i.val) 0).put (WIDE_STAT.VALID.inst i.val) 1))) ∧
  (∀ i : Fin 17, (s.m.wide (wideLeft + i.val)).busy = true →
    let x := s.m.wide (wideLeft + i.val)
    let m1 := s.m.setWide (wideLeft + i.val) {}
    (s.m.fb PPS_CFG.TOD_EN = true → Does (.wideDone i) s m1) ∧
    (s.m.fb PPS_CFG.TOD_EN = false → Does (.wideDone i) s (m1.todWrite x.who x.lo.toNat (getF x.hi 0 15))))

/-- From R40 to R43: CAPTURE launches a capture; a sweep ends with the CRC over the words as it reached each (`sweepCrc`), loads the reference
where a capture covers it, and compares it with the reference where the check is enabled and the reference is not stale. How far a
sweep has got when a CFG field changes is free (DESIGN CHOICE, log entry 74). -/
def Obligations.ConfigurationCrc : Prop := ∀ s : State,
  (∀ a d, s.m.byP0 a →
    let m1 := s.m.begun a 0x000120
    Does (.cfgcrcCapture a d) s ((m1.store 0x000120 (blend (m1.reg 0x000120) (d ||| 2) 3 ||| (m1.reg 0x000120 &&& 2))).capture false)) ∧
  (s.m.powered = true → s.m.boot.held = false →
    let c := s.m.sweepCrc
    let m1 := ({ s.m with crc := { s.m.crc with pos := 0, run := 0xFFFFFFFF } }).put CFGCRC_CUR.CRC c
    (s.m.crc.capture = false → (m1.fb CFGCRC_CTL.EN = false ∨ m1.fb CFGCRC_STAT.STALE = true ∨ m1.f CFGCRC_REF.REF = c) →
      Does .cfgcrcSweepEnd s m1) ∧
    (s.m.crc.capture = false → m1.fb CFGCRC_CTL.EN = true → m1.fb CFGCRC_STAT.STALE = false → m1.f CFGCRC_REF.REF ≠ c →
      Does .cfgcrcSweepEnd s ((m1.put CFGCRC_STAT.MISMATCH 1).raise fCfgDrift 0 (word c))) ∧
    (s.m.crc.capture = true → s.m.crc.fresh = false → (m1.fb CFGCRC_CTL.EN = false ∨ m1.fb CFGCRC_STAT.STALE = true) →
      Does .cfgcrcSweepEnd s { m1 with crc := { m1.crc with fresh := true } }) ∧
    (s.m.crc.capture = true → s.m.crc.fresh = true → ((m1.crcLoad c).fb CFGCRC_CTL.EN = false ∨ (m1.crcLoad c).f CFGCRC_REF.REF = c) →
      Does .cfgcrcSweepEnd s (m1.crcLoad c))) ∧
  (s.m.powered = false ∨ s.m.boot.held = true → Does .cfgcrcSweepEnd s s.m)

/-- From R48 to R54 and R224: the indirect windows. A free lock is taken, and released with its staged words by its holder; the holder sets
the address, stages and reads words, commits them to their blocks or discards them; the time-out frees the lock at the end of its idle
count, where LIMIT is not 0. `m0` is the machine with the access marks clear; every accepted access uses up the accessor's arm of the block,
and one by the holder of the window or of a group's lock restarts that idle count. -/
def Obligations.IndirectWindows : Prop := ∀ (s : State) (a : Acc) (p : Part) (k : Nat) (w : Win) (d : Word),
  s.m.bind a = .part p.val k → s.m.hostUp = true → s.m.todo = [] →
  let m0 := s.m.unmarked
  let b := winBase w
  let who : Who := .part p.val k
  let seen := fun (m : Mach) => (m.winTouch w who).grpTouch who b
  let used := fun (m : Mach) => (seen m).setArm who b 0
  ((s.m.win w).holder = none → d.getLsbD 0 = true → Does (.indLockReq a w d) s (used (m0.setWin w { holder := some p.val, staged := [] }))) ∧
  ((s.m.win w).holder = some p.val → d.getLsbD 0 = false → Does (.indLockReq a w d) s (used (m0.setWin w {}))) ∧
  ((s.m.win w).holder = some p.val →
    (Does (.indAddrWrite a w d) s (used ((m0.put (IND_ADDR.OFF b) (getF d 0 16)).put (IND_STAT.END b) 0))) ∧
    (∀ alias_, s.m.winShut w who = false → s.m.stageRefusal w who (s.m.f (IND_ADDR.OFF b)) = none →
      ((s.m.win w).staged.filter (fun e => e.at' ≠ s.m.f (IND_ADDR.OFF b))).length < 16 →
      Does (.indDataWrite a w alias_ d) s (used ((m0.setWin w { s.m.win w with
        staged := (s.m.win w).staged.filter (fun e => e.at' ≠ s.m.f (IND_ADDR.OFF b)) ++
          [⟨s.m.f (IND_ADDR.OFF b), d, dataAddr w alias_⟩] }).winStep w))) ∧
    (d.getLsbD 8 = false → Does (.indDiscard a w d) s (used
      (let m1 := m0.put (IND_CTL.AINC b) (getF d 0 1)
       m1.setWin w { m1.win w with staged := [] })))) ∧
  (∀ e : Staged, (s.m.win w).holder = some p.val → (s.m.win w).staged = [e] → d.getLsbD 9 = false →
    let m1 := ((m0.put (IND_CTL.AINC b) (getF d 0 1)).setWin w { s.m.win w with staged := [] }).setArm who (b + 8) 0
    let written := m1.tblWrite who a.port e.bus (e.at' / 64) (e.at' % 64 / 4) e.d
    (w = .chan → m1.memberFit who [e] = true → m1.memberLock who e.at' = none → written.accFlag = false →
      Does (.indCommit a w d) s ((used written).settleFor 1)) ∧
    (w = .aon → aonRw e.at' = true →
      Does (.indCommit a w d) s (used (m1.postAon e.at' (blend (m1.aw e.at') e.d (word (aonMask e.at'))))))) ∧
  (s.m.winShut w who = true → (s.m.win w).holder ≠ some p.val →
    Does (.indDataWrite a w none d) s (seen (m0.accErr who a.port (b + 4) cWINDOW))) ∧
  (∀ h, (s.m.win w).holder = some h →
    let lim := s.m.f (IND_LOCK_TO.LIMIT b)
    (lim = 0 → Does (.indLockTimeout w) s s.m) ∧
    (lim ≠ 0 → Does (.indLockTimeout w) s
      ((((s.m.advReg ((s.m.win w).touched + lim)).setWin w {}).put (ACC_STAT.LOCKLOST.inst h) 1).put (IND_STAT.TIMEOUT b) 1)))

/-- From R50 and R52: a read through a window gives the word at the address and moves the address on; what a read returns is kept in the
model's own field `rdata`. R107 and R141: the oldest posted word reaches the always-on domain. -/
def Obligations.WindowReadsAndPostedWords : Prop := ∀ s : State,
  (∀ (a : Acc) (p : Part) (k : Nat) (w : Win) alias_, s.m.bind a = .part p.val k → s.m.hostUp = true → s.m.todo = [] →
    s.m.winShut w (.part p.val k) = false →
    let m0 := s.m.unmarked
    let off := s.m.f (IND_ADDR.OFF (winBase w))
    let seen := fun (m : Mach) => (m.winTouch w (.part p.val k)).grpTouch (.part p.val k) (winBase w)
    (off % 4 = 0 → winWord w off = true → Does (.indDataRead a w alias_) s
      { seen (m0.winStep w) with rdata := match w with | .chan => m0.tblRead (off / 64) (off % 64 / 4) | .aon => m0.aonRead off }) ∧
    (off % 4 ≠ 0 → Does (.indDataRead a w alias_) s
      { seen ((m0.accErr (.part p.val k) a.port (dataAddr w alias_) cALIGN).winStep w) with rdata := 0 })) ∧
  (∀ off v t, s.m.aonPost = (off, v) :: t →
    let m1 := ({ s.m with aonPost := t }).setAw off v
    (off = 0x2000 → Does .aonWriteArrive s (m1.updPwr (fun x => { x with cellWritten := true }))) ∧
    (0x1000 ≤ off → off ≤ 0x1800 → Does .aonWriteArrive s (m1.listArrive off (s.m.aw off) v)) ∧
    (off ≠ 0x2000 → (off < 0x1000 ∨ 0x1800 < off) → Does .aonWriteArrive s m1)) ∧
  (s.m.aonPost = [] → Does .aonWriteArrive s s.m)

/-- From R146 to R149 and R151: the service path. The write of SVC_CTL checks state, limits and session, and starts the operation with its
flash commands; its completion or its time limit ends it; CLOSE and 60 s without an operation close the session, with one IMG_WRITE entry
where an ERASE or PROGRAM ran. -/
def Obligations.ServicePath : Prop := ∀ s : State,
  (∀ a, s.m.byP0 a →
    let m1 := s.m.begun a 0x000420
    let m2 := fun (op : Nat) => m1.store 0x000420 (blend (m1.reg 0x000420) (word op) 0xF)
    let starts := fun (op : Nat) (m : Mach) =>
      ({ m.put SVC_STAT.BUSY 1 with svc := { op := op, addr := (m2 op).f SVC_ADDR.ADDR, len := (m2 op).f SVC_LEN.LEN } }.flashSend
        ((m2 op).svcCmds op ((m2 op).f SVC_ADDR.ADDR) ((m2 op).f SVC_LEN.LEN))).startTimer .svcOp
    let fits := fun (op : Nat) => svcInLimits op ((m2 op).f SVC_ADDR.ADDR) ((m2 op).f SVC_LEN.LEN)
    m1.fb SVC_STAT.BUSY = false →
    ((s.m.dev = .run ∨ s.m.dev = .ochre) →
      (fits 1 = true → Does (.svcRead a) s (starts 1 (m2 1))) ∧
      (fits 1 = false → Does (.svcRead a) s ((m2 1).svcEnd 1)) ∧
      (fits 2 = true → (m2 2).fb SVC_STAT.OPEN = true → s.m.boot.erase4k.isSome = true →
        Does (.svcErase a) s (starts 2 ((m2 2).put SVC_STAT.WROTE 1))) ∧
      (fits 2 = true → (m2 2).fb SVC_STAT.OPEN = true → s.m.boot.erase4k = none → Does (.svcErase a) s ((m2 2).svcEnd 4)) ∧
      (fits 2 = true → (m2 2).fb SVC_STAT.OPEN = false → Does (.svcErase a) s ((m2 2).svcEnd 2)) ∧
      (fits 3 = true → (m2 3).fb SVC_STAT.OPEN = true → Does (.svcProgram a) s (starts 3 ((m2 3).put SVC_STAT.WROTE 1))) ∧
      (fits 3 = true → (m2 3).fb SVC_STAT.OPEN = false → Does (.svcProgram a) s ((m2 3).svcEnd 2)) ∧
      Does (.svcVerify a) s (starts 4 (m2 4)) ∧
      Does (.svcClose a) s ((m2 15).svcClose.svcEnd 0)) ∧
    ((s.m.dev = .config ∨ s.m.dev = .arming ∨ s.m.dev = .teasel) → Does (.svcRead a) s ((m2 1).svcEnd 5))) ∧
  (∀ timeout bytes sfdp, s.m.fb SVC_STAT.BUSY = true →
    (timeout = true → Does (.svcOpDone timeout bytes sfdp) s
      ((s.m.reach .svcOp (s.m.svcLimit (Nat.min 131072 (fieldAt bytes 8 4)))).svcEnd 3)) ∧
    (timeout = false →
      (s.m.svc.op = 1 → Does (.svcOpDone timeout bytes sfdp) s ((s.m.setBytes 0x000500 (padTo s.m.svc.len bytes)).svcEnd 0)) ∧
      (s.m.svc.op = 2 → s.m.fb SVC_STAT.OPEN = true → Does (.svcOpDone timeout bytes sfdp) s
        ((s.m.put SVC_STAT.ERASED (satInc 255 (s.m.f SVC_STAT.ERASED))).svcEnd 0)) ∧
      (s.m.svc.op = 3 → Does (.svcOpDone timeout bytes sfdp) s (s.m.svcEnd 0)) ∧
      (s.m.svc.op = 4 → s.m.boot.discovered = true → Does (.svcOpDone timeout bytes sfdp) s
        (let v := s.m.verifyImage bytes
         (s.m.svcVerdict v ((v.1 == 0 || v.1 == 7) &&
          s.m.bootTag == (bytes.take (fieldAt bytes 8 4)).drop (fieldAt bytes 8 4 - 16))).svcEnd 0)) ∧
      (s.m.svc.op = 4 → s.m.boot.discovered = false → sfdp = none →
        Does (.svcOpDone timeout bytes sfdp) s ((s.m.svcVerdict (1, 0, 0) false).svcEnd 0)))) ∧
  (s.m.wf = true → s.m.fb SVC_STAT.BUSY = false → s.m.fb SVC_STAT.OPEN = true →
    let closes := fun (m : Mach) => ((m.put SVC_STAT.OPEN 0).put SVC_STAT.WROTE 0).put SVC_STAT.ERASED 0
    let m0 := s.m.reach .svcSession (60 * second)
    (s.m.fb SVC_STAT.WROTE = false → Does .svcSessionTimeout s (closes m0)) ∧
    (s.m.fb SVC_STAT.WROTE = true → Does .svcSessionTimeout s (closes (m0.ledger 0x0A (s.m.f SVC_STAT.ERASED)
      (if s.m.fb SVC_VRES.VALID then s.m.f SVC_VRES.CODE else 0xFF)))))

/-- From R155 to R159: a source is enabled where its configuration stands, and disabled; activity begins its qualification; loss of signal, an
edge beyond the PHIT threshold and a frequency outside the reject limit at the end of a gate disqualify it; it is QUALIFIED when QUAL_T
has elapsed and a gate has passed. The activity of sources 8 and 9 is a condition: while it holds they are not lost.
REF_STAT.STATE: 0 DISABLED, 1 FAILED, 2 QUALIFYING, 3 QUALIFIED. -/
def Obligations.SourceQualification : Prop := ∀ (s : State) (i : Fin 10),
  (∀ a d, s.m.byP0 a →
    let addr := 0x010000 + 0x20 * i.val
    let m1 := s.m.begun a addr
    let old := m1.reg addr
    let cfg : Nat := if i.val < 8 then 0xE else 0
    let opened := blend old d (word (0xF01 + cfg))
    let m2 := (if (old ^^^ opened) &&& word cfg ≠ 0 then m1.cfgChanged else m1).store addr opened
    let m3 := (if (d ^^^ old) &&& word cfg ≠ 0 then m1.cfgIgn (s.m.bind a) else m1).store addr (blend old d 0xF01)
    (old.getLsbD 0 = false → d.getLsbD 0 = true →
      (m2.refOk i.val = true → Does (.refCfgWrite a i d) s (((m2.put (REF_STAT.CFGERR i.val) 0).gateStart i.val).setRef i.val 1)) ∧
      (m2.refOk i.val = false → Does (.refCfgWrite a i d) s (m2.put (REF_STAT.CFGERR i.val) 1))) ∧
    (s.m.wf = true → old.getLsbD 0 = true → d.getLsbD 0 = false → Does (.refCfgWrite a i d) s
      (((((m3.put (REF_STAT.CFGERR i.val) 0).put (REF_STAT.ACT i.val) 0).put (REF_STAT.QUAL_LEFT i.val) 0).stopTimer (.gate i.val)).setRef
        i.val 0))) ∧
  (s.m.measuring = true → s.m.f (REF_STAT.STATE i.val) ≠ 0 →
    let m1 := s.m.put (REF_STAT.ACT i.val) 1
    let m0 := s.m.put (REF_STAT.ACT i.val) 0
    let failed := fun (m : Mach) (evt : Fld) => ((m.put evt 1).put (REF_STAT.STATE i.val) 1).put (REF_STAT.QUAL_LEFT i.val) 0
    (s.m.refLive i.val = true → s.m.f (REF_STAT.STATE i.val) ≠ 1 → Does (.refActivity i) s m1) ∧
    (s.m.refLive i.val = true → s.m.f (REF_STAT.STATE i.val) = 1 → Does (.refActivity i) s
      ((((m1.put (REF_STAT.QUAL_LEFT i.val) (s.m.qualT i.val)).updRoot (fun r => { r with
        gates := cset (fun _ => 0) r.gates i.val 0, qualAt := cset (fun _ => 0) r.qualAt i.val s.m.now,
        ripe := cset (fun _ => false) r.ripe i.val false })).gateStart i.val).setRef i.val 2)) ∧
    (8 ≤ i.val → s.m.refLive i.val = true → Does (.refLos i) s s.m) ∧
    ((i.val < 8 ∨ s.m.refLive i.val = false) → s.m.refUp i.val = false → Does (.refLos i) s m0) ∧
    ((i.val < 8 ∨ s.m.refLive i.val = false) → s.m.refUp i.val = true → Does (.refLos i) s
      (((failed m0 (REF_EVT.LOS i.val)).raise fRefLos i.val
        (((m0.put (REF_STAT.STATE i.val) 1).put (REF_STAT.QUAL_LEFT i.val) 0).reg (0x010010 + 0x20 * i.val))).selEval)) ∧
    (∀ dev, s.m.refUp i.val = true → s.m.beyondPhit i.val dev = true →
      Does (.refPhit i dev) s (((failed s.m (REF_EVT.PHIT i.val)).raise fRefPhit i.val dev).selEval)) ∧
    (∀ dev, s.m.beyondPhit i.val dev = false → Does (.refPhit i dev) s s.m) ∧
    (∀ ppb : Word,
      let g := (s.m.reach (.gate i.val) (s.m.gateLen i.val)).gateStart i.val
      let o := (signed 32 ppb.toNat).natAbs
      let acc := Nat.max 1 (g.f (REF_QUAL.FWIN_ACC i.val))
      let rej := Nat.max acc (g.f (REF_QUAL.FWIN_REJ i.val))
      let seen := fun (ok : Nat) => ((g.put (REF_MEAS.OFFSET i.val) ppb.toNat).put (REF_STAT.FREQ_OK i.val) ok).updRoot (fun r =>
        { r with gates := cset (fun _ => 0) r.gates i.val (Nat.min 1 (cget (fun _ => 0) r.gates i.val + 1)) })
      (o ≤ 1000 * acc → g.f (REF_STAT.STATE i.val) ≠ 2 ∨ cget (fun _ => false) g.root.ripe i.val = false →
        Does (.freqGateEnd i ppb) s (seen 1)) ∧
      (1000 * acc < o → o ≤ 1000 * rej → (g.f (REF_STAT.FREQ_OK i.val) ≠ 1 ∨ g.f (REF_STAT.STATE i.val) ≠ 2) →
        Does (.freqGateEnd i ppb) s (seen (g.f (REF_STAT.FREQ_OK i.val)))) ∧
      (1000 * rej < o → g.refUp i.val = true →
        Does (.freqGateEnd i ppb) s (((failed (seen 0) (REF_EVT.FREQ i.val)).raise fRefFreq i.val ppb).selEval)) ∧
      (o ≤ 1000 * acc → g.f (REF_STAT.STATE i.val) = 2 → cget (fun _ => false) g.root.ripe i.val = true →
        Does (.freqGateEnd i ppb) s ((((seen 1).put (REF_EVT.QUAL i.val) 1).put (REF_STAT.QUAL_LEFT i.val) 0).setRef i.val 3)))) ∧
  (s.m.measuring = true → s.m.f (REF_STAT.STATE i.val) = 2 →
    let m1 := s.m.advNow (cget (fun _ => 0) s.m.root.qualAt i.val + 20000000 * s.m.f (REF_STAT.QUAL_LEFT i.val))
    (cget (fun _ => 0) m1.root.gates i.val ≠ 0 → m1.fb (REF_STAT.FREQ_OK i.val) = true →
      Does (.refQualDone i) s (((m1.put (REF_EVT.QUAL i.val) 1).put (REF_STAT.QUAL_LEFT i.val) 0).setRef i.val 3)) ∧
    (m1.fb (REF_STAT.FREQ_OK i.val) = false ∨ cget (fun _ => 0) m1.root.gates i.val = 0 → Does (.refQualDone i) s
      ((m1.put (REF_STAT.QUAL_LEFT i.val) 0).updRoot (fun r => { r with ripe := cset (fun _ => false) r.ripe i.val true }))))

/-- From R160 to R163: an armed write of SEL_CTL sets the mode and the selector evaluates; the wait-to-restore timer ends in the switch to the
pending source; the first divided edge of the new source builds its phase out, or leaves it to be slewed. -/
def Obligations.Selection : Prop := ∀ s : State,
  (∀ a d, s.m.byP0 a → s.m.isArmed (s.m.bind a) 0x010204 = true →
    let m1 := s.m.begun a 0x010204
    Does (.selCtlWrite a d) s ((m1.store 0x010204 (blend (m1.reg 0x010204) d 0xF3)).selEval)) ∧
  (s.m.locked = true → s.m.fb SEL_STAT.SWITCHING = false → s.m.f SEL_STAT.PEND ≠ 15 →
    let m1 := s.m.advNow (s.m.root.wtrAt + 200000000 * s.m.f SEL_STAT.WTR_LEFT)
    m1.locked = true → m1.fb SEL_STAT.SWITCHING = false → m1.bestSrc = some (s.m.f SEL_STAT.PEND) →
    Does .wtrExpire s (m1.switchTo (s.m.f SEL_STAT.PEND))) ∧
  (∀ (err : Word) i, s.m.src = some i → s.m.fb SEL_STAT.SWITCHING = true → s.m.measuring = true → s.m.root.again = false →
    let m1 := ((s.m.put SEL_STAT.SWITCHING 0).put SEL_EVT.SWITCH 1).put SEL_STAT.SWITCHES (satInc 255 (s.m.f SEL_STAT.SWITCHES))
    let edge := fun (m : Mach) => (m.updRoot (fun r => { r with edgeAt := some s.m.now })).raise fSrcSwitch i (word (s.m.root.prev + 16 * i))
    (s.m.fb SEL_CFG.PBO = true → i ≠ 9 → Does (.switchEdge err) s (edge ((m1.put PHASE_ERR.ERR 0).put ROOT_STAT.PSLEWING 0))) ∧
    (s.m.fb SEL_CFG.PBO = false ∨ i = 9 → Does (.switchEdge err) s
      (edge ((m1.put PHASE_ERR.ERR err.toNat).put ROOT_STAT.PSLEWING (b2n (err ≠ 0))))))

/-- From R165 to R169 and R173 to R175: the lock criteria of the DPLL at its next divided edge, its history and the long holdover, the end of a
slew, and the edges of the 1 pps input with the interval in which none came. 16 edges within 10 ns and 100 ppb make TRACK, 4 beyond
100 ns leave it. Each happens at its time: `m0` is the machine then. While a phase difference is removed the demand stays within the PSLEW
rate (R163; its sign is DESIGN CHOICE, log entry 91), and the phase of source 9 carries d_up (DEDUCED, log entry 101). -/
def Obligations.RootAndPps : Prop := ∀ s : State,
  (∀ (raw fdiff demand : Word) i, s.m.src = some i → s.m.fb SEL_STAT.SWITCHING = false → s.m.measuring = true →
    let m0 := s.m.toEdge i
    let err := word (unsign 32 (m0.carried i (signed 32 raw.toNat)))
    let e := (signed 32 err.toNat).natAbs
    let good := if e ≤ 192 ∧ (signed 32 fdiff.toNat).natAbs ≤ 100 then m0.root.good + 1 else 0
    let far := if 1920 < e then m0.root.far + 1 else 0
    let m1 := (((m0.put PHASE_ERR.ERR err.toNat).put ROOT_STAT.PSLEWING (b2n (m0.fb ROOT_STAT.PSLEWING && err ≠ 0))).steer
      (m0.pslewHold (signed 32 fdiff.toNat) (signed 32 demand.toNat))).updRoot (fun r => { r with
        good := good, far := far, edgeAt := some m0.now })
    let afresh := fun (m : Mach) => m.updRoot (fun r => { r with good := 0, far := 0 })
    (m0.f ROOT_STAT.DPLL = 1 → 16 ≤ good → Does (.dpllEdge raw fdiff demand) s (afresh ((m1.put ROOT_STAT.DPLL 2).put ROOT_EVT.TRACK 1))) ∧
    (m0.f ROOT_STAT.DPLL = 1 → good < 16 → Does (.dpllEdge raw fdiff demand) s m1) ∧
    (m0.f ROOT_STAT.DPLL = 2 → 4 ≤ far → Does (.dpllEdge raw fdiff demand) s (afresh (m1.put ROOT_STAT.DPLL 1))) ∧
    (m0.f ROOT_STAT.DPLL = 2 → far < 4 → Does (.dpllEdge raw fdiff demand) s m1)) ∧
  (s.m.f ROOT_STAT.DPLL = 2 → s.m.measuring = true →
    ∀ avg : Word, Does (.histValid avg) s ((s.m.advNow (s.m.now + (s.m.histWin + s.m.histGuard - s.m.histLen))).put ROOT_STAT.HIST_VALID 1)) ∧
  (s.m.f ROOT_STAT.DPLL = 3 → s.m.f HOLD_CFG.HMAX ≠ 0 → s.m.root.holdRaised = false →
    let m1 := (s.m.advNow (s.m.root.holdAt + s.m.f HOLD_CFG.HMAX * 60 * 200000000)).updRoot (fun r => { r with holdRaised := true })
    Does .holdLong s ((m1.put ROOT_EVT.HOLD_LONG 1).raise fHoldLong 0 (word m1.holdTime))) ∧
  (s.m.fb ROOT_STAT.FSLEWING = true → (s.m.f ROOT_STAT.DPLL = 0 ∨ s.m.f ROOT_STAT.DPLL = 3) → s.m.locked = true →
    Does .tuneSlewDone s (s.m.advNow (s.m.now + s.m.slewLeft))) ∧
  (s.m.measuring = true →
    (s.m.root.anchor = none → ∀ n, Does (.ppsEdge true n) s s.m.ppsAccept) ∧
    (s.m.root.anchor = none → ∀ n, Does (.ppsEdge false n) s (s.m.put PPS_STAT.REJ (satInc 255 (s.m.f PPS_STAT.REJ)))) ∧
    (∀ a n, s.m.root.anchor = some a → n ≤ s.m.ppsLimit →
      let m0 := s.m.advPhs (a + n / 2)
      let rejected := m0.put PPS_STAT.REJ (satInc 255 (m0.f PPS_STAT.REJ))
      (2400000000 ≤ n + m0.ppsTol → n ≤ 2400000000 + m0.ppsTol → Does (.ppsEdge true n) s m0.ppsAccept) ∧
      ((n + m0.ppsTol < 2400000000 ∨ 2400000000 + m0.ppsTol < n) → Does (.ppsEdge true n) s rejected) ∧
      Does (.ppsEdge false n) s rejected) ∧
    (∀ a, s.m.root.anchor = some a →
      let m0 := s.m.advPhs (a + s.m.ppsLimit / 2)
      let m1 := m0.updRoot (fun r => { r with anchor := none, run := 0 })
      let m2 := m1.put PPS_STAT.VALID 0
      (m0.fb PPS_STAT.VALID = false → Does .ppsMiss s m1) ∧
      (m0.fb PPS_STAT.VALID = true → Does .ppsMiss s ((m2.raise fPpsLost 8 (m2.reg 0x010404)).refLos 8))))

/-- From R183 to R189, R200 and R201: the four triggers of CH_CTL. A start of a STOPPED channel whose checks pass waits in BUDGET_WAIT and one
that fails is refused; one of a STOPPING channel resumes a host stop while its final low phase is 16 PHS cycles away, and is held else; a stop
of a running channel begins its clean stop, of a starting one ends it at once, of a stopped one withdraws its request; a trigger arms the
pulse of a one-shot channel; a resync takes a running channel back to the grid, after a high time in progress.
CH_STAT.STATE: 0 STOPPED, 1 STARTING, 2 RUN, 3 STOPPING. -/
def Obligations.ChannelTriggers : Prop := ∀ (s : State) (n : Ch), s.m.hostUp = true → s.m.oddDouble n.val = false →
  (s.m.chst n.val = 0 → s.m.tb n.val CH_STAT.PEND = false →
    (s.m.startVerdict n.val false = none →
      let m1 := (s.m.tput n.val CH_STAT.PEND 1).updCh n.val (fun c =>
        { c with ord := s.m.nextOrd, waitAt := s.m.now, prio := s.m.listState n.val = 1, unchecked := false, waitRaised := false })
      Does (.chCtlStart n) s ((({ m1 with nextOrd := s.m.nextOrd + 1 }).showCost n.val).showWaiting (s.m.ownCh n.val))) ∧
    (∀ v, s.m.startVerdict n.val false = some v → Does (.chCtlStart n) s ((s.m.startRej n.val v).tput n.val CH_GOV.SHEDPEND 0))) ∧
  (s.m.chst n.val = 3 →
    let resumes := s.m.t n.val CH_STAT.CAUSE = csHOST ∧ (s.m.ch n.val).nonRes = false ∧ s.m.fine + 1024 < (s.m.ch n.val).stopEnd
    (¬ resumes → Does (.chCtlStart n) s (s.m.tput n.val CH_STAT.HELD 1)) ∧
    (resumes → Does (.chCtlStart n) s (((s.m.setState n.val 2).updCh n.val (fun c => { c with
      shadowAt := if c.shadow || c.regrid then Nat.max c.shadowAt s.m.fine else c.shadowAt })).chEvt n.val 4))) ∧
  (s.m.chst n.val = 0 → Does (.chCtlStop n) s (s.m.withdraw n.val)) ∧
  (s.m.chst n.val = 1 → Does (.chCtlStop n) s ((s.m.tput n.val CH_STAT.CAUSE csHOST).enterStopped n.val 0)) ∧
  (s.m.chst n.val = 2 → s.m.t n.val CH_CTL.MODE ≠ 2 →
    let mg := (s.m.gateSettle n.val).updCh n.val (fun c => { c with winOk := false })
    let m0 := mg.setCh n.val (mg.ch n.val)
    Does (.chCtlStop n) s (((m0.tput n.val CH_STAT.CAUSE csHOST).setState n.val 3).setCh n.val
      { m0.ch n.val with nonRes := false, stopAt := s.m.grid, stopEnd := m0.finalLow n.val s.m.fine })) ∧
  (s.m.chst n.val = 3 → Does (.chCtlStop n) s s.m) ∧
  (s.m.chst n.val = 2 → s.m.t n.val CH_CTL.MODE = 2 →
    let mg := s.m.gateSettle n.val
    let c := rollShot (mg.ch n.val) s.m.fine
    let t := s.m.fine + 4096
    (c.pulse = none → Does (.chCtlTrig n) s
      ((mg.setCh n.val { c with pulse := some (idealFrom c t), trigAt := t }).tput n.val CH_STAT.ARMED 0)) ∧
    (∀ x, c.pulse = some x → c.trigHeld = none → Does (.chCtlTrig n) s (mg.setCh n.val { c with trigHeld := some t })) ∧
    (∀ x y, c.pulse = some x → c.trigHeld = some y → Does (.chCtlTrig n) s ((mg.setCh n.val c).chEvt n.val 0x200))) ∧
  (s.m.chst n.val = 2 → s.m.t n.val CH_CTL.MODE ≠ 2 →
    let mg := s.m.gateSettle n.val
    let c := if (mg.ch n.val).pairLost then { mg.ch n.val with pairLost := false, pads := 0, echoes := 0 } else mg.ch n.val
    let f := idealFrom c (s.m.fine + 4096)
    Does (.chCtlResync n) s ((((mg.setCh n.val { c with
        t0 := f, e0 := s.m.edges n.val + 1, phi := f % (64 * Nat.max 1 c.n), rem := 0, step := 0, regrid := false, spRef := s.m.edges n.val + 1,
        highTo := s.m.highEnd c, winOk := false }).tput n.val CH_STAT.SLEWING 0).chEvt n.val 0x80).moverDone n.val 0))

/-- From R183, R185, R186, R190 and R199: the first rising edge makes RUN, the end of the final low phase makes STOPPED, a stop that has not
ended within 2N + 64 PHS cycles is forced, and the COUNT-th edge of a burst begins its stop, or makes a host stop the burst's end. -/
def Obligations.ChannelEdges : Prop := ∀ (s : State) (n : Ch), s.m.oddDouble n.val = false →
  (s.m.chst n.val = 1 → s.m.boot.clocks = true →
    let m1 := ((s.m.advTo (((s.m.ch n.val).first + 63) / 64)).setState n.val 2).chEvt n.val 1
    (m1.t n.val CH_CTL.MODE ≠ 2 → Does (.chFirstEdge n) s m1) ∧
    (m1.t n.val CH_CTL.MODE = 2 → Does (.chFirstEdge n) s (m1.tput n.val CH_STAT.ARMED 1))) ∧
  (s.m.chst n.val = 3 → Does (.cleanStopEnd n) s ((s.m.advTo (((s.m.ch n.val).stopEnd + 63) / 64)).enterStopped n.val
    (if s.m.t n.val CH_STAT.CAUSE = csBURST_END then 32 else 0))) ∧
  (s.m.chst n.val = 3 → s.m.t n.val CH_STAT.CAUSE ≠ csWARM →
    let m1 := s.m.advTo ((s.m.ch n.val).stopAt + 2 * (s.m.ch n.val).n + 64)
    Does (.stopWatchdog n) s ((m1.raise fStopForced n.val (word (s.m.t n.val CH_STAT.CAUSE))).parkNow n.val csFORCED 16)) ∧
  (s.m.t n.val CH_CTL.MODE = 1 → s.m.boot.clocks = true →
    let c := s.m.ch n.val
    let k := s.m.t n.val CH_BURST.COUNT
    let m1 := s.m.advTo ((edgeTime c k + 63) / 64)
    (s.m.chst n.val = 2 → Does (.burstLastEdge n) s (((m1.setState n.val 3).tput n.val CH_STAT.CAUSE csBURST_END).setCh n.val
      { c with stopAt := m1.grid, stopEnd := edgeTime c (k + 1), winOk := false })) ∧
    (s.m.chst n.val = 3 → s.m.t n.val CH_STAT.CAUSE = csHOST → edgeTime c k < c.stopEnd →
      Does (.burstLastEdge n) s (m1.tput n.val CH_STAT.CAUSE csBURST_END)))

/-- From R192 to R196 and R203: the update point adopts the shadowed words of a running channel as one set, or rejects the set and reads the
active values back, and begins the move to its new phase, as it does after a grid load; a phase move ends on the grid; a disagreement of
the engine's counters clears SELFCHK and raises ENG_CHECK, agreement sets it. -/
def Obligations.ChannelUpdates : Prop := ∀ s : State,
  (∀ n : Ch, s.m.wf = true → s.m.oddDouble n.val = false → s.m.chst n.val = 2 → s.m.boot.clocks = true →
    let t := s.m.updateAt n.val
    let m1 := (s.m.advTo ((t + 63) / 64)).gateSettle n.val
    let c := m1.ch n.val
    let ref := { edgeFrom' c c.shadowAt with regrid := false }
    let ends := fun (m : Mach) => if m.tb n.val CH_STAT.SLEWING then m else m.moverDone n.val 0
    (s.m.t n.val CH_CTL.MODE ≠ 2 → c.shadow = true → c.regrid = false → ∀ x, m1.adoptCheck n.val = some x →
      Does (.updatePoint n) s ((m1.setCh n.val ref).liveReject n.val x)) ∧
    (s.m.t n.val CH_CTL.MODE ≠ 2 → c.shadow = true → m1.adoptCheck n.val = none →
      let per := m1.t n.val CH_PERIOD.N
      let moved := if per = c.n then ref else { ref with phi := t % (64 * Nat.max 1 per), rem := 0, step := 0 }
      let m2 := (m1.setCh n.val moved).loadActive n.val
      Does (.updatePoint n) s (ends ((if per = c.n then m2 else m2.recharge n.val).beginMove n.val c.byEval))) ∧
    (s.m.t n.val CH_CTL.MODE ≠ 2 → c.shadow = false → c.regrid = true →
      Does (.updatePoint n) s (ends ((m1.setCh n.val ref).beginMove n.val c.byEval))) ∧
    (s.m.t n.val CH_CTL.MODE = 2 → (s.m.ch n.val).shadow = true ∨ (s.m.ch n.val).regrid = true →
      Does (.updatePoint n) s (((m1.setCh n.val { rollShot c t with regrid := false }).adoptSet n.val).updCh n.val (fun x => replaceShot x t)))) ∧
  (∀ n : Ch, s.m.tb n.val CH_STAT.SLEWING = true → s.m.boot.clocks = true →
    let c := s.m.ch n.val
    let t1 := moveEnd c
    let m1 := (s.m.advTo ((t1 + 63) / 64)).gateSettle n.val
    Does (.phaseMoveDone n) s
      ((((m1.setCh n.val { rebase (m1.ch n.val) t1 with moveLen := 0 }).tput n.val CH_STAT.SLEWING 0).chEvt n.val 0x40).moverDone n.val c.moveLen)) ∧
  (∀ (e : Eng) n, s.m.engineCh e.val = some n →
    (∀ c1 c2 : BitVec 16, c1 ≠ c2 →
      (s.m.chst (if s.m.doubled n then evenOf n else n) = 2 ∨ s.m.chst (if s.m.doubled n then evenOf n else n) = 3) →
      Does (.engCheck e c1 c2) s
        (((s.m.tput n CH_STAT.SELFCHK 0).tput e.val CH_STAT.SELFCHK 0).raise fEngCheck e.val (word (c1.toNat + 65536 * c2.toNat)))) ∧
    ((s.m.chst n = 2 ∨ s.m.chst n = 3) →
      Does (.selfchkRestore e) s ((s.m.tput n CH_STAT.SELFCHK 1).tput e.val CH_STAT.SELFCHK 1)))

/-- From R214 and R220 to R224: the enable of a group, its commit at the epoch, the end of its last hold, and its lock: taken, committed,
discarded, and freed at the end of the idle limit, where LIMIT is not 0. The writer is bound to the group's owner; an access of the
holder's restarts the idle count. -/
def Obligations.GroupCommands : Prop := ∀ (s : State) (g : Fin 32),
  (∀ (a : Acc) (p : Part) (k : Nat) (d : Word), s.m.bind a = .part p.val k → s.m.hostUp = true → s.m.todo = [] → s.m.ownGrp g.val = p.val →
    let who : Who := .part p.val k
    ((s.m.grp g.val).holder ≠ some p.val →
      let addr := 0x030000 + 0x20 * g.val
      let m1 := s.m.begun a addr
      let old := m1.reg addr
      let opened := blend old d 0x3F03
      let kept := blend old d 0x3F01
      let m2 := (((if (old ^^^ opened) &&& 2 ≠ 0 then m1.cfgChanged else m1).store addr opened).grpTouch who addr).put (GRP_STAT.CFGERR g.val) 0
      let m3 := ((m1.store addr kept).grpTouch who addr).put (GRP_STAT.CFGERR g.val) 0
      (old.getLsbD 0 = false → d.getLsbD 0 = true → m2.grpValid g.val = true →
        Does (.grpCfgWrite a g d) s (m2.push (.grpEval g.val))) ∧
      (old.getLsbD 0 = false → d.getLsbD 0 = true → m2.grpValid g.val = false →
        Does (.grpCfgWrite a g d) s ((m2.put (GRP_CFG.EN g.val) 0).put (GRP_STAT.CFGERR g.val) 1)) ∧
      (old.getLsbD 0 = true → d.getLsbD 0 = true → d.getLsbD 1 = old.getLsbD 1 →
        Does (.grpCfgWrite a g d) s (m3.basefHook g.val old kept)) ∧
      (old.getLsbD 0 = true → d.getLsbD 0 = false → d.getLsbD 1 = old.getLsbD 1 → m3.grpRuns g.val = true →
        Does (.grpCfgWrite a g d) s (((m3.put (GRP_CFG.EN g.val) 1).put (GRP_STAT.CFGERR g.val) 1).basefHook g.val old (setF kept 0 1 1))) ∧
      (old.getLsbD 0 = true → d.getLsbD 0 = false → d.getLsbD 1 = old.getLsbD 1 → m3.grpRuns g.val = false →
        Does (.grpCfgWrite a g d) s (m3.grpDisable g.val))) ∧
    (let addr := 0x030400 + 4 * g.val
     let m1 := s.m.begun a addr
     let m2 := (m1.store addr (m1.reg addr &&& ~~~ (d &&& 0x3000))).grpTouch who addr
     let q := m2.grp g.val
     (q.holder = none → d.getLsbD 0 = true →
       let m3 := m2.setGrp g.val { q with holder := some p.val, staged := [], touched := m2.rclk }
       (m3.grp g.val).committed = false → Does (.grpLockReq a g d) s m3) ∧
     (q.holder = some p.val → d.getLsbD 0 = true → d.getLsbD 9 = false →
       let m3 := m2.setGrp g.val { q with lockWords := q.lockWords ++ q.staged, staged := [], committed := true, commitBy := some (a, who),
                                          commitAt := if q.committed then q.commitAt else m2.grid }
       (m3.fb (GRP_CFG.EN g.val) && m3.boot.clocks) = true → Does (.grpLockCommit a g d) s m3) ∧
     (q.holder = some p.val → d.getLsbD 0 = true → d.getLsbD 8 = false →
       let m3 := m2.setGrp g.val { q with staged := [] }
       (m3.grp g.val).committed = false → Does (.grpLockDiscard a g d) s m3))) ∧
  ((s.m.grp g.val).committed = true →
    ((s.m.fb (GRP_CFG.EN g.val) && s.m.boot.clocks) = true → Does (.groupEpoch g) s ((s.m.advTo (s.m.epochAt g.val)).takeCommit g.val)) ∧
    ((s.m.fb (GRP_CFG.EN g.val) && s.m.boot.clocks) = false → Does (.groupEpoch g) s (s.m.takeCommit g.val))) ∧
  ((s.m.grp g.val).vacant ≠ [] → s.m.boot.clocks = true → s.m.todo = [] →
    let m0 := s.m.advTo ((s.m.grp g.val).vacant.foldl (fun x y => Nat.max x y.2) 0)
    Does (.vacancyHoldExpire g) s (((m0.setGrp g.val { m0.grp g.val with vacant := [] }).put (GRP_STAT.HOLDING g.val) 0).push (.grpEval g.val))) ∧
  (∀ h, (s.m.grp g.val).holder = some h → s.m.f GRP_LOCK_TO.LIMIT ≠ 0 →
    let m0 := s.m.advReg ((s.m.grp g.val).touched + s.m.f GRP_LOCK_TO.LIMIT)
    Does (.grpLockTimeout g) s ((((m0.setGrp g.val { m0.grp g.val with holder := none, staged := [] }).put
      (GRP_LOCK.TIMEOUT g.val) 1).grpEvt g.val 32).raise fGrpLockTo g.val (word h))) ∧
  (∀ h, (s.m.grp g.val).holder = some h → s.m.f GRP_LOCK_TO.LIMIT = 0 → Does (.grpLockTimeout g) s s.m)

/-- From R229, R230 and R265: a write of a bank's VSEL compares it with the detected class. A match that is lost stops the bank's engines with cause
BANK_POWER and raises BANK_VMIS; a match that is gained lets the bank restart; without a match the trim loops that lost their echo source hold. -/
def Obligations.BankSelect : Prop := ∀ (s : State) (a : Acc) (k : Bank) (d : Word), s.m.byP0 a →
  let addr := 0x040000 + 4 * k.val
  let m1 := s.m.begun a addr
  let m2 := m1.store addr (blend (m1.reg addr) d 3)
  let m3 := m2.setVok k.val (m2.matches' k.val)
  let bad := word (m2.f (BANK_CFG.VSEL k.val) + 256 * m2.bankClass k.val)
  (m2.present k.val = false → Does (.bankVselWrite a k d) s m3.trimHold) ∧
  (m2.present k.val = true → m2.matches' k.val = false → m2.vok k.val = true →
    Does (.bankVselWrite a k d) s ((m3.trimHold.bankHalt k.val).raise fBankVmis k.val bad)) ∧
  (m2.present k.val = true → m2.matches' k.val = false → m2.vok k.val = false → Does (.bankVselWrite a k d) s m3.trimHold) ∧
  (m2.present k.val = true → m2.matches' k.val = true → m2.vok k.val = false → Does (.bankVselWrite a k d) s (m3.bankRestart k.val)) ∧
  (m2.present k.val = true → m2.matches' k.val = true → m2.vok k.val = true → Does (.bankVselWrite a k d) s m3)

/-- From R232, R235 to R237 and R242: the committed writes of CH_PIN by the owner of the channel. A bond of two stopped CLOCK pins is made, judged by
the functions before the word (the model's reading, log entry 93); a change of FUNC begins a switch; the end of its park interval ends it, unless
the gate holds the new function; the park interval of a route or bond alone only lets time pass. -/
def Obligations.PinCommands : Prop := ∀ (s : State) (n : Ch),
  (∀ (a : Acc) (p : Part) (k : Nat) (d : Word), s.m.bind a = .part p.val k → s.m.hostUp = true → s.m.todo = [] → s.m.ownCh n.val = p.val →
    s.m.memberLock (.part p.val k) (64 * n.val + 56) = none →
    let m0 := s.m.unmarked
    let old := s.m.tw n.val 14
    let kept := fun (m : Mach) => m.updCh n.val (fun c => { c with resetPark := c.resetPark && m.resetting (m.ownCh n.val) })
    (n.val % 2 = 0 → s.m.ownCh (n.val + 1) = p.val → s.m.chst n.val = 0 → s.m.chst (n.val + 1) = 0 →
      old.getLsbD 5 = false → d.getLsbD 5 = true → getF old 0 2 = 0 → getF d 0 2 = 0 →
      let new := blend old d 0x72F &&& ~~~ (d &&& 0x300000)
      let m1 := m0.cfgChanged.setTw n.val 14 new
      m1.t n.val CH_PIN.FUNC = 0 → m1.t (n.val + 1) CH_PIN.FUNC = 0 → m1.spareOf n.val = none → m1.spareOf (n.val + 1) = none →
      Does (.bondWrite a n d) s (kept m1)) ∧
    ((d ^^^ old) &&& 0x724 = 0 → getF old 0 2 ≠ getF d 0 2 →
      let new := blend old d 0xB &&& ~~~ (d &&& 0x300000)
      let m1 := kept (m0.setTw n.val 14 new)
      m1.bonded n.val = false → Does (.pinFuncSwitch a n d) s (m1.switchFunc n.val (getF old 0 2)))) ∧
  (let m1 := s.m.advTo (s.m.ch n.val).parkEnd
   let m2 := ((m1.updCh n.val (fun c => { c with swStep := 0 })).tput n.val CH_PIN.SWBUSY 0).tput n.val CH_PIN.SWDONE 1
   ((s.m.ch n.val).swStep = 2 → (s.m.gateOn = false ∨ s.m.haltMode n.val = 0) → m2.t n.val CH_PIN.FUNC ≠ 2 →
     Does (.parkIntervalEnd n) s (m2.levelFrom m2.grid n.val)) ∧
   ((s.m.ch n.val).swStep = 2 → s.m.t n.val CH_PIN.FUNC = 2 → m2.t n.val CH_PIN.FUNC = 2 →
     Does (.parkIntervalEnd n) s ((m2.tput n.val CH_PIN.GATED 0).updCh n.val (fun c => { c with cleanGate := none, relEdge := none }))) ∧
   ((s.m.ch n.val).swStep = 2 → s.m.gateOn = true → s.m.haltMode n.val ≠ 0 → s.m.t n.val CH_PIN.FUNC ≠ 2 →
     Does (.parkIntervalEnd n) s ((m1.gatePin n.val).updCh n.val (fun c => { c with swStep := 3 }))) ∧
   ((s.m.ch n.val).swStep = 0 → Does (.parkIntervalEnd n) s (s.m.advTo (s.m.ch n.val).routeEnd)) ∧
   ((s.m.ch n.val).swStep ≠ 0 → (s.m.ch n.val).swStep ≠ 2 → Does (.parkIntervalEnd n) s s.m))

/-- From R239 and R243 to R247: PGPO under the mask half and the writer's channels, and the HALT_N pin: its assertion counts, latches where so
configured and gates every pin; a clean gate takes effect at the transition that brings the engine to its park level; the release lets go, and
the clearing of the latch lets go one FAB cycle, 3 PHS cycles, later. -/
def Obligations.HaltAndPgpo : Prop := ∀ s : State,
  (∀ (a : Acc) (p : Part) (k : Nat) (b : Bank) (d : Word), s.m.bind a = .part p.val k → s.m.hostUp = true → s.m.todo = [] →
    let addr := 0x040040 + 4 * b.val
    let m1 := s.m.begun a addr
    let mine := word (m1.pgpoMask (.part p.val k) b.val)
    word (getF d 16 16) &&& ~~~ mine = 0 → Does (.pgpoWrite a b d) s
      ((m1.store addr (blend (m1.reg addr) d (0xFFFF &&& word (getF d 16 16) &&& mine))).pgpoHook b.val (.part p.val k) d (m1.reg addr))) ∧
  (s.m.powered = true → s.m.boot.held = false → s.m.fb HALT_STAT.ASSERTED = false →
    let m1 := ((s.m.put HALT_STAT.ASSERTED 1).put HALT_STAT.COUNT (satInc 255 (s.m.f HALT_STAT.COUNT))).put HALT_STAT.EVT_ASSERT 1
    let pay := word (s.m.f HALT_CFG.FILT + 256 * m1.f HALT_STAT.COUNT)
    (m1.fb HALT_CFG.LATCH = false → Does .haltAssert s (forN 256 Mach.gatePin (m1.raise fHaltAssert 0 pay))) ∧
    (m1.fb HALT_CFG.LATCH = true → Does .haltAssert s (forN 256 Mach.gatePin ((m1.put HALT_STAT.LATCHED 1).raise fHaltAssert 0 pay)))) ∧
  (s.m.fb HALT_STAT.ASSERTED = true →
    let m1 := s.m.put HALT_STAT.ASSERTED 0
    (m1.fb HALT_STAT.LATCHED = true → Does .haltRelease s m1) ∧
    (m1.fb HALT_STAT.LATCHED = false → Does .haltRelease s ((forN 256 (Mach.releasePin m1.grid) m1).put HALT_STAT.EVT_RELEASE 1))) ∧
  (∀ a d, s.m.byP0 a →
    let m1 := s.m.begun a 0x040100
    let m2 := m1.store 0x040100 (blend (m1.reg 0x040100) d 0x1FF)
    (m2.fb HALT_STAT.LATCHED = true → m2.fb HALT_STAT.ASSERTED = false → Does (.haltLatchClear a d) s
      ((forN 256 (Mach.releasePin (m2.grid + 3)) (m2.put HALT_STAT.LATCHED 0)).put HALT_STAT.EVT_RELEASE 1)) ∧
    (m2.fb HALT_STAT.LATCHED = false ∨ m2.fb HALT_STAT.ASSERTED = true → Does (.haltLatchClear a d) s m2)) ∧
  (∀ n : Ch,
    (∀ g t, (s.m.ch n.val).cleanGate = some g → s.m.parkTurn n.val g = some t → s.m.gateOn = true →
      let m1 := s.m.advTo ((t + 63) / 64)
      Does (.cleanGateEffect n) s ((m1.tput n.val CH_PIN.GATED 1).updCh n.val
        (fun c => { c with gateAt := m1.grid, cleanGate := none, lvl := none, winOk := false }))) ∧
    ((s.m.ch n.val).cleanGate = none → Does (.cleanGateEffect n) s s.m))

/-- From R254 to R266: a visit and a master's request for one. A channel without a scheduled visit gets none, and the requests for it are
rejected (the model's reading of R256, log entry 96). A visit shows whether its window can be measured and the state of the echo source; a
measured one brings its flags, results and decision, and where every check passes and no echo is wanted it writes just those; then the trim
loop and the requests that waited for it go on. A request with GO is taken while the channel is the writer's and has a visit, and
otherwise rejected or refused; one without GO only stores the channel. -/
def Obligations.MonitorVisits : Prop := ∀ s : State,
  (∀ (n : Ch) (x : Meas),
    (s.m.visited n.val = false ∨ s.m.powered = false → Does (.monitorVisit n x) s (s.m.monRefuse n.val)) ∧
    (s.m.visited n.val = true → s.m.powered = true →
      let now := s.m.measurable n.val
      let valid := now && (s.m.ch n.val).winOk && !s.m.test.laneBad.getLsbD (n.val % 16)
      let y := s.m.seen n.val x
      let m0 := ((s.m.keepSeen n.val x).updCh n.val (fun c => { c with winOk := now })).put (MR_STAT.VALID n.val) (b2n valid)
      let m1 := (m0.put (MR_STAT.EABS n.val) (b2n (s.m.wantsEcho n.val && !s.m.echoPresent n.val))).put (MR_STAT.ECONF n.val)
        (b2n (s.m.echoConflict n.val))
      (valid = false → Does (.monitorVisit n x) s ((m1.trimVisit n.val false 0 y).monAnswer n.val)) ∧
      (valid = true → s.m.echoPresent n.val = true → Does (.monitorVisit n x) s
        (((m1.monResult n.val (m0.echoFail n.val y) y).trimVisit n.val true (m0.echoFail n.val y) y).monAnswer n.val)) ∧
      (valid = true → s.m.echoPresent n.val = false → Does (.monitorVisit n x) s
        (((m1.monResult n.val 0 y).trimVisit n.val true 0 y).monAnswer n.val)) ∧
      (valid = true → s.m.echoPresent n.val = false → m1.checks n.val y = [false, false, false, false, false] →
        y.phaseErr = none → y.dutyErr = none →
        let m2 := (((((m1.put (MR_STAT.PRES_F n.val) 0).put (MR_STAT.FREQ_F n.val) 0).put (MR_STAT.DUTY_F n.val) 0).put
          (MR_STAT.PHASE_F n.val) 0).put (MR_STAT.ENG_F n.val) 0).put (MR_STAT.COUNT n.val) (Nat.min 255 x.padCount)
        let m3 := (m2.put (MR_STAT.ECHO_F n.val) 0).updCh n.val (fun y => { y with healthy := true })
        m3.fb (MR_STAT.VERIFY n.val) = false → m3.tb n.val CH_MON.TRIM_EN = false →
        Does (.monitorVisit n x) s (m3.monAnswer n.val)))) ∧
  (∀ (a : Acc) (p : Part) (k : Nat) (d : Word), s.m.bind a = .part p.val k → s.m.hostUp = true → s.m.todo = [] →
    let key := 0x050010 + p.val * instSpan
    let n := getF d 0 8
    let m1 := s.m.begun a 0x050010
    let m2 := m1.store key (blend (m1.reg key) d 0xFF)
    let m3 := m2.put (MON_REQ_STAT.CH.inst p.val) n
    (d.getLsbD 8 = false → Does (.monRequest a d) s m2) ∧
    (d.getLsbD 8 = true → m2.ownCh n ≠ p.val → Does (.monRequest a d) s (m2.accErr (.part p.val k) a.port 0x050010 cOWNER)) ∧
    (d.getLsbD 8 = true → m2.ownCh n = p.val → m2.fb (MON_REQ_STAT.BUSY.inst p.val) = true →
      Does (.monRequest a d) s (m2.put (MON_REQ_STAT.REJ.inst p.val) 1)) ∧
    (d.getLsbD 8 = true → m2.ownCh n = p.val → m2.fb (MON_REQ_STAT.BUSY.inst p.val) = false → m3.visited n = true →
      Does (.monRequest a d) s (m3.put (MON_REQ_STAT.BUSY.inst p.val) 1)) ∧
    (d.getLsbD 8 = true → m2.ownCh n = p.val → m2.fb (MON_REQ_STAT.BUSY.inst p.val) = false → m3.visited n = false →
      Does (.monRequest a d) s (m3.put (MON_REQ_STAT.REJ.inst p.val) 1)))

/-- From R282, R284, R285 and R288 to R291 with R295: acknowledgement by line, by block and of the first-fault records, a change of a code's
classifier, the escalation timer at its end (with every line of the block whose timer ends then, in the order of R284, each of whose own ends
has then been taken), the ageing of raw events past the window, and an injected fault in TEASEL. -/
def Obligations.FaultCommands : Prop := ∀ s : State,
  (∀ (b : Blk) (c : Fin 32) (p : Part),
    let l := s.m.line b.val c.val p.val
    (l.joined = some s.m.now → Does (.escalationTimer b c p) s (s.m.setLine b.val c.val p.val { l with joined := none })) ∧
    (l.joined ≠ some s.m.now → l.timer = none → Does (.escalationTimer b c p) s s.m) ∧
    (∀ d, l.joined ≠ some s.m.now → l.timer = some d →
      let m1 := s.m.advNow d
      let l1 := m1.line b.val c.val p.val
      Does (.escalationTimer b c p) s ((m1.escBatch b.val d).foldl (fun t x =>
        let t1 := t.escOne b.val x.1 x.2
        if x == (c.val, p.val) then t1 else t1.setLine b.val x.1 x.2 { t1.line b.val x.1 x.2 with joined := some t1.now }) m1) ∧
      (m1.escBatch b.val d = [(c.val, p.val)] →
        (m1.unacked b.val c.val p.val = true → m1.lineEl b.val c.val p.val < m1.lineCap b.val c.val →
          Does (.escalationTimer b c p) s (m1.entry
            { blk := b.val, code := c.val, src := l1.src, pay := l1.pay, part := p.val, owned := l1.owned, inj := l1.inj }
            (m1.lineEl b.val c.val p.val + 1) true true)) ∧
        ((m1.unacked b.val c.val p.val = false ∨ m1.lineCap b.val c.val ≤ m1.lineEl b.val c.val p.val) →
          Does (.escalationTimer b c p) s (m1.setLine b.val c.val p.val { l1 with timer := none })))) ∧
    (l.raws = [] → Does (.rawEventAge b c p) s s.m) ∧
    (∀ t, l.raws.getLast? = some t →
      let m1 := s.m.advNow (t + s.m.lineWin b.val c.val + 1)
      Does (.rawEventAge b c p) s (m1.setLine b.val c.val p.val { m1.line b.val c.val p.val with
        raws := (m1.line b.val c.val p.val).raws.filter (fun t => m1.now ≤ t + m1.lineWin b.val c.val) }))) ∧
  (∀ (a : Acc) (p : Part) (k : Nat) (b : Blk) (d : Word), s.m.bind a = .part p.val k → s.m.hostUp = true → s.m.todo = [] →
    let addr := 0x060000 + 0x400 * b.val
    let key := addr + p.val * instSpan
    let m1 := s.m.begun a addr
    Does (.fltAck a b d) s ((m1.store key (m1.reg key &&& ~~~ d)).ackBits b.val p.val (d &&& m1.reg key))) ∧
  (∀ a, s.m.byP0 a →
    (∀ b : Blk, let m1 := s.m.begun a (0x06000C + 0x400 * b.val)
      Does (.fltAckall a b) s (m1.ackAll b.val) ∧ Does (.firstFaultClear a b) s (m1.firstClear b.val)) ∧
    Does (.devFirstClear a) s (s.m.begun a 0x06F020).devFirstClear ∧
    (∀ (b : Blk) (c : Fin 32) (d : Word), c.val < faultCodes b.val →
      let addr := 0x060200 + 0x400 * b.val + 4 * c.val
      let m1 := s.m.begun a addr
      let new := blend (m1.reg addr) d 0xFFFF1FFF
      (s.m.isArmed (s.m.bind a) addr = true →
        Does (.fltCfgWrite a b c d) s ((m1.store addr new).fltCfgChanged b.val c.val (m1.reg addr) new)) ∧
      (s.m.isArmed (s.m.bind a) addr = false → (d ^^^ s.m.reg addr) &&& 0xFFFF1FFF ≠ 0 →
        Does (.fltCfgWrite a b c d) s (m1.accErr (s.m.bind a) a.port addr cKEY)))) ∧
  (∀ (a : Acc) (p : Part) (k : Nat) (d : Word), s.m.dev = .teasel → s.m.bind a = .part p.val k → s.m.todo = [] →
    let m1 := s.m.begun a 0x0F0600
    let m2 := m1.store 0x0F0600 (blend (m1.reg 0x0F0600) d 0x001FFF1F)
    (d.getLsbD 31 = true → Does (.fltInj a d) s m2.inject) ∧
    (d.getLsbD 31 = false → Does (.fltInj a d) s m2))

/-- From R302 to R318: one pass of the governor recomputes the budget and the shares, sheds for heat and then for budget, sets the scan interval,
hands out self-test slots, and serves the waiting requests where channels may run; the sensors are read and the thermal step evaluated; a
written budget is a refresh, and BTO ms after the latest one it goes stale; a request waits WAIT_LIM ms; a dwell ends after 10 ms times DWELL, 0
acting as 1; a slot ends SLOT ms after its grant, 0 acting as 1, before its test, which asks again. -/
def Obligations.GovernorCommands : Prop := ∀ s : State,
  (s.m.powered = true → s.m.boot.held = false →
    let m2 := forN 16 Mach.budgetSheds s.m.showBudget.thermalSheds
    let m3 := (m2.put MON_STAT.SI_EFF m2.siEff).slotPass
    ((m3.running && !m3.goingDown && m3.boot.clocks) = true → Does .govPass s (forN 16 Mach.serve m3)) ∧
    ((m3.running && !m3.goingDown && m3.boot.clocks) = false → Does .govPass s m3) ∧
    (∀ t0 t1 t2 t3 : BitVec 16, Does (.tsenseRead t0 t1 t2 t3) s
      (forN 4 (Mach.judgeSensor [t0.toInt, t1.toInt, t2.toInt, t3.toInt] s.m.gov.bad) s.m).evalStep) ∧
    (s.m.f GOV_BCFG.BTO ≠ 0 → s.m.fb GOV_STAT.STALE = false →
      let m1 := s.m.advNow ((s.m.since .budget).getD s.m.boot.relTime + s.m.f GOV_BCFG.BTO * msec)
      Does .budgetStale s ((((m1.put GOV_STAT.STALE 1).put GOV_EVT.STALE 1).raise fBudgetStale 0 (word m1.budget)).showBudget))) ∧
  (∀ a d, s.m.byP0 a →
    let m1 := s.m.begun a 0x070004
    let m2 := m1.store 0x070004 (blend (m1.reg 0x070004) d 0xFFFF)
    Does (.budgetWrite a d) s (((m2.put GOV_STAT.STALE 0).startTimer .budget).showBudget)) ∧
  (∀ n : Ch, s.m.tb n.val CH_STAT.PEND = true → (s.m.ch n.val).waitRaised = false → s.m.f GOV_CFG.WAIT_LIM ≠ 0 →
    let m1 := s.m.advNow ((s.m.ch n.val).waitAt + s.m.f GOV_CFG.WAIT_LIM * msec)
    Does (.budgetWait n) s (((m1.updCh n.val (fun c => { c with waitRaised := true })).put GOV_EVT.WAITLIM 1).raise fBudgetWait n.val
      (word ((m1.now - (s.m.ch n.val).waitAt) / msec)))) ∧
  (s.m.fb GOV_STAT.DWELLING = true → s.m.f GOV_CFG.DWELL ≠ 0 →
    Does .dwellEnd s ((s.m.reach .dwell (s.m.f GOV_CFG.DWELL * 10 * msec)).put GOV_STAT.DWELLING 0)) ∧
  (s.m.fb GOV_STAT.DWELLING = true → s.m.f GOV_CFG.DWELL = 0 →
    Does .dwellEnd s ((s.m.reach .dwell (10 * msec)).put GOV_STAT.DWELLING 0)) ∧
  (s.m.fb GOV_STAT.DWELLING = false → Does .dwellEnd s s.m) ∧
  (∀ x : Activity,
    (s.m.gov.slots.contains x = false → Does (.slotEnd x) s s.m) ∧
    (s.m.gov.slots.count x = 1 → (s.m.gov.want.map Prod.fst).contains x = false →
      let m0 := s.m.reach (.slot (actIdx x)) (Nat.max 1 (s.m.f GOV_STRES.SLOT) * msec)
      let m1 := { m0 with gov := { m0.gov with slots := m0.gov.slots.erase x } }
      let m2 := m1.put GOV_STAT.SLOTS m1.gov.slots.length
      Does (.slotEnd x) s { m2 with gov := { m2.gov with want := queueIn x m2.gov.want } }))

/-- From R324 to R329 and R333: a reset of a partition is requested by the owner or by itself; partitions are enabled and disabled; the clearing
ends in ACTIVE with RSTDONE and a PART_READY record, or in DISABLED; an ownership register takes each changed nibble whose
condition holds; and a bucket that is not full takes one token each BRATE µs, 0 acting as 1. -/
def Obligations.PartitionCommands : Prop := ∀ s : State,
  (∀ (a : Acc) (p : Part), s.m.byP0 a →
    Does (.partResetRequest a p true) s ((s.m.begun a 0x080100).push (.partReset p.val prOWNER))) ∧
  (∀ (a : Acc) (p : Part) (k : Nat), s.m.bind a = .part p.val k → s.m.hostUp = true → s.m.todo = [] →
    Does (.partResetRequest a p false) s ((s.m.begun a (0x080408 + 0x20 * p.val)).push (.partReset p.val prSELF))) ∧
  (∀ a d, s.m.byP0 a → s.m.mayOwnKey (s.m.bind a) 0x0800B0 = true →
    let m1 := s.m.begun a 0x0800B0
    let new := blend (m1.reg 0x0800B0) d 0xFFFE
    Does (.partEnWrite a d) s ((m1.store 0x0800B0 new).partEnHook (m1.reg 0x0800B0) new)) ∧
  (∀ (a : Acc) (addr : BitVec 24) d, s.m.byP0 a → s.m.mayOwnKey (s.m.bind a) addr.toNat = true → addr.toNat % 4 = 0 →
    0x080000 ≤ addr.toNat → addr.toNat < 0x0800A8 →
    let m1 := s.m.begun a addr.toNat
    let old := m1.reg addr.toNat
    let new := m1.ownNibbles addr.toNat old d
    let m2 := (if new = d then m1 else m1.put PART_GSTAT.OWNREJ 1).setReg addr.toNat new
    Does (.ownershipWrite a addr d) s (m2.ownHook addr.toNat old new)) ∧
  (∀ p : Part, s.m.pstate p.val = 3 →
    (p.val = 0 ∨ (s.m.reg 0x0800B0).getLsbD p.val = true →
      let m1 := ((s.m.put (PART_STAT.STATE p.val) 1).put (PART_EVT.RSTDONE p.val) 1).event p.val 6 0
        (word (p.val + 256 * s.m.f (PART_STAT.CAUSE p.val))) 0
      m1.boot.restart ≠ some p.val → Does (.partClearDone p) s m1) ∧
    (p.val ≠ 0 → (s.m.reg 0x0800B0).getLsbD p.val = false →
      let m1 := (s.m.put (PART_STAT.STATE p.val) 0).dropBindings p.val
      m1.boot.restart ≠ some p.val → Does (.partClearDone p) s m1)) ∧
  (∀ p : Part,
    (s.m.instd p.val = true → s.m.f (PART_STAT.TOKENS p.val) < s.m.depth p.val →
      let m1 := s.m.reach (.token p.val) (Nat.max 1 (s.m.f (PART_SVC.BRATE p.val)) * usec)
      let m2 := (m1.stopTimer (.token p.val)).put (PART_STAT.TOKENS p.val) (s.m.f (PART_STAT.TOKENS p.val) + 1)
      (m2.depth p.val ≤ m2.f (PART_STAT.TOKENS p.val) → Does (.tokenRefill p) s (m2.stopTimer (.token p.val))) ∧
      (m2.f (PART_STAT.TOKENS p.val) < m2.depth p.val → m2.since (.token p.val) = none →
        Does (.tokenRefill p) s (m2.startTimer (.token p.val)))) ∧
    (s.m.instd p.val = false ∨ s.m.depth p.val ≤ s.m.f (PART_STAT.TOKENS p.val) → Does (.tokenRefill p) s s.m))

/-- From R113 and R335 to R338: ATTACH through any port, bound or not, once a partition exists; before, an unbound access changes nothing but the
marks of the access. The message's form, partition, key and authentication are checked in that order, the first that fails giving the
result, and one that passes binds the port to the partition with its key; DONE, the result and the partition are shown. UNBIND ends the named
bindings and their keys. -/
def Obligations.AttachCommands : Prop := ∀ (s : State) (a : Acc), s.m.hostUp = true → s.m.todo = [] →
  let i := portInst a
  (s.m.bind a = .unbound → s.m.anyInst = false →
    Does (.attach a) s s.m.unmarked ∧ ∀ d, Does (.attUnbind a d) s s.m.unmarked) ∧
  (s.m.bind a ≠ .unbound ∨ s.m.anyInst = true →
   let m1 := s.m.begun a 0x080320
   let key := 0x080328 + i * instSpan
   let msg := (List.range 8).flatMap (fun k => wordBytes (m1.f ((ATT_DATA.DATA k).inst i)))
   let p := byteAt msg 1 % 16
   let k := byteAt msg 3
   let form := byteAt msg 0 = 0xA7 ∧ byteAt msg 1 < 16 ∧ byteAt msg 2 = portNum a.port ∧ byteAt msg 8 = instNode i ∧ fieldAt msg 9 7 = 0
   let allowed := 0 < k ∧ k ≤ 5 ∧ (m1.reg (0x080400 + 0x20 * p)).getLsbD k = true
   let auth := m1.authCheck k (fieldAt msg 4 4) (msg.take 16) (msg.drop 16) (0xA7 + 256 * p)
   let shown := fun (m : Mach) (r : Nat) => ((m.put (ATT_STAT.DONE.inst i) 1).put (ATT_STAT.RES.inst i) r).put (ATT_STAT.PART.inst i)
     (getF (m1.reg (0x080300 + i * instSpan)) 8 4)
   let fails := fun (m : Mach) => m.raise fAttachFail p (word (portNum a.port))
   (¬ form → Does (.attach a) s (shown m1 1)) ∧
   (form → m1.instd p = false → Does (.attach a) s (shown m1 2)) ∧
   (form → m1.instd p = true → ¬ allowed → Does (.attach a) s (shown (fails m1) 3)) ∧
   (form → m1.instd p = true → allowed →
     (auth.2 = 0 → Does (.attach a) s (shown ((auth.1.setReg key (setF (auth.1.reg key) p 1 1)).put ((ATT_KEY.KEY p).inst i) k) 0)) ∧
     (auth.2 ≠ 0 → Does (.attach a) s (shown (fails auth.1) (if auth.2 = 1 then 4 else if auth.2 = 2 then 5 else 6))))) ∧
  (s.m.bind a ≠ .unbound ∨ s.m.anyInst = true →
   let m1 := s.m.begun a 0x080320
   let r := m1.attachCheck a.port i
   Does (.attach a) s (((r.1.put (ATT_STAT.DONE.inst i) 1).put (ATT_STAT.RES.inst i) r.2).put (ATT_STAT.PART.inst i)
     (getF (m1.reg (0x080300 + i * instSpan)) 8 4))) ∧
  (∀ d : Word, s.m.bind a ≠ .unbound ∨ s.m.anyInst = true →
    let key := 0x080328 + i * instSpan
    let m1 := s.m.begun a 0x080328
    Does (.attUnbind a d) s ((m1.store key (m1.reg key &&& ~~~ (d &&& 0xFFFF))).unbindHook i (d &&& 0xFFFF)))

/-- From R350 to R359: SPI frames. A header whose CRC, form and span pass begins a frame; a header CRC that fails is answered with NAK. A write
segment whose CRC passes commits its words one by one, each with its consequences before the next, and a failing one commits nothing. A
read frame fetches its words and sends SYNC, the data, DCRC and the trailer; a cut frame is recorded as ABORT with the words sent. -/
def Obligations.SpiCommands : Prop := ∀ s : State, s.m.hostUp = true →
  (∀ b : List Byte, s.m.spi.phase ≠ 1 → b.length = 8 →
    let cmd := byteAt b 0
    let tag := byteAt b 1
    let crc := crc16 (b.take 6)
    (fieldAt b 6 2 ≠ crc → Does (.spiHeader b) s ((s.m.spiNak 1 0).raise fSpiCrc 0 (word (fieldAt b 6 2)))) ∧
    (fieldAt b 6 2 = crc → (cmd / 64 % 2 = 1 ∨ cmd % 16 ≠ 10 ∨ tag / 16 % 4 ≠ 0 ∨ (128 ≤ cmd ∧ cmd / 16 % 4 ≠ 0)) →
      Does (.spiHeader b) s (s.m.spiNak 2 0)) ∧
    (fieldAt b 6 2 = crc → cmd / 64 % 2 = 0 → cmd % 16 = 10 → tag / 16 % 4 = 0 → (cmd < 128 ∨ cmd / 16 % 4 = 0) →
      (tag / 64 % 2 = 0 → 0xFFFFFC < fieldAt b 2 3 + 4 * byteAt b 5 → Does (.spiHeader b) s (s.m.spiNak 3 0)) ∧
      (tag / 64 % 2 = 1 ∨ fieldAt b 2 3 + 4 * byteAt b 5 ≤ 0xFFFFFC →
        Does (.spiHeader b) s { s.m with
          spi := { phase := 1, rd := decide (128 ≤ cmd), seg := cmd / 16 % 4, tagv := decide (128 ≤ tag), fix := tag / 64 % 2 == 1,
                   part := tag % 16, addr := fieldAt b 2 3, len := byteAt b 5 + 1, crc := crc,
                   unb := s.m.bind (hostAcc .spi (128 ≤ tag) (tag % 16)) == .unbound } }))) ∧
  (∀ (words : List Word) (crc : BitVec 16), s.m.spi.phase = 1 → s.m.spi.rd = false → words.length = s.m.spi.segWords →
    let c := (words.flatMap wordBytes).foldl crc16Byte s.m.spi.crc
    (c ≠ crc.toNat → Does (.spiSegment words crc) s ((s.m.spiNak 4 s.m.spi.pos).raise fSpiCrc 0 (word crc.toNat))) ∧
    (c = crc.toNat → Does (.spiSegment words crc) s
      ((words.foldl (fun t d => Mach.spiWord Mach.settle d t) { s.m with spi := { s.m.spi with crc := c } }).spiWritten))) ∧
  (s.m.spi.phase = 1 → s.m.spi.rd = true →
    let a := hostAcc .spi s.m.spi.tagv s.m.spi.part
    (let r := Mach.fetch a s.m.spi.fix s.m.spi.addr s.m.spi.len s.m
     let data := r.1.flatMap wordBytes
     let flags := b2n r.2.spi.acc + 2 * b2n r.2.spi.ign + 4 * b2n r.2.spi.unb
     Does (.spiReadFrame none) s (Mach.spiResult 0 s.m.spi.len { r.2 with
       spi := { r.2.spi with phase := 0, out := 0xA5 :: (data ++ toLE 2 (crc16 data) ++ trailer 0 flags s.m.spi.len) } })) ∧
    (∀ fetched sent : Nat, sent ≤ fetched → fetched ≤ s.m.spi.len →
      let r := Mach.fetch a s.m.spi.fix s.m.spi.addr fetched s.m
      Does (.spiReadFrame (some (fetched, sent))) s
        ((Mach.spiResult 5 sent { r.2 with spi := { r.2.spi with phase := 0, out := [] } }).raise fSpiAbort 0 (word sent)))) ∧
  (let quiet := { s.m with spi := { s.m.spi with phase := 0, out := [] } }
   (s.m.spi.phase = 2 → Does .spiAbort s quiet) ∧
   (s.m.spi.phase = 1 → Does .spiAbort s ((quiet.spiResult 5 s.m.spi.pos).raise fSpiAbort 0 (word s.m.spi.pos))) ∧
   (s.m.spi.phase = 0 → Does .spiAbort s ((quiet.spiResult 5 0).raise fSpiAbort 0 0)))

/-- From R362 to R365: I2C transfers. A header loads the pointer unless TAG has reserved bits; four bytes are one word write at the pointer and a
read fetches the word at the pointer, the pointer moving on; an aborted or timed out transfer discards a partial group, and its byte count
saturates at 16 bits. -/
def Obligations.I2cCommands : Prop := ∀ s : State, s.m.hostUp = true →
  (∀ (tag : Byte) (addr : BitVec 24),
    (tag.toNat / 16 % 4 ≠ 0 → Does (.i2cWriteHeader tag addr) s
      { (s.m.put I2C_STAT.TAGNAK 1).put I2C_STAT.BYTES 1 with i2c := { s.m.i2c with writing := false } }) ∧
    (tag.toNat / 16 % 4 = 0 → Does (.i2cWriteHeader tag addr) s
      { ((s.m.put I2C_PTR.ADDR addr.toNat).put I2C_PTR.TAG tag.toNat).put I2C_STAT.BYTES 4 with i2c := { s.m.i2c with writing := true } })) ∧
  (∀ d : Word, s.m.i2c.writing = true →
    let m1 := s.m.put I2C_STAT.BYTES (Nat.min 65535 (s.m.f I2C_STAT.BYTES + 4))
    let m2 := if getF (word (m1.f I2C_PTR.TAG)) 6 1 = 1 then m1 else m1.put I2C_PTR.ADDR (m1.f I2C_PTR.ADDR + 4)
    Does (.i2cWriteGroup d) s (m2.busWrite s.m.i2cAcc (s.m.f I2C_PTR.ADDR) d).settle) ∧
  (∀ (first : Bool) (n : Nat), n ≤ 4 →
    let r := s.m.busRead s.m.i2cAcc (s.m.f I2C_PTR.ADDR)
    let m1 := if getF (word (r.2.f I2C_PTR.TAG)) 6 1 = 1 then r.2 else r.2.put I2C_PTR.ADDR (r.2.f I2C_PTR.ADDR + 4)
    Does (.i2cReadWord first n) s { m1.put I2C_STAT.BYTES (Nat.min 65535 ((if first then 0 else s.m.f I2C_STAT.BYTES) + n)) with
      i2c := { writing := false, out := r.1 } }) ∧
  (∀ n : Nat,
    let lost := s.m.accErr (s.m.bind s.m.i2cAcc) .i2c (s.m.f I2C_PTR.ADDR) cWIDTH
    let ended := fun (m : Mach) (b : Fld) => Mach.raise fI2cAbort 1 (word (Nat.min 65535 n))
      { (m.put b 1).put I2C_STAT.BYTES (Nat.min 65535 n) with i2c := { m.i2c with writing := false } }
    Does (.i2cAbort n true) s (ended s.m I2C_STAT.ABORT) ∧
    (s.m.i2c.writing = true → Does (.i2cAbort n false) s (ended lost I2C_STAT.ABORT)) ∧
    (s.m.i2c.writing = false → Does (.i2cAbort n false) s s.m) ∧
    (s.m.fb HOST_CFG.I2C_TO = false → Does (.i2cTimeout n) s s.m) ∧
    (s.m.fb HOST_CFG.I2C_TO = true → s.m.i2c.writing = true → 4 < n → n % 4 ≠ 0 → Does (.i2cTimeout n) s (ended lost I2C_STAT.TIMEOUT)) ∧
    (s.m.fb HOST_CFG.I2C_TO = true → (s.m.i2c.writing = false ∨ n ≤ 4 ∨ n % 4 = 0) → Does (.i2cTimeout n) s (ended s.m I2C_STAT.TIMEOUT)))

/-- From R372 to R374, R392 and R396: a push of the staged descriptor is accepted or refused with its code shown and counted; a pop removes
records from the writer's event or ledger queue; CLRHI sets a queue's high-water mark to its level. -/
def Obligations.QueueAccesses : Prop := ∀ (s : State) (a : Acc) (p : Part) (k : Nat) (d : Word),
  s.m.bind a = .part p.val k → s.m.hostUp = true → s.m.todo = [] →
  (let i := 1200 + 17 * portNum a.port + p.val
   let key := 0x090440 + i * instSpan
   let m1 := s.m.begun a 0x090440
   let m2 := m1.store key (blend (m1.reg key) d 2)
   let staged : Desc := { bytes := (List.range 16).flatMap (fun j => wordBytes (m2.reg (0x090400 + 4 * j + i * instSpan))) }
   let r := m2.enqueue p.val (m2.fb (CMD_PUSH.URG.inst i)) false staged
   let m3 := r.1.put (CMD_PUSH_STAT.RES.inst i) r.2
   (r.2 = rOK → Does (.cmdPush a d) s (m3.put (CMD_PUSH_STAT.ACC.inst i) (m3.f (CMD_PUSH_STAT.ACC.inst i) + 1))) ∧
   (r.2 ≠ rOK → Does (.cmdPush a d) s (m3.put (CMD_PUSH_STAT.REF.inst i) (satInc 255 (m3.f (CMD_PUSH_STAT.REF.inst i)))))) ∧
  (let popped := fun (addr kind : Nat) =>
     let m1 := s.m.begun a addr
     let key := addr + p.val * instSpan
     (m1.store key (blend (m1.reg key) d 0)).pop (4 * p.val + kind) (getF d 0 8)
   Does (.evqPop a d) s (popped 0x090490 2) ∧ Does (.ldqPop a d) s (popped 0x0904B0 3)) ∧
  (∀ q : Fin 64, q.val / 4 = p.val →
    let addr := 0x090004 + 8 * q.val
    let m1 := s.m.begun a addr
    let m2 := m1.store addr (blend (m1.reg addr) d 0 &&& ~~~ (d &&& 0x2000000))
    (q.val % 4 < 2 → Does (.qHiwatClear a q d) s (m2.setCq q.val { m2.cq q.val with hiwat := (m2.cq q.val).cmds.length })) ∧
    (2 ≤ q.val % 4 → Does (.qHiwatClear a q d) s (m2.setRq q.val { m2.rq q.val with hiwat := (m2.rq q.val).level })))

/-- From R344 and R380 to R385: an urgent head whose partition has a token goes first and takes the token, and the refill interval of a bucket
that has so ceased to be full begins; else, with no normal command in service, the
open visit of the round robin goes on while a head fits the deficit, and otherwise the next visits add their weights; with a
normal command in service, or with every queue empty, nothing is dispatched. -/
def Obligations.CommandDispatch : Prop := ∀ s : State, s.m.powered = true → s.m.boot.held = false → s.m.urgent = none →
  (∀ (p : Nat) (d : Desc), s.m.nextUrgent = some p → s.m.ready p true = some d →
    let m1 := s.m.put (PART_STAT.TOKENS p) (s.m.f (PART_STAT.TOKENS p) - 1)
    (m1.f (PART_STAT.TOKENS p) < m1.depth p → m1.since (.token p) = none →
      Does .cmdDispatch s (Mach.take p true d { (m1.startTimer (.token p)).put QENG_STAT.UPART p with lastUrgent := p })) ∧
    (m1.f (PART_STAT.TOKENS p) < m1.depth p → m1.since (.token p) ≠ none →
      Does .cmdDispatch s (Mach.take p true d { m1.put QENG_STAT.UPART p with lastUrgent := p })) ∧
    (m1.depth p ≤ m1.f (PART_STAT.TOKENS p) →
      Does .cmdDispatch s (Mach.take p true d { (m1.stopTimer (.token p)).put QENG_STAT.UPART p with lastUrgent := p }))) ∧
  (s.m.nextUrgent = none →
    (∀ v, s.m.normal = some v → Does .cmdDispatch s s.m) ∧
    (s.m.normal = none →
      (∀ d, s.m.visiting = true → s.m.fits s.m.lastNormal = some d →
        Does .cmdDispatch s (Mach.take s.m.lastNormal false d
          { s.m.put (Q_DEF.DEF s.m.lastNormal) (s.m.deficit s.m.lastNormal - d.steps) with visiting := true })) ∧
      (s.m.visiting = false → (∀ p, s.m.ready p false = none) → Does .cmdDispatch s s.m) ∧
      (∀ (p : Nat) (d : Desc), s.m.visiting = false → (after s.m.lastNormal).find? (fun x => (s.m.ready x false).isSome) = some p →
        let m1 := { s.m.put (Q_DEF.DEF p) (s.m.deficit p + s.m.weight p) with lastNormal := p, visiting := false }
        m1.fits p = some d →
        Does .cmdDispatch s (Mach.take p false d
          { m1.put (Q_DEF.DEF p) (m1.deficit p - d.steps) with lastNormal := p, visiting := true }))))

/-- From R302, R377 to R379, R381 and R384: NOP completes with OK; CH_START submits the named channels, 64 at a step, an urgent command that may
go being dispatched between two steps; CH_STOP, CH_RESYNC and CH_TRIG act on
each named channel as a write of its trigger would; GOV_BUDGET_SET answers the budget in effect; SVC_OPEN opens the session. A channel
command ends with OK and the count, or with PARTIAL or the refusal, and the first channel refused. `v` is the command in service. -/
def Obligations.CommandsInService : Prop := ∀ (s : State) (v : Serving), s.m.serves v →
  let ends := fun (r : Mach × Serving) =>
    match r.2.refused with
    | none => r.1.finish r.2 rOK r.2.acted
    | some (n, e) => r.1.finish r.2 (if r.2.acted = 0 then e else rPARTIAL) (r.2.acted + 65536 * n + 16777216 * e)
  let each := fun (f : Nat → Mach → Mach) => v.desc.channels.foldl
    (fun (x : Mach × Serving) n => (f n x.1, x.2.note n (if x.1.oddDouble n then rBAD_PARAM else rOK))) (s.m, v)
  (v.desc.op = 0x01 → Does .nop s (s.m.finish v rOK 0)) ∧
  (v.desc.op = 0x10 →
    let r := (v.desc.channels.filter (fun n => n / 64 == v.done)).foldl
      (fun (x : Mach × Serving) n => ((x.1.submit n .host).1, x.2.note n (x.1.submit n .host).2)) (s.m, v)
    (v.done = 0 ∨ s.m.nextUrgent = none →
      (v.done ≠ 3 → Does .chStart s (r.1.setServing v.urgent (some { r.2 with done := v.done + 1 }))) ∧
      (v.done = 3 → Does .chStart s (ends r))) ∧
    (v.done ≠ 0 → s.m.nextUrgent ≠ none → Does .chStart s s.m.dispatch)) ∧
  (v.desc.op = 0x11 → Does .chStop s (ends (each (fun n t => t.stop n csHOST false)))) ∧
  (v.desc.op = 0x12 → Does .chResync s (ends (each Mach.resync))) ∧
  (v.desc.op = 0x13 → Does .chTrig s (ends (each Mach.trig))) ∧
  (v.desc.op = 0x30 →
    let m1 := s.m.put GOV_BUDGET.B (v.desc.arg 8 2)
    let m2 := ((m1.put GOV_STAT.STALE 0).startTimer .budget).showBudget
    Does .govBudgetSet s (m2.finish v rOK (m2.f GOV_BEFF.BEFF))) ∧
  (v.desc.op = 0x50 → Does .svcOpen s ((s.m.put SVC_STAT.OPEN 1).finish v rOK 0))

/-- From R275, R447, R466 and R480: RETIRE_CLEAR clears list entries or spare marks and answers how many; HIRE_OPEN opens a session or replaces the
end of the one that runs, and HIRE_CLOSE closes it, with the ledger's entry each; LOCKOUT_CLEAR ends the named lockouts; a report is
signed in the partition's buffer. A bad argument completes with BAD_PARAM and changes nothing. -/
def Obligations.SessionsAndReports : Prop := ∀ (s : State) (v : Serving), s.m.serves v →
  (v.desc.op = 0x51 →
    let r := s.m.retireClear (v.desc.arg 8 1) (v.desc.arg 9 1) (v.desc.arg 10 1)
    Does .retireClear s (r.1.finish v rOK r.2)) ∧
  (v.desc.op = 0x60 →
    let ses := v.desc.arg 8 4
    let e := v.desc.arg 12 4
    (s.m.hireEndOk e = false → Does .hireOpen s (s.m.finish v rBAD_PARAM 0)) ∧
    (s.m.hireEndOk e = true → s.m.f HIRE_STAT.STATE = 0 → ses = 0 → Does .hireOpen s (s.m.finish v rBAD_PARAM 0)) ∧
    (s.m.hireEndOk e = true → s.m.f HIRE_STAT.STATE = 0 → ses ≠ 0 → Does .hireOpen s
      (((((((((s.m.theftClear 1).put HIRE_STAT.G 0).put HIRE_STAT.STATE 1).put HIRE_SES.SES ses).put HIRE_T0.T0 s.m.tod).put HIRE_END.TEND e).ledger
        0x40 ses (ses / 256)).immobRefresh).finish v rOK 0)) ∧
    (s.m.hireEndOk e = true → s.m.f HIRE_STAT.STATE ≠ 0 → ses ≠ s.m.f HIRE_SES.SES → Does .hireOpen s (s.m.finish v rBAD_PARAM 0)) ∧
    (s.m.hireEndOk e = true → s.m.f HIRE_STAT.STATE ≠ 0 → ses = s.m.f HIRE_SES.SES → Does .hireOpen s
      (((s.m.put HIRE_END.TEND e).ledger 0x43 ses (ses / 256)).finish v rOK 1))) ∧
  (v.desc.op = 0x61 →
    let ses := v.desc.arg 8 4
    (s.m.f HIRE_STAT.STATE = 0 ∨ ses ≠ s.m.f HIRE_SES.SES → Does .hireClose s (s.m.finish v rBAD_PARAM 0)) ∧
    (s.m.f HIRE_STAT.STATE ≠ 0 → ses = s.m.f HIRE_SES.SES → Does .hireClose s
      (((((s.m.put HIRE_STAT.STATE 0).put HIRE_STAT.G 0).ledger 0x41 ses (ses / 256)).immobRefresh).finish v rOK
        (s.m.tod - s.m.f HIRE_T0.T0)))) ∧
  (v.desc.op = 0x70 →
    let mask := v.desc.arg 8 1
    (mask = 0 ∨ mask % 2 = 1 ∨ 64 ≤ mask → Does .lockoutClear s (s.m.finish v rBAD_PARAM 0)) ∧
    (mask ≠ 0 → mask % 2 = 0 → mask < 64 →
      Does .lockoutClear s ((s.m.lockoutClear mask).1.finish v rOK (s.m.lockoutClear mask).2))) ∧
  (∀ (i : Instr) (rtype : Nat) (ok : Bool) (body : List Byte),
    (i = .meterReport ∧ v.desc.op = 0x62 ∧ rtype = 1 ∧
      (let mask := v.desc.arg 16 4
       let n := ((List.range 32).filter (fun j => mask.testBit j)).length
       ok = decide (1 ≤ n ∧ n ≤ 12) ∧ body = s.m.meterBody mask)) ∨
    (i = .ledgerReport ∧ v.desc.op = 0x63 ∧ rtype = 2 ∧ ok = decide (v.desc.arg 14 2 ≤ 4095 ∧ 1 ≤ v.desc.arg 16 1 ∧ v.desc.arg 16 1 ≤ 24) ∧
      body = s.m.ledgerBody (v.desc.arg 14 2) (v.desc.arg 16 1)) →
    (ctrEnded s.m.rptCtr = true → Does i s (s.m.finish v rSTATE 0)) ∧
    (ctrEnded s.m.rptCtr = false → ok = false ∨ s.m.signer v.part (v.desc.arg 12 1) = false → Does i s (s.m.finish v rBAD_PARAM 0)) ∧
    (ctrEnded s.m.rptCtr = false → ok = true → s.m.signer v.part (v.desc.arg 12 1) = true →
      let r := s.m.signReport rtype (v.desc.arg 12 1) v.part ((v.desc.bytes.drop 8).take 4) body
      Does i s (r.1.finish v rOK r.2)))

/-- From R400 to R402 and R407: a port goes from DETECT to ALIGN to TRAIN and, training done with TS2 both ways, UP with its partner's address;
a partner of the same side is a miswire; a loopback of a port that leaves DETECT ends; 2 ms after ALIGN was entered without UP lead back to DETECT; a
TS1 in UP and the causes of R402 end UP with LINK_DOWN, and with the last port in UP the link-secure window locks go (R54). The entry to UP is
stated for a partner with an address and a node without one, the end of UP on a node without an address. -/
def Obligations.LinkTraining : Prop := ∀ (s : State) (p : LPort),
  let i := portIdx p
  (s.m.lstate p = 1 →
    let m1 := ((s.m.setLstate p 2).setLp p { s.m.lp p with ts2 := false }).startTimer (.train i)
    let m2 := { m1 with gov := { m1.gov with slots := m1.gov.slots.erase (.loopback p), want := m1.gov.want.filter (fun w => w.1 != Activity.loopback p) } }
    let m3 := m2.put GOV_STAT.SLOTS m2.gov.slots.length
    (m3.test.run = some (6, i) → Does (.linkDetect p) s (m3.tstEnd false 0 0)) ∧ (m3.test.run ≠ some (6, i) → Does (.linkDetect p) s m3)) ∧
  (s.m.lstate p = 2 → Does (.linkAlign p) s ((s.m.setLstate p 3).setLp p { s.m.lp p with ts2 := false })) ∧
  (s.m.lstate p ≠ 1 → Does (.linkDetect p) s s.m) ∧ (s.m.lstate p ≠ 2 → Does (.linkAlign p) s s.m) ∧
  (∀ (t : TrainSet) (sent16 : Bool),
    (s.m.lstate p = 3 → t.flags.getLsbD 0 = (p == .down) → Does (.trainingSetRx p t sent16) s (s.m.put (LNK_PSTAT.MISWIRE i) 1)) ∧
    (s.m.lstate p = 3 → t.flags.getLsbD 0 ≠ (p == .down) →
      let m1 := (s.m.put (LNK_PSTAT.MISWIRE i) 0).setLp p { s.m.lp p with ts2 := true }
      (t.ts2 = false ∨ sent16 = false → Does (.trainingSetRx p t sent16) s m1) ∧
      (t.ts2 = true → sent16 = true → m1.enumd = false → t.flags.getLsbD 2 = true → s.m.isN0 = false ∨ p = .up →
        let m2 := (((m1.setLstate p 4).put (LNK_PSTAT.NEIGH i) t.node.toNat).put (LNK_PSTAT.NVALID i) (b2n (t.node != 0x7F))).put LNK_EVT.UP 1
        Does (.trainingSetRx p t sent16) s ((m2.replay p t).enumWait p))) ∧
    (s.m.lstate p = 4 →
      (t.ts2 = true → Does (.trainingSetRx p t sent16) s s.m) ∧
      (t.ts2 = false → Does (.trainingSetRx p t sent16) s (s.m.leaveUp p 4)))) ∧
  (s.m.lstate p = 2 ∨ s.m.lstate p = 3 → Does (.trainTimeout p) s ((s.m.reach (.train i) (2 * msec)).setLstate p 1)) ∧
  (s.m.lstate p = 0 ∨ s.m.lstate p = 1 ∨ s.m.lstate p = 4 → Does (.trainTimeout p) s s.m) ∧
  (∀ c : Fin 8, 1 ≤ c.val → c.val ≤ 6 → s.m.lstate p = 4 → p = .down → s.m.enumd = false →
    let m1 := (((s.m.setLstate p (if c.val = 5 || c.val = 6 then 0 else 1)).secCheck.put (LNK_PSTAT.RETRAINS i)
      (satInc 65535 (s.m.f (LNK_PSTAT.RETRAINS i)))).put (LNK_PSTAT.NVALID i) 0).raise fLinkDown i (word (4 + 256 * c.val))
    Does (.linkDown p c) s (m1.setLp p { s.m.lp p with ts2 := false, busyWait := false, retries := 0 }))

/-- From R403, R422 and R425: the UP port sends a DQ with the next identifier, the DOWN port answers one, and a response that matches a DQ forms a
sample, with the path offset measured or else the nominal one; with 1,024 samples the hop delay is valid, and source 9's epoch is looked at
again. DUP_TRACK moves the offset in use by one fine step towards the measured delay, 100 ms after the latest step. -/
def Obligations.HopDelay : Prop := ∀ s : State,
  (s.m.isUp .up = true → Does .delayQuery s { s.m with
    link := { s.m.link with dqId := (s.m.link.dqId + 1) % 256, dqs := ((s.m.link.dqId + 1) % 256) :: s.m.link.dqs.take 15 } }) ∧
  (s.m.isUp .up = false → Does .delayQuery s s.m) ∧
  (∀ (id : Byte) (turn : BitVec 24),
    (s.m.isUp .down = true → Does (.dqAnswer id turn) s { s.m with link := { s.m.link with dr := some (id.toNat, turn.toNat) } }) ∧
    (s.m.isUp .down = false → Does (.dqAnswer id turn) s s.m) ∧
    (∀ rtt : Int,
      (s.m.link.dqs.contains id.toNat = false → Does (.delayResponse id rtt turn) s s.m) ∧
      (s.m.isUp .up = true → s.m.link.dqs.contains id.toNat = true →
        let rs := ((rtt - s.m.link.up.k.getD (Config.nominalK 0) - turn.toNat) :: s.m.link.rtts).take 1024
        let m1 := { s.m with link := { s.m.link with rtts := rs, dqs := s.m.link.dqs.erase id.toNat } }
        (rs.length < 1024 → Does (.delayResponse id rtt turn) s m1) ∧
        (rs.length = 1024 →
          let d := (rs.foldl (· + ·) 0 - 1024 * signed 16 (s.m.f LNK_DLY_CFG.ASYM) + 1024) / 2048
          let m2 := m1.put LNK_DLY.D_UP (unsign 24 d)
          (s.m.fb LNK_DLY.DVALID = true → Does (.delayResponse id rtt turn) s m2) ∧
          (s.m.fb LNK_DLY.DVALID = false → Does (.delayResponse id rtt turn) s
            (((Mach.startTimer .dup { m2 with link := { m2.link with dOff := d } }).put LNK_DLY.DVALID 1).epochCheck)))))) ∧
  (s.m.fb LNK_DLY.DVALID = false → Does .dupTrack s s.m) ∧
  (s.m.fb LNK_DLY.DVALID = true →
    let m1 := (s.m.reach .dup (100 * msec)).startTimer .dup
    let d := signed 24 (m1.f LNK_DLY.D_UP)
    let to_ := fun (x : Int) => { m1 with link := { m1.link with dOff := x } }
    (m1.link.dOff < d → Does .dupTrack s (to_ (m1.link.dOff + 1))) ∧
    (d < m1.link.dOff → Does .dupTrack s (to_ (m1.link.dOff - 1))) ∧
    (m1.link.dOff = d → Does .dupTrack s m1))

/-- From R404 to R406: a received frame is answered with NAK for its form, counted and raised for its CRC, answered with BUSY without a
buffer, or accepted and answered with ACK. An ACK frees the window up to its number; a NAK, 16 µs after the latest sending of the oldest frame
and the end of BUSY's 4 µs send the unacknowledged frames again, with what the window admits beside, and the fifth time without progress ends
UP; with an empty window they do nothing. -/
def Obligations.LinkFrames : Prop := ∀ (s : State) (p : LPort), s.m.isUp p = true →
  let i := portIdx p
  let v := s.m.lp p
  let nak := s.m.setLp p { v with ack := some (2, (v.nexp + 255) % 256) }
  (∀ (b : List Byte) (eof room : Bool),
    let n := byteAt b 0
    let len := 8 + 4 * n
    let formed := n ≤ 64 ∧ b.length = len + 4 ∧ eof = true
    let meant := byteAt b 3 < 128 ∧ byteAt b 6 < 64 ∧ byteAt b 7 = 0 ∧ byteAt b 2 = v.nexp
    (¬ formed → Does (.linkFrameRx p b eof room) s nak) ∧
    (formed → crc32c (b.take len) ≠ fieldAt b len 4 → Does (.linkFrameRx p b eof room) s
      ((s.m.put (LNK_PCNT.CRCERR i) (satInc 65535 (s.m.f (LNK_PCNT.CRCERR i)))).raise fLinkCrc i (word (byteAt b 2)))) ∧
    (formed → crc32c (b.take len) = fieldAt b len 4 →
      (¬ meant → Does (.linkFrameRx p b eof room) s nak) ∧
      (meant → room = false → Does (.linkFrameRx p b eof room) s (s.m.setLp p { v with ack := some (3, (v.nexp + 255) % 256) })) ∧
      (meant → room = true →
        let f : Frame := { typ := byteAt b 4, tid := byteAt b 1, dst := byteAt b 3 % 64, bcast := decide (64 ≤ byteAt b 3),
                           src := byteAt b 6, hops := byteAt b 5, payload := (b.drop 8).take (4 * n) }
        let m1 := s.m.setLp p { v with nexp := (v.nexp + 1) % 256 }
        Does (.linkFrameRx p b eof room) s ((m1.answer p 1).dispose p f)))) ∧
  (∀ seq : Byte,
    let waits := fun (m : Mach) => (m.setLp p { m.lp p with retries := 0, busyWait := true }).startTimer (.busyWait i)
    (v.unack.any (fun e => e.seq == seq.toNat) = false → Does (.linkAckRx p seq) s s.m ∧ Does (.linkBusyRx p seq) s (waits s.m)) ∧
    (v.unack.any (fun e => e.seq == seq.toNat) = true →
      let m1 := (s.m.setLp p { v with unack := (v.unack.dropWhile (fun e => e.seq != seq.toNat)).drop 1, retries := 0 }).pump p
      Does (.linkAckRx p seq) s m1 ∧ Does (.linkBusyRx p seq) s (waits m1) ∧
      ((m1.lp p).unack = [] → Does (.linkNakRx p seq) s m1) ∧
      (∀ x xs, (m1.lp p).unack = x :: xs → Does (.linkNakRx p seq) s
        ((m1.setLp p (({ m1.lp p with retries := 1 } : LinkPort).again m1.now)).put (LNK_PCNT.RESENT i)
          (Nat.min 65535 (m1.f (LNK_PCNT.RESENT i) + (x :: xs).length)))))) ∧
  (v.unack = [] → Does (.linkRetryTimeout p) s s.m) ∧
  (∀ x xs, v.unack = x :: xs →
    let m0 := s.m.advNow (x.at' + 16 * usec)
    (v.retries < 4 → Does (.linkRetryTimeout p) s
      ((m0.setLp p (({ v with retries := v.retries + 1 } : LinkPort).again m0.now)).put (LNK_PCNT.RESENT i)
        (Nat.min 65535 (m0.f (LNK_PCNT.RESENT i) + (x :: xs).length)))) ∧
    (4 ≤ v.retries → Does (.linkRetryTimeout p) s ((m0.raise fRetryExh i (word x.seq)).leaveUp p 3))) ∧
  (v.busyWait = false → Does (.busyWaitExpire p) s s.m) ∧
  (v.busyWait = true →
    let m0 := s.m.reach (.busyWait i) (4 * usec)
    Does (.busyWaitExpire p) s ((m0.setLp p { v with busyWait := false }).resend p))

/-- From R331 and R411 to R416: remote access and forwarded commands. GO sends a request unless one runs, the node is lost (it has announced a
restart, or this node's port toward it has left UP) or it has no route; the response ends it with its result, flags, count and words; an
executed request is not executed again; a transaction without a response ends with DOMAIN_DOWN, TTO ms after its sending, 0 acting as 1. A forwarded command enters its target's queue or is refused at once; its completion frees the head's place at the origin
and is posted there. `got e` is the machine with the frame taken from the inbox. -/
def Obligations.RemoteAccess : Prop := ∀ s : State,
  let got := fun (e : LPort × Frame) => { s.m with link := { s.m.link with inbox := s.m.link.inbox.erase e } }
  let noted := fun (e : LPort × Frame) =>
    { (got e) with link := { (got e).link with dups := ((e.2.src, e.2.tid) :: s.m.link.dups).take 16 } }
  let first := fun (t : Nat) => s.m.link.inbox.find? (fun e => e.2.typ == t)
  (∀ (a : Acc) (p : Part) (k : Nat) (d : Word), s.m.bind a = .part p.val k → s.m.hostUp = true → s.m.todo = [] →
    let key := 0x0A0200 + p.val * instSpan
    let m1 := s.m.begun a 0x0A0200
    let m2 := m1.store key (blend (m1.reg key) d 0x000F3F06)
    let f := fun (x : Fld) => m2.f (x.inst p.val)
    (m2.fb (LRA_STAT.BUSY.inst p.val) = true → Does (.lraGo a d) s (m2.accErr (.part p.val k) a.port 0x0A0200 cWINDOW)) ∧
    (m2.fb (LRA_STAT.BUSY.inst p.val) = false → m2.link.gone.contains (f LRA_CTL.NODE) = true →
      Does (.lraGo a d) s (m2.lraEnd p.val rDOMAIN_DOWN 0 0)) ∧
    (m2.fb (LRA_STAT.BUSY.inst p.val) = false → m2.link.gone.contains (f LRA_CTL.NODE) = false → m2.routeTo (f LRA_CTL.NODE) = none →
      Does (.lraGo a d) s (m2.lraEnd p.val rNO_NODE 0 0)) ∧
    (m2.fb (LRA_STAT.BUSY.inst p.val) = false → m2.link.gone.contains (f LRA_CTL.NODE) = false → (m2.routeTo (f LRA_CTL.NODE)).isSome = true →
      let rd := m2.fb (LRA_CTL.RD.inst p.val)
      let hdr := toLE 1 (b2n rd + 2 * f LRA_CTL.SEC) ++ toLE 1 (f LRA_ADDR.TAG) ++ toLE 1 p.val ++ toLE 1 (f LRA_CTL.LENM1)
        ++ toLE 3 (f LRA_ADDR.ADDR) ++ [0]
      let data := if rd then [] else (List.range (f LRA_CTL.LENM1 + 1)).flatMap (fun j => wordBytes (m2.reg (0x0A0240 + 4 * j + p.val * instSpan)))
      let m3 := { m2 with link := { m2.link with tid := (m2.link.tid + 1) % 256 } }.put (LRA_STAT.BUSY.inst p.val) 1
      let m4 := { m3 with link := { m3.link with txns := m3.link.txns ++
        [({ tid := m2.link.tid, node := f LRA_CTL.NODE, at' := m2.now, lra := some p.val, queue := none } : Txn)] } }
      Does (.lraGo a d) s (m4.sendTo (f LRA_CTL.NODE) ttRREQ m2.link.tid (hdr ++ data)))) ∧
  (∀ e, first ttRREQ = some e →
    let f := e.2
    let b := f.payload
    let m1 := noted e
    let reply := fun (m : Mach) (payload : List Byte) => m.sendTo f.src ttRRSP f.tid payload
    (s.m.link.dups.contains (f.src, f.tid) = true → Does .rreq s (got e)) ∧
    (s.m.link.dups.contains (f.src, f.tid) = false → s.m.boot.stop = true ∨ s.m.hostUp = false →
      Does .rreq s (reply m1 (toLE 4 rDOMAIN_DOWN))) ∧
    (s.m.link.dups.contains (f.src, f.tid) = false → s.m.boot.stop = false → s.m.hostUp = true →
      let a := linkAcc f.src (byteAt b 2) (byteAt b 1) (getF (word (byteAt b 0)) 1 1 == 1)
      let fix := getF (word (byteAt b 1)) 6 1 == 1
      let n := byteAt b 3 + 1
      let u := b2n (m1.bind a == .unbound)
      (byteAt b 0 % 2 = 1 →
        let x := Mach.linkReads a fix (fieldAt b 4 3) n (false, false, m1)
        Does .rreq s (reply x.2.2.2 (toLE 4 (rOK + 256 * (b2n x.2.1 + 2 * b2n x.2.2.1 + 4 * u) + 65536 * n) ++ x.1.flatMap wordBytes))) ∧
      (byteAt b 0 % 2 = 0 →
        let x := Mach.linkWrites Mach.settle a fix (fieldAt b 4 3) ((List.range n).map (fun j => word (fieldAt b (8 + 4 * j) 4))) (false, false, m1)
        Does .rreq s (reply x.2.2 (toLE 4 (rOK + 256 * (b2n x.1 + 2 * b2n x.2.1 + 4 * u) + 65536 * n)))))) ∧
  (∀ e x, first ttRRSP = some e → s.m.link.txns.find? (fun y => y.tid == e.2.tid && y.node == e.2.src && y.lra.isSome) = some x →
    ∀ j, x.lra = some j →
    let m1 := { (got e) with link := { (got e).link with txns := s.m.link.txns.erase x } }
    let b := e.2.payload
    Does .rrsp s ((m1.setBytes (0x0A0240 + j * instSpan) (b.drop 4)).lraEnd j (byteAt b 0) (byteAt b 1) (byteAt b 2))) ∧
  (∀ e, first ttRRSP = some e → s.m.link.txns.find? (fun y => y.tid == e.2.tid && y.node == e.2.src && y.lra.isSome) = none →
    Does .rrsp s (got e)) ∧
  (∀ (tid : Byte) (x : Txn),
    (s.m.link.txns.any (fun y => y.tid == tid.toNat) = false → Does (.transactionTimeout tid) s s.m) ∧
    (s.m.link.txns.filter (fun y => y.tid == tid.toNat) = [x] →
      (s.m.f LNK_CFG.TTO ≠ 0 → Does (.transactionTimeout tid) s
        (((s.m.advNow (x.at' + s.m.f LNK_CFG.TTO * msec)).dropTxn x).put LNK_EVT.TTO 1)) ∧
      (s.m.f LNK_CFG.TTO = 0 → Does (.transactionTimeout tid) s (((s.m.advNow (x.at' + msec)).dropTxn x).put LNK_EVT.TTO 1)))) ∧
  (∀ e, first ttCMD = some e →
    let p := byteAt e.2.payload 0
    let d : Desc := { bytes := e.2.payload.drop 4, origin := some { node := e.2.src, tid := e.2.tid, opart := p } }
    let m1 := noted e
    (s.m.link.dups.contains (e.2.src, e.2.tid) = true → Does .linkCmd s (got e)) ∧
    (s.m.link.dups.contains (e.2.src, e.2.tid) = false →
      (s.m.boot.stop = true → Does .linkCmd s (m1.complete p d rDOMAIN_DOWN 0)) ∧
      (s.m.boot.stop = false → m1.linkBound e.2.src p = false → Does .linkCmd s (m1.complete p d rNOT_PRIV 0)) ∧
      (s.m.boot.stop = false → m1.linkBound e.2.src p = true →
        let r := m1.enqueue p false false d
        (r.2 = rOK → Does .linkCmd s r.1) ∧ (r.2 ≠ rOK → Does .linkCmd s (r.1.complete p d r.2 0))))) ∧
  (∀ e x, first ttCPL = some e → s.m.link.txns.find? (fun y => y.tid == e.2.tid && y.node == e.2.src && y.queue.isSome) = some x →
    ∀ q d rest, x.queue = some q → (s.m.cq q).cmds = d :: rest → (s.m.cq q).out = some x.tid →
    let m1 := { (got e) with link := { (got e).link with txns := s.m.link.txns.erase x } }
    let m2 := ((m1.setCq q { s.m.cq q with cmds := rest, out := none }).emptied q).release (q / 4)
    let w := word (fieldAt e.2.payload 8 4)
    (d.nocpl = true → getF w 8 8 = rOK → Does .linkCpl s (m2.urgWait q)) ∧
    (d.nocpl = false ∨ getF w 8 8 ≠ rOK → Does .linkCpl s
      ((m2.post (4 * (q / 4) + 2) 1 (128 + e.2.src) 0 m2.ts32 w (word (fieldAt e.2.payload 12 4))).urgWait q)))

/-- From R302, R331, R417, R418, R427, R428 and R430: N0 posts a forwarded record, a gap before it as a LOST record, and acknowledges it; an
acknowledgement frees the records up to its number, and what is left is sent again TTO after the latest sending without progress. N0
broadcasts the budgets at once after a write of one, and each BPER ms while BPER is not 0; the node they name takes its own, which is a refresh
of the budget. Notices tell of a broken and a healed hop, a restart, with which a hop neighbour drops the frames that wait for the node, and a
joining node. -/
def Obligations.ForwardingAndNotices : Prop := ∀ s : State,
  let got := fun (e : LPort × Frame) => { s.m with link := { s.m.link with inbox := s.m.link.inbox.erase e } }
  let first := fun (ts : List Nat) => s.m.link.inbox.find? (fun e => ts.contains e.2.typ)
  (∀ e, first [ttEVT, ttLDG] = some e →
    let b := e.2.payload
    let isLdg := e.2.typ == ttLDG
    let q := if isLdg then 3 else 2
    let n := fieldAt b 16 2
    let key := 64 * b2n isLdg + e.2.src
    let gap := (n + 65536 - cget (fun _ => 0) s.m.link.got key) % 65536
    let w := fun (i : Nat) => word (fieldAt b (4 * i) 4)
    let ack := fun (m : Mach) => { m with link := { m.link with tid := (m.link.tid + 1) % 256 } }.sendTo e.2.src ttAGACK m.link.tid
      (toLE 4 (b2n isLdg + 65536 * n))
    let m1 := { (got e) with link := { (got e).link with got := cset (fun _ => 0) s.m.link.got key ((n + 1) % 65536) } }
    (s.m.isN0 = false → Does .evtForward s (got e)) ∧
    (s.m.isN0 = true → 32768 ≤ gap → Does .evtForward s (ack (got e))) ∧
    (s.m.isN0 = true → gap = 0 → s.m.instd 0 = true → Does .evtForward s
      (ack (m1.post q (getF (w 0) 0 8) (128 + e.2.src) (getF (w 0) 24 8) m1.ts32 (w 2) (w 3)))) ∧
    (s.m.isN0 = true → 0 < gap → gap < 32768 → s.m.instd 0 = true →
      let m2 := m1.post q 7 (128 + e.2.src) 0 m1.ts32 (word gap) 0
      m2.instd 0 = true → Does .evtForward s (ack (m2.post q (getF (w 0) 0 8) (128 + e.2.src) (getF (w 0) 24 8) m2.ts32 (w 2) (w 3))))) ∧
  (∀ e, first [ttAGACK] = some e →
    let n := fieldAt e.2.payload 2 2
    let keep := fun (xs : List (Nat × Rec)) => xs.filter (fun x => (x.1 + 65535 - n) % 65536 < 32768)
    let after := fun (m : Mach) (k : Nat) (old new : List (Nat × Rec)) =>
      if new = [] then m.stopTimer (.forward k) else if new.length < old.length then m.startTimer (.forward k) else m
    (byteAt e.2.payload 0 = 1 → Does .agack s
      (after { (got e) with link := { (got e).link with lds := keep s.m.link.lds } } 1 s.m.link.lds (keep s.m.link.lds))) ∧
    (byteAt e.2.payload 0 ≠ 1 → Does .agack s
      (after { (got e) with link := { (got e).link with evs := keep s.m.link.evs } } 0 s.m.link.evs (keep s.m.link.evs)))) ∧
  (let due := fun (k : Nat) => (s.m.reach (.forward k) s.m.tto).startTimer (.forward k)
   (s.m.link.evs = [] → Does (.forwardResend false) s s.m) ∧ (s.m.link.lds = [] → Does (.forwardResend true) s s.m) ∧
   (s.m.link.evs ≠ [] → Does (.forwardResend false) s (s.m.link.evs.foldl (fun t e => t.sendForward 2 e.1) (due 0))) ∧
   (s.m.link.lds ≠ [] → Does (.forwardResend true) s (s.m.link.lds.foldl (fun t e => t.sendForward 3 e.1) (due 1)))) ∧
  (s.m.isN0 = false ∨ s.m.enumd = false → Does .budgetSend s s.m) ∧
  (s.m.isN0 = true → s.m.enumd = true →
    let sent := fun (m : Mach) =>
      let words := (List.range m.nodes).flatMap (fun n => toLE 2 (m.f (LNK_BUD.B n)))
      let m1 := m.broadcast ttBUDGET (padTo (4 + 4 * ((m.nodes + 1) / 2)) (toLE 4 (256 * m.nodes) ++ words))
      m1.takeBudget (m.f (LNK_BUD.B 0))
    (s.m.link.budDue = true → Does .budgetSend s (sent { s.m with link := { s.m.link with budDue := false } })) ∧
    (s.m.link.budDue = false → s.m.f LNK_CFG.BPER ≠ 0 →
      Does .budgetSend s (sent ((s.m.reach .budgets (s.m.f LNK_CFG.BPER * msec)).startTimer .budgets))) ∧
    (s.m.link.budDue = false → s.m.f LNK_CFG.BPER = 0 → Does .budgetSend s s.m)) ∧
  (∀ e, first [ttBUDGET] = some e →
    let b := e.2.payload
    let own := byteAt b 0 ≤ s.m.node ∧ s.m.node < byteAt b 0 + byteAt b 1 ∧ s.m.enumd = true
    (¬ own → Does .budgetRx s (got e)) ∧
    (own →
      let m1 := { (got e) with gov := { s.m.gov with linkB := fieldAt b (4 + 2 * (s.m.node - byteAt b 0)) 2 } }
      Does .budgetRx s (((m1.put GOV_STAT.STALE 0).startTimer .budget).showBudget))) ∧
  (∀ e, first [ttNOTICE] = some e →
    let b := e.2.payload
    let subject := byteAt b 1
    let hop := if byteAt b 2 = 1 then e.2.src else (e.2.src + s.m.nodes - 1) % Nat.max 1 s.m.nodes
    let m1 := got e
    (byteAt b 0 = 1 → Does .noticeRx s ((m1.dropTxns (fun x => x.node == subject)).hopLost hop)) ∧
    (byteAt b 0 = 2 → s.m.isN0 = false → Does .noticeRx s (m1.hopBack hop)) ∧
    (byteAt b 0 = 2 → s.m.isN0 = true → Does .noticeRx s (m1.hopBack hop).calStartAll) ∧
    (byteAt b 0 = 3 → s.m.link.gone.contains subject = false → Does .noticeRx s (Mach.dropTxns (fun x => x.node == subject)
      (Mach.dropFramesTo subject { m1 with link := { m1.link with gone := subject :: s.m.link.gone } }))) ∧
    (byteAt b 0 = 3 → s.m.link.gone.contains subject = true →
      Does .noticeRx s (Mach.dropTxns (fun x => x.node == subject) (m1.dropFramesTo subject))) ∧
    (byteAt b 0 = 4 → s.m.isN0 = false → Does .noticeRx s m1) ∧
    (byteAt b 0 = 4 → s.m.isN0 = true → Does .noticeRx s m1.startEnum))

/-- From R419 to R425: enumeration and loop calibration. A token gives its node the next address and goes on with one hop more; back at N0 it ends the enumeration,
and another token than N0's own is refused; ENUM_DONE with the recorded NONCE sets the count; a token that has not come after ENUM_TO, 0 acting
as 1, ends it as open at N0 and as failed at another node. START clears GL except at N0; a GRID loads
the grid of a node that waits for it, and one that comes back to N0 is judged; the result reaches every node, and fails after CAL_TO. -/
def Obligations.EnumerationAndCalibration : Prop := ∀ s : State,
  let got := fun (e : LPort × Frame) => { s.m with link := { s.m.link with inbox := s.m.link.inbox.erase e } }
  let first := fun (t : Nat) => s.m.link.inbox.find? (fun e => e.2.typ == t)
  let cal := fun (ks : List Nat) => s.m.link.inbox.find? (fun e => e.2.typ == ttCAL && ks.contains (byteAt e.2.payload 0))
  (∀ f, first ttENUM = some (.down, f) → Does .enum s (got (.down, f))) ∧
  (∀ f, first ttENUM = some (.up, f) →
    let m1 := got (.up, f)
    let next := byteAt f.payload 0
    let nonce := fieldAt f.payload 1 3
    (s.m.isN0 = true → s.m.link.token.isSome = true → nonce = s.m.link.nonce → Does .enum s (m1.enumEnd next false)) ∧
    (s.m.isN0 = true → s.m.link.token = none → nonce = s.m.link.nonce → Does .enum s m1) ∧
    (s.m.isN0 = true → nonce ≠ s.m.link.nonce →
      let m2 := m1.enumFail 2
      Does .enum s (Mach.unenum { m2 with link := { m2.link with token := none } })) ∧
    (s.m.isN0 = false → next = 64 → Does .enum s (m1.enumFail 3).unenum) ∧
    (s.m.isN0 = false → next ≠ 64 → s.m.enumd = false ∨ s.m.node = next →
      let m2 := (m1.put LNK_ID.NODE next).put LNK_CSTAT.RUNNING 0
      let m3 := { m2 with link := { m2.link with nonce := nonce, failed := false, token := some nonce } }
      Does .enum s (m3.sendOn .down { typ := ttENUM, tid := f.tid, dst := 0, bcast := false, src := 0, hops := f.hops + 1,
                                       payload := toLE 4 (next + 1 + 256 * nonce) }))) ∧
  (∀ e, first ttENUM_DONE = some e →
    (s.m.isN0 = false → s.m.link.token = some (fieldAt e.2.payload 1 3) → Does .enumDone s ((got e).enumSet (byteAt e.2.payload 0) false)) ∧
    (s.m.isN0 = true ∨ s.m.link.token ≠ some (fieldAt e.2.payload 1 3) → Does .enumDone s (got e))) ∧
  (let m0 := s.m.reach .enumTo (Nat.max 1 (s.m.f LNK_CFG.ENUM_TO) * msec)
   (s.m.isN0 = true → s.m.link.token.isSome = true → Does .enumTimeout s ((m0.enumFail 4).enumEnd (1 + s.m.link.heard) true)) ∧
   (s.m.isN0 = false → s.m.enumd = false → s.m.link.token = none → s.m.isUp .up = true ∨ s.m.isUp .down = true →
     Does .enumTimeout s (m0.enumFail 1).unenum) ∧
   (s.m.isN0 = true → s.m.link.token = none → Does .enumTimeout s s.m) ∧
   (s.m.isN0 = false → s.m.enumd = true ∨ s.m.link.token.isSome = true → Does .enumTimeout s s.m)) ∧
  (∀ e, cal [1] = some e →
    (s.m.isN0 = true → Does .calStart s (got e)) ∧ (s.m.isN0 = false → Does .calStart s (got e).calBegin)) ∧
  (∀ a d, s.m.byP0 a →
    let m1 := s.m.begun a 0x0A0030
    let m2 := m1.store 0x0A0030 (blend (m1.reg 0x0A0030) d 0xFFFF00)
    (s.m.isN0 = true → Does (.lnkCalWrite a d) s m2.calStartAll) ∧ (s.m.isN0 = false → Does (.lnkCalWrite a d) s m2)) ∧
  (∀ e, cal [2, 3] = some e →
    let r := byteAt e.2.payload 1
    let m1 := ((got e).put LNK_CSTAT.RUNNING 0).put LNK_CSTAT.REASON r
    (s.m.isN0 = true → Does .calResult s (got e)) ∧
    (s.m.isN0 = false → byteAt e.2.payload 0 = 2 → Does .calResult s
      (((((got e).put LNK_CSTAT.RUNNING 0).put LNK_CSTAT.CALDONE 1).put LNK_CSTAT.ALIGNED 1).put LNK_EVT.CALDONE 1 |>.push .bootGo)) ∧
    (s.m.isN0 = false → byteAt e.2.payload 0 = 3 → r ≠ 4 → Does .calResult s m1) ∧
    (s.m.isN0 = false → byteAt e.2.payload 0 = 3 → r = 4 → Does .calResult s (m1.put LNK_CSTAT.ALIGNED 0))) ∧
  (s.m.isN0 = true → s.m.fb LNK_CSTAT.RUNNING = true →
    Does .calTimeout s ((s.m.reach .cal (Nat.max 1 (s.m.f LNK_CAL.CAL_TO) * second)).calFail 2)) ∧
  (s.m.isN0 = false ∨ s.m.fb LNK_CSTAT.RUNNING = false → Does .calTimeout s s.m) ∧
  (∀ (p : LPort) (flags : Byte) (g arrival : BitVec 64), s.m.isUp p = true →
    let gl := flags.getLsbD 0
    (s.m.isN0 = true → p = .up → gl = true → s.m.fb LNK_DLY.DVALID = true → s.m.link.open' = false →
      Does (.gridRx p flags g arrival) s (s.m.judge ((arrival.toNat : Int) - signed 24 (s.m.f LNK_DLY.D_UP) - 64 * g.toNat))) ∧
    (s.m.isN0 = false → p = .down → Does (.gridRx p flags g arrival) s s.m) ∧
    (s.m.isN0 = false → p = .up →
      (s.m.loadsGrid = false → Does (.gridRx p flags g arrival) s { s.m with link := { s.m.link with gl := gl } }) ∧
      (s.m.loadsGrid = true →
        let m1 := (s.m.gridLoad g.toNat).put LNK_CSTAT.GL 1
        Does (.gridRx p flags g arrival) s { m1 with link := { m1.link with gl := gl } })))

/-- From R435, R436, R441 and R446: key programming by an armed owner-key master. The checks run in their order; a burn keeps the staged key until
it ends, VALID with its counter at the floor, or DAMAGED; a burn under way refuses another. In the boot the epoch gains a bit unless
four bits fail or none is left, and every counter starts at its floor. A lockout expires T seconds of AON32 after it began, and a failure drops
out of the count once it is older than the window. -/
def Obligations.KeysEpochAndLockout : Prop := ∀ s : State,
  (∀ a d, s.m.byP0 a → s.m.mayOwnKey (s.m.bind a) 0x0B0110 = true → s.m.isArmed (s.m.bind a) 0x0B0110 = true →
    let m1 := s.m.begun a 0x0B0110
    let m2 := m1.store 0x0B0110 (blend (m1.reg 0x0B0110) d 7)
    let k := m2.f KEY_PROG.SLOT
    (m2.sec.burning.isSome = true → Does (.keyProg a d) s (m2.put KEY_PROG_STAT.REJ 1)) ∧
    (m2.sec.burning = none → m2.keyRefusal k = none →
      Does (.keyProg a d) s { m2 with sec := { m2.sec with burning := some (k, m2.stagedKey) } }) ∧
    (∀ r, m2.sec.burning = none → m2.keyRefusal k = some r →
      (r ≠ 3 → Does (.keyProg a d) s (m2.keyEnd k r)) ∧
      (r = 3 → Does (.keyProg a d) s ((m2.setSlot k { m2.slot k with state := 2 }).keyEnd k 3)))) ∧
  (∀ v, s.m.sec.burning = none → Does (.keyBurnDone v) s s.m) ∧
  (∀ k key, s.m.sec.burning = some (k, key) →
    let m1 := { s.m with sec := { s.m.sec with burning := none } }
    Does (.keyBurnDone true) s (((m1.setSlot k { state := 1, key := key }).setCtr k (s.m.sec.ones * 2 ^ 24)).keyEnd k 0) ∧
    Does (.keyBurnDone false) s ((m1.setSlot k { state := 2, key := [], dirty := true }).keyEnd k 4)) ∧
  (∀ n : Fin 5, s.m.dev = .boot → s.m.boot.held = false → s.m.epochDone = false →
    let left := 255 - s.m.sec.ones
    let fin := fun (m : Mach) => if m.boot.failWait && m.epochDone then m.preOchre else m
    let ends := fun (m : Mach) => m.epochFloor.setAw 0x3040 (word (256 + 512 * b2n (decide (4 ≤ n.val ∨ left ≤ n.val))))
    (n.val < 4 → n.val < left → Does (.epochBurn n) s
      (fin (ends { s.m with sec := { s.m.sec with ones := s.m.sec.ones + 1, bfail := n.val } }))) ∧
    (4 ≤ n.val ∨ left ≤ n.val →
      let m1 := ends { s.m with sec := { s.m.sec with bfail := Nat.min n.val left } }
      Does (.epochBurn n) s (fin (m1.raise fCtrExhaust 6 (word m1.ctrFloor))))) ∧
  (∀ k : Fin 6, s.m.dev ≠ .off →
    let t := getF (s.m.lockWord k.val) 16 16
    let win := (cget (fun _ => (0, [])) s.m.sec.fails k.val).1
    let fresh := fun (m : Mach) => (cget (fun _ => (0, [])) m.sec.fails k.val).2.filter (fun x => m.now ≤ x + win * second)
    (t ≠ 0 →
      let m1 := s.m.advNow (aonAt (aonCycles (cget (fun _ => 0) s.m.sec.lockAt k.val) + 32768 * t))
      Does (.lockoutExpire k) s (m1.setAw (0x3020 + 4 * k.val) (setF (m1.lockWord k.val) 16 16 0))) ∧
    (t = 0 → Does (.lockoutExpire k) s s.m) ∧
    (∀ x, (fresh s.m).getLast? = some x →
      let m1 := s.m.advNow (x + win * second + 1)
      Does (.keyFailAge k) s { m1 with sec := { m1.sec with fails := cset (fun _ => (0, [])) m1.sec.fails k.val (win, fresh m1) } }) ∧
    (fresh s.m = [] → Does (.keyFailAge k) s s.m))

/-- From R461 to R467: meter groups and hire. With EN = 0 the configuration takes its word, and EN opens the group with its ledger entry or is
held while the group closes; with EN = 1 clearing it begins the close. At each 128th AON32 cycle every ACTIVE group samples while PG_MAIN is true;
at each 4,096th a tick accrues every group and then looks for theft; the hire session ends when time of day reaches its end. -/
def Obligations.MetersAndHire : Prop := ∀ s : State,
  (∀ (a : Acc) (p : Part) (k : Nat) (i : Fin 32) (d : Word), s.m.bind a = .part p.val k → s.m.hostUp = true → s.m.todo = [] →
    s.m.ownMtr i.val = p.val →
    let addr := 0x0C0000 + 4 * i.val
    let m1 := s.m.begun a addr
    let old := m1.reg addr
    (m1.fb (MTR_CFG.EN i.val) = false →
      let new := blend old d 0xFF01FF07
      let m2 := if (old ^^^ new) &&& 0xFF01FF06 = 0 then m1.store addr new else m1.cfgChanged.store addr new
      (d.getLsbD 0 = false → Does (.mtrCfgWrite a i d) s m2) ∧
      (d.getLsbD 0 = true → old.getLsbD 0 = false →
        (m2.f (MTR_STAT.STATE i.val) = 0 → Does (.mtrCfgWrite a i d) s
          (((m2.put (MTR_STAT.STATE i.val) 1).setMtr i.val { theft := (m2.mtr i.val).theft, wait := true }).ledger 0x30 i.val 0)) ∧
        (m2.f (MTR_STAT.STATE i.val) = 2 → Does (.mtrCfgWrite a i d) s (m2.put (MTR_STAT.ENHELD i.val) 1)))) ∧
    (m1.fb (MTR_CFG.EN i.val) = true → (d ^^^ old) &&& 0xFF01FF06 = 0 → old.getLsbD 0 = true → d.getLsbD 0 = false →
      let m2 := m1.store addr (blend old d 1)
      (m2.f (MTR_STAT.STATE i.val) = 1 → Does (.mtrCfgWrite a i d) s (m2.put (MTR_STAT.STATE i.val) 2)) ∧
      (m2.f (MTR_STAT.STATE i.val) = 2 → Does (.mtrCfgWrite a i d) s (m2.put (MTR_STAT.ENHELD i.val) 0)))) ∧
  (s.m.powered = false → Does .meterSample s s.m) ∧
  (s.m.powered = true →
    let m1 := s.m.nextAon .sample 128
    Does .meterSample s (forN 32 (fun i t =>
      if t.f (MTR_STAT.STATE i) = 1 ∧ (t.mtr i).wait = false then
        t.setMtr i { t.mtr i with run := (t.mtr i).run + b2n (m1.mtrRuns i), qual := (t.mtr i).qual + b2n (m1.mtrQual i) }
      else t) m1)) ∧
  (s.m.dev = .off → Does .meterTick s s.m) ∧
  (s.m.dev ≠ .off →
    let m1 := s.m.nextAon .tick 4096
    let ran := (List.range 32).filter (fun i =>
      m1.f (MTR_STAT.STATE i) ≠ 0 && m1.fb (MTR_CFG.TRACTION i) && decide (16 ≤ (m1.mtr i).qual ∨ 16 ≤ (m1.mtr i).run))
    Does .meterTick s ((forN 32 Mach.mtrTick m1).theftTick ran).immobRefresh) ∧
  (s.m.dev ≠ .off → s.m.f HIRE_STAT.STATE = 1 → s.m.f HIRE_END.TEND ≠ 0 →
    let ses := s.m.f HIRE_SES.SES
    (s.m.f HIRE_END.TEND ≤ s.m.tod → Does .hireExpire s
      ((((s.m.put HIRE_STAT.STATE 0).put HIRE_STAT.G 0).ledger 0x42 ses (ses / 256)).immobRefresh)) ∧
    (s.m.tod < s.m.f HIRE_END.TEND →
      let m1 := s.m.advNow (aonAt (aonCycles s.m.now + 32768 * (s.m.f HIRE_END.TEND - s.m.tod) - s.m.sub))
      Does .hireExpire s m1.hireCheck.immobRefresh)) ∧
  (s.m.f HIRE_STAT.STATE = 0 ∨ s.m.f HIRE_END.TEND = 0 → Does .hireExpire s s.m)

/-- From R464 and R465 for one group: at a tick boundary an ACTIVE group with 16 qualifying samples counts a tick, with 16 running ones fault
time; the start of a run is counted; the samples start afresh and the tick is remembered. -/
def Obligations.MeterTickOfOneGroup : Prop := ∀ (m : Mach) (i : Nat), i < 32 → m.f (MTR_STAT.STATE i) = 1 → m.wf = true →
  let x := m.mtr i
  let t := m.mtrTick i
  t.mtr i = { run := 0, qual := 0, wait := false, prev := decide (16 ≤ x.qual ∨ 16 ≤ x.run), theft := x.theft } ∧
  (16 ≤ x.qual → m.ticks i + 1 < 2 ^ 40 → t.ticks i = m.ticks i + 1 ∧ t.faultTicks i = m.faultTicks i) ∧
  (x.qual < 16 → 16 ≤ x.run → m.faultTicks i + 1 < 2 ^ 40 → t.ticks i = m.ticks i ∧ t.faultTicks i = m.faultTicks i + 1) ∧
  (x.qual < 16 → x.run < 16 → t.ticks i = m.ticks i ∧ t.faultTicks i = m.faultTicks i ∧ t.starts i = m.starts i) ∧
  (16 ≤ x.qual ∨ 16 ≤ x.run → x.prev = true → t.starts i = m.starts i) ∧
  (16 ≤ x.qual ∨ 16 ≤ x.run → x.prev = false → t.starts i = Nat.min 0xFFFFFFFF (m.starts i + 1)) ∧
  (∀ j, j ≠ i → t.mtr j = m.mtr j)

/-- From R470 to R472: the sentinel. Two equal strobes, an eighth of a second times 2 to the STROBE apart, change a live tamper input, a rise being
latched, recorded, raised and a reason to wake; a motion edge outside a hold is recorded and raised and starts a hold, one inside it is
counted; the hold ends after MHOLD seconds, 0 acting as 1, and the wake 2 to the WAKE_T seconds after the latest event; SENT_CLR clears what its
word names. -/
def Obligations.Sentinel : Prop := ∀ s : State,
  (∀ (i : Fin 4) (high : Bool), s.m.dev ≠ .off → (s.m.aw 0x2008).getLsbD i.val = false →
    let k := if s.m.sent.last.getD i.val false = high then Nat.min 2 (s.m.sent.same.getD i.val 0 + 1) else 1
    let m0 := s.m.nextAon (.strobe i.val) (4096 * 2 ^ getF (s.m.aw 0x2008) 4 2)
    let m1 := { m0 with sent := { m0.sent with last := m0.sent.last.set i.val high, same := m0.sent.same.set i.val k } }
    let live := (m0.f SENT_STAT.TLIVE).testBit i.val
    (k < 2 ∨ live = high → Does (.tamperStrobe i high) s m1) ∧
    (k = 2 → live = false → high = true →
      let m2 := (m1.put SENT_STAT.TLIVE (m1.f SENT_STAT.TLIVE + 2 ^ i.val)).put SENT_STAT.TAMP (m1.f SENT_STAT.TAMP ||| 2 ^ i.val)
      Does (.tamperStrobe i high) s (((m2.ledger 0x50 i.val 1).raise fTamper i.val (word m2.tod)).wakeBy 1)) ∧
    (k = 2 → live = true → high = false →
      Does (.tamperStrobe i high) s ((m1.put SENT_STAT.TLIVE (m1.f SENT_STAT.TLIVE - 2 ^ i.val)).ledger 0x50 i.val 0))) ∧
  (∀ (i : Fin 4) (high : Bool), (s.m.aw 0x2008).getLsbD i.val = true → Does (.tamperStrobe i high) s s.m) ∧
  (s.m.motionOn = false → Does .motionEdge s s.m) ∧
  (s.m.motionOn = true → s.m.sent.hold = true → Does .motionEdge s
    (({ s.m with sent := { s.m.sent with edges := satInc 65535 s.m.sent.edges } }).put SENT_STAT.MCNT (satInc 255 (s.m.f SENT_STAT.MCNT)))) ∧
  (s.m.motionOn = true → s.m.sent.hold = false →
    let m1 := (s.m.put SENT_STAT.MOT 1).ledger 0x51 0 s.m.sent.edges
    Does .motionEdge s
      (((Mach.startTimer .hold { m1 with sent := { m1.sent with hold := true, edges := 0 } }).raise fMotion 0 (word s.m.tod)).wakeBy 2)) ∧
  (s.m.sent.hold = false → Does .motionHoldEnd s s.m) ∧
  (s.m.sent.hold = true →
    let m1 := s.m.reachAon .hold (32768 * Nat.max 1 (getF (s.m.aw 0x2008) 16 8))
    Does .motionHoldEnd s { m1 with sent := { m1.sent with hold := false } }) ∧
  (getF (s.m.aw 0x2008) 28 4 ≠ 0 → s.m.fb SENT_STAT.WAKE = true →
    Does .wakeTimeout s ((s.m.reachAon .wake (32768 * 2 ^ getF (s.m.aw 0x2008) 28 4)).put SENT_STAT.WAKE 0)) ∧
  (getF (s.m.aw 0x2008) 28 4 = 0 ∨ s.m.fb SENT_STAT.WAKE = false → Does .wakeTimeout s s.m) ∧
  (∀ a d, s.m.byP0 a →
    let m1 := s.m.begun a 0x0C0548
    let clr := fun (b : Bool) (x : Fld) (m : Mach) => if b then m.put x 0 else m
    let m2 := m1.store 0x0C0548 (blend (m1.reg 0x0C0548) d 0)
    let m3 := m2.put SENT_STAT.TAMP (m2.f SENT_STAT.TAMP &&& (15 - getF d 0 4))
    let m4 := clr (d.getLsbD 24) SENT_STAT.WAKE (clr (d.getLsbD 16) SENT_STAT.MCNT (clr (d.getLsbD 8) SENT_STAT.MOT m3))
    (d.getLsbD 25 = false → Does (.sentClrWrite a d) s m4) ∧
    (d.getLsbD 25 = true → Does (.sentClrWrite a d) s (m4.theftClear 2)))

/-- From R473 to R478: the ledger. With the next AON32 cycle the oldest buffered entry goes to the writer's index with its time, the writer moving on and from slot 14 to
the next block, and a drop is recorded once there is room; the oldest filled block is sealed by a CMAC chained from the seal before; a
chain check shows the first block in sequence whose seal fails. -/
def Obligations.LedgerCommands : Prop := ∀ s : State,
  (s.m.ldgBuf = [] ∨ s.m.dev = .off → Does .ledgerWrite s s.m) ∧
  (∀ e rest, s.m.ldgBuf ≠ [] → s.m.dev ≠ .off →
    let m0 := s.m.nextAon .entry 1
    m0.ldgBuf = e :: rest →
    let i := m0.f LDG_STAT.WR
    let m1 := ({ m0 with ldgBuf := rest }).ldgGrow.ldgStore i e.word (e.time.getD (word m0.tod))
    let m2 := if i % 16 = 14 then m1.ldgNextBlock (i / 16) else m1.put LDG_STAT.WR (i + 1)
    (m2.ldgDrop = 0 → Does .ledgerWrite s m2) ∧
    (m2.ldgDrop ≠ 0 → Does .ledgerWrite s (({ m2 with ldgDrop := 0 }.put LDG_STAT.DROP 1).ledger 0x60 0 (Nat.min 65535 m2.ldgDrop)))) ∧
  (∀ b rest, s.m.ldg.due = b :: rest → s.m.hostUp = true →
    let key := if s.m.keyValid 1 then (s.m.slot 1).key else List.replicate 16 0
    let tag := (cmac key (s.m.ldg.chain ++ toLE 4 (s.m.blkSeq b - 1) ++ s.m.ldgBytes (16 * b) 15)).take 6
    let m1 := { s.m with ldg := { s.m.ldg with due := rest, chain := tag, sealed := cset (fun _ => false) s.m.ldg.sealed b true } }
    Does .ledgerSeal s (m1.ldgStore (16 * b + 15) (word (0xFF + 256 * ((s.m.blkSeq b - 1) % 256) + 65536 * fieldAt tag 0 2))
      (word (fieldAt tag 2 4)))) ∧
  (s.m.ldg.due = [] ∨ s.m.hostUp = false → Does .ledgerSeal s s.m) ∧
  (∀ a d, s.m.byP0 a →
    let m1 := s.m.begun a 0x0C0568
    let m2 := m1.store 0x0C0568 (blend (m1.reg 0x0C0568) d 0)
    (d.getLsbD 1 = false → Does (.ldgCheck a d) s (m2.put LDG_STAT.CHK 1)) ∧
    (d.getLsbD 1 = true → Does (.ldgCheck a d) s
      ((((m2.put LDG_STAT.WRAP 0).put LDG_STAT.DROP 0).put LDG_STAT.SKIP 0).put LDG_STAT.CHK 1))) ∧
  (s.m.f LDG_STAT.CHK = 1 → s.m.powered = true →
    let bad := sortBy (fun (a b : Nat) => Nat.ble (s.m.blkSeq a) (s.m.blkSeq b)) ((List.range 256).filter (fun b => s.m.sealBad b))
    (bad = [] → Does .chainCheckDone s (s.m.put LDG_STAT.CHK 2)) ∧
    (∀ b rest, bad = b :: rest →
      Does .chainCheckDone s (((s.m.put LDG_STAT.CHK 3).put LDG_STAT.BADBLK b).raise fChainBad 0 (word b)))) ∧
  (s.m.f LDG_STAT.CHK ≠ 1 ∨ s.m.powered = false → Does .chainCheckDone s s.m)

/-- From R253 and R519 to R529: self-test. An activity whose turn it is asks for a slot at the end of its cadence, or at once where T_max has moved
by 5 °C; a calibrated line waits for the first low time of its engine, where the swap is made, and a failed one or one without a clock passes
at once; after the last line the stampers end the pass (the model's form of the row, log entry 102); a lane test, a queue-engine test and a scrub
go on piece by piece, failures being raised, and end with their slot; a loopback sets the path offset, and fails for what its receiver saw or
for an offset that has moved by more than 2 fine steps. -/
def Obligations.SelfTestCommands : Prop := ∀ s : State,
  (∀ x : Activity,
    (s.m.locked = true → s.m.dev = .run ∨ s.m.dev = .ochre → s.m.mayFallDue x = true →
      s.m.gov.slots.contains x = false → (s.m.gov.want.map Prod.fst).contains x = false →
      let m1 := if s.m.drifted x then s.m else s.m.reach (.due (dueIdx x)) (cadence x)
      Does (.selftestDue x) s { m1 with gov := { m1.gov with want := queueIn x s.m.gov.want } }) ∧
    (s.m.gov.slots.contains x = true ∨ s.m.mayFallDue x = false → Does (.selftestDue x) s s.m)) ∧
  (∀ (g : Fin 17) (q : Fin 16) (ok : Bool) (st : BitVec 16), s.m.actRuns (.fdcal g) = true → s.m.dev ≠ .teasel → q.val ≤ lastLine g.val →
    let x := s.m.pass g.val
    let moved := fun (y : Pass) => s.m.setPass g.val { y with next := x.next + 1, ready := none }
    (x.next = q.val → x.ready = none →
      (ok = false → Does (.fdcalLineDone g q ok st) s
        (((s.m.setPass g.val { x with fails := x.fails + 2 ^ q.val })).passStep g.val)) ∧
      (ok = true → (∀ n, s.m.engineCh (lineEngine g.val q.val) = some n → s.m.chst n = 0) → Does (.fdcalLineDone g q ok st) s (moved x)) ∧
      (∀ n, ok = true → s.m.engineCh (lineEngine g.val q.val) = some n → s.m.chst n ≠ 0 →
        Does (.fdcalLineDone g q ok st) s (s.m.setPass g.val { x with ready := some s.m.fine }))) ∧
    (x.next = lastLine g.val + 1 → q.val = lastLine g.val →
      let pins := if g.val < 16 then st.toNat else 0
      let m1 := s.m.setPass g.val {}
      let m2 := if x.fails = 0 then m1 else m1.raise fFdcalFail g.val (word x.fails)
      let m3 := if g.val < 16 then m2.stampVerdict g.val st.toNat else m2
      Does (.fdcalLineDone g q ok st) s
        (m3.actEnd (.fdcal g) (x.fails = 0 && pins = 0) (firstBit x.fails) (if x.fails = 0 then pins else x.fails)))) ∧
  (∀ (g : Fin 17) (q : Fin 16),
    (∀ r n t, (s.m.pass g.val).ready = some r → s.m.engineCh (lineEngine g.val q.val) = some n → s.m.lowTurn n r = some t →
      (s.m.pass g.val).next = q.val → Does (.fdcalSwap g q) s ((s.m.advTo ((t + 63) / 64)).passStep g.val)) ∧
    ((s.m.pass g.val).ready = none → Does (.fdcalSwap g q) s s.m)) ∧
  (∀ (l : Fin 16) (ok : Bool), s.m.laneUnder = some l → s.m.test.lane = l.val →
    let m0 := (s.m.reach .round s.m.testRound).startTimer .round
    let k := s.m.test.laneStep + 1
    let bad := if s.m.test.laneFail = 0 && !ok then k else s.m.test.laneFail
    let m1 := if ok then m0
      else ({ m0 with test := { m0.test with laneBad := setBit16 m0.test.laneBad l.val true } }).raise fLaneFail l.val (word k)
    (k < 8 → Does (.laneTestStep ok) s { m1 with test := { m1.test with lane := l.val, laneStep := k, laneFail := bad } }) ∧
    (8 ≤ k → Does (.laneTestStep ok) s (Mach.actEnd (.lane l) (bad = 0) bad bad
      { m1 with test := { m1.test with lane := l.val, laneStep := 0, laneFail := 0,
                                       laneBad := if bad = 0 then setBit16 m1.test.laneBad l.val false else m1.test.laneBad } }))) ∧
  (s.m.actRuns .qeng = true →
    let m0 := (s.m.reach .piece (20 * usec)).startTimer .piece
    let k := s.m.test.pieces + 1
    let at_ := fun (n : Nat) => { m0 with test := { m0.test with pieces := n } }
    (k ≠ 16 → Does (.qengPiece true) s (at_ k)) ∧ (k = 16 → Does (.qengPiece true) s ((at_ 0).actEnd .qeng true 0 0)) ∧
    Does (.qengPiece false) s (((at_ 0).raise fQengFail 0 (word k)).actEnd .qeng false k k)) ∧
  (∀ (i : Fin 5) (r : ScrubResult), s.m.scrubUnder = some i → s.m.test.scrubMem = i.val →
    let m0 := s.m.advReg (s.m.rclk + 1)
    let w := s.m.test.scrubAt
    let m1 := if r = .double then m0.raise fMemFail i.val (word w) else m0
    let bad := if s.m.test.scrubFail = 0 && r == .double then w + 1 else s.m.test.scrubFail
    (w + 1 ≠ memWords i.val →
      Does (.scrubWord r) s { m1 with test := { m1.test with scrubMem := i.val, scrubAt := w + 1, scrubFail := bad } }) ∧
    (w + 1 = memWords i.val → Does (.scrubWord r) s (Mach.actEnd (.scrub i) (bad = 0) 0 (bad - 1)
      { m1 with test := { m1.test with scrubMem := i.val, scrubAt := 0, scrubFail := 0 } }))) ∧
  (∀ (p : LPort) (seen : Fin 4) (k : Int), s.m.lstate p ≤ 1 →
    let why := if seen.val = 1 || seen.val = 2 then seen.val
      else if (s.m.lp p).k.any (fun a => decide (2 < (k - a).natAbs)) then 3 else 0
    let m1 := if why = 0 then s.m.setLp p { s.m.lp p with k := some k } else s.m.raise fLoopFail (portIdx p) (word why)
    (s.m.dev = .arming → s.m.boot.step = 8 → Does (.linkLoopback p seen k) s m1) ∧
    (s.m.dev ≠ .arming → s.m.actRuns (.loopback p) = true →
      Does (.linkLoopback p seen k) s (m1.actEnd (.loopback p) (why = 0) 0 why)))

/-- From R530, R532 and R533: TEASEL. With STRAP_TEASEL a running device enters it, or after its park phase; an armed TST_RUN is refused or starts
its activity with the results cleared; the root PLL test relocks, with the clock family and the ports, or fails at its step, which leaves the
root away. -/
def Obligations.TeaselCommands : Prop := ∀ s : State,
  (s.m.boot.straps.getLsbD 4 = true → s.m.boot.stop = false →
    (∀ x, s.m.boot.park = some x → Does .teaselEntry s { s.m with test := { s.m.test with held := true } }) ∧
    (s.m.boot.park = none → s.m.dev = .run ∨ s.m.dev = .ochre → Does .teaselEntry s s.m.teaselGo)) ∧
  (s.m.boot.straps.getLsbD 4 = false ∨ s.m.boot.stop = true → Does .teaselEntry s s.m) ∧
  (∀ (a : Acc) (p : Part) (k : Nat) (d : Word), s.m.bind a = .part p.val k → s.m.hostUp = true → s.m.todo = [] → s.m.dev = .teasel →
    s.m.isArmed (s.m.bind a) 0x0F0010 = true →
    let t := getF d 0 4
    let i := getF d 8 5
    let m1 := s.m.begun a 0x0F0010
    let m2 := m1.store 0x0F0010 (blend (m1.reg 0x0F0010) d 0x1F0F)
    let m3 := m2.put TST_RES.TEST t
    (m2.tstRefused t i = true → Does (.tstRun a d) s ((m3.put TST_RES.REFUSED 1).put TST_RES.DONE 1)) ∧
    (m2.tstRefused t i = false →
      let m4 := ((((m3.put TST_RES.BUSY 1).put TST_RES.REFUSED 0).put TST_RES.PASS 0).put TST_RES.STEP 0).put TST_RES.DATA 0
      (t ≠ 7 → Does (.tstRun a d) s (m4.testFresh t i)) ∧ (t = 7 → Does (.tstRun a d) s (m4.testFresh t i).apllStart))) ∧
  (∀ (n : Fin 4) (i : Nat), s.m.test.run = some (7, i) → s.m.dev = .teasel →
    (n.val = 0 → Does (.apllTest n) s ((((s.m.rootLocked false).familyStart).portsStart).tstEnd true 0 0)) ∧
    (n.val ≠ 0 → Does (.apllTest n) s (s.m.tstEnd false n.val 0)))

/-- A step takes the command at the front of the queue and runs it on the state with the queue's rest; with no command waiting the block
lets one unit of 5 ns pass (the model's choice, log entry 1). The table gives no command any bits, so no word spells one. -/
def Obligations.StepRunsTheFrontCommand : Prop :=
  (∀ (s : State) (i : Instr) (rest : List Instr), s.pending = i :: rest → step s = exec i { s with pending := rest }) ∧
  (∀ s : State, s.pending = [] → step s = .next { s with m := (s.m.advance 1).settle }) ∧
  (∀ (s : State) (n w : Nat), Sys2Proof.decodeTableWord n w = none ∧ s.withFetchWord n w = s)

/-- No command stops the block: whatever waits, as many steps as commands wait end in a state with an empty queue. -/
def Obligations.WaitingCommandsRunDry : Prop := ∀ s : State,
  ∃ m', Host.Core.run Sys2Proof.core s.pending.length s = .next { m := m', pending := [] }

/-- Before power (R85, R489 and the reset columns of the register map): the device is OFF, nothing waits, no partition exists and no channel
runs, and registers hold the reset values that the register map states for them. -/
def Obligations.ResetState : Prop :=
  let m := State.reset.m
  State.reset.pending = [] ∧ m.dev = .off ∧ m.powered = false ∧ m.hostUp = false ∧ m.todo = [] ∧
  (∀ p : Part, m.pstate p.val = 0) ∧ (∀ n : Ch, m.chst n.val = 0) ∧
  (∀ x ∈ [(0x000000, 0x125645AF), (0x000004, 0x00000310), (0x000008, 0x00010000), (0x000010, 0x10408100), (0x000014, 0x40102020),
      (0x000018, 0x40100068), (0x000124, 1), (0x000144, 5), (0x000308, 0x00C81401), (0x000620, 1)],
    m.reg x.1 = word x.2) ∧
  (∀ x ∈ [(0x010004, 1), (0x010008, 0xF0), (0x01000C, 0x64710C0A), (0x010200, 0x00033C00), (0x010300, 0x36), (0x010308, 0x202),
      (0x010400, 0x00030A00), (0x030010, 0x01000040), (0x040200, 0x55555555), (0x050000, 1), (0x050004, 0x03E8000A)],
    m.reg x.1 = word x.2) ∧
  (∀ x ∈ [(0x05000C, 0x40020000), (0x070000, 0x0A0A03E8), (0x070004, 0xFFFF), (0x070008, 0xFFFF0000), (0x070010, 0x05766E64),
      (0x070014, 0x07310146), (0x0800B0, 1), (0x080200, 0x103), (0x080404, 0x00320410), (0x0A0000, 0x0A05320A), (0x0A0030, 0x001E1300),
      (0x0B0080, 0x000A3C05)],
    m.reg x.1 = word x.2) ∧
  m.aw 0x2000 = word 0x1E000000 ∧ m.aw 0x2004 = word 0xF ∧ m.aw 0x2008 = word 0xF

/-- The sparse stores of the machine are in their canonical form before power. -/
def Obligations.ResetStoresCanonical : Prop := State.reset.m.wf = true

/-- Every step, from any state whose sparse stores are in their canonical form, leaves them so: registers, channel tables, the always-on
window, mailboxes, fault lines, record and command queues, groups, channels, meters and timers. -/
def Obligations.EveryStepKeepsStoresCanonical : Prop := ∀ s t : State, s.m.wf = true → step s = .next t → t.m.wf = true

/-- R29: an access off the word boundary is refused. The write commits nothing, the read returns 0 and has no side effect, and both leave
ACCERR with cause ALIGN in the accessor's ACC_STAT; an unbound access has none (R113). -/
def Obligations.MisalignedAccess : Prop := ∀ (s : State) (a : Acc) (addr : BitVec 24), s.m.hostUp = true → s.m.todo = [] →
  addr.toNat % 4 ≠ 0 →
  let w := s.m.bind a
  let m1 := s.m.unmarked.accErr w a.port addr.toNat cALIGN
  (∀ d, Does (.registerWrite a addr d) s m1) ∧ s.m.busRead a addr.toNat = (0, m1) ∧
  (w = .unbound → m1 = s.m.unmarked) ∧
  (w ≠ .unbound → s.m.wf = true →
    m1.fb (ACC_STAT.ACCERR.inst w.inst) = true ∧
    (s.m.fb (ACC_STAT.ACCERR.inst w.inst) = false →
      m1.f (ACC_STAT.CAUSE.inst w.inst) = cALIGN ∧ m1.f (ACC_ADDR.ADDR.inst w.inst) = addr.toNat) ∧
    (∀ key, key ≠ (ACC_STAT.ACCERR.inst w.inst).a → key ≠ (ACC_ADDR.ADDR.inst w.inst).a → m1.reg key = s.m.reg key) ∧
    m1.tbl = s.m.tbl ∧ m1.aon = s.m.aon)

/-- R46: WIDE_SEL with a class or an index that does not exist sets BADSEL and leaves VALID at 0, and nothing runs; while BUSY is 1 the write
is ignored and sets ACCERR with cause WINDOW. -/
def Obligations.WideSelRefusals : Prop := ∀ (s : State) (a : Acc) (d : Word), s.m.hostUp = true → s.m.todo = [] →
  s.m.bind a ≠ .unbound → s.m.wf = true →
  let w := s.m.bind a
  let i := w.inst
  (s.m.fb (WIDE_STAT.BUSY.inst i) = false → wideExists (getF d 0 8) (getF d 8 8) = false →
    let refused := fun (m : Mach) => m.fb (WIDE_STAT.BADSEL.inst i) = true ∧ m.fb (WIDE_STAT.VALID.inst i) = false ∧ m.wides = s.m.wides
    Yields (.wideRead a d) s refused ∧ Yields (.wideWrite a d) s refused) ∧
  (s.m.fb (WIDE_STAT.BUSY.inst i) = true →
    let m1 := (s.m.begun a 0x000110).accErr w a.port 0x000110 cWINDOW
    Does (.wideRead a d) s m1 ∧ Does (.wideWrite a d) s m1)

/-- From R32: a partition's write of an ordinary register that serves a resource of another partition changes no register but its own ACC_STAT and
ACC_ADDR, which take ACCERR with cause OWNER. The register has no OWN field. -/
def Obligations.ForeignWritesIgnored : Prop := ∀ (s : State) (a : Acc) (p : Part) (k : Nat) (addr : BitVec 24) (d : Word) (r : Row),
  s.m.hostUp = true → s.m.todo = [] → s.m.bind a = .part p.val k → rowOf addr.toNat = some r → r.ordinary addr.toNat = true →
  addr.toNat / 0x10000 ≠ 15 → r.own = 0 → (r.rw ||| r.w1c ||| r.cfg ||| r.key) ≠ 0 → s.m.mayWrite r (.part p.val k) addr.toNat = false →
  let m1 := s.m.unmarked.accErr (.part p.val k) a.port addr.toNat cOWNER
  Does (.registerWrite a addr d) s m1 ∧
  (∀ key, key ≠ (ACC_STAT.ACCERR.inst p.val).a → key ≠ (ACC_ADDR.ADDR.inst p.val).a → m1.reg key = s.m.reg key) ∧
  m1.tbl = s.m.tbl ∧ m1.aon = s.m.aon ∧ m1.chans = s.m.chans ∧ m1.cmdqs = s.m.cmdqs ∧ m1.recqs = s.m.recqs

/-- From R442 and R443: once an authenticated message has passed the check, no message of the same slot with that counter or a lower one passes,
whatever its text and tag. -/
def Obligations.NoMessagePassesTwice : Prop :=
  ∀ (m : Mach) (k ctr : Nat) (msg tag : List Byte) (pay : Nat), m.wf = true → k ≤ 5 → ctr < 2 ^ 32 → (m.authCheck k ctr msg tag pay).2 = 0 →
  let m1 := (m.authCheck k ctr msg tag pay).1
  m.storedCtr k < ctr ∧ m1.storedCtr k = ctr ∧ (∀ j, j ≤ 5 → j ≠ k → m1.storedCtr j = m.storedCtr j) ∧
  ∀ (ctr' : Nat) (msg' tag' : List Byte) (pay' : Nat), ctr' ≤ ctr → (m1.authCheck k ctr' msg' tag' pay').2 ≠ 0

/-- R436: a slot that becomes VALID starts its counter at E times 2^24, the floor of the present epoch, and programming a slot, from the
request to the end of the burn, changes no other slot's counter. -/
def Obligations.CounterFloor : Prop := ∀ s : State, s.m.todo = [] → s.m.wf = true →
  (∀ k key, s.m.sec.burning = some (k, key) → k ≤ 5 →
    Yields (.keyBurnDone true) s (fun m => m.keyValid k = true ∧ m.storedCtr k = s.m.epoch * 2 ^ 24 % 2 ^ 32 ∧
      ∀ j, j ≤ 5 → j ≠ k → m.storedCtr j = s.m.storedCtr j) ∧
    Yields (.keyBurnDone false) s (fun m => m.keyValid k = false ∧ ∀ j, j ≤ 5 → m.storedCtr j = s.m.storedCtr j)) ∧
  (∀ a d, s.m.byP0 a → s.m.mayOwnKey (s.m.bind a) 0x0B0110 = true → s.m.isArmed (s.m.bind a) 0x0B0110 = true →
    Yields (.keyProg a d) s (fun m => ∀ j, j ≤ 5 → m.storedCtr j = s.m.storedCtr j))

/-- R460: an accepted write of time of day puts two entries into the ledger's buffer, TOD_FROM with the time before it and then TOD_TO with
the time after it, also where the reset of its partition has cut the transfer off its mailbox. Room for three entries is assumed; R476 rules a
full buffer. -/
def Obligations.TimeOfDayEntries : Prop := ∀ (s : State) (i : Fin 17),
  let x := if (s.m.wide (wideLeft + i.val)).busy then s.m.wide (wideLeft + i.val) else s.m.wide i.val
  s.m.todo = [] → x.busy = true → x.wr = true → s.m.fb PPS_CFG.TOD_EN = false → s.m.ldgBuf.length ≤ 13 → x.who ≤ 16 →
  let entry := fun (typ t : Nat) => ({ word := word (typ + 256 * x.who), time := some (word t), cyc := aonCycles s.m.now,
                                       rank := ledgerRank typ x.who } : LdgEntry)
  Yields (.wideDone i) s (fun m => m.tod = x.lo.toNat ∧ [entry 0x10 s.m.tod, entry 0x11 x.lo.toNat].Sublist m.ldgBuf)
end

