-- ==== Sys2Proof/Laws/Cells.lean ====
section
/-! SUPPORT. The laws of the sparse stores: a read after a write, and that every operation keeps the canonical form. -/
namespace Sys2Proof.Laws
open Sys2Proof.Machine

variable {α : Type}

theorem cabove_mono {lo lo' : Nat} (h : lo' ≤ lo) : ∀ m : Cells α, cabove lo m = true → cabove lo' m = true
  | [], _ => rfl
  | (k, v) :: t, hm => by
    simp only [cabove, Bool.and_eq_true, decide_eq_true_eq] at hm ⊢
    exact ⟨by omega, cabove_mono h t hm.2⟩

/-- A key below every listed one reads as its default. -/
theorem cget_of_cabove (d : Nat → α) {k : Nat} : ∀ m : Cells α, cabove k m = true → cget d m k = d k
  | [], _ => rfl
  | (k', v) :: t, h => by
    simp only [cabove, Bool.and_eq_true, decide_eq_true_eq] at h
    simp only [cget]
    rw [if_neg (by omega), if_pos h.1]

theorem cabove_filter {lo : Nat} (p : Nat × α → Bool) :
    ∀ m : Cells α, cabove lo m = true → cabove lo (m.filter p) = true
  | [], _ => rfl
  | (k, v) :: t, h => by
    simp only [cabove, Bool.and_eq_true, decide_eq_true_eq] at h
    simp only [List.filter]
    split
    · simp [cabove, h.1, cabove_filter p t h.2]
    · exact cabove_filter p t h.2

variable [DecidableEq α]

theorem cwf_cons {d : Nat → α} {k : Nat} {v : α} {t : Cells α} :
    cwf d ((k, v) :: t) = true ↔ cabove k t = true ∧ v ≠ d k ∧ cwf d t = true := by
  simp only [cwf, Bool.and_eq_true, Bool.not_eq_true', decide_eq_false_iff_not, ne_eq, and_assoc]

theorem cabove_cset {d : Nat → α} {lo k : Nat} {v : α} (hk : lo < k) :
    ∀ m : Cells α, cabove lo m = true → cabove lo (cset d m k v) = true
  | [], _ => by
    simp only [cset]; split <;> simp [cabove, hk]
  | (k', v') :: t, h => by
    have h' := h
    simp only [cabove, Bool.and_eq_true, decide_eq_true_eq] at h
    simp only [cset]
    split
    · split
      · exact h.2
      · simp [cabove, hk, h.2]
    · split
      · split
        · exact h'
        · simp [cabove, hk, h.1, h.2]
      · simp [cabove, h.1, cabove_cset hk t h.2]

/-- A write keeps the canonical form. -/
theorem cwf_cset {d : Nat → α} {k : Nat} {v : α} : ∀ m : Cells α, cwf d m = true → cwf d (cset d m k v) = true
  | [], _ => by
    simp only [cset]; split
    · rfl
    · rename_i h; exact cwf_cons.2 ⟨rfl, h, rfl⟩
  | (k', v') :: t, h => by
    have ⟨ha, hv, ht⟩ := cwf_cons.1 h
    simp only [cset]
    split
    · rename_i hk; subst hk
      split
      · exact ht
      · rename_i hv'; exact cwf_cons.2 ⟨ha, hv', ht⟩
    · split
      · rename_i hk hlt
        split
        · exact h
        · rename_i hv'
          refine cwf_cons.2 ⟨?_, hv', h⟩
          simp [cabove, hlt, cabove_mono (Nat.le_of_lt hlt) t ha]
      · rename_i hk hlt
        exact cwf_cons.2 ⟨cabove_cset (by omega) t ha, hv, cwf_cset t ht⟩

/-- Leaving keys out keeps the canonical form. -/
theorem cwf_filter {d : Nat → α} (p : Nat × α → Bool) : ∀ m : Cells α, cwf d m = true → cwf d (m.filter p) = true
  | [], _ => rfl
  | (k, v) :: t, h => by
    have ⟨ha, hv, ht⟩ := cwf_cons.1 h
    simp only [List.filter]
    split
    · exact cwf_cons.2 ⟨cabove_filter p t ha, hv, cwf_filter p t ht⟩
    · exact cwf_filter p t ht

theorem cwf_cdrop {d : Nat → α} (p : Nat → Bool) (m : Cells α) (h : cwf d m = true) : cwf d (cdrop p m) = true :=
  cwf_filter _ m h

/-- A read of the key that was written gives the value written. -/
theorem cget_cset_same {d : Nat → α} {k : Nat} {v : α} : ∀ m : Cells α, cwf d m = true → cget d (cset d m k v) k = v
  | [], _ => by
    simp only [cset]; split
    · rename_i h; simp [cget, h]
    · simp [cget]
  | (k', v') :: t, h => by
    have ⟨ha, hv, ht⟩ := cwf_cons.1 h
    simp only [cset]
    split
    · rename_i hk; subst hk
      split
      · rename_i hv'; rw [cget_of_cabove d t ha, hv']
      · simp [cget]
    · split
      · rename_i hk hlt
        split
        · rename_i hv'; simp [cget, hk, hlt, hv']
        · simp [cget]
      · rename_i hk hlt
        simp only [cget, if_neg hk, if_neg hlt]
        exact cget_cset_same t ht

/-- A read of any other key gives what it gave before. -/
theorem cget_cset_ne {d : Nat → α} {k j : Nat} {v : α} (hj : j ≠ k) :
    ∀ m : Cells α, cwf d m = true → cget d (cset d m k v) j = cget d m j
  | [], _ => by
    simp only [cset]; split
    · rfl
    · simp only [cget, if_neg hj]; split <;> rfl
  | (k', v') :: t, h => by
    have ⟨ha, hv, ht⟩ := cwf_cons.1 h
    simp only [cset]
    split
    · rename_i hk; subst hk
      split
      · simp only [cget, if_neg hj]
        split
        · rename_i hlt; exact cget_of_cabove d t (cabove_mono (Nat.le_of_lt hlt) t ha)
        · rfl
      · simp only [cget, if_neg hj]
    · split
      · rename_i hk hlt
        split
        · rfl
        · simp only [cget, if_neg hj]
          split
          · rename_i hjk
            rw [if_neg (by omega), if_pos (by omega)]
          · rfl
      · rename_i hk hlt
        simp only [cget]
        split
        · rfl
        · split
          · rfl
          · exact cget_cset_ne hj t ht

end Sys2Proof.Laws
end

