-- ==== Sys2Proof/Laws/Canon.lean ====
section
/-! SUPPORT. Every operation of the model keeps the sparse stores canonical. -/
namespace Sys2Proof.Laws
open Sys2Proof.Machine Sys2Proof

theorem wf_of {m : Mach} (t : Mach) (h : m.wf = true) (h1 : t.regs = m.regs) (h2 : t.tbl = m.tbl) (h3 : t.aon = m.aon)
    (h4 : t.wides = m.wides) (h5 : t.lines = m.lines) (h6 : t.recqs = m.recqs) (h7 : t.cmdqs = m.cmdqs) (h8 : t.grps = m.grps)
    (h9 : t.chans = m.chans) (h10 : t.mtrs = m.mtrs) (h11 : t.timers = m.timers) : t.wf = true := by
  unfold Mach.wf at h ⊢; rw [h1, h2, h3, h4, h5, h6, h7, h8, h9, h10, h11]; exact h

theorem wf_mk {m : Mach} (h : m.wf = true)
    {dev : Dev} {regs : Cells Word} {tbl : Cells Word} {aon : Cells Word} {aonPost : List (Nat × Word)} {now : Nat} {ts : Nat} {rclk : Nat}
    {grid : Nat} {tod : Nat} {sub : Nat} {free : Nat} {todo : List Work} {accFlag : Bool} {ignFlag : Bool} {spi : Spi} {i2c : I2c} {rdata :
    Word} {chWin : Window} {aonWin : Window} {wides : Cells Wide} {crc : Crc} {pwr : Pwr} {boot : Boot} {img : Img} {svc : Svc} {lines :
    Cells Line} {recqs : Cells RecQ} {cmdqs : Cells CmdQ} {normal : Option Serving} {urgent : Option Serving} {lastNormal : Nat} {lastUrgent
    : Nat} {visiting : Bool} {ldgBuf : List LdgEntry} {ldgDrop : Nat} {grps : Cells Grp} {chans : Cells Chan} {nextOrd : Nat} {gov : Gov}
    {sec : Sec} {mtrs : Cells Meter} {ldg : Ldg} {sent : Sent} {root : Root} {link : Link} {test : SelfTest} {tap : TapInstr} {bsr : List
    Word} {flash : List (List Byte)} {timers : Cells (Option Nat)}
    (h0 : regs = m.regs) (h1 : tbl = m.tbl) (h2 : aon = m.aon) (h3 : wides = m.wides) (h4 : lines = m.lines) (h5 : recqs = m.recqs) (h6 : cmdqs
    = m.cmdqs) (h7 : grps = m.grps) (h8 : chans = m.chans) (h9 : mtrs = m.mtrs) (h10 : timers = m.timers) :
    Mach.wf ⟨dev, regs, tbl, aon, aonPost, now, ts, rclk, grid, tod, sub, free, todo, accFlag, ignFlag, spi, i2c, rdata, chWin, aonWin, wides,
    crc, pwr, boot, img, svc, lines, recqs, cmdqs, normal, urgent, lastNormal, lastUrgent, visiting, ldgBuf, ldgDrop, grps, chans, nextOrd,
    gov, sec, mtrs, ldg, sent, root, link, test, tap, bsr, flash, timers⟩ = true :=
  wf_of _ h h0 h1 h2 h3 h4 h5 h6 h7 h8 h9 h10

theorem wf_parts {m : Mach} : m.wf = true ↔ (cwf regReset m.regs = true ∧ cwf tblReset m.tbl = true ∧ cwf aonReset m.aon = true ∧
    cwf (fun _ => {}) m.wides = true ∧ cwf (fun _ => {}) m.lines = true ∧ cwf (fun _ => {}) m.recqs = true ∧
    cwf (fun _ => {}) m.cmdqs = true ∧ cwf (fun _ => {}) m.grps = true ∧ cwf (fun _ => {}) m.chans = true ∧
    cwf (fun _ => {}) m.mtrs = true ∧ cwf (fun _ => none) m.timers = true) := by
  simp only [Mach.wf, Bool.and_eq_true, and_assoc]

theorem wf_regs {m : Mach} (h : m.wf = true) {x : Cells Word} (hx : cwf regReset x = true) : Mach.wf { m with regs := x } = true := by
  rw [wf_parts] at h ⊢; simp only [hx, h, and_self]

theorem wf_tbl {m : Mach} (h : m.wf = true) {x : Cells Word} (hx : cwf tblReset x = true) : Mach.wf { m with tbl := x } = true := by
  rw [wf_parts] at h ⊢; simp only [hx, h, and_self]

theorem wf_aon {m : Mach} (h : m.wf = true) {x : Cells Word} (hx : cwf aonReset x = true) : Mach.wf { m with aon := x } = true := by
  rw [wf_parts] at h ⊢; simp only [hx, h, and_self]

theorem wf_wides {m : Mach} (h : m.wf = true) {x : Cells Wide} (hx : cwf (fun _ => {}) x = true) : Mach.wf { m with wides := x } = true := by
  rw [wf_parts] at h ⊢; simp only [hx, h, and_self]

theorem wf_lines {m : Mach} (h : m.wf = true) {x : Cells Line} (hx : cwf (fun _ => {}) x = true) : Mach.wf { m with lines := x } = true := by
  rw [wf_parts] at h ⊢; simp only [hx, h, and_self]

theorem wf_recqs {m : Mach} (h : m.wf = true) {x : Cells RecQ} (hx : cwf (fun _ => {}) x = true) : Mach.wf { m with recqs := x } = true := by
  rw [wf_parts] at h ⊢; simp only [hx, h, and_self]

theorem wf_cmdqs {m : Mach} (h : m.wf = true) {x : Cells CmdQ} (hx : cwf (fun _ => {}) x = true) : Mach.wf { m with cmdqs := x } = true := by
  rw [wf_parts] at h ⊢; simp only [hx, h, and_self]

theorem wf_grps {m : Mach} (h : m.wf = true) {x : Cells Grp} (hx : cwf (fun _ => {}) x = true) : Mach.wf { m with grps := x } = true := by
  rw [wf_parts] at h ⊢; simp only [hx, h, and_self]

theorem wf_chans {m : Mach} (h : m.wf = true) {x : Cells Chan} (hx : cwf (fun _ => {}) x = true) : Mach.wf { m with chans := x } = true := by
  rw [wf_parts] at h ⊢; simp only [hx, h, and_self]

theorem wf_mtrs {m : Mach} (h : m.wf = true) {x : Cells Meter} (hx : cwf (fun _ => {}) x = true) : Mach.wf { m with mtrs := x } = true := by
  rw [wf_parts] at h ⊢; simp only [hx, h, and_self]

theorem wf_timers {m : Mach} (h : m.wf = true) {x : Cells (Option Nat)} (hx : cwf (fun _ => none) x = true) :
    Mach.wf { m with timers := x } = true := by
  rw [wf_parts] at h ⊢; simp only [hx, h, and_self]

theorem wf_forN {f : Nat → Mach → Mach} (hf : ∀ i t, Mach.wf t = true → (f i t).wf = true) (n : Nat) {m : Mach} (h : m.wf = true) :
    (forN n f m).wf = true := by
  unfold forN
  generalize List.range n = l
  induction l generalizing m with
  | nil => exact h
  | cons a l ih => exact ih (hf a m h)

theorem wf_foldl {β : Type} {f : Mach → β → Mach} (hf : ∀ t b, Mach.wf t = true → (f t b).wf = true) (l : List β) {m : Mach}
    (h : m.wf = true) : (l.foldl f m).wf = true := by
  induction l generalizing m with
  | nil => exact h
  | cons a l ih => exact ih (hf m a h)

theorem wf_elim {α : Type} {o : Option α} {f : α → Mach} {d : Mach} (hd : d.wf = true) (hf : ∀ a, (f a).wf = true) :
    (o.elim d f).wf = true := by
  cases o
  · exact hd
  · exact hf _

theorem wf_fst {β : Type} {p : Mach × β} (h : p.1.wf = true) {a : Mach} {b : β} (e : p = (a, b)) : a.wf = true := by
  subst e; exact h

theorem wf_snd {β : Type} {p : β × Mach} (h : p.2.wf = true) {a : Mach} {b : β} (e : p = (b, a)) : a.wf = true := by
  subst e; exact h

/-- A fold that carries a machine and something else. -/
theorem wf_foldl_fst {β γ : Type} {f : Mach × γ → β → Mach × γ} (hf : ∀ t b, Mach.wf t.1 = true → (f t b).1.wf = true) (l : List β)
    {s : Mach × γ} (h : s.1.wf = true) : (l.foldl f s).1.wf = true := by
  induction l generalizing s with
  | nil => exact h
  | cons a l ih => exact ih (hf s a h)

theorem wf_some {m : Mach} {k : Nat} {t : Mach × Nat} (h : m.wf = true) (e : some (m, k) = some t) : t.1.wf = true := by
  cases e; exact h

theorem wf_ite {c : Prop} [Decidable c] {a b : Mach} (ha : a.wf = true) (hb : b.wf = true) : (if c then a else b).wf = true := by
  split
  · exact ha
  · exact hb

theorem wf_applyIf {c : Bool} {f : Mach → Mach} (hf : ∀ t, Mach.wf t = true → (f t).wf = true) {m : Mach} (h : m.wf = true) :
    (applyIf c f m).wf = true := by
  unfold applyIf; split
  · exact hf m h
  · exact h

theorem wf_setReg {k : Nat} {v : Word} {m : Mach} (h : m.wf = true) : (Mach.setReg k v m).wf = true :=
  wf_regs h (cwf_cset _ (wf_parts.1 h).1)

theorem wf_put {x : Fld} {v : Nat} {m : Mach} (h : m.wf = true) : (Mach.put x v m).wf = true := by
  unfold Mach.put
  try dsimp only
  repeat' first | (with_reducible assumption) | (with_reducible apply wf_setReg)

theorem wf_orReg {k : Nat} {mask : Nat} {m : Mach} (h : m.wf = true) : (Mach.orReg k mask m).wf = true := by
  unfold Mach.orReg
  try dsimp only
  repeat' first | (with_reducible assumption) | (with_reducible apply wf_setReg)

theorem wf_setTw {e w : Nat} {v : Word} {m : Mach} (h : m.wf = true) : (Mach.setTw e w v m).wf = true :=
  wf_tbl h (cwf_cset _ (wf_parts.1 h).2.1)

theorem wf_tput {e : Nat} {x : TFld} {v : Nat} {m : Mach} (h : m.wf = true) : (Mach.tput e x v m).wf = true := by
  unfold Mach.tput
  try dsimp only
  repeat' first | (with_reducible assumption) | (with_reducible apply wf_setTw)

theorem wf_setAw {off : Nat} {v : Word} {m : Mach} (h : m.wf = true) : (Mach.setAw off v m).wf = true :=
  wf_aon h (cwf_cset _ (wf_parts.1 h).2.2.1)

theorem wf_push {w : Work} {m : Mach} (h : m.wf = true) : (Mach.push w m).wf = true := by
  unfold Mach.push
  try dsimp only
  repeat' first | (with_reducible assumption) | (intro _) | split
                | (fail_if_no_progress (with_reducible refine wf_mk ?_ rfl rfl rfl rfl rfl rfl rfl rfl rfl rfl rfl))

theorem wf_pushFront {ws : List Work} {m : Mach} (h : m.wf = true) : (Mach.pushFront ws m).wf = true := by
  unfold Mach.pushFront
  try dsimp only
  repeat' first | (with_reducible assumption) | (intro _) | split
                | (fail_if_no_progress (with_reducible refine wf_mk ?_ rfl rfl rfl rfl rfl rfl rfl rfl rfl rfl rfl))

theorem wf_draw {m : Mach} (h : m.wf = true) : (Mach.draw m).2.wf = true := by
  unfold Mach.draw
  try dsimp only
  repeat' first | (with_reducible assumption) | (intro _) | split
                | (fail_if_no_progress (with_reducible refine wf_mk ?_ rfl rfl rfl rfl rfl rfl rfl rfl rfl rfl rfl))

theorem wf_setRq {q : Nat} {r : RecQ} {m : Mach} (h : m.wf = true) : (Mach.setRq q r m).wf = true :=
  wf_recqs h (cwf_cset _ (wf_parts.1 h).2.2.2.2.2.1)

theorem wf_setCq {q : Nat} {r : CmdQ} {m : Mach} (h : m.wf = true) : (Mach.setCq q r m).wf = true :=
  wf_cmdqs h (cwf_cset _ (wf_parts.1 h).2.2.2.2.2.2.1)

theorem wf_release {p : Nat} {m : Mach} (h : m.wf = true) : (Mach.release p m).wf = true := by
  unfold Mach.release
  try dsimp only
  repeat' first | (with_reducible assumption) | (with_reducible apply wf_setRq)

theorem wf_raise {bc : Nat × Nat} {src : Nat} {pay : Word} {m : Mach} (h : m.wf = true) : (Mach.raise bc src pay m).wf = true := by
  unfold Mach.raise
  try dsimp only
  repeat' first | (with_reducible assumption) | (with_reducible apply wf_push) | (refine wf_fst ?_ (by assumption))
                | (refine wf_snd ?_ (by assumption)) | (intro _) | split

theorem wf_keepForward {q : Nat} {x : Rec} {m : Mach} (h : m.wf = true) : (Mach.keepForward q x m).wf = true := by
  unfold Mach.keepForward
  try dsimp only
  repeat' first | (with_reducible assumption) | (with_reducible apply wf_push) | (intro _) | split
                | (fail_if_no_progress (with_reducible refine wf_mk ?_ rfl rfl rfl rfl rfl rfl rfl rfl rfl rfl rfl))

theorem wf_append {q : Nat} {typ : Nat} {origin : Nat} {aux : Nat} {w1 : Word} {w2 : Word} {w3 : Word} {m : Mach} (h : m.wf = true) :
    (Mach.append q typ origin aux w1 w2 w3 m).wf = true := by
  unfold Mach.append
  try dsimp only
  repeat' first | (with_reducible assumption) | (with_reducible apply wf_setRq) | (with_reducible apply wf_keepForward) | (intro _) | split

theorem wf_post {q : Nat} {typ : Nat} {origin : Nat} {aux : Nat} {w1 : Word} {w2 : Word} {w3 : Word} {m : Mach} (h : m.wf = true) :
    (Mach.post q typ origin aux w1 w2 w3 m).wf = true := by
  unfold Mach.post
  try dsimp only
  repeat' first | (with_reducible assumption) | (with_reducible apply wf_append) | (with_reducible apply wf_setRq) | (with_reducible apply wf_raise)
                | (intro _) | split

theorem wf_event {p : Nat} {typ : Nat} {aux : Nat} {w2 : Word} {w3 : Word} {m : Mach} (h : m.wf = true) :
    (Mach.event p typ aux w2 w3 m).wf = true := by
  unfold Mach.event
  try dsimp only
  repeat' first | (with_reducible assumption) | (with_reducible apply wf_post) | (intro _) | split

theorem wf_pop {q : Nat} {count : Nat} {m : Mach} (h : m.wf = true) : (Mach.pop q count m).wf = true := by
  unfold Mach.pop
  try dsimp only
  repeat' first | (with_reducible assumption) | (with_reducible apply wf_setRq) | (with_reducible apply wf_append) | (intro _) | split

theorem wf_chEvt {n : Nat} {mask : Nat} {m : Mach} (h : m.wf = true) : (Mach.chEvt n mask m).wf = true := by
  unfold Mach.chEvt
  try dsimp only
  repeat' first | (with_reducible assumption) | (with_reducible apply wf_setTw) | (with_reducible apply wf_event) | (with_reducible apply wf_elim)
                | (intro _) | split

theorem wf_grpEvt {g : Nat} {mask : Nat} {m : Mach} (h : m.wf = true) : (Mach.grpEvt g mask m).wf = true := by
  unfold Mach.grpEvt
  try dsimp only
  repeat' first | (with_reducible assumption) | (with_reducible apply wf_setReg) | (with_reducible apply wf_event) | (intro _) | split

theorem wf_ledgerAt {t : Option Word} {typ : Nat} {arg0 : Nat} {arg1 : Nat} {m : Mach} (h : m.wf = true) :
    (Mach.ledgerAt t typ arg0 arg1 m).wf = true := by
  unfold Mach.ledgerAt
  try dsimp only
  repeat' first | (with_reducible assumption) | (with_reducible apply wf_take) | (intro _) | split
                | (fail_if_no_progress (with_reducible refine wf_mk ?_ rfl rfl rfl rfl rfl rfl rfl rfl rfl rfl rfl))

theorem wf_ledger {typ : Nat} {arg0 : Nat} {arg1 : Nat} {m : Mach} (h : m.wf = true) : (Mach.ledger typ arg0 arg1 m).wf = true := by
  unfold Mach.ledger
  try dsimp only
  repeat' first | (with_reducible assumption) | (with_reducible apply wf_ledgerAt)

theorem wf_hireCheck {m : Mach} (h : m.wf = true) : (Mach.hireCheck m).wf = true := by
  unfold Mach.hireCheck
  try dsimp only
  repeat' first | (with_reducible assumption) | (with_reducible apply wf_put) | (with_reducible apply wf_ledger) | (intro _) | split

theorem wf_setTimer {t : Timer} {v : Option Nat} {m : Mach} (h : m.wf = true) : (Mach.setTimer t v m).wf = true :=
  wf_timers h (cwf_cset _ (wf_parts.1 h).2.2.2.2.2.2.2.2.2.2)

theorem wf_startTimer {t : Timer} {m : Mach} (h : m.wf = true) : (Mach.startTimer t m).wf = true := by
  unfold Mach.startTimer
  try dsimp only
  repeat' first | (with_reducible assumption) | (with_reducible apply wf_setTimer)

theorem wf_stopTimer {t : Timer} {m : Mach} (h : m.wf = true) : (Mach.stopTimer t m).wf = true := by
  unfold Mach.stopTimer
  try dsimp only
  repeat' first | (with_reducible assumption) | (with_reducible apply wf_setTimer)

theorem wf_wakeBy {bit : Nat} {m : Mach} (h : m.wf = true) : (Mach.wakeBy bit m).wf = true := by
  unfold Mach.wakeBy
  try dsimp only
  repeat' first | (with_reducible assumption) | (with_reducible apply wf_put) | (with_reducible apply wf_startTimer) | (intro _) | split

theorem wf_todStep {c : Nat} {m : Mach} (h : m.wf = true) : (Mach.todStep c m).wf = true := by
  unfold Mach.todStep
  try dsimp only
  repeat' first | (with_reducible assumption) | (intro _) | split
                | (fail_if_no_progress (with_reducible refine wf_mk ?_ rfl rfl rfl rfl rfl rfl rfl rfl rfl rfl rfl))

theorem wf_updRoot {f : Root → Root} {m : Mach} (h : m.wf = true) : (Mach.updRoot f m).wf = true := by
  unfold Mach.updRoot
  try dsimp only
  repeat' first | (with_reducible assumption) | (intro _) | split
                | (fail_if_no_progress (with_reducible refine wf_mk ?_ rfl rfl rfl rfl rfl rfl rfl rfl rfl rfl rfl))

theorem wf_rootAdvance {k : Nat} {m : Mach} (h : m.wf = true) : (Mach.rootAdvance k m).wf = true := by
  unfold Mach.rootAdvance
  try dsimp only
  repeat' first | (with_reducible assumption) | (with_reducible apply wf_updRoot) | (with_reducible apply wf_put) | (refine wf_fst ?_ (by assumption))
                | (refine wf_snd ?_ (by assumption)) | (intro _) | split

theorem wf_todAdvance {c : Nat} {m : Mach} (h : m.wf = true) : (Mach.todAdvance c m).wf = true := by
  unfold Mach.todAdvance
  try dsimp only
  repeat' first | (with_reducible assumption) | (with_reducible apply wf_updRoot) | (with_reducible apply wf_todStep)
                | (refine wf_fst ?_ (by assumption)) | (refine wf_snd ?_ (by assumption)) | (intro _) | split
                | (fail_if_no_progress (with_reducible refine wf_mk ?_ rfl rfl rfl rfl rfl rfl rfl rfl rfl rfl rfl))

theorem wf_advance {k : Nat} {m : Mach} (h : m.wf = true) : (Mach.advance k m).wf = true := by
  unfold Mach.advance
  try dsimp only
  repeat' first | (with_reducible assumption) | (with_reducible apply wf_rootAdvance) | (with_reducible apply wf_todAdvance)
                | (with_reducible apply wf_hireCheck) | (intro _) | split
                | (fail_if_no_progress (with_reducible refine wf_mk ?_ rfl rfl rfl rfl rfl rfl rfl rfl rfl rfl rfl))

theorem wf_advNow {t : Nat} {m : Mach} (h : m.wf = true) : (Mach.advNow t m).wf = true := by
  unfold Mach.advNow
  try dsimp only
  repeat' first | (with_reducible assumption) | (with_reducible apply wf_advance) | (intro _) | split

theorem wf_advPhs {p : Nat} {m : Mach} (h : m.wf = true) : (Mach.advPhs p m).wf = true := by
  unfold Mach.advPhs
  try dsimp only
  repeat' first | (with_reducible assumption) | (with_reducible apply wf_advance) | (with_reducible apply wf_forN) | (intro _) | split

theorem wf_advTo {g : Nat} {m : Mach} (h : m.wf = true) : (Mach.advTo g m).wf = true := by
  unfold Mach.advTo
  try dsimp only
  repeat' first | (with_reducible assumption) | (with_reducible apply wf_advPhs) | (intro _) | split

theorem wf_advReg {t : Nat} {m : Mach} (h : m.wf = true) : (Mach.advReg t m).wf = true := by
  unfold Mach.advReg
  try dsimp only
  repeat' first | (with_reducible assumption) | (with_reducible apply wf_advNow) | (with_reducible apply wf_advPhs) | (intro _) | split

theorem wf_reach {t : Timer} {d : Nat} {m : Mach} (h : m.wf = true) : (Mach.reach t d m).wf = true := by
  unfold Mach.reach
  try dsimp only
  repeat' first | (with_reducible assumption) | (with_reducible apply wf_advNow) | (with_reducible apply wf_elim) | (intro _)

theorem wf_reachAon {t : Timer} {c : Nat} {m : Mach} (h : m.wf = true) : (Mach.reachAon t c m).wf = true := by
  unfold Mach.reachAon
  try dsimp only
  repeat' first | (with_reducible assumption) | (with_reducible apply wf_advNow) | (with_reducible apply wf_elim) | (intro _)

theorem wf_nextAon {t : Timer} {per : Nat} {m : Mach} (h : m.wf = true) : (Mach.nextAon t per m).wf = true := by
  unfold Mach.nextAon
  try dsimp only
  repeat' first | (with_reducible assumption) | (with_reducible apply wf_advNow) | (with_reducible apply wf_startTimer)

theorem wf_unmarked {m : Mach} (h : m.wf = true) : (Mach.unmarked m).wf = true := by
  unfold Mach.unmarked
  try dsimp only
  repeat' first | (with_reducible assumption) | (intro _) | split
                | (fail_if_no_progress (with_reducible refine wf_mk ?_ rfl rfl rfl rfl rfl rfl rfl rfl rfl rfl rfl))

theorem wf_accErr {w : Who} {port : Port} {addr : Nat} {cause : Nat} {m : Mach} (h : m.wf = true) : (Mach.accErr w port addr cause m).wf = true := by
  unfold Mach.accErr
  try dsimp only
  repeat' first | (with_reducible assumption) | (with_reducible apply wf_put) | (intro _) | split
                | (fail_if_no_progress (with_reducible refine wf_mk ?_ rfl rfl rfl rfl rfl rfl rfl rfl rfl rfl rfl))

theorem wf_cfgIgn {w : Who} {m : Mach} (h : m.wf = true) : (Mach.cfgIgn w m).wf = true := by
  unfold Mach.cfgIgn
  try dsimp only
  repeat' first | (with_reducible assumption) | (with_reducible apply wf_put) | (intro _) | split
                | (fail_if_no_progress (with_reducible refine wf_mk ?_ rfl rfl rfl rfl rfl rfl rfl rfl rfl rfl rfl))

theorem wf_sweepReach {m : Mach} (h : m.wf = true) : (Mach.sweepReach m).wf = true := by
  unfold Mach.sweepReach
  try dsimp only
  repeat' first | (with_reducible assumption) | (with_reducible apply wf_draw) | (with_reducible apply wf_take) | (refine wf_fst ?_ (by assumption))
                | (refine wf_snd ?_ (by assumption)) | (intro _) | split
                | (fail_if_no_progress (with_reducible refine wf_mk ?_ rfl rfl rfl rfl rfl rfl rfl rfl rfl rfl rfl))

theorem wf_cfgChanged {m : Mach} (h : m.wf = true) : (Mach.cfgChanged m).wf = true := by
  unfold Mach.cfgChanged
  try dsimp only
  repeat' first | (with_reducible assumption) | (with_reducible apply wf_sweepReach) | (with_reducible apply wf_put) | (intro _) | split
                | (fail_if_no_progress (with_reducible refine wf_mk ?_ rfl rfl rfl rfl rfl rfl rfl rfl rfl rfl rfl))

theorem wf_setArm {w : Who} {addr : Nat} {v : Nat} {m : Mach} (h : m.wf = true) : (Mach.setArm w addr v m).wf = true := by
  unfold Mach.setArm
  try dsimp only
  repeat' first | (with_reducible assumption) | (with_reducible apply wf_put)

theorem wf_spent {w : Who} {addr : Nat} {m : Mach} (h : m.wf = true) : (Mach.spent w addr m).wf = true := by
  unfold Mach.spent
  try dsimp only
  repeat' first | (with_reducible assumption) | (with_reducible apply wf_setArm) | (intro _) | split

theorem wf_postAon {off : Nat} {v : Word} {m : Mach} (h : m.wf = true) : (Mach.postAon off v m).wf = true := by
  unfold Mach.postAon
  try dsimp only
  repeat' first | (with_reducible assumption) | (intro _) | split
                | (fail_if_no_progress (with_reducible refine wf_mk ?_ rfl rfl rfl rfl rfl rfl rfl rfl rfl rfl rfl))

theorem wf_setGrp {g : Nat} {v : Grp} {m : Mach} (h : m.wf = true) : (Mach.setGrp g v m).wf = true :=
  wf_grps h (cwf_cset _ (wf_parts.1 h).2.2.2.2.2.2.2.1)

theorem wf_grpQueue {addr : Nat} {v : Word} {m : Mach} (h : m.wf = true) : (Mach.grpQueue addr v m).wf = true := by
  unfold Mach.grpQueue
  try dsimp only
  repeat' first | (with_reducible assumption) | (with_reducible apply wf_put) | (with_reducible apply wf_setGrp) | (intro _) | split

theorem wf_store {key : Nat} {new : Word} {m : Mach} (h : m.wf = true) : (Mach.store key new m).wf = true := by
  unfold Mach.store
  try dsimp only
  repeat' first | (with_reducible assumption) | (with_reducible apply wf_setReg) | (intro _) | split

theorem wf_storeWord {w : Who} {a : Acc} {r : Row} {key : Nat} {addr : Nat} {d : Word} {new : Word} {m : Mach} (h : m.wf = true) :
    (Mach.storeWord w a r key addr d new m).wf = true := by
  unfold Mach.storeWord
  try dsimp only
  repeat' first | (with_reducible assumption) | (with_reducible apply wf_hook) | (with_reducible apply wf_postAon) | (with_reducible apply wf_push)
                | (with_reducible apply wf_put) | (with_reducible apply wf_setReg) | (with_reducible apply wf_grpQueue)
                | (with_reducible apply wf_cfgChanged) | (with_reducible apply wf_store) | (refine wf_fst ?_ (by assumption))
                | (refine wf_snd ?_ (by assumption)) | (intro _) | split

theorem wf_fieldUpdate {w : Who} {a : Acc} {r : Row} {key : Nat} {addr : Nat} {d : Word} {ownOk : Bool} {keyOk : Bool} {m : Mach} (h
    : m.wf = true) : (Mach.fieldUpdate w a r key addr d ownOk keyOk m).wf = true := by
  unfold Mach.fieldUpdate
  try dsimp only
  repeat' first | (with_reducible assumption) | (with_reducible apply wf_cfgIgn) | (with_reducible apply wf_accErr)
                | (with_reducible apply wf_storeWord) | (intro _) | split

theorem wf_stageGrp {w : Who} {a : Acc} {g : Nat} {e : Staged} {m : Mach} (h : m.wf = true) : (Mach.stageGrp w a g e m).wf = true :=
  by
  unfold Mach.stageGrp
  dsimp only
  split
  · exact wf_grps h (cwf_cset _ (wf_parts.1 h).2.2.2.2.2.2.2.1)
  · exact wf_accErr h

theorem wf_gatedWrite {w : Who} {a : Acc} {r : Row} {addr : Nat} {d : Word} {m : Mach} (h : m.wf = true) :
    (Mach.gatedWrite w a r addr d m).wf = true :=
  by
  unfold Mach.gatedWrite
  extract_lets key isOwner ownKeyOk old ownOk m1 armed m2 keyAllowed m3
  have h1 : m1.wf = true :=
    wf_ite h (wf_ite (wf_ite (wf_accErr h) h) (wf_ite (wf_accErr h) h))
  refine wf_ite (wf_accErr h1) ?_
  split
  · exact wf_stageGrp h1
  · have h2 : m2.wf = true := wf_ite (wf_setArm h1) h1
    have h3 : m3.wf = true := wf_ite h2 (wf_ite (wf_accErr h2) (wf_ite (wf_accErr h2) h2))
    exact wf_ite (wf_put h3) (wf_ite (wf_accErr h3) (wf_fieldUpdate h3))

theorem wf_writeUnlock {w : Who} {a : Acc} {addr : Nat} {d : Word} {m : Mach} (h : m.wf = true) : (Mach.writeUnlock w a addr d m).wf = true := by
  unfold Mach.writeUnlock
  try dsimp only
  repeat' first | (with_reducible assumption) | (with_reducible apply wf_setArm) | (with_reducible apply wf_accErr) | (intro _) | split

theorem wf_setWin {x : Win} {v : Window} {m : Mach} (h : m.wf = true) : (Mach.setWin x v m).wf = true := by
  unfold Mach.setWin
  try dsimp only
  repeat' first | (with_reducible assumption) | (intro _) | split
                | (fail_if_no_progress (with_reducible refine wf_mk ?_ rfl rfl rfl rfl rfl rfl rfl rfl rfl rfl rfl))

theorem wf_winTouch {x : Win} {w : Who} {m : Mach} (h : m.wf = true) : (Mach.winTouch x w m).wf = true := by
  unfold Mach.winTouch
  try dsimp only
  repeat' first | (with_reducible assumption) | (with_reducible apply wf_setWin) | (intro _) | split

theorem wf_winStep {x : Win} {m : Mach} (h : m.wf = true) : (Mach.winStep x m).wf = true := by
  unfold Mach.winStep
  try dsimp only
  repeat' first | (with_reducible assumption) | (with_reducible apply wf_put) | (intro _) | split

theorem wf_winStage {x : Win} {w : Who} {a : Acc} {addr : Nat} {d : Word} {m : Mach} (h : m.wf = true) :
    (Mach.winStage x w a addr d m).wf = true := by
  unfold Mach.winStage
  try dsimp only
  repeat' first | (with_reducible assumption) | (with_reducible apply wf_accErr) | (with_reducible apply wf_winStep)
                | (with_reducible apply wf_setWin) | (intro _) | split

theorem wf_winLock {x : Win} {w : Who} {d : Word} {m : Mach} (h : m.wf = true) : (Mach.winLock x w d m).wf = true := by
  unfold Mach.winLock
  try dsimp only
  repeat' first | (with_reducible assumption) | (with_reducible apply wf_setWin) | (intro _) | split

theorem wf_winFree {x : Win} {timeout : Bool} {m : Mach} (h : m.wf = true) : (Mach.winFree x timeout m).wf = true := by
  unfold Mach.winFree
  try dsimp only
  repeat' first | (with_reducible assumption) | (with_reducible apply wf_setWin) | (with_reducible apply wf_put) | (intro _) | split

theorem wf_grpTouch {w : Who} {addr : Nat} {m : Mach} (h : m.wf = true) : (Mach.grpTouch w addr m).wf = true := by
  unfold Mach.grpTouch
  try dsimp only
  repeat' first | (with_reducible assumption) | (with_reducible apply wf_setGrp) | (with_reducible apply wf_forN) | (with_reducible apply wf_applyIf)
                | (intro _) | split

theorem wf_winTimeout {x : Win} {m : Mach} (h : m.wf = true) : (Mach.winTimeout x m).wf = true := by
  unfold Mach.winTimeout
  try dsimp only
  repeat' first | (with_reducible assumption) | (with_reducible apply wf_advReg) | (with_reducible apply wf_winFree) | (intro _) | split

theorem wf_tblWrite {w : Who} {port : Port} {busAddr : Nat} {e : Nat} {wd : Nat} {d : Word} {m : Mach} (h : m.wf = true) : (Mach.tblWrite w
    port busAddr e wd d m).wf = true := by
  unfold Mach.tblWrite
  try dsimp only
  repeat' first | (with_reducible assumption) | (with_reducible apply wf_accErr) | (with_reducible apply wf_cfgIgn)
                | (with_reducible apply wf_cfgChanged) | (with_reducible apply wf_setTw) | (with_reducible apply wf_push)
                | (with_reducible apply wf_tblHook) | (intro _) | split

theorem wf_winCommit {x : Win} {w : Who} {a : Acc} {addr : Nat} {m : Mach} (h : m.wf = true) : (Mach.winCommit x w a addr m).wf = true := by
  unfold Mach.winCommit
  try dsimp only
  repeat' first | (with_reducible assumption) | (with_reducible apply wf_setWin) | (with_reducible apply wf_setArm) | (with_reducible apply wf_accErr)
                | (with_reducible apply wf_stageGrp) | (with_reducible apply wf_tblWrite) | (with_reducible apply wf_postAon)
                | (with_reducible apply wf_foldl) | (intro _) | split

theorem wf_winWrite {x : Win} {w : Who} {a : Acc} {addr : Nat} {d : Word} {m : Mach} (h : m.wf = true) :
    (Mach.winWrite x w a addr d m).wf = true := by
  unfold Mach.winWrite
  try dsimp only
  repeat' first | (with_reducible assumption) | (with_reducible apply wf_winLock) | (with_reducible apply wf_setReg) | (with_reducible apply wf_put)
                | (with_reducible apply wf_accErr) | (with_reducible apply wf_winStage) | (with_reducible apply wf_winCommit)
                | (with_reducible apply wf_setWin) | (intro _) | split

theorem wf_busWrite {a : Acc} {addr : Nat} {d : Word} {m : Mach} (h : m.wf = true) : (Mach.busWrite a addr d m).wf = true := by
  unfold Mach.busWrite
  try dsimp only
  repeat' first | (with_reducible assumption) | (with_reducible apply wf_unmarked) | (with_reducible apply wf_accErr)
                | (with_reducible apply wf_winWrite) | (with_reducible apply wf_winTouch) | (with_reducible apply wf_grpTouch)
                | (with_reducible apply wf_setArm) | (with_reducible apply wf_writeUnlock) | (with_reducible apply wf_gatedWrite)
                | (refine wf_fst ?_ (by assumption)) | (refine wf_snd ?_ (by assumption)) | (intro _) | split

theorem wf_setLine {b c p : Nat} {l : Line} {m : Mach} (h : m.wf = true) : (Mach.setLine b c p l m).wf = true :=
  wf_lines h (cwf_cset _ (wf_parts.1 h).2.2.2.2.1)

theorem wf_setRegs {k : Nat} {ws : List Word} {m : Mach} (h : m.wf = true) : (Mach.setRegs k ws m).wf = true := by
  unfold Mach.setRegs
  try dsimp only
  repeat' first | (with_reducible assumption) | (with_reducible apply wf_setReg) | (with_reducible apply wf_foldl) | (intro _)

theorem wf_faultRecord {p : Nat} {seq : Nat} {r : Raw} {lvl : Nat} {esc : Bool} {etim : Bool} {m : Mach} (h : m.wf = true) :
    (Mach.faultRecord p seq r lvl esc etim m).wf = true := by
  unfold Mach.faultRecord
  try dsimp only
  repeat' first | (with_reducible assumption) | (with_reducible apply wf_event)

theorem wf_faultRecords {seq : Nat} {r : Raw} {lvl : Nat} {esc : Bool} {etim : Bool} {m : Mach} (h : m.wf = true) :
    (Mach.faultRecords seq r lvl esc etim m).wf = true := by
  unfold Mach.faultRecords
  try dsimp only
  repeat' first | (with_reducible assumption) | (with_reducible apply wf_faultRecord) | (with_reducible apply wf_forN)
                | (with_reducible apply wf_applyIf) | (intro _) | split

theorem wf_faultAction {r : Raw} {lvl : Nat} {m : Mach} (h : m.wf = true) : (Mach.faultAction r lvl m).wf = true := by
  unfold Mach.faultAction
  try dsimp only
  repeat' first | (with_reducible assumption) | (with_reducible apply wf_stop) | (with_reducible apply wf_push) | (intro _) | split

theorem wf_entry {r : Raw} {lvl : Nat} {esc : Bool} {etim : Bool} {m : Mach} (h : m.wf = true) : (Mach.entry r lvl esc etim m).wf = true :=
    by
  unfold Mach.entry
  try dsimp only
  repeat' first | (with_reducible assumption) | (with_reducible apply wf_setRegs) | (with_reducible apply wf_put) | (with_reducible apply wf_orReg)
                | (with_reducible apply wf_setLine) | (with_reducible apply wf_faultRecords) | (with_reducible apply wf_push)
                | (with_reducible apply wf_freeLocks) | (with_reducible apply wf_faultAction) | (intro _) | split

theorem wf_assertFault {r : Raw} {m : Mach} (h : m.wf = true) : (Mach.assertFault r m).wf = true := by
  unfold Mach.assertFault
  try dsimp only
  repeat' first | (with_reducible assumption) | (with_reducible apply wf_entry) | (with_reducible apply wf_put) | (intro _) | split

theorem wf_setRaws {b : Nat} {c : Nat} {p : Nat} {l : List Nat} {m : Mach} (h : m.wf = true) : (Mach.setRaws b c p l m).wf = true := by
  unfold Mach.setRaws
  try dsimp only
  repeat' first | (with_reducible assumption) | (with_reducible apply wf_setLine)

theorem wf_classify {r : Raw} {m : Mach} (h : m.wf = true) : (Mach.classify r m).wf = true := by
  unfold Mach.classify
  try dsimp only
  repeat' first | (with_reducible assumption) | (with_reducible apply wf_setRaws) | (with_reducible apply wf_assertFault) | (intro _) | split

theorem wf_takeRaw {r : Raw} {m : Mach} (h : m.wf = true) : (Mach.takeRaw r m).wf = true := by
  unfold Mach.takeRaw
  try dsimp only
  repeat' first | (with_reducible assumption) | (with_reducible apply wf_classify) | (with_reducible apply wf_foldl) | (intro _) | split
                | (fail_if_no_progress (with_reducible refine wf_mk ?_ rfl rfl rfl rfl rfl rfl rfl rfl rfl rfl rfl))

theorem wf_escEntry {b : Nat} {c : Nat} {p : Nat} {lvl : Nat} {m : Mach} (h : m.wf = true) : (Mach.escEntry b c p lvl m).wf = true := by
  unfold Mach.escEntry
  try dsimp only
  repeat' first | (with_reducible assumption) | (with_reducible apply wf_entry)

theorem wf_escOne {b : Nat} {c : Nat} {p : Nat} {m : Mach} (h : m.wf = true) : (Mach.escOne b c p m).wf = true := by
  unfold Mach.escOne
  try dsimp only
  repeat' first | (with_reducible assumption) | (with_reducible apply wf_escEntry) | (with_reducible apply wf_setLine) | (intro _) | split

theorem wf_escExpire {b : Nat} {c : Nat} {p : Nat} {m : Mach} (h : m.wf = true) : (Mach.escExpire b c p m).wf = true := by
  unfold Mach.escExpire
  try dsimp only
  repeat' first | (with_reducible assumption) | (with_reducible apply wf_setLine) | (with_reducible apply wf_advNow)
                | (with_reducible apply wf_escOne) | (with_reducible apply wf_foldl) | (with_reducible apply wf_foldl_fst)
                | (refine wf_fst ?_ (by assumption)) | (refine wf_snd ?_ (by assumption)) | (intro _) | split

theorem wf_ackDo {b : Nat} {c : Nat} {p : Nat} {m : Mach} (h : m.wf = true) : (Mach.ackDo b c p m).wf = true := by
  unfold Mach.ackDo
  try dsimp only
  repeat' first | (with_reducible assumption) | (with_reducible apply wf_setReg) | (with_reducible apply wf_put) | (with_reducible apply wf_setLine)

theorem wf_ackLine {b : Nat} {c : Nat} {p : Nat} {m : Mach} (h : m.wf = true) : (Mach.ackLine b c p m).wf = true := by
  unfold Mach.ackLine
  try dsimp only
  repeat' first | (with_reducible assumption) | (with_reducible apply wf_ackDo) | (with_reducible apply wf_escEntry)
                | (with_reducible apply wf_escOne) | (refine wf_fst ?_ (by assumption)) | (refine wf_snd ?_ (by assumption)) | (intro _) | split

theorem wf_ackBits {b : Nat} {p : Nat} {bits : Word} {m : Mach} (h : m.wf = true) : (Mach.ackBits b p bits m).wf = true := by
  unfold Mach.ackBits
  try dsimp only
  repeat' first | (with_reducible assumption) | (with_reducible apply wf_ackLine) | (with_reducible apply wf_forN) | (with_reducible apply wf_applyIf)
                | (intro _)

theorem wf_ackAll {b : Nat} {m : Mach} (h : m.wf = true) : (Mach.ackAll b m).wf = true := by
  unfold Mach.ackAll
  try dsimp only
  repeat' first | (with_reducible assumption) | (with_reducible apply wf_ackBits) | (with_reducible apply wf_forN) | (intro _)

theorem wf_ageRaw {b : Nat} {c : Nat} {p : Nat} {m : Mach} (h : m.wf = true) : (Mach.ageRaw b c p m).wf = true := by
  unfold Mach.ageRaw
  try dsimp only
  repeat' first | (with_reducible assumption) | (with_reducible apply wf_advNow) | (with_reducible apply wf_setRaws)
                | (refine wf_fst ?_ (by assumption)) | (refine wf_snd ?_ (by assumption)) | (intro _) | split

theorem wf_fltCfgChanged {b : Nat} {c : Nat} {old : Word} {new : Word} {m : Mach} (h : m.wf = true) : (Mach.fltCfgChanged b c old new m).wf
    = true := by
  unfold Mach.fltCfgChanged
  try dsimp only
  repeat' first | (with_reducible assumption) | (with_reducible apply wf_setRaws) | (with_reducible apply wf_forN) | (with_reducible apply wf_applyIf)
                | (intro _) | split

theorem wf_clearLines {p : Nat} {m : Mach} (h : m.wf = true) : (Mach.clearLines p m).wf = true :=
  wf_lines h (cwf_cdrop _ _ (wf_parts.1 h).2.2.2.2.1)

theorem wf_markPre {m : Mach} (h : m.wf = true) : (Mach.markPre m).wf = true := by
  unfold Mach.markPre
  try dsimp only
  repeat' first | (with_reducible assumption) | (with_reducible apply wf_setReg) | (with_reducible apply wf_forN) | (intro _) | split

theorem wf_inject {m : Mach} (h : m.wf = true) : (Mach.inject m).wf = true := by
  unfold Mach.inject
  try dsimp only
  repeat' first | (with_reducible assumption) | (with_reducible apply wf_push) | (intro _) | split

theorem wf_setCh {n : Nat} {c : Chan} {m : Mach} (h : m.wf = true) : (Mach.setCh n c m).wf = true :=
  wf_chans h (cwf_cset _ (wf_parts.1 h).2.2.2.2.2.2.2.2.1)

theorem wf_updCh {n : Nat} {f : Chan → Chan} {m : Mach} (h : m.wf = true) : (Mach.updCh n f m).wf = true := by
  unfold Mach.updCh
  try dsimp only
  repeat' first | (with_reducible assumption) | (with_reducible apply wf_setCh)

theorem wf_beginMove {n : Nat} {byEval : Bool} {m : Mach} (h : m.wf = true) : (Mach.beginMove n byEval m).wf = true := by
  unfold Mach.beginMove
  try dsimp only
  repeat' first | (with_reducible assumption) | (with_reducible apply wf_setCh) | (with_reducible apply wf_tput) | (intro _) | split

theorem wf_loadActive {n : Nat} {m : Mach} (h : m.wf = true) : (Mach.loadActive n m).wf = true := by
  unfold Mach.loadActive
  try dsimp only
  repeat' first | (with_reducible assumption) | (with_reducible apply wf_updCh)

theorem wf_chooseFirst {n : Nat} {m : Mach} (h : m.wf = true) : (Mach.chooseFirst n m).wf = true := by
  unfold Mach.chooseFirst
  try dsimp only
  repeat' first | (with_reducible assumption) | (with_reducible apply wf_updCh)

theorem wf_shadowFrom {at' : Nat} {n : Nat} {m : Mach} (h : m.wf = true) : (Mach.shadowFrom at' n m).wf = true := by
  unfold Mach.shadowFrom
  try dsimp only
  repeat' first | (with_reducible assumption) | (with_reducible apply wf_updCh)

theorem wf_toShadow {n : Nat} {m : Mach} (h : m.wf = true) : (Mach.toShadow n m).wf = true := by
  unfold Mach.toShadow
  try dsimp only
  repeat' first | (with_reducible assumption) | (with_reducible apply wf_shadowFrom)

theorem wf_readBack {n : Nat} {m : Mach} (h : m.wf = true) : (Mach.readBack n m).wf = true := by
  unfold Mach.readBack
  try dsimp only
  repeat' first | (with_reducible assumption) | (with_reducible apply wf_tput) | (with_reducible apply wf_updCh)

theorem wf_showCost {n : Nat} {m : Mach} (h : m.wf = true) : (Mach.showCost n m).wf = true := by
  unfold Mach.showCost
  try dsimp only
  repeat' first | (with_reducible assumption) | (with_reducible apply wf_tput)

theorem wf_recharge {n : Nat} {m : Mach} (h : m.wf = true) : (Mach.recharge n m).wf = true := by
  unfold Mach.recharge
  try dsimp only
  repeat' first | (with_reducible assumption) | (with_reducible apply wf_showCost) | (with_reducible apply wf_updCh) | (with_reducible apply wf_put)

theorem wf_pushOnce {w : Work} {m : Mach} (h : m.wf = true) : (Mach.pushOnce w m).wf = true := by
  unfold Mach.pushOnce
  try dsimp only
  repeat' first | (with_reducible assumption) | (with_reducible apply wf_push) | (intro _) | split

theorem wf_carry {g : Nat} {n : Nat} {m : Mach} (h : m.wf = true) : (Mach.carry g n m).wf = true := by
  unfold Mach.carry
  try dsimp only
  repeat' first | (with_reducible assumption) | (with_reducible apply wf_tput)

theorem wf_unmember {n : Nat} {m : Mach} (h : m.wf = true) : (Mach.unmember n m).wf = true := by
  unfold Mach.unmember
  try dsimp only
  repeat' first | (with_reducible assumption) | (with_reducible apply wf_setTw)

theorem wf_admission {g : Nat} {m : Mach} (h : m.wf = true) : (Mach.admission g m).wf = true := by
  unfold Mach.admission
  try dsimp only
  repeat' first | (with_reducible assumption) | (with_reducible apply wf_put) | (with_reducible apply wf_unmember) | (with_reducible apply wf_tput)
                | (with_reducible apply wf_carry) | (with_reducible apply wf_grpEvt) | (with_reducible apply wf_pushOnce)
                | (with_reducible apply wf_foldl) | (intro _) | split

theorem wf_placeMember {g : Nat} {at' : Nat} {n : Nat} {r : Nat} {target : Nat} {m : Mach} (h : m.wf = true) : (Mach.placeMember g at' n r
    target m).wf = true := by
  unfold Mach.placeMember
  try dsimp only
  repeat' first | (with_reducible assumption) | (with_reducible apply wf_tput) | (with_reducible apply wf_carry)
                | (with_reducible apply wf_loadActive) | (with_reducible apply wf_chooseFirst) | (with_reducible apply wf_recharge)
                | (with_reducible apply wf_shadowFrom) | (with_reducible apply wf_updCh) | (refine wf_fst ?_ (by assumption))
                | (refine wf_snd ?_ (by assumption)) | (intro _) | split

theorem wf_respreadCheck {g : Nat} {m : Mach} (h : m.wf = true) : (Mach.respreadCheck g m).wf = true := by
  unfold Mach.respreadCheck
  try dsimp only
  repeat' first | (with_reducible assumption) | (with_reducible apply wf_put) | (with_reducible apply wf_grpEvt) | (with_reducible apply wf_raise)
                | (intro _) | split

theorem wf_takeRsp {g : Nat} {m : Mach} (h : m.wf = true) : (Mach.takeRsp g m).wf = true := by
  unfold Mach.takeRsp
  try dsimp only
  repeat' first | (with_reducible assumption) | (with_reducible apply wf_setGrp)

theorem wf_evaluateFrom {g : Nat} {at' : Nat} {s : Mach} (h : s.wf = true) : (Mach.evaluateFrom g at' s).wf = true := by
  unfold Mach.evaluateFrom
  try dsimp only
  repeat' first | (with_reducible assumption) | (with_reducible apply wf_takeRsp) | (with_reducible apply wf_tput) | (with_reducible apply wf_put)
                | (with_reducible apply wf_placeMember) | (with_reducible apply wf_setGrp) | (with_reducible apply wf_respreadCheck)
                | (with_reducible apply wf_foldl) | (with_reducible apply wf_foldl_fst) | (refine wf_fst ?_ (by assumption))
                | (refine wf_snd ?_ (by assumption)) | (intro _) | split

theorem wf_evaluate {g : Nat} {m : Mach} (h : m.wf = true) : (Mach.evaluate g m).wf = true := by
  unfold Mach.evaluate
  try dsimp only
  repeat' first | (with_reducible assumption) | (with_reducible apply wf_evaluateFrom)

theorem wf_moverDone {n : Nat} {periods : Nat} {m : Mach} (h : m.wf = true) : (Mach.moverDone n periods m).wf = true := by
  unfold Mach.moverDone
  try dsimp only
  repeat' first | (with_reducible assumption) | (with_reducible apply wf_setGrp) | (with_reducible apply wf_respreadCheck) | (intro _) | split

theorem wf_joinCounted {n : Nat} {m : Mach} (h : m.wf = true) : (Mach.joinCounted n m).wf = true := by
  unfold Mach.joinCounted
  try dsimp only
  repeat' first | (with_reducible assumption) | (with_reducible apply wf_grpEvt) | (with_reducible apply wf_setGrp) | (with_reducible apply wf_put)
                | (with_reducible apply wf_tput) | (with_reducible apply wf_carry) | (with_reducible apply wf_evaluate)
                | (refine wf_fst ?_ (by assumption)) | (refine wf_snd ?_ (by assumption)) | (intro _) | split

theorem wf_leaveCounted {n : Nat} {m : Mach} (h : m.wf = true) : (Mach.leaveCounted n m).wf = true := by
  unfold Mach.leaveCounted
  try dsimp only
  repeat' first | (with_reducible assumption) | (with_reducible apply wf_tput) | (with_reducible apply wf_grpEvt) | (with_reducible apply wf_pushOnce)
                | (with_reducible apply wf_setGrp) | (with_reducible apply wf_put) | (intro _) | split

theorem wf_grpStopped {n : Nat} {m : Mach} (h : m.wf = true) : (Mach.grpStopped n m).wf = true := by
  unfold Mach.grpStopped
  try dsimp only
  repeat' first | (with_reducible assumption) | (with_reducible apply wf_leaveCounted) | (with_reducible apply wf_respreadCheck)
                | (with_reducible apply wf_admission) | (intro _) | split

theorem wf_holdExpire {g : Nat} {s : Mach} (h : s.wf = true) : (Mach.holdExpire g s).wf = true := by
  unfold Mach.holdExpire
  try dsimp only
  repeat' first | (with_reducible assumption) | (with_reducible apply wf_advTo) | (with_reducible apply wf_setGrp) | (with_reducible apply wf_put)
                | (with_reducible apply wf_pushOnce) | (with_reducible apply wf_foldl) | (with_reducible apply wf_foldl_fst)
                | (refine wf_fst ?_ (by assumption)) | (refine wf_snd ?_ (by assumption)) | (intro _) | split

theorem wf_grpDisable {g : Nat} {m : Mach} (h : m.wf = true) : (Mach.grpDisable g m).wf = true := by
  unfold Mach.grpDisable
  try dsimp only
  repeat' first | (with_reducible assumption) | (with_reducible apply wf_setGrp) | (with_reducible apply wf_put) | (with_reducible apply wf_tput)
                | (with_reducible apply wf_forN) | (with_reducible apply wf_applyIf) | (intro _)

theorem wf_basefHook {g : Nat} {old : Word} {new : Word} {m : Mach} (h : m.wf = true) : (Mach.basefHook g old new m).wf = true := by
  unfold Mach.basefHook
  try dsimp only
  repeat' first | (with_reducible assumption) | (with_reducible apply wf_put) | (with_reducible apply wf_grpQueue) | (with_reducible apply wf_push)
                | (with_reducible apply wf_grpEvt) | (intro _) | split

theorem wf_grpCfgHook {g : Nat} {old : Word} {new : Word} {m : Mach} (h : m.wf = true) : (Mach.grpCfgHook g old new m).wf = true := by
  unfold Mach.grpCfgHook
  try dsimp only
  repeat' first | (with_reducible assumption) | (with_reducible apply wf_put) | (with_reducible apply wf_push) | (with_reducible apply wf_basefHook)
                | (with_reducible apply wf_grpDisable) | (refine wf_fst ?_ (by assumption)) | (refine wf_snd ?_ (by assumption)) | (intro _) | split

theorem wf_grpWordHook {addr : Nat} {m : Mach} (h : m.wf = true) : (Mach.grpWordHook addr m).wf = true := by
  unfold Mach.grpWordHook
  try dsimp only
  repeat' first | (with_reducible assumption) | (with_reducible apply wf_admission) | (with_reducible apply wf_carry)
                | (with_reducible apply wf_pushOnce) | (with_reducible apply wf_grpEvt) | (with_reducible apply wf_forN)
                | (with_reducible apply wf_applyIf) | (intro _) | split

theorem wf_chGrpHook {n : Nat} {old : Word} {new : Word} {m : Mach} (h : m.wf = true) : (Mach.chGrpHook n old new m).wf = true := by
  unfold Mach.chGrpHook
  try dsimp only
  repeat' first | (with_reducible assumption) | (with_reducible apply wf_unmember) | (with_reducible apply wf_admission)
                | (with_reducible apply wf_grpEvt) | (with_reducible apply wf_pushOnce) | (intro _) | split

theorem wf_grpGate {w : Who} {e : Nat × Word} {m : Mach} (h : m.wf = true) : (Mach.grpGate w e m).wf = true := by
  unfold Mach.grpGate
  try dsimp only
  repeat' first | (with_reducible assumption) | (with_reducible apply wf_cfgIgn) | (with_reducible apply wf_cfgChanged)
                | (with_reducible apply wf_elim) | (refine wf_fst ?_ (by assumption)) | (refine wf_snd ?_ (by assumption)) | (intro _) | split

theorem wf_grpApply {ok : Bool} {w : Who} {e : Nat × Word} {s : Mach} (h : s.wf = true) : (Mach.grpApply ok w e s).wf = true := by
  unfold Mach.grpApply
  try dsimp only
  repeat' first | (with_reducible assumption) | (with_reducible apply wf_grpGate) | (with_reducible apply wf_setReg) | (with_reducible apply wf_put)
                | (with_reducible apply wf_grpCfgHook) | (refine wf_fst ?_ (by assumption)) | (refine wf_snd ?_ (by assumption)) | (intro _) | split

theorem wf_liveFrom {at' : Nat} {n : Nat} {m : Mach} (h : m.wf = true) : (Mach.liveFrom at' n m).wf = true := by
  unfold Mach.liveFrom
  try dsimp only
  repeat' first | (with_reducible assumption) | (with_reducible apply wf_pushOnce) | (with_reducible apply wf_shadowFrom)
                | (refine wf_fst ?_ (by assumption)) | (refine wf_snd ?_ (by assumption)) | (intro _) | split

theorem wf_epochWord {w : Who} {port : Port} {e : Staged} {m : Mach} (h : m.wf = true) : (Mach.epochWord w port e m).wf = true := by
  unfold Mach.epochWord
  try dsimp only
  repeat' first | (with_reducible assumption) | (with_reducible apply wf_tblWrite) | (with_reducible apply wf_liveFrom) | (intro _) | split
                | (fail_if_no_progress (with_reducible refine wf_mk ?_ rfl rfl rfl rfl rfl rfl rfl rfl rfl rfl rfl))

theorem wf_takeCommit {g : Nat} {m : Mach} (h : m.wf = true) : (Mach.takeCommit g m).wf = true :=
  by
  unfold Mach.takeCommit
  extract_lets q b w port locked tbl words last ok regs m0 m1 m2 m3 m4
  have h0 : m0.wf = true := wf_setGrp h
  clear_value m0
  have h1 : m1.wf = true := wf_ite h0 (wf_spent h0)
  clear_value m1
  have h2 : m2.wf = true := wf_foldl (fun t e ht => wf_grpApply ht) _ (wf_ite h1 (wf_spent h1))
  clear_value m2
  have h3 : m3.wf = true := wf_forN (fun i t ht => wf_applyIf (fun u hu => wf_carry hu) ht) _ (wf_admission h2)
  clear_value m3
  have h4 : m4.wf = true := wf_foldl (fun t n ht => wf_foldl (fun u e hu => wf_epochWord hu) _ ht) _ h3
  clear_value m4
  exact wf_grpEvt (wf_ite (wf_evaluateFrom (wf_mk h4 rfl rfl rfl rfl rfl rfl rfl rfl rfl rfl rfl)) h4)

theorem wf_groupEpoch {g : Nat} {m : Mach} (h : m.wf = true) : (Mach.groupEpoch g m).wf = true := by
  unfold Mach.groupEpoch
  try dsimp only
  repeat' first | (with_reducible assumption) | (with_reducible apply wf_advTo) | (with_reducible apply wf_takeCommit)
                | (with_reducible apply wf_applyIf) | (intro _) | split

theorem wf_grpLockHook {w : Who} {a : Acc} {g : Nat} {d : Word} {m : Mach} (h : m.wf = true) : (Mach.grpLockHook w a g d m).wf = true := by
  unfold Mach.grpLockHook
  try dsimp only
  repeat' first | (with_reducible assumption) | (with_reducible apply wf_setGrp) | (with_reducible apply wf_takeCommit) | (intro _) | split

theorem wf_grpLockFree {g : Nat} {why : Nat} {m : Mach} (h : m.wf = true) : (Mach.grpLockFree g why m).wf = true := by
  unfold Mach.grpLockFree
  try dsimp only
  repeat' first | (with_reducible assumption) | (with_reducible apply wf_setGrp) | (with_reducible apply wf_put) | (with_reducible apply wf_event)
                | (with_reducible apply wf_grpEvt) | (with_reducible apply wf_foldl) | (intro _) | split

theorem wf_grpLockTimeout {g : Nat} {s : Mach} (h : s.wf = true) : (Mach.grpLockTimeout g s).wf = true := by
  unfold Mach.grpLockTimeout
  try dsimp only
  repeat' first | (with_reducible assumption) | (with_reducible apply wf_advReg) | (with_reducible apply wf_setGrp) | (with_reducible apply wf_put)
                | (with_reducible apply wf_grpEvt) | (with_reducible apply wf_raise) | (refine wf_fst ?_ (by assumption))
                | (refine wf_snd ?_ (by assumption)) | (intro _) | split

theorem wf_freeLocks {p : Nat} {why : Nat} {m : Mach} (h : m.wf = true) : (Mach.freeLocks p why m).wf = true := by
  unfold Mach.freeLocks
  try dsimp only
  repeat' first | (with_reducible assumption) | (with_reducible apply wf_winFree) | (with_reducible apply wf_grpLockFree)
                | (with_reducible apply wf_forN) | (with_reducible apply wf_applyIf) | (intro _) | split

theorem wf_showWaiting {p : Nat} {m : Mach} (h : m.wf = true) : (Mach.showWaiting p m).wf = true := by
  unfold Mach.showWaiting
  try dsimp only
  repeat' first | (with_reducible assumption) | (with_reducible apply wf_put)

theorem wf_withdraw {n : Nat} {m : Mach} (h : m.wf = true) : (Mach.withdraw n m).wf = true := by
  unfold Mach.withdraw
  try dsimp only
  repeat' first | (with_reducible assumption) | (with_reducible apply wf_tput) | (with_reducible apply wf_updCh)
                | (with_reducible apply wf_showWaiting) | (intro _) | split

theorem wf_withdrawAll {m : Mach} (h : m.wf = true) : (Mach.withdrawAll m).wf = true := by
  unfold Mach.withdrawAll
  try dsimp only
  repeat' first | (with_reducible assumption) | (with_reducible apply wf_withdraw) | (with_reducible apply wf_forN)

theorem wf_immobRefuse {n : Nat} {m : Mach} (h : m.wf = true) : (Mach.immobRefuse n m).wf = true := by
  unfold Mach.immobRefuse
  try dsimp only
  repeat' first | (with_reducible assumption) | (with_reducible apply wf_raise) | (with_reducible apply wf_updCh) | (with_reducible apply wf_ledger)
                | (intro _) | split

theorem wf_immobRefresh {m : Mach} (h : m.wf = true) : (Mach.immobRefresh m).wf = true := by
  unfold Mach.immobRefresh
  try dsimp only
  repeat' first | (with_reducible assumption) | (with_reducible apply wf_updCh) | (with_reducible apply wf_forN) | (with_reducible apply wf_applyIf)
                | (intro _)

theorem wf_startRej {n : Nat} {v : Nat × Option Nat} {m : Mach} (h : m.wf = true) : (Mach.startRej n v m).wf = true := by
  unfold Mach.startRej
  try dsimp only
  repeat' first | (with_reducible assumption) | (with_reducible apply wf_tput) | (with_reducible apply wf_immobRefuse)
                | (with_reducible apply wf_chEvt) | (intro _) | split

theorem wf_setState {n : Nat} {v : Nat} {m : Mach} (h : m.wf = true) : (Mach.setState n v m).wf = true := by
  unfold Mach.setState
  try dsimp only
  repeat' first | (with_reducible assumption) | (with_reducible apply wf_tput) | (intro _) | split

theorem wf_submit {n : Nat} {src : StartSrc} {m : Mach} (h : m.wf = true) : (Mach.submit n src m).1.wf = true := by
  unfold Mach.submit
  try dsimp only
  repeat' first | (with_reducible assumption) | (with_reducible apply wf_startRej) | (with_reducible apply wf_rebuild)
                | (with_reducible apply wf_tput) | (with_reducible apply wf_updCh) | (with_reducible apply wf_showCost)
                | (with_reducible apply wf_showWaiting) | (with_reducible apply wf_setState) | (with_reducible apply wf_chEvt)
                | (refine wf_fst ?_ (by assumption)) | (refine wf_snd ?_ (by assumption)) | (intro _) | split
                | (fail_if_no_progress (with_reducible refine wf_mk ?_ rfl rfl rfl rfl rfl rfl rfl rfl rfl rfl rfl))

theorem wf_trimHold {m : Mach} (h : m.wf = true) : (Mach.trimHold m).wf = true := by
  unfold Mach.trimHold
  try dsimp only
  repeat' first | (with_reducible assumption) | (with_reducible apply wf_put) | (with_reducible apply wf_forN) | (with_reducible apply wf_applyIf)
                | (intro _)

theorem wf_enterStarting {n : Nat} {m : Mach} (h : m.wf = true) : (Mach.enterStarting n m).wf = true := by
  unfold Mach.enterStarting
  try dsimp only
  repeat' first | (with_reducible assumption) | (with_reducible apply wf_withdraw) | (with_reducible apply wf_showCost)
                | (with_reducible apply wf_updCh) | (with_reducible apply wf_put) | (with_reducible apply wf_setState)
                | (with_reducible apply wf_tput) | (with_reducible apply wf_joinCounted) | (with_reducible apply wf_loadActive)
                | (with_reducible apply wf_chooseFirst) | (intro _) | split

theorem wf_firstEdge {n : Nat} {m : Mach} (h : m.wf = true) : (Mach.firstEdge n m).wf = true := by
  unfold Mach.firstEdge
  try dsimp only
  repeat' first | (with_reducible assumption) | (with_reducible apply wf_advTo) | (with_reducible apply wf_setState) | (with_reducible apply wf_chEvt)
                | (with_reducible apply wf_tput) | (intro _) | split

theorem wf_gateNow {n : Nat} {m : Mach} (h : m.wf = true) : (Mach.gateNow n m).wf = true := by
  unfold Mach.gateNow
  try dsimp only
  repeat' first | (with_reducible assumption) | (with_reducible apply wf_tput) | (with_reducible apply wf_updCh)

theorem wf_gateSettle {n : Nat} {m : Mach} (h : m.wf = true) : (Mach.gateSettle n m).wf = true := by
  unfold Mach.gateSettle
  try dsimp only
  repeat' first | (with_reducible assumption) | (with_reducible apply wf_gateNow) | (with_reducible apply wf_tput) | (with_reducible apply wf_updCh)
                | (intro _) | split

theorem wf_enterStopped {n : Nat} {extra : Nat} {m : Mach} (h : m.wf = true) : (Mach.enterStopped n extra m).wf = true := by
  unfold Mach.enterStopped
  try dsimp only
  repeat' first | (with_reducible assumption) | (with_reducible apply wf_tput) | (with_reducible apply wf_setState) | (with_reducible apply wf_updCh)
                | (with_reducible apply wf_setCh) | (with_reducible apply wf_put) | (with_reducible apply wf_chEvt) | (with_reducible apply wf_push)
                | (intro _) | split

theorem wf_parkNow {n : Nat} {cause : Nat} {extra : Nat} {m : Mach} (h : m.wf = true) : (Mach.parkNow n cause extra m).wf = true := by
  unfold Mach.parkNow
  try dsimp only
  repeat' first | (with_reducible assumption) | (with_reducible apply wf_tput) | (with_reducible apply wf_enterStopped) | (intro _) | split

theorem wf_stop {n : Nat} {cause : Nat} {nonRes : Bool} {m : Mach} (h : m.wf = true) : (Mach.stop n cause nonRes m).wf = true := by
  unfold Mach.stop
  try dsimp only
  repeat' first | (with_reducible assumption) | (with_reducible apply wf_withdraw) | (with_reducible apply wf_tput)
                | (with_reducible apply wf_enterStopped) | (with_reducible apply wf_gateSettle) | (with_reducible apply wf_updCh)
                | (with_reducible apply wf_setCh) | (with_reducible apply wf_setState) | (refine wf_fst ?_ (by assumption))
                | (refine wf_snd ?_ (by assumption)) | (intro _) | split

theorem wf_cleanStopEnd {n : Nat} {m : Mach} (h : m.wf = true) : (Mach.cleanStopEnd n m).wf = true := by
  unfold Mach.cleanStopEnd
  try dsimp only
  repeat' first | (with_reducible assumption) | (with_reducible apply wf_advTo) | (with_reducible apply wf_enterStopped) | (intro _) | split

theorem wf_forceStop {n : Nat} {m : Mach} (h : m.wf = true) : (Mach.forceStop n m).wf = true := by
  unfold Mach.forceStop
  try dsimp only
  repeat' first | (with_reducible assumption) | (with_reducible apply wf_raise) | (with_reducible apply wf_parkNow) | (intro _) | split

theorem wf_stopWatchdog {n : Nat} {m : Mach} (h : m.wf = true) : (Mach.stopWatchdog n m).wf = true := by
  unfold Mach.stopWatchdog
  try dsimp only
  repeat' first | (with_reducible assumption) | (with_reducible apply wf_advTo) | (with_reducible apply wf_forceStop) | (intro _) | split

theorem wf_burstLast {n : Nat} {m : Mach} (h : m.wf = true) : (Mach.burstLast n m).wf = true := by
  unfold Mach.burstLast
  try dsimp only
  repeat' first | (with_reducible assumption) | (with_reducible apply wf_advTo) | (with_reducible apply wf_setState) | (with_reducible apply wf_tput)
                | (with_reducible apply wf_setCh) | (intro _) | split

theorem wf_trig {n : Nat} {m : Mach} (h : m.wf = true) : (Mach.trig n m).wf = true := by
  unfold Mach.trig
  try dsimp only
  repeat' first | (with_reducible assumption) | (with_reducible apply wf_startRej) | (with_reducible apply wf_gateSettle)
                | (with_reducible apply wf_setCh) | (with_reducible apply wf_tput) | (with_reducible apply wf_chEvt)
                | (refine wf_fst ?_ (by assumption)) | (refine wf_snd ?_ (by assumption)) | (intro _) | split

theorem wf_resync {n : Nat} {m : Mach} (h : m.wf = true) : (Mach.resync n m).wf = true := by
  unfold Mach.resync
  try dsimp only
  repeat' first | (with_reducible assumption) | (with_reducible apply wf_startRej) | (with_reducible apply wf_gateSettle)
                | (with_reducible apply wf_setCh) | (with_reducible apply wf_tput) | (with_reducible apply wf_chEvt)
                | (with_reducible apply wf_moverDone) | (intro _) | split

theorem wf_liveReject {n : Nat} {c : Nat} {m : Mach} (h : m.wf = true) : (Mach.liveReject n c m).wf = true := by
  unfold Mach.liveReject
  try dsimp only
  repeat' first | (with_reducible assumption) | (with_reducible apply wf_readBack) | (with_reducible apply wf_tput) | (with_reducible apply wf_chEvt)

theorem wf_adoptStarting {n : Nat} {m : Mach} (h : m.wf = true) : (Mach.adoptStarting n m).wf = true := by
  unfold Mach.adoptStarting
  try dsimp only
  repeat' first | (with_reducible assumption) | (with_reducible apply wf_liveReject) | (with_reducible apply wf_loadActive)
                | (with_reducible apply wf_chooseFirst) | (with_reducible apply wf_recharge) | (refine wf_fst ?_ (by assumption))
                | (refine wf_snd ?_ (by assumption)) | (intro _) | split

theorem wf_adoptSet {n : Nat} {m : Mach} (h : m.wf = true) : (Mach.adoptSet n m).wf = true := by
  unfold Mach.adoptSet
  try dsimp only
  repeat' first | (with_reducible assumption) | (with_reducible apply wf_liveReject) | (with_reducible apply wf_loadActive)
                | (with_reducible apply wf_recharge) | (refine wf_fst ?_ (by assumption)) | (refine wf_snd ?_ (by assumption)) | (intro _) | split

theorem wf_shotUpdate {n : Nat} {t : Nat} {m : Mach} (h : m.wf = true) : (Mach.shotUpdate n t m).wf = true := by
  unfold Mach.shotUpdate
  try dsimp only
  repeat' first | (with_reducible assumption) | (with_reducible apply wf_updCh) | (with_reducible apply wf_adoptSet)

theorem wf_edgeUpdate {n : Nat} {t : Nat} {m : Mach} (h : m.wf = true) : (Mach.edgeUpdate n t m).wf = true := by
  unfold Mach.edgeUpdate
  extract_lets c fail per ref m1 m2 m3 m4
  have h1 : m1.wf = true := wf_ite (wf_setCh h) (wf_setCh h)
  clear_value m1
  have h2 : m2.wf = true := wf_ite h1 (wf_ite (wf_adoptSet h1) (wf_recharge (wf_loadActive h1)))
  clear_value m2
  have h3 : m3.wf = true := wf_beginMove h2
  clear_value m3
  have h4 : m4.wf = true := wf_ite (wf_updCh h3) h3
  exact wf_ite h2 (wf_ite h4 (wf_moverDone h4))

theorem wf_updatePoint {n : Nat} {m : Mach} (h : m.wf = true) : (Mach.updatePoint n m).wf = true :=
  by
  unfold Mach.updatePoint
  extract_lets c st t m1
  have h1 : m1.wf = true := wf_gateSettle (wf_advTo h)
  exact wf_ite h (wf_ite (wf_shotUpdate h1) (wf_edgeUpdate h1))

theorem wf_phaseMoveDone {n : Nat} {m : Mach} (h : m.wf = true) : (Mach.phaseMoveDone n m).wf = true := by
  unfold Mach.phaseMoveDone
  try dsimp only
  repeat' first | (with_reducible assumption) | (with_reducible apply wf_advTo) | (with_reducible apply wf_gateSettle)
                | (with_reducible apply wf_setCh) | (with_reducible apply wf_tput) | (with_reducible apply wf_chEvt)
                | (with_reducible apply wf_moverDone) | (intro _) | split

theorem wf_gridShift {n : Nat} {g0 : Nat} {d : Int} {m : Mach} (h : m.wf = true) : (Mach.gridShift n g0 d m).wf = true := by
  unfold Mach.gridShift
  try dsimp only
  repeat' first | (with_reducible assumption) | (with_reducible apply wf_setCh) | (intro _) | split

theorem wf_gridLoad {g : Nat} {m : Mach} (h : m.wf = true) : (Mach.gridLoad g m).wf = true := by
  unfold Mach.gridLoad
  try dsimp only
  repeat' first | (with_reducible assumption) | (with_reducible apply wf_updCh) | (with_reducible apply wf_gateSettle)
                | (with_reducible apply wf_setGrp) | (with_reducible apply wf_chooseFirst) | (with_reducible apply wf_gridShift)
                | (with_reducible apply wf_forN) | (with_reducible apply wf_applyIf) | (refine wf_fst ?_ (by assumption))
                | (refine wf_snd ?_ (by assumption)) | (intro _) | split
                | (fail_if_no_progress (with_reducible refine wf_mk ?_ rfl rfl rfl rfl rfl rfl rfl rfl rfl rfl rfl))

theorem wf_chTriggers {n : Nat} {d : Word} {m : Mach} (h : m.wf = true) : (Mach.chTriggers n d m).wf = true := by
  unfold Mach.chTriggers
  try dsimp only
  repeat' first | (with_reducible assumption) | (with_reducible apply wf_submit) | (with_reducible apply wf_startRej) | (with_reducible apply wf_stop)
                | (with_reducible apply wf_trig) | (with_reducible apply wf_resync) | (refine wf_fst ?_ (by assumption))
                | (refine wf_snd ?_ (by assumption)) | (intro _) | split

theorem wf_liveWord {n : Nat} {m : Mach} (h : m.wf = true) : (Mach.liveWord n m).wf = true := by
  unfold Mach.liveWord
  try dsimp only
  repeat' first | (with_reducible assumption) | (with_reducible apply wf_liveFrom)

theorem wf_engCheck {e : Nat} {c1 : Nat} {c2 : Nat} {m : Mach} (h : m.wf = true) : (Mach.engCheck e c1 c2 m).wf = true := by
  unfold Mach.engCheck
  try dsimp only
  repeat' first | (with_reducible assumption) | (with_reducible apply wf_tput) | (with_reducible apply wf_raise) | (intro _) | split

theorem wf_selfchkRestore {e : Nat} {m : Mach} (h : m.wf = true) : (Mach.selfchkRestore e m).wf = true := by
  unfold Mach.selfchkRestore
  try dsimp only
  repeat' first | (with_reducible assumption) | (with_reducible apply wf_tput) | (intro _) | split

theorem wf_showBudget {m : Mach} (h : m.wf = true) : (Mach.showBudget m).wf = true := by
  unfold Mach.showBudget
  try dsimp only
  repeat' first | (with_reducible assumption) | (with_reducible apply wf_put) | (with_reducible apply wf_forN) | (intro _)

theorem wf_refreshBudget {m : Mach} (h : m.wf = true) : (Mach.refreshBudget m).wf = true := by
  unfold Mach.refreshBudget
  try dsimp only
  repeat' first | (with_reducible assumption) | (with_reducible apply wf_put) | (with_reducible apply wf_startTimer)
                | (with_reducible apply wf_showBudget)

theorem wf_budgetStale {m : Mach} (h : m.wf = true) : (Mach.budgetStale m).wf = true := by
  unfold Mach.budgetStale
  try dsimp only
  repeat' first | (with_reducible assumption) | (with_reducible apply wf_advNow) | (with_reducible apply wf_put) | (with_reducible apply wf_raise)
                | (with_reducible apply wf_showBudget) | (intro _) | split

theorem wf_budgetWait {n : Nat} {m : Mach} (h : m.wf = true) : (Mach.budgetWait n m).wf = true := by
  unfold Mach.budgetWait
  try dsimp only
  repeat' first | (with_reducible assumption) | (with_reducible apply wf_advNow) | (with_reducible apply wf_updCh) | (with_reducible apply wf_put)
                | (with_reducible apply wf_raise) | (intro _) | split

theorem wf_judgeSensor {temps : List Int} {bad0 : List Nat} {i : Nat} {m : Mach} (h : m.wf = true) : (Mach.judgeSensor temps bad0 i m).wf = true := by
  unfold Mach.judgeSensor
  try dsimp only
  repeat' first | (with_reducible assumption) | (with_reducible apply wf_put) | (with_reducible apply wf_raise) | (intro _) | split
                | (fail_if_no_progress (with_reducible refine wf_mk ?_ rfl rfl rfl rfl rfl rfl rfl rfl rfl rfl rfl))

theorem wf_showSi {m : Mach} (h : m.wf = true) : (Mach.showSi m).wf = true := by
  unfold Mach.showSi
  try dsimp only
  repeat' first | (with_reducible assumption) | (with_reducible apply wf_put)

theorem wf_setStep {s : Nat} {m : Mach} (h : m.wf = true) : (Mach.setStep s m).wf = true := by
  unfold Mach.setStep
  try dsimp only
  repeat' first | (with_reducible assumption) | (with_reducible apply wf_put) | (with_reducible apply wf_showSi) | (with_reducible apply wf_reach)
                | (intro _) | split | (fail_if_no_progress (with_reducible refine wf_mk ?_ rfl rfl rfl rfl rfl rfl rfl rfl rfl rfl rfl))

theorem wf_evalStep {m : Mach} (h : m.wf = true) : (Mach.evalStep m).wf = true := by
  unfold Mach.evalStep
  try dsimp only
  repeat' first | (with_reducible assumption) | (with_reducible apply wf_draw) | (with_reducible apply wf_put) | (with_reducible apply wf_setStep)
                | (with_reducible apply wf_raise) | (refine wf_fst ?_ (by assumption)) | (refine wf_snd ?_ (by assumption)) | (intro _) | split
                | (fail_if_no_progress (with_reducible refine wf_mk ?_ rfl rfl rfl rfl rfl rfl rfl rfl rfl rfl rfl))

theorem wf_tsense {temps : List Int} {m : Mach} (h : m.wf = true) : (Mach.tsense temps m).wf = true := by
  unfold Mach.tsense
  try dsimp only
  repeat' first | (with_reducible assumption) | (with_reducible apply wf_judgeSensor) | (with_reducible apply wf_evalStep)
                | (with_reducible apply wf_forN) | (intro _) | split

theorem wf_shed {n : Nat} {step : Nat} {m : Mach} (h : m.wf = true) : (Mach.shed n step m).wf = true := by
  unfold Mach.shed
  try dsimp only
  repeat' first | (with_reducible assumption) | (with_reducible apply wf_put) | (with_reducible apply wf_raise) | (with_reducible apply wf_stop)

theorem wf_shedClass {c : Nat} {m : Mach} (h : m.wf = true) : (Mach.shedClass c m).wf = true := by
  unfold Mach.shedClass
  try dsimp only
  repeat' first | (with_reducible assumption) | (with_reducible apply wf_shed) | (with_reducible apply wf_foldl) | (intro _)

theorem wf_thermalSheds {m : Mach} (h : m.wf = true) : (Mach.thermalSheds m).wf = true := by
  unfold Mach.thermalSheds
  try dsimp only
  repeat' first | (with_reducible assumption) | (with_reducible apply wf_reach) | (with_reducible apply wf_shedClass) | (with_reducible apply wf_put)
                | (with_reducible apply wf_startTimer) | (with_reducible apply wf_foldl) | (with_reducible apply wf_foldl_fst)
                | (refine wf_fst ?_ (by assumption)) | (refine wf_snd ?_ (by assumption)) | (intro _) | split
                | (fail_if_no_progress (with_reducible refine wf_mk ?_ rfl rfl rfl rfl rfl rfl rfl rfl rfl rfl rfl))

theorem wf_dwellEnd {m : Mach} (h : m.wf = true) : (Mach.dwellEnd m).wf = true := by
  unfold Mach.dwellEnd
  try dsimp only
  repeat' first | (with_reducible assumption) | (with_reducible apply wf_reach) | (with_reducible apply wf_put) | (intro _) | split

theorem wf_budgetSheds {p : Nat} {m : Mach} (h : m.wf = true) : (Mach.budgetSheds p m).wf = true := by
  unfold Mach.budgetSheds
  try dsimp only
  repeat' first | (with_reducible assumption) | (with_reducible apply wf_shed) | (with_reducible apply wf_put) | (with_reducible apply wf_foldl)
                | (intro _) | split

theorem wf_showSlots {m : Mach} (h : m.wf = true) : (Mach.showSlots m).wf = true := by
  unfold Mach.showSlots
  try dsimp only
  repeat' first | (with_reducible assumption) | (with_reducible apply wf_put)

theorem wf_askSlot {a : Activity} {m : Mach} (h : m.wf = true) : (Mach.askSlot a m).wf = true := by
  unfold Mach.askSlot
  try dsimp only
  repeat' first | (with_reducible assumption) | (intro _) | split
                | (fail_if_no_progress (with_reducible refine wf_mk ?_ rfl rfl rfl rfl rfl rfl rfl rfl rfl rfl rfl))

theorem wf_passBegins {g : Nat} {m : Mach} (h : m.wf = true) : (Mach.passBegins g m).wf = true := by
  unfold Mach.passBegins
  try dsimp only
  repeat' first | (with_reducible assumption) | (with_reducible apply wf_warm) | (intro _) | split
                | (fail_if_no_progress (with_reducible refine wf_mk ?_ rfl rfl rfl rfl rfl rfl rfl rfl rfl rfl rfl))

theorem wf_grantSlot {a : Activity} {m : Mach} (h : m.wf = true) : (Mach.grantSlot a m).wf = true := by
  unfold Mach.grantSlot
  try dsimp only
  repeat' first | (with_reducible assumption) | (with_reducible apply wf_startTimer) | (with_reducible apply wf_passBegins)
                | (refine wf_fst ?_ (by assumption)) | (refine wf_snd ?_ (by assumption)) | (intro _) | split

theorem wf_slotPass {m : Mach} (h : m.wf = true) : (Mach.slotPass m).wf = true := by
  unfold Mach.slotPass
  try dsimp only
  repeat' first | (with_reducible assumption) | (with_reducible apply wf_put) | (with_reducible apply wf_showSlots) | (with_reducible apply wf_take)
                | (with_reducible apply wf_grantSlot) | (with_reducible apply wf_foldl) | (with_reducible apply wf_foldl_fst)
                | (refine wf_fst ?_ (by assumption)) | (refine wf_snd ?_ (by assumption)) | (intro _) | split
                | (fail_if_no_progress (with_reducible refine wf_mk ?_ rfl rfl rfl rfl rfl rfl rfl rfl rfl rfl rfl))

theorem wf_slotEnd {a : Activity} {m : Mach} (h : m.wf = true) : (Mach.slotEnd a m).wf = true := by
  unfold Mach.slotEnd
  try dsimp only
  repeat' first | (with_reducible assumption) | (with_reducible apply wf_showSlots) | (intro _) | split
                | (fail_if_no_progress (with_reducible refine wf_mk ?_ rfl rfl rfl rfl rfl rfl rfl rfl rfl rfl rfl))

theorem wf_slotLapse {a : Activity} {m : Mach} (h : m.wf = true) : (Mach.slotLapse a m).wf = true := by
  unfold Mach.slotLapse
  try dsimp only
  repeat' first | (with_reducible assumption) | (with_reducible apply wf_reach) | (with_reducible apply wf_slotEnd)
                | (with_reducible apply wf_askSlot) | (intro _) | split

theorem wf_serveOne {p : Nat} {n : Nat} {m : Mach} (h : m.wf = true) : (Mach.serveOne p n m).1.wf = true := by
  unfold Mach.serveOne
  try dsimp only
  repeat' first | (with_reducible assumption) | (with_reducible apply wf_tput) | (with_reducible apply wf_withdraw)
                | (with_reducible apply wf_startRej) | (with_reducible apply wf_enterStarting) | (intro _) | split

theorem wf_serve {p : Nat} {m : Mach} (h : m.wf = true) : (Mach.serve p m).wf = true :=
  by
  unfold Mach.serve
  extract_lets m1
  have h1 : m1.wf = true := wf_foldl (fun t n ht => wf_ite ht (wf_tput ht)) _ h
  clear_value m1
  refine wf_showWaiting (wf_foldl_fst (s := (m1, true)) (fun t b ht => ?_) _ h1)
  split
  · exact wf_serveOne ht
  · exact ht

theorem wf_govPass {m : Mach} (h : m.wf = true) : (Mach.govPass m).wf = true := by
  unfold Mach.govPass
  try dsimp only
  repeat' first | (with_reducible assumption) | (with_reducible apply wf_showBudget) | (with_reducible apply wf_thermalSheds)
                | (with_reducible apply wf_budgetSheds) | (with_reducible apply wf_showSi) | (with_reducible apply wf_slotPass)
                | (with_reducible apply wf_serve) | (with_reducible apply wf_forN) | (intro _) | split

theorem wf_setVok {k : Nat} {v : Bool} {m : Mach} (h : m.wf = true) : (Mach.setVok k v m).wf = true := by
  unfold Mach.setVok
  try dsimp only
  repeat' first | (with_reducible assumption) | (with_reducible apply wf_setReg)

theorem wf_bankHalt {k : Nat} {m : Mach} (h : m.wf = true) : (Mach.bankHalt k m).wf = true := by
  unfold Mach.bankHalt
  try dsimp only
  repeat' first | (with_reducible assumption) | (with_reducible apply wf_updCh) | (with_reducible apply wf_parkNow) | (with_reducible apply wf_forN)
                | (intro _)

theorem wf_bankRestart {k : Nat} {m : Mach} (h : m.wf = true) : (Mach.bankRestart k m).wf = true := by
  unfold Mach.bankRestart
  try dsimp only
  repeat' first | (with_reducible assumption) | (with_reducible apply wf_updCh) | (with_reducible apply wf_push) | (with_reducible apply wf_forN)
                | (intro _) | split

theorem wf_checkVok {k : Nat} {arrive : Bool} {m : Mach} (h : m.wf = true) : (Mach.checkVok k arrive m).wf = true := by
  unfold Mach.checkVok
  try dsimp only
  repeat' first | (with_reducible assumption) | (with_reducible apply wf_setVok) | (with_reducible apply wf_trimHold)
                | (with_reducible apply wf_bankHalt) | (with_reducible apply wf_raise) | (with_reducible apply wf_bankRestart) | (intro _) | split

theorem wf_parkBegin {n : Nat} {m : Mach} (h : m.wf = true) : (Mach.parkBegin n m).wf = true := by
  unfold Mach.parkBegin
  try dsimp only
  repeat' first | (with_reducible assumption) | (with_reducible apply wf_setCh)

theorem wf_parkOnly {n : Nat} {m : Mach} (h : m.wf = true) : (Mach.parkOnly n m).wf = true := by
  unfold Mach.parkOnly
  try dsimp only
  repeat' first | (with_reducible assumption) | (with_reducible apply wf_updCh) | (intro _) | split

theorem wf_switchFunc {n : Nat} {old : Nat} {m : Mach} (h : m.wf = true) : (Mach.switchFunc n old m).wf = true := by
  unfold Mach.switchFunc
  try dsimp only
  repeat' first | (with_reducible assumption) | (with_reducible apply wf_tput) | (with_reducible apply wf_trimHold) | (with_reducible apply wf_stop)
                | (with_reducible apply wf_setCh) | (with_reducible apply wf_parkBegin) | (intro _) | split

theorem wf_switchStopped {n : Nat} {m : Mach} (h : m.wf = true) : (Mach.switchStopped n m).wf = true := by
  unfold Mach.switchStopped
  try dsimp only
  repeat' first | (with_reducible assumption) | (with_reducible apply wf_parkBegin) | (intro _) | split

theorem wf_gatePin {n : Nat} {m : Mach} (h : m.wf = true) : (Mach.gatePin n m).wf = true := by
  unfold Mach.gatePin
  try dsimp only
  repeat' first | (with_reducible assumption) | (with_reducible apply wf_gateSettle) | (with_reducible apply wf_updCh)
                | (with_reducible apply wf_gateNow) | (intro _) | split

theorem wf_levelFrom {g : Nat} {n : Nat} {m : Mach} (h : m.wf = true) : (Mach.levelFrom g n m).wf = true := by
  unfold Mach.levelFrom
  try dsimp only
  repeat' first | (with_reducible assumption) | (with_reducible apply wf_updCh)

theorem wf_switchEnd {n : Nat} {m : Mach} (h : m.wf = true) : (Mach.switchEnd n m).wf = true := by
  unfold Mach.switchEnd
  try dsimp only
  repeat' first | (with_reducible assumption) | (with_reducible apply wf_updCh) | (with_reducible apply wf_tput) | (with_reducible apply wf_levelFrom)
                | (intro _) | split

theorem wf_releasePin {g : Nat} {n : Nat} {m : Mach} (h : m.wf = true) : (Mach.releasePin g n m).wf = true := by
  unfold Mach.releasePin
  try dsimp only
  repeat' first | (with_reducible assumption) | (with_reducible apply wf_switchEnd) | (with_reducible apply wf_gateSettle)
                | (with_reducible apply wf_updCh) | (with_reducible apply wf_tput) | (with_reducible apply wf_levelFrom) | (intro _) | split

theorem wf_haltAssert {m : Mach} (h : m.wf = true) : (Mach.haltAssert m).wf = true := by
  unfold Mach.haltAssert
  try dsimp only
  repeat' first | (with_reducible assumption) | (with_reducible apply wf_put) | (with_reducible apply wf_gatePin) | (with_reducible apply wf_raise)
                | (with_reducible apply wf_forN) | (intro _) | split

theorem wf_releaseAll {g : Nat} {m : Mach} (h : m.wf = true) : (Mach.releaseAll g m).wf = true := by
  unfold Mach.releaseAll
  try dsimp only
  repeat' first | (with_reducible assumption) | (with_reducible apply wf_releasePin) | (with_reducible apply wf_put) | (with_reducible apply wf_forN)

theorem wf_haltRelease {m : Mach} (h : m.wf = true) : (Mach.haltRelease m).wf = true := by
  unfold Mach.haltRelease
  try dsimp only
  repeat' first | (with_reducible assumption) | (with_reducible apply wf_put) | (with_reducible apply wf_releaseAll) | (intro _) | split

theorem wf_haltClear {m : Mach} (h : m.wf = true) : (Mach.haltClear m).wf = true := by
  unfold Mach.haltClear
  try dsimp only
  repeat' first | (with_reducible assumption) | (with_reducible apply wf_put) | (with_reducible apply wf_releaseAll) | (intro _) | split

theorem wf_cleanGateEffect {n : Nat} {m : Mach} (h : m.wf = true) : (Mach.cleanGateEffect n m).wf = true := by
  unfold Mach.cleanGateEffect
  try dsimp only
  repeat' first | (with_reducible assumption) | (with_reducible apply wf_advTo) | (with_reducible apply wf_gateNow)
                | (refine wf_fst ?_ (by assumption)) | (refine wf_snd ?_ (by assumption)) | (intro _) | split

theorem wf_haltModeHook {i : Nat} {old : Word} {new : Word} {m : Mach} (h : m.wf = true) : (Mach.haltModeHook i old new m).wf = true := by
  unfold Mach.haltModeHook
  try dsimp only
  repeat' first | (with_reducible assumption) | (with_reducible apply wf_releasePin) | (with_reducible apply wf_gatePin)
                | (with_reducible apply wf_gateNow) | (with_reducible apply wf_forN) | (intro _) | split

theorem wf_parkIntervalEnd {n : Nat} {m : Mach} (h : m.wf = true) : (Mach.parkIntervalEnd n m).wf = true := by
  unfold Mach.parkIntervalEnd
  try dsimp only
  repeat' first | (with_reducible assumption) | (with_reducible apply wf_advTo) | (with_reducible apply wf_gatePin) | (with_reducible apply wf_updCh)
                | (with_reducible apply wf_switchEnd) | (intro _) | split

theorem wf_levelHook {n : Nat} {old : Bool} {m : Mach} (h : m.wf = true) : (Mach.levelHook n old m).wf = true := by
  unfold Mach.levelHook
  try dsimp only
  repeat' first | (with_reducible assumption) | (with_reducible apply wf_updCh) | (intro _) | split

theorem wf_unpark {n : Nat} {m : Mach} (h : m.wf = true) : (Mach.unpark n m).wf = true := by
  unfold Mach.unpark
  try dsimp only
  repeat' first | (with_reducible assumption) | (with_reducible apply wf_updCh) | (with_reducible apply wf_levelHook) | (intro _) | split

theorem wf_chPinHook {n : Nat} {d : Word} {old : Word} {new : Word} {m : Mach} (h : m.wf = true) : (Mach.chPinHook n d old new m).wf = true
    := by
  unfold Mach.chPinHook
  try dsimp only
  repeat' first | (with_reducible assumption) | (with_reducible apply wf_updCh) | (with_reducible apply wf_tput) | (with_reducible apply wf_parkOnly)
                | (with_reducible apply wf_levelHook) | (with_reducible apply wf_switchFunc) | (intro _) | split

theorem wf_pgpoHook {k : Nat} {w : Who} {d : Word} {old : Word} {m : Mach} (h : m.wf = true) : (Mach.pgpoHook k w d old m).wf = true := by
  unfold Mach.pgpoHook
  try dsimp only
  repeat' first | (with_reducible assumption) | (with_reducible apply wf_levelHook) | (with_reducible apply wf_updCh) | (with_reducible apply wf_forN) | (with_reducible apply wf_applyIf)
                | (intro _)

theorem wf_route {n : Nat} {k : Nat} {m : Mach} (h : m.wf = true) : (Mach.route n k m).wf = true := by
  unfold Mach.route
  try dsimp only
  repeat' first | (with_reducible assumption) | (with_reducible apply wf_put) | (with_reducible apply wf_tput) | (with_reducible apply wf_parkOnly)

theorem wf_unroute {n : Nat} {m : Mach} (h : m.wf = true) : (Mach.unroute n m).wf = true := by
  unfold Mach.unroute
  try dsimp only
  repeat' first | (with_reducible assumption) | (with_reducible apply wf_setTw) | (with_reducible apply wf_put) | (with_reducible apply wf_setReg)
                | (with_reducible apply wf_tput) | (with_reducible apply wf_parkOnly) | (refine wf_fst ?_ (by assumption))
                | (refine wf_snd ?_ (by assumption)) | (intro _) | split

theorem wf_rootParkAll {m : Mach} (h : m.wf = true) : (Mach.rootParkAll m).wf = true := by
  unfold Mach.rootParkAll
  try dsimp only
  repeat' first | (with_reducible assumption) | (with_reducible apply wf_updCh) | (with_reducible apply wf_forN) | (intro _)

theorem wf_postList {n : Nat} {state : Nat} {cause : Nat} {m : Mach} (h : m.wf = true) : (Mach.postList n state cause m).wf = true := by
  unfold Mach.postList
  try dsimp only
  repeat' first | (with_reducible assumption) | (with_reducible apply wf_postAon) | (intro _) | split

theorem wf_postMark {k : Nat} {v : Bool} {m : Mach} (h : m.wf = true) : (Mach.postMark k v m).wf = true := by
  unfold Mach.postMark
  try dsimp only
  repeat' first | (with_reducible assumption) | (with_reducible apply wf_postAon) | (intro _) | split

theorem wf_listArrive {off : Nat} {old : Word} {new : Word} {m : Mach} (h : m.wf = true) : (Mach.listArrive off old new m).wf = true := by
  unfold Mach.listArrive
  try dsimp only
  repeat' first | (with_reducible assumption) | (with_reducible apply wf_ledger) | (with_reducible apply wf_setAw) | (with_reducible apply wf_forN)
                | (intro _) | split

theorem wf_monRequest {w : Who} {port : Port} {d : Word} {m : Mach} (h : m.wf = true) : (Mach.monRequest w port d m).wf = true := by
  unfold Mach.monRequest
  try dsimp only
  repeat' first | (with_reducible assumption) | (with_reducible apply wf_accErr) | (with_reducible apply wf_put) | (intro _) | split

theorem wf_monAnswer {n : Nat} {m : Mach} (h : m.wf = true) : (Mach.monAnswer n m).wf = true := by
  unfold Mach.monAnswer
  try dsimp only
  repeat' first | (with_reducible assumption) | (with_reducible apply wf_put) | (with_reducible apply wf_forN) | (intro _) | split

theorem wf_keepSeen {n : Nat} {x : Meas} {m : Mach} (h : m.wf = true) : (Mach.keepSeen n x m).wf = true := by
  unfold Mach.keepSeen
  try dsimp only
  repeat' first | (with_reducible assumption) | (with_reducible apply wf_setCh)

theorem wf_raiseChecks {n : Nat} {x : Seen} {fs : List Bool} {m : Mach} (h : m.wf = true) : (Mach.raiseChecks n x fs m).wf = true := by
  unfold Mach.raiseChecks
  try dsimp only
  repeat' first | (with_reducible assumption) | (with_reducible apply wf_raise) | (with_reducible apply wf_applyIf)

theorem wf_trimUpdate {n : Nat} {m : Mach} (h : m.wf = true) : (Mach.trimUpdate n m).wf = true := by
  unfold Mach.trimUpdate
  try dsimp only
  repeat' first | (with_reducible assumption) | (with_reducible apply wf_tput) | (with_reducible apply wf_toShadow) | (intro _) | split

theorem wf_trimSample {n : Nat} {s : Int} {m : Mach} (h : m.wf = true) : (Mach.trimSample n s m).wf = true := by
  unfold Mach.trimSample
  try dsimp only
  repeat' first | (with_reducible assumption) | (with_reducible apply wf_updCh) | (with_reducible apply wf_put) | (with_reducible apply wf_raise)
                | (with_reducible apply wf_trimUpdate) | (intro _) | split

theorem wf_trimVisit {n : Nat} {valid : Bool} {fail : Nat} {x : Seen} {m : Mach} (h : m.wf = true) : (Mach.trimVisit n valid fail x m).wf =
    true := by
  unfold Mach.trimVisit
  try dsimp only
  repeat' first | (with_reducible assumption) | (with_reducible apply wf_put) | (with_reducible apply wf_trimSample)
                | (refine wf_fst ?_ (by assumption)) | (refine wf_snd ?_ (by assumption)) | (intro _) | split

theorem wf_retireFor {n : Nat} {cause : Nat} {m : Mach} (h : m.wf = true) : (Mach.retireFor n cause m).wf = true := by
  unfold Mach.retireFor
  try dsimp only
  repeat' first | (with_reducible assumption) | (with_reducible apply wf_postList) | (with_reducible apply wf_raise)

theorem wf_rebuild {n : Nat} {cause : Nat} {src : StartSrc} {m : Mach} (h : m.wf = true) : (Mach.rebuild n cause src m).wf = true := by
  unfold Mach.rebuild
  try dsimp only
  repeat' first | (with_reducible assumption) | (with_reducible apply wf_retireFor) | (with_reducible apply wf_startRej)
                | (with_reducible apply wf_route) | (with_reducible apply wf_updCh) | (with_reducible apply wf_push)
                | (refine wf_fst ?_ (by assumption)) | (refine wf_snd ?_ (by assumption)) | (intro _) | split

theorem wf_retireStep {n : Nat} {cause : Nat} {src : StartSrc} {m : Mach} (h : m.wf = true) : (Mach.retireStep n cause src m).wf = true := by
  unfold Mach.retireStep
  try dsimp only
  repeat' first | (with_reducible assumption) | (with_reducible apply wf_updCh) | (with_reducible apply wf_put) | (with_reducible apply wf_unroute)
                | (with_reducible apply wf_retireFor) | (with_reducible apply wf_rebuild) | (intro _) | split

theorem wf_markSpare {n : Nat} {m : Mach} (h : m.wf = true) : (Mach.markSpare n m).wf = true := by
  unfold Mach.markSpare
  try dsimp only
  repeat' first | (with_reducible assumption) | (with_reducible apply wf_postMark) | (with_reducible apply wf_elim) | (intro _)

theorem wf_permanent {n : Nat} {cause : Nat} {m : Mach} (h : m.wf = true) : (Mach.permanent n cause m).wf = true := by
  unfold Mach.permanent
  try dsimp only
  repeat' first | (with_reducible assumption) | (with_reducible apply wf_markSpare) | (with_reducible apply wf_updCh) | (with_reducible apply wf_put)
                | (with_reducible apply wf_postList) | (with_reducible apply wf_raise) | (with_reducible apply wf_retireStep)
                | (with_reducible apply wf_stop) | (intro _) | split

theorem wf_monStopped {n : Nat} {m : Mach} (h : m.wf = true) : (Mach.monStopped n m).wf = true := by
  unfold Mach.monStopped
  try dsimp only
  repeat' first | (with_reducible assumption) | (with_reducible apply wf_retireStep) | (with_reducible apply wf_rebuild)
                | (with_reducible apply wf_unroute) | (with_reducible apply wf_put) | (intro _) | split

theorem wf_visitOutcome {n : Nat} {fs : List Bool} {echoMissing : Bool} {m : Mach} (h : m.wf = true) : (Mach.visitOutcome n fs echoMissing
    m).wf = true := by
  unfold Mach.visitOutcome
  try dsimp only
  repeat' first | (with_reducible assumption) | (with_reducible apply wf_updCh) | (with_reducible apply wf_put) | (with_reducible apply wf_postList)
                | (with_reducible apply wf_raise) | (with_reducible apply wf_permanent) | (with_reducible apply wf_resync)
                | (refine wf_fst ?_ (by assumption)) | (refine wf_snd ?_ (by assumption)) | (intro _) | split

theorem wf_monResult {n : Nat} {fail : Nat} {x : Seen} {m : Mach} (h : m.wf = true) : (Mach.monResult n fail x m).wf = true := by
  unfold Mach.monResult
  try dsimp only
  repeat' first | (with_reducible assumption) | (with_reducible apply wf_put) | (with_reducible apply wf_raiseChecks)
                | (with_reducible apply wf_updCh) | (with_reducible apply wf_raise) | (with_reducible apply wf_visitOutcome)
                | (refine wf_fst ?_ (by assumption)) | (refine wf_snd ?_ (by assumption)) | (intro _) | split

theorem wf_monRefuse {n : Nat} {m : Mach} (h : m.wf = true) : (Mach.monRefuse n m).wf = true := by
  unfold Mach.monRefuse
  try dsimp only
  repeat' first | (with_reducible assumption) | (with_reducible apply wf_put) | (with_reducible apply wf_forN) | (intro _) | split

theorem wf_monVisit {n : Nat} {x : Meas} {m : Mach} (h : m.wf = true) : (Mach.monVisit n x m).wf = true := by
  unfold Mach.monVisit
  try dsimp only
  repeat' first | (with_reducible assumption) | (with_reducible apply wf_monRefuse) | (with_reducible apply wf_keepSeen)
                | (with_reducible apply wf_updCh) | (with_reducible apply wf_put) | (with_reducible apply wf_monResult)
                | (with_reducible apply wf_trimVisit) | (with_reducible apply wf_monAnswer) | (intro _) | split

theorem wf_rebuildAtBoot {m : Mach} (h : m.wf = true) : (Mach.rebuildAtBoot m).wf = true := by
  unfold Mach.rebuildAtBoot
  try dsimp only
  repeat' first | (with_reducible assumption) | (with_reducible apply wf_retireFor) | (with_reducible apply wf_route)
                | (with_reducible apply wf_updCh) | (with_reducible apply wf_forN) | (intro _) | split

theorem wf_clearEntry {n : Nat} {m : Mach} (h : m.wf = true) : (Mach.clearEntry n m).1.wf = true := by
  unfold Mach.clearEntry
  try dsimp only
  repeat' first | (with_reducible assumption) | (with_reducible apply wf_updCh) | (with_reducible apply wf_postList) | (with_reducible apply wf_put)
                | (with_reducible apply wf_unroute) | (intro _) | split

theorem wf_retireClear {scope n mask : Nat} {m : Mach} (h : m.wf = true) : (Mach.retireClear scope n mask m).1.wf = true :=
  by
  unfold Mach.retireClear
  dsimp only
  split
  · refine wf_foldl_fst (fun t b ht => ?_) _ h
    split
    · exact wf_postMark ht
    · exact ht
  · refine wf_foldl_fst (fun t b ht => ?_) _ h
    exact wf_clearEntry ht

theorem wf_updPwr {f : Pwr → Pwr} {m : Mach} (h : m.wf = true) : (Mach.updPwr f m).wf = true := by
  unfold Mach.updPwr
  try dsimp only
  repeat' first | (with_reducible assumption) | (intro _) | split
                | (fail_if_no_progress (with_reducible refine wf_mk ?_ rfl rfl rfl rfl rfl rfl rfl rfl rfl rfl rfl))

theorem wf_chargeOn {was : Word} {m : Mach} (h : m.wf = true) : (Mach.chargeOn was m).wf = true := by
  unfold Mach.chargeOn
  try dsimp only
  repeat' first | (with_reducible assumption) | (with_reducible apply wf_put) | (with_reducible apply wf_updPwr) | (intro _) | split

theorem wf_coreReset {cut : Bool} {m : Mach} (h : m.wf = true) : (Mach.coreReset cut m).wf = true :=
  by
  have h1 : (if cut then m else m.markPre).wf = true := by
    split
    · exact h
    · exact wf_markPre h
  unfold Mach.coreReset
  refine wf_chargeOn ?_
  rw [wf_parts] at h1 ⊢
  exact ⟨cwf_filter _ _ h1.1, rfl, h1.2.2.1, rfl, rfl, rfl, rfl, rfl, rfl, cwf_filter _ _ h1.2.2.2.2.2.2.2.2.2.1,
    cwf_filter _ _ h1.2.2.2.2.2.2.2.2.2.2⟩

theorem wf_vokAfterReset {m : Mach} (h : m.wf = true) : (Mach.vokAfterReset m).wf = true := by
  unfold Mach.vokAfterReset
  try dsimp only
  repeat' first | (with_reducible assumption) | (with_reducible apply wf_setVok) | (with_reducible apply wf_forN) | (intro _)

theorem wf_chgClock {s : Nat} {m : Mach} (h : m.wf = true) : (Mach.chgClock s m).wf = true := by
  unfold Mach.chgClock
  try dsimp only
  repeat' first | (with_reducible assumption) | (with_reducible apply wf_updPwr) | (with_reducible apply wf_startTimer)
                | (with_reducible apply wf_stopTimer) | (intro _) | split

theorem wf_setChg {s : Nat} {m : Mach} (h : m.wf = true) : (Mach.setChg s m).wf = true := by
  unfold Mach.setChg
  try dsimp only
  repeat' first | (with_reducible assumption) | (with_reducible apply wf_chgClock) | (with_reducible apply wf_put) | (with_reducible apply wf_draw)
                | (refine wf_fst ?_ (by assumption)) | (refine wf_snd ?_ (by assumption)) | (intro _) | split

theorem wf_vbakRise {m : Mach} (h : m.wf = true) : (Mach.vbakRise m).wf = true := by
  unfold Mach.vbakRise
  try dsimp only
  repeat' first | (with_reducible assumption) | (with_reducible apply wf_put) | (with_reducible apply wf_ledger) | (intro _) | split
                | (fail_if_no_progress (with_reducible refine wf_mk ?_ rfl rfl rfl rfl rfl rfl rfl rfl rfl rfl rfl))

theorem wf_pgMainTrue {m : Mach} (h : m.wf = true) : (Mach.pgMainTrue m).wf = true := by
  unfold Mach.pgMainTrue
  try dsimp only
  repeat' first | (with_reducible assumption) | (with_reducible apply wf_put) | (with_reducible apply wf_coreReset) | (with_reducible apply wf_vokAfterReset)
                | (with_reducible apply wf_ledger) | (intro _) | split
                | (fail_if_no_progress (with_reducible refine wf_mk ?_ rfl rfl rfl rfl rfl rfl rfl rfl rfl rfl rfl))

theorem wf_pgMainLoss {c : MainSupply} {m : Mach} (h : m.wf = true) : (Mach.pgMainLoss c m).wf = true := by
  unfold Mach.pgMainLoss
  try dsimp only
  repeat' first | (with_reducible assumption) | (with_reducible apply wf_setChg) | (with_reducible apply wf_updPwr)
                | (with_reducible apply wf_coreReset) | (with_reducible apply wf_ledger) | (intro _) | split
                | (fail_if_no_progress (with_reducible refine wf_mk ?_ rfl rfl rfl rfl rfl rfl rfl rfl rfl rfl rfl))

theorem wf_vbakLowStart {m : Mach} (h : m.wf = true) : (Mach.vbakLowStart m).wf = true := by
  unfold Mach.vbakLowStart
  try dsimp only
  repeat' first | (with_reducible assumption) | (with_reducible apply wf_ledger) | (with_reducible apply wf_wakeBy) | (with_reducible apply wf_put)
                | (with_reducible apply wf_raise) | (intro _) | split
                | (fail_if_no_progress (with_reducible refine wf_mk ?_ rfl rfl rfl rfl rfl rfl rfl rfl rfl rfl rfl))

theorem wf_vbakLowEnd {m : Mach} (h : m.wf = true) : (Mach.vbakLowEnd m).wf = true := by
  unfold Mach.vbakLowEnd
  try dsimp only
  repeat' first | (with_reducible assumption) | (intro _) | split
                | (fail_if_no_progress (with_reducible refine wf_mk ?_ rfl rfl rfl rfl rfl rfl rfl rfl rfl rfl rfl))

theorem wf_vcoreWarn {m : Mach} (h : m.wf = true) : (Mach.vcoreWarn m).wf = true := by
  unfold Mach.vcoreWarn
  try dsimp only
  repeat' first | (with_reducible assumption) | (with_reducible apply wf_updPwr) | (with_reducible apply wf_put) | (with_reducible apply wf_raise)
                | (intro _) | split

theorem wf_vcoreWarnEnd {m : Mach} (h : m.wf = true) : (Mach.vcoreWarnEnd m).wf = true := by
  unfold Mach.vcoreWarnEnd
  try dsimp only
  repeat' first | (with_reducible assumption) | (intro _) | split
                | (fail_if_no_progress (with_reducible refine wf_mk ?_ rfl rfl rfl rfl rfl rfl rfl rfl rfl rfl rfl))

theorem wf_setClass {k : Nat} {c : Nat} {m : Mach} (h : m.wf = true) : (Mach.setClass k c m).wf = true := by
  unfold Mach.setClass
  try dsimp only
  repeat' first | (with_reducible assumption) | (intro _) | split
                | (fail_if_no_progress (with_reducible refine wf_mk ?_ rfl rfl rfl rfl rfl rfl rfl rfl rfl rfl rfl))

theorem wf_bankStop {k : Nat} {m : Mach} (h : m.wf = true) : (Mach.bankStop k m).wf = true := by
  unfold Mach.bankStop
  try dsimp only
  repeat' first | (with_reducible assumption) | (with_reducible apply wf_updPwr) | (with_reducible apply wf_setClass)
                | (with_reducible apply wf_setVok) | (with_reducible apply wf_put) | (with_reducible apply wf_bankHalt)
                | (with_reducible apply wf_trimHold) | (with_reducible apply wf_raise) | (intro _) | split

theorem wf_bankTimers {k : Nat} {m : Mach} (h : m.wf = true) : (Mach.bankTimers k m).wf = true := by
  unfold Mach.bankTimers
  try dsimp only
  repeat' first | (with_reducible assumption) | (with_reducible apply wf_updPwr) | (with_reducible apply wf_startTimer)

theorem wf_bankRecovery {k : Nat} {m : Mach} (h : m.wf = true) : (Mach.bankRecovery k m).wf = true := by
  unfold Mach.bankRecovery
  try dsimp only
  repeat' first | (with_reducible assumption) | (with_reducible apply wf_bankTimers) | (intro _) | split

theorem wf_vddoRise {k : Nat} {m : Mach} (h : m.wf = true) : (Mach.vddoRise k m).wf = true := by
  unfold Mach.vddoRise
  try dsimp only
  repeat' first | (with_reducible assumption) | (with_reducible apply wf_setClass) | (with_reducible apply wf_bankTimers) | (intro _) | split

theorem wf_bankClassify {k : Nat} {mv : Nat} {m : Mach} (h : m.wf = true) : (Mach.bankClassify k mv m).wf = true := by
  unfold Mach.bankClassify
  try dsimp only
  repeat' first | (with_reducible assumption) | (with_reducible apply wf_reach) | (with_reducible apply wf_updPwr)
                | (with_reducible apply wf_setClass) | (intro _) | split

theorem wf_bankPresent {k : Nat} {m : Mach} (h : m.wf = true) : (Mach.bankPresent k m).wf = true := by
  unfold Mach.bankPresent
  try dsimp only
  repeat' first | (with_reducible assumption) | (with_reducible apply wf_reach) | (with_reducible apply wf_updPwr)
                | (with_reducible apply wf_checkVok) | (with_reducible apply wf_setVok) | (intro _) | split

theorem wf_chgCtlHook {old : Word} {new : Word} {m : Mach} (h : m.wf = true) : (Mach.chgCtlHook old new m).wf = true := by
  unfold Mach.chgCtlHook
  try dsimp only
  repeat' first | (with_reducible assumption) | (with_reducible apply wf_setChg) | (with_reducible apply wf_put) | (intro _) | split

theorem wf_chgPreStart {m : Mach} (h : m.wf = true) : (Mach.chgPreStart m).wf = true := by
  unfold Mach.chgPreStart
  try dsimp only
  repeat' first | (with_reducible assumption) | (with_reducible apply wf_setChg) | (intro _) | split

theorem wf_chgPreEnd {m : Mach} (h : m.wf = true) : (Mach.chgPreEnd m).wf = true := by
  unfold Mach.chgPreEnd
  try dsimp only
  repeat' first | (with_reducible assumption) | (with_reducible apply wf_setChg) | (intro _) | split

theorem wf_chgCv {m : Mach} (h : m.wf = true) : (Mach.chgCv m).wf = true := by
  unfold Mach.chgCv
  try dsimp only
  repeat' first | (with_reducible assumption) | (with_reducible apply wf_setChg) | (intro _) | split

theorem wf_chgTerminate {m : Mach} (h : m.wf = true) : (Mach.chgTerminate m).wf = true := by
  unfold Mach.chgTerminate
  try dsimp only
  repeat' first | (with_reducible assumption) | (with_reducible apply wf_setChg) | (intro _) | split
                | (fail_if_no_progress (with_reducible refine wf_mk ?_ rfl rfl rfl rfl rfl rfl rfl rfl rfl rfl rfl))

theorem wf_chgRecharge {m : Mach} (h : m.wf = true) : (Mach.chgRecharge m).wf = true := by
  unfold Mach.chgRecharge
  try dsimp only
  repeat' first | (with_reducible assumption) | (with_reducible apply wf_setChg) | (intro _) | split

theorem wf_chgPause {m : Mach} (h : m.wf = true) : (Mach.chgPause m).wf = true := by
  unfold Mach.chgPause
  try dsimp only
  repeat' first | (with_reducible assumption) | (with_reducible apply wf_setChg) | (intro _) | split

theorem wf_chgResume {m : Mach} (h : m.wf = true) : (Mach.chgResume m).wf = true := by
  unfold Mach.chgResume
  try dsimp only
  repeat' first | (with_reducible assumption) | (with_reducible apply wf_setChg) | (intro _) | split

theorem wf_chgFault {m : Mach} (h : m.wf = true) : (Mach.chgFault m).wf = true := by
  unfold Mach.chgFault
  try dsimp only
  repeat' first | (with_reducible assumption) | (with_reducible apply wf_advNow) | (with_reducible apply wf_setChg) | (with_reducible apply wf_put)
                | (with_reducible apply wf_raise) | (intro _) | split

theorem wf_chgVauxLoss {m : Mach} (h : m.wf = true) : (Mach.chgVauxLoss m).wf = true := by
  unfold Mach.chgVauxLoss
  try dsimp only
  repeat' first | (with_reducible assumption) | (with_reducible apply wf_setChg)

theorem wf_cellFound {fell : Bool} {m : Mach} (h : m.wf = true) : (Mach.cellFound fell m).wf = true := by
  unfold Mach.cellFound
  try dsimp only
  repeat' first | (with_reducible assumption) | (with_reducible apply wf_put) | (with_reducible apply wf_setChg) | (with_reducible apply wf_ledger)
                | (with_reducible apply wf_raise) | (intro _) | split
                | (fail_if_no_progress (with_reducible refine wf_mk ?_ rfl rfl rfl rfl rfl rfl rfl rfl rfl rfl rfl))

theorem wf_cellCheck {fell : Bool} {m : Mach} (h : m.wf = true) : (Mach.cellCheck fell m).wf = true := by
  unfold Mach.cellCheck
  try dsimp only
  repeat' first | (with_reducible assumption) | (with_reducible apply wf_reach) | (with_reducible apply wf_startTimer)
                | (with_reducible apply wf_cellFound) | (intro _) | split

theorem wf_gaugeHook {d : Word} {m : Mach} (h : m.wf = true) : (Mach.gaugeHook d m).wf = true := by
  unfold Mach.gaugeHook
  try dsimp only
  repeat' first | (with_reducible assumption) | (with_reducible apply wf_updPwr) | (intro _) | split
                | (fail_if_no_progress (with_reducible refine wf_mk ?_ rfl rfl rfl rfl rfl rfl rfl rfl rfl rfl rfl))

theorem wf_woadSecond {net : Int} {m : Mach} (h : m.wf = true) : (Mach.woadSecond net m).wf = true := by
  unfold Mach.woadSecond
  try dsimp only
  repeat' first | (with_reducible assumption) | (with_reducible apply wf_updPwr) | (with_reducible apply wf_take) | (intro _) | split

theorem wf_showReserve {m : Mach} (h : m.wf = true) : (Mach.showReserve m).wf = true := by
  unfold Mach.showReserve
  try dsimp only
  repeat' first | (with_reducible assumption) | (with_reducible apply wf_draw) | (with_reducible apply wf_put) | (refine wf_fst ?_ (by assumption))
                | (refine wf_snd ?_ (by assumption)) | (intro _) | split

theorem wf_reserveUpdate {mv : Nat} {net : Int} {m : Mach} (h : m.wf = true) : (Mach.reserveUpdate mv net m).wf = true := by
  unfold Mach.reserveUpdate
  try dsimp only
  repeat' first | (with_reducible assumption) | (with_reducible apply wf_reach) | (with_reducible apply wf_startTimer)
                | (with_reducible apply wf_updPwr) | (with_reducible apply wf_woadSecond) | (with_reducible apply wf_showReserve) | (intro _) | split

theorem wf_setSlot {k : Nat} {v : KeySlot} {m : Mach} (h : m.wf = true) : (Mach.setSlot k v m).wf = true := by
  unfold Mach.setSlot
  try dsimp only
  repeat' first | (with_reducible assumption) | (intro _) | split
                | (fail_if_no_progress (with_reducible refine wf_mk ?_ rfl rfl rfl rfl rfl rfl rfl rfl rfl rfl rfl))

theorem wf_setCtr {k : Nat} {v : Nat} {m : Mach} (h : m.wf = true) : (Mach.setCtr k v m).wf = true := by
  unfold Mach.setCtr
  try dsimp only
  repeat' first | (with_reducible assumption) | (with_reducible apply wf_setAw)

theorem wf_setFails {k : Nat} {v : Nat × List Nat} {m : Mach} (h : m.wf = true) : (Mach.setFails k v m).wf = true := by
  unfold Mach.setFails
  try dsimp only
  repeat' first | (with_reducible assumption) | (intro _) | split
                | (fail_if_no_progress (with_reducible refine wf_mk ?_ rfl rfl rfl rfl rfl rfl rfl rfl rfl rfl rfl))

theorem wf_lockClear {k : Nat} {m : Mach} (h : m.wf = true) : (Mach.lockClear k m).wf = true := by
  unfold Mach.lockClear
  try dsimp only
  repeat' first | (with_reducible assumption) | (with_reducible apply wf_setAw) | (with_reducible apply wf_setFails)

theorem wf_lockFail {k : Nat} {m : Mach} (h : m.wf = true) : (Mach.lockFail k m).wf = true := by
  unfold Mach.lockFail
  try dsimp only
  repeat' first | (with_reducible assumption) | (with_reducible apply wf_setFails) | (with_reducible apply wf_setAw) | (with_reducible apply wf_raise)
                | (with_reducible apply wf_ledger) | (intro _) | split
                | (fail_if_no_progress (with_reducible refine wf_mk ?_ rfl rfl rfl rfl rfl rfl rfl rfl rfl rfl rfl))

theorem wf_lockExpire {k : Nat} {m : Mach} (h : m.wf = true) : (Mach.lockExpire k m).wf = true := by
  unfold Mach.lockExpire
  try dsimp only
  repeat' first | (with_reducible assumption) | (with_reducible apply wf_advNow) | (with_reducible apply wf_setAw) | (intro _) | split

theorem wf_failAge {k : Nat} {m : Mach} (h : m.wf = true) : (Mach.failAge k m).wf = true := by
  unfold Mach.failAge
  try dsimp only
  repeat' first | (with_reducible assumption) | (with_reducible apply wf_advNow) | (with_reducible apply wf_setFails)
                | (refine wf_fst ?_ (by assumption)) | (refine wf_snd ?_ (by assumption)) | (intro _) | split

theorem wf_lockoutClear {mask : Nat} {m : Mach} (h : m.wf = true) : (Mach.lockoutClear mask m).1.wf = true := by
  unfold Mach.lockoutClear
  try dsimp only
  repeat' first | (with_reducible assumption) | (with_reducible apply wf_lockClear) | (with_reducible apply wf_ledger)
                | (with_reducible apply wf_forN) | (with_reducible apply wf_foldl) | (with_reducible apply wf_applyIf) | (intro _)

theorem wf_authCheck {k : Nat} {ctr : Nat} {msg : List Byte} {tag : List Byte} {pay : Nat} {m : Mach} (h : m.wf = true) :
    (Mach.authCheck k ctr msg tag pay m).1.wf = true := by
  unfold Mach.authCheck
  try dsimp only
  repeat' first | (with_reducible assumption) | (with_reducible apply wf_raise) | (with_reducible apply wf_lockFail)
                | (with_reducible apply wf_setCtr) | (with_reducible apply wf_lockClear) | (intro _) | split

theorem wf_keyEnd {k : Nat} {res : Nat} {m : Mach} (h : m.wf = true) : (Mach.keyEnd k res m).wf = true := by
  unfold Mach.keyEnd
  try dsimp only
  repeat' first | (with_reducible assumption) | (with_reducible apply wf_setReg) | (with_reducible apply wf_put) | (with_reducible apply wf_ledger)
                | (with_reducible apply wf_forN) | (intro _) | split

theorem wf_keyProg {m : Mach} (h : m.wf = true) : (Mach.keyProg m).wf = true := by
  unfold Mach.keyProg
  try dsimp only
  repeat' first | (with_reducible assumption) | (with_reducible apply wf_put) | (with_reducible apply wf_setSlot) | (with_reducible apply wf_keyEnd)
                | (intro _) | split | (fail_if_no_progress (with_reducible refine wf_mk ?_ rfl rfl rfl rfl rfl rfl rfl rfl rfl rfl rfl))

theorem wf_keyBurnDone {verified : Bool} {m : Mach} (h : m.wf = true) : (Mach.keyBurnDone verified m).wf = true := by
  unfold Mach.keyBurnDone
  try dsimp only
  repeat' first | (with_reducible assumption) | (with_reducible apply wf_setSlot) | (with_reducible apply wf_setCtr)
                | (with_reducible apply wf_keyEnd) | (intro _) | split
                | (fail_if_no_progress (with_reducible refine wf_mk ?_ rfl rfl rfl rfl rfl rfl rfl rfl rfl rfl rfl))

theorem wf_keyCut {m : Mach} (h : m.wf = true) : (Mach.keyCut m).wf = true := by
  unfold Mach.keyCut
  try dsimp only
  repeat' first | (with_reducible assumption) | (with_reducible apply wf_setSlot) | (intro _) | split
                | (fail_if_no_progress (with_reducible refine wf_mk ?_ rfl rfl rfl rfl rfl rfl rfl rfl rfl rfl rfl))

theorem wf_epochFloor {m : Mach} (h : m.wf = true) : (Mach.epochFloor m).wf = true := by
  unfold Mach.epochFloor
  try dsimp only
  repeat' first | (with_reducible assumption) | (with_reducible apply wf_setCtr) | (with_reducible apply wf_setAw) | (with_reducible apply wf_forN)
                | (with_reducible apply wf_applyIf) | (intro _)

theorem wf_epochBurn {fails : Nat} {m : Mach} (h : m.wf = true) : (Mach.epochBurn fails m).wf = true := by
  unfold Mach.epochBurn
  try dsimp only
  repeat' first | (with_reducible assumption) | (with_reducible apply wf_epochFloor) | (with_reducible apply wf_setAw)
                | (with_reducible apply wf_raise) | (intro _) | split
                | (fail_if_no_progress (with_reducible refine wf_mk ?_ rfl rfl rfl rfl rfl rfl rfl rfl rfl rfl rfl))

theorem wf_setBytes {key : Nat} {bs : List Byte} {m : Mach} (h : m.wf = true) : (Mach.setBytes key bs m).wf = true := by
  unfold Mach.setBytes
  try dsimp only
  repeat' first | (with_reducible assumption) | (with_reducible apply wf_setReg) | (with_reducible apply wf_forN) | (intro _)

theorem wf_signReport {rtype : Nat} {key : Nat} {p : Nat} {nonce : List Byte} {body : List Byte} {m : Mach} (h : m.wf = true) :
    (Mach.signReport rtype key p nonce body m).1.wf = true := by
  unfold Mach.signReport
  try dsimp only
  repeat' first | (with_reducible assumption) | (with_reducible apply wf_setAw) | (with_reducible apply wf_setBytes) | (with_reducible apply wf_put)
                | (with_reducible apply wf_raise) | (intro _) | split

theorem wf_setMtr {i : Nat} {v : Meter} {m : Mach} (h : m.wf = true) : (Mach.setMtr i v m).wf = true :=
  wf_mtrs h (cwf_cset _ (wf_parts.1 h).2.2.2.2.2.2.2.2.2.1)

theorem wf_mtrCfgHook {i : Nat} {old : Word} {new : Word} {m : Mach} (h : m.wf = true) : (Mach.mtrCfgHook i old new m).wf = true := by
  unfold Mach.mtrCfgHook
  try dsimp only
  repeat' first | (with_reducible assumption) | (with_reducible apply wf_put) | (with_reducible apply wf_setMtr) | (with_reducible apply wf_ledger)
                | (intro _) | split

theorem wf_meterSample {s : Mach} (h : s.wf = true) : (Mach.meterSample s).wf = true := by
  unfold Mach.meterSample
  try dsimp only
  repeat' first | (with_reducible assumption) | (with_reducible apply wf_nextAon) | (with_reducible apply wf_setMtr) | (with_reducible apply wf_forN)
                | (intro _) | split

theorem wf_countTick {i : Nat} {m : Mach} (h : m.wf = true) : (Mach.countTick i m).wf = true := by
  unfold Mach.countTick
  try dsimp only
  repeat' first | (with_reducible assumption) | (with_reducible apply wf_setAw) | (with_reducible apply wf_ledger) | (intro _) | split

theorem wf_countFault {i : Nat} {m : Mach} (h : m.wf = true) : (Mach.countFault i m).wf = true := by
  unfold Mach.countFault
  try dsimp only
  repeat' first | (with_reducible assumption) | (with_reducible apply wf_setAw) | (intro _) | split

theorem wf_mtrClose {i : Nat} {m : Mach} (h : m.wf = true) : (Mach.mtrClose i m).wf = true := by
  unfold Mach.mtrClose
  try dsimp only
  repeat' first | (with_reducible assumption) | (with_reducible apply wf_ledger) | (with_reducible apply wf_put) | (with_reducible apply wf_setMtr)
                | (intro _) | split

theorem wf_mtrTick {i : Nat} {m : Mach} (h : m.wf = true) : (Mach.mtrTick i m).wf = true := by
  unfold Mach.mtrTick
  try dsimp only
  repeat' first | (with_reducible assumption) | (with_reducible apply wf_countTick) | (with_reducible apply wf_countFault)
                | (with_reducible apply wf_setAw) | (with_reducible apply wf_setMtr) | (with_reducible apply wf_mtrClose) | (intro _) | split

theorem wf_theftOf {i : Nat} {m : Mach} (h : m.wf = true) : (Mach.theftOf i m).wf = true := by
  unfold Mach.theftOf
  try dsimp only
  repeat' first | (with_reducible assumption) | (with_reducible apply wf_setMtr) | (with_reducible apply wf_ledger) | (with_reducible apply wf_raise)

theorem wf_theftTick {ran : List Nat} {m : Mach} (h : m.wf = true) : (Mach.theftTick ran m).wf = true := by
  unfold Mach.theftTick
  try dsimp only
  repeat' first | (with_reducible assumption) | (with_reducible apply wf_put) | (with_reducible apply wf_theftOf) | (with_reducible apply wf_setMtr)
                | (with_reducible apply wf_wakeBy) | (with_reducible apply wf_forN) | (with_reducible apply wf_foldl)
                | (with_reducible apply wf_foldl_fst) | (intro _) | split

theorem wf_meterTick {s : Mach} (h : s.wf = true) : (Mach.meterTick s).wf = true := by
  unfold Mach.meterTick
  try dsimp only
  repeat' first | (with_reducible assumption) | (with_reducible apply wf_nextAon) | (with_reducible apply wf_mtrTick)
                | (with_reducible apply wf_theftTick) | (with_reducible apply wf_immobRefresh) | (with_reducible apply wf_forN) | (intro _) | split

theorem wf_theftClear {who : Nat} {m : Mach} (h : m.wf = true) : (Mach.theftClear who m).wf = true := by
  unfold Mach.theftClear
  try dsimp only
  repeat' first | (with_reducible assumption) | (with_reducible apply wf_put) | (with_reducible apply wf_ledger)
                | (with_reducible apply wf_immobRefresh) | (intro _) | split

theorem wf_hireOpen {ses e : Nat} {m : Mach} (h : m.wf = true) {t : Mach × Nat} (eq : m.hireOpen ses e = some t) : t.1.wf = true :=
  by
  unfold Mach.hireOpen at eq
  dsimp only at eq
  split at eq
  · exact nomatch eq
  · split at eq
    · split at eq
      · exact nomatch eq
      · exact wf_some (wf_immobRefresh (wf_ledger (wf_put (wf_put (wf_put (wf_put (wf_put (wf_theftClear h)))))))) eq
    · split at eq
      · exact nomatch eq
      · exact wf_some (wf_ledger (wf_put h)) eq

theorem wf_hireClose {ses : Nat} {m : Mach} (h : m.wf = true) {t : Mach × Nat} (eq : m.hireClose ses = some t) : t.1.wf = true :=
  by
  unfold Mach.hireClose at eq
  split at eq
  · exact nomatch eq
  · exact wf_some (wf_immobRefresh (wf_ledger (wf_put (wf_put h)))) eq

theorem wf_hireExpire {m : Mach} (h : m.wf = true) : (Mach.hireExpire m).wf = true := by
  unfold Mach.hireExpire
  try dsimp only
  repeat' first | (with_reducible assumption) | (with_reducible apply wf_advNow) | (with_reducible apply wf_hireCheck)
                | (with_reducible apply wf_immobRefresh) | (intro _) | split

theorem wf_tamperStrobe {i : Nat} {high : Bool} {s : Mach} (h : s.wf = true) : (Mach.tamperStrobe i high s).wf = true := by
  unfold Mach.tamperStrobe
  try dsimp only
  repeat' first | (with_reducible assumption) | (with_reducible apply wf_nextAon) | (with_reducible apply wf_put) | (with_reducible apply wf_ledger)
                | (with_reducible apply wf_raise) | (with_reducible apply wf_wakeBy) | (intro _) | split
                | (fail_if_no_progress (with_reducible refine wf_mk ?_ rfl rfl rfl rfl rfl rfl rfl rfl rfl rfl rfl))

theorem wf_motionEdge {m : Mach} (h : m.wf = true) : (Mach.motionEdge m).wf = true := by
  unfold Mach.motionEdge
  try dsimp only
  repeat' first | (with_reducible assumption) | (with_reducible apply wf_put) | (with_reducible apply wf_ledger)
                | (with_reducible apply wf_startTimer) | (with_reducible apply wf_raise) | (with_reducible apply wf_wakeBy) | (intro _) | split
                | (fail_if_no_progress (with_reducible refine wf_mk ?_ rfl rfl rfl rfl rfl rfl rfl rfl rfl rfl rfl))

theorem wf_motionHoldEnd {m : Mach} (h : m.wf = true) : (Mach.motionHoldEnd m).wf = true := by
  unfold Mach.motionHoldEnd
  try dsimp only
  repeat' first | (with_reducible assumption) | (with_reducible apply wf_reachAon) | (intro _) | split
                | (fail_if_no_progress (with_reducible refine wf_mk ?_ rfl rfl rfl rfl rfl rfl rfl rfl rfl rfl rfl))

theorem wf_wakeTimeout {m : Mach} (h : m.wf = true) : (Mach.wakeTimeout m).wf = true := by
  unfold Mach.wakeTimeout
  try dsimp only
  repeat' first | (with_reducible assumption) | (with_reducible apply wf_reachAon) | (with_reducible apply wf_put) | (intro _) | split

theorem wf_sentClrHook {d : Word} {m : Mach} (h : m.wf = true) : (Mach.sentClrHook d m).wf = true := by
  unfold Mach.sentClrHook
  try dsimp only
  repeat' first | (with_reducible assumption) | (with_reducible apply wf_put) | (with_reducible apply wf_theftClear) | (intro _) | split

theorem wf_ldgStore {idx : Nat} {w0 : Word} {w1 : Word} {m : Mach} (h : m.wf = true) : (Mach.ldgStore idx w0 w1 m).wf = true := by
  unfold Mach.ldgStore
  try dsimp only
  repeat' first | (with_reducible assumption) | (with_reducible apply wf_setAw) | (with_reducible apply wf_post) | (intro _) | split

theorem wf_ldgGrow {m : Mach} (h : m.wf = true) : (Mach.ldgGrow m).wf = true := by
  unfold Mach.ldgGrow
  try dsimp only
  repeat' first | (with_reducible assumption) | (with_reducible apply wf_put) | (with_reducible apply wf_raise) | (intro _) | split
                | (fail_if_no_progress (with_reducible refine wf_mk ?_ rfl rfl rfl rfl rfl rfl rfl rfl rfl rfl rfl))

theorem wf_ldgNextBlock {b : Nat} {m : Mach} (h : m.wf = true) : (Mach.ldgNextBlock b m).wf = true := by
  unfold Mach.ldgNextBlock
  try dsimp only
  repeat' first | (with_reducible assumption) | (with_reducible apply wf_put) | (with_reducible apply wf_ldgGrow) | (intro _) | split
                | (fail_if_no_progress (with_reducible refine wf_mk ?_ rfl rfl rfl rfl rfl rfl rfl rfl rfl rfl rfl))

theorem wf_ledgerPut {m : Mach} (h : m.wf = true) : (Mach.ledgerPut m).wf = true := by
  unfold Mach.ledgerPut
  try dsimp only
  repeat' first | (with_reducible assumption) | (with_reducible apply wf_ldgGrow) | (with_reducible apply wf_ldgStore)
                | (with_reducible apply wf_ldgNextBlock) | (with_reducible apply wf_put) | (with_reducible apply wf_ledger)
                | (refine wf_fst ?_ (by assumption)) | (refine wf_snd ?_ (by assumption)) | (intro _) | split
                | (fail_if_no_progress (with_reducible refine wf_mk ?_ rfl rfl rfl rfl rfl rfl rfl rfl rfl rfl rfl))

theorem wf_ledgerWrite {m : Mach} (h : m.wf = true) : (Mach.ledgerWrite m).wf = true := by
  unfold Mach.ledgerWrite
  try dsimp only
  repeat' first | (with_reducible assumption) | (with_reducible apply wf_nextAon) | (with_reducible apply wf_entry)
                | (with_reducible apply wf_ledgerPut) | (intro _) | split

theorem wf_ledgerSeal {m : Mach} (h : m.wf = true) : (Mach.ledgerSeal m).wf = true := by
  unfold Mach.ledgerSeal
  try dsimp only
  repeat' first | (with_reducible assumption) | (with_reducible apply wf_ldgStore) | (intro _) | split
                | (fail_if_no_progress (with_reducible refine wf_mk ?_ rfl rfl rfl rfl rfl rfl rfl rfl rfl rfl rfl))

theorem wf_chainStart {m : Mach} (h : m.wf = true) : (Mach.chainStart m).wf = true := by
  unfold Mach.chainStart
  try dsimp only
  repeat' first | (with_reducible assumption) | (with_reducible apply wf_put)

theorem wf_chainDone {m : Mach} (h : m.wf = true) : (Mach.chainDone m).wf = true := by
  unfold Mach.chainDone
  try dsimp only
  repeat' first | (with_reducible assumption) | (with_reducible apply wf_put) | (with_reducible apply wf_raise) | (intro _) | split

theorem wf_ldgCtlHook {d : Word} {m : Mach} (h : m.wf = true) : (Mach.ldgCtlHook d m).wf = true := by
  unfold Mach.ldgCtlHook
  try dsimp only
  repeat' first | (with_reducible assumption) | (with_reducible apply wf_put) | (with_reducible apply wf_chainStart) | (intro _) | split

theorem wf_ldgRdHook {m : Mach} (h : m.wf = true) : (Mach.ldgRdHook m).wf = true := by
  unfold Mach.ldgRdHook
  try dsimp only
  repeat' first | (with_reducible assumption) | (intro _) | split
                | (fail_if_no_progress (with_reducible refine wf_mk ?_ rfl rfl rfl rfl rfl rfl rfl rfl rfl rfl rfl))

theorem wf_todWrite {setter : Nat} {sec : Nat} {sub : Nat} {m : Mach} (h : m.wf = true) : (Mach.todWrite setter sec sub m).wf = true := by
  unfold Mach.todWrite
  try dsimp only
  repeat' first | (with_reducible assumption) | (with_reducible apply wf_ledgerAt) | (with_reducible apply wf_put)
                | (with_reducible apply wf_hireCheck) | (with_reducible apply wf_immobRefresh) | (intro _) | split
                | (fail_if_no_progress (with_reducible refine wf_mk ?_ rfl rfl rfl rfl rfl rfl rfl rfl rfl rfl rfl))

theorem wf_setTune {y : Int} {m : Mach} (h : m.wf = true) : (Mach.setTune y m).wf = true := by
  unfold Mach.setTune
  try dsimp only
  repeat' first | (with_reducible assumption) | (with_reducible apply wf_put)

theorem wf_tuneTo {y : Int} {m : Mach} (h : m.wf = true) : (Mach.tuneTo y m).wf = true := by
  unfold Mach.tuneTo
  try dsimp only
  repeat' first | (with_reducible assumption) | (with_reducible apply wf_updRoot) | (with_reducible apply wf_setTune) | (with_reducible apply wf_put)
                | (intro _) | split

theorem wf_tuneHold {m : Mach} (h : m.wf = true) : (Mach.tuneHold m).wf = true := by
  unfold Mach.tuneHold
  try dsimp only
  repeat' first | (with_reducible assumption) | (with_reducible apply wf_put)

theorem wf_tuneDone {m : Mach} (h : m.wf = true) : (Mach.tuneDone m).wf = true := by
  unfold Mach.tuneDone
  try dsimp only
  repeat' first | (with_reducible assumption) | (with_reducible apply wf_advNow) | (intro _) | split

theorem wf_showSrc {v : Nat} {m : Mach} (h : m.wf = true) : (Mach.showSrc v m).wf = true := by
  unfold Mach.showSrc
  try dsimp only
  repeat' first | (with_reducible assumption) | (with_reducible apply wf_put) | (with_reducible apply wf_forN) | (intro _)

theorem wf_noPend {m : Mach} (h : m.wf = true) : (Mach.noPend m).wf = true := by
  unfold Mach.noPend
  try dsimp only
  repeat' first | (with_reducible assumption) | (with_reducible apply wf_put)

theorem wf_holdover {m : Mach} (h : m.wf = true) : (Mach.holdover m).wf = true := by
  unfold Mach.holdover
  try dsimp only
  repeat' first | (with_reducible assumption) | (with_reducible apply wf_noPend) | (with_reducible apply wf_showSrc) | (with_reducible apply wf_put)
                | (with_reducible apply wf_updRoot) | (with_reducible apply wf_raise) | (with_reducible apply wf_tuneTo)

theorem wf_freerun {m : Mach} (h : m.wf = true) : (Mach.freerun m).wf = true := by
  unfold Mach.freerun
  try dsimp only
  repeat' first | (with_reducible assumption) | (with_reducible apply wf_noPend) | (with_reducible apply wf_showSrc) | (with_reducible apply wf_put)
                | (with_reducible apply wf_updRoot) | (with_reducible apply wf_tuneTo)

theorem wf_switchTo {i : Nat} {m : Mach} (h : m.wf = true) : (Mach.switchTo i m).wf = true := by
  unfold Mach.switchTo
  try dsimp only
  repeat' first | (with_reducible assumption) | (with_reducible apply wf_noPend) | (with_reducible apply wf_showSrc) | (with_reducible apply wf_put)
                | (with_reducible apply wf_updRoot) | (with_reducible apply wf_tuneHold)

theorem wf_noSource {lost : Bool} {m : Mach} (h : m.wf = true) : (Mach.noSource lost m).wf = true := by
  unfold Mach.noSource
  try dsimp only
  repeat' first | (with_reducible assumption) | (with_reducible apply wf_put) | (with_reducible apply wf_holdover) | (intro _) | split

theorem wf_selAuto {m : Mach} (h : m.wf = true) : (Mach.selAuto m).wf = true := by
  unfold Mach.selAuto
  try dsimp only
  repeat' first | (with_reducible assumption) | (with_reducible apply wf_switchTo) | (with_reducible apply wf_noSource)
                | (with_reducible apply wf_noPend) | (with_reducible apply wf_put) | (with_reducible apply wf_updRoot) | (intro _) | split

theorem wf_selEval {m : Mach} (h : m.wf = true) : (Mach.selEval m).wf = true := by
  unfold Mach.selEval
  try dsimp only
  repeat' first | (with_reducible assumption) | (with_reducible apply wf_updRoot) | (with_reducible apply wf_selAuto)
                | (with_reducible apply wf_noPend) | (with_reducible apply wf_switchTo) | (with_reducible apply wf_noSource)
                | (with_reducible apply wf_freerun) | (intro _) | split

theorem wf_wtrExpire {s : Mach} (h : s.wf = true) : (Mach.wtrExpire s).wf = true := by
  unfold Mach.wtrExpire
  try dsimp only
  repeat' first | (with_reducible assumption) | (with_reducible apply wf_advNow) | (with_reducible apply wf_switchTo)
                | (with_reducible apply wf_noPend) | (with_reducible apply wf_selEval) | (intro _) | split

theorem wf_switchEdge {err : Word} {m : Mach} (h : m.wf = true) : (Mach.switchEdge err m).wf = true := by
  unfold Mach.switchEdge
  try dsimp only
  repeat' first | (with_reducible assumption) | (with_reducible apply wf_put) | (with_reducible apply wf_updRoot) | (with_reducible apply wf_raise)
                | (with_reducible apply wf_selEval) | (refine wf_fst ?_ (by assumption)) | (refine wf_snd ?_ (by assumption)) | (intro _) | split

theorem wf_gateStart {i : Nat} {m : Mach} (h : m.wf = true) : (Mach.gateStart i m).wf = true := by
  unfold Mach.gateStart
  try dsimp only
  repeat' first | (with_reducible assumption) | (with_reducible apply wf_startTimer) | (with_reducible apply wf_gate) | (intro _) | split

theorem wf_setRef {i : Nat} {st : Nat} {m : Mach} (h : m.wf = true) : (Mach.setRef i st m).wf = true := by
  unfold Mach.setRef
  try dsimp only
  repeat' first | (with_reducible assumption) | (with_reducible apply wf_put) | (with_reducible apply wf_selEval)

theorem wf_refCfgHook {i : Nat} {old : Word} {new : Word} {m : Mach} (h : m.wf = true) : (Mach.refCfgHook i old new m).wf = true := by
  unfold Mach.refCfgHook
  try dsimp only
  repeat' first | (with_reducible assumption) | (with_reducible apply wf_put) | (with_reducible apply wf_gateStart) | (with_reducible apply wf_setRef)
                | (with_reducible apply wf_stopTimer) | (with_reducible apply wf_gate) | (with_reducible apply wf_selEval) | (intro _) | split

theorem wf_refActivity {i : Nat} {m : Mach} (h : m.wf = true) : (Mach.refActivity i m).wf = true := by
  unfold Mach.refActivity
  try dsimp only
  repeat' first | (with_reducible assumption) | (with_reducible apply wf_put) | (with_reducible apply wf_updRoot)
                | (with_reducible apply wf_gateStart) | (with_reducible apply wf_setRef) | (intro _) | split

theorem wf_refFail {i : Nat} {evt : Fld} {code : Nat × Nat} {pay : Word} {m : Mach} (h : m.wf = true) :
    (Mach.refFail i evt code pay m).wf = true := by
  unfold Mach.refFail
  try dsimp only
  repeat' first | (with_reducible assumption) | (with_reducible apply wf_put) | (with_reducible apply wf_raise) | (with_reducible apply wf_selEval)

theorem wf_refLos {i : Nat} {m : Mach} (h : m.wf = true) : (Mach.refLos i m).wf = true := by
  unfold Mach.refLos
  try dsimp only
  repeat' first | (with_reducible assumption) | (with_reducible apply wf_put) | (with_reducible apply wf_refFail) | (intro _) | split

theorem wf_refPhit {i : Nat} {dev : Word} {m : Mach} (h : m.wf = true) : (Mach.refPhit i dev m).wf = true := by
  unfold Mach.refPhit
  try dsimp only
  repeat' first | (with_reducible assumption) | (with_reducible apply wf_refFail) | (intro _) | split

theorem wf_refQualify {i : Nat} {m : Mach} (h : m.wf = true) : (Mach.refQualify i m).wf = true := by
  unfold Mach.refQualify
  try dsimp only
  repeat' first | (with_reducible assumption) | (with_reducible apply wf_put) | (with_reducible apply wf_setRef)

theorem wf_freqGate {i : Nat} {ppb : Word} {s : Mach} (h : s.wf = true) : (Mach.freqGate i ppb s).wf = true := by
  unfold Mach.freqGate
  try dsimp only
  repeat' first | (with_reducible assumption) | (with_reducible apply wf_reach) | (with_reducible apply wf_gate) | (with_reducible apply wf_gateStart)
                | (with_reducible apply wf_put) | (with_reducible apply wf_updRoot) | (with_reducible apply wf_refFail)
                | (with_reducible apply wf_refQualify) | (intro _) | split

theorem wf_refQualDone {i : Nat} {s : Mach} (h : s.wf = true) : (Mach.refQualDone i s).wf = true := by
  unfold Mach.refQualDone
  try dsimp only
  repeat' first | (with_reducible assumption) | (with_reducible apply wf_advNow) | (with_reducible apply wf_refQualify)
                | (with_reducible apply wf_put) | (with_reducible apply wf_updRoot) | (intro _) | split

theorem wf_steer {demand : Int} {m : Mach} (h : m.wf = true) : (Mach.steer demand m).wf = true := by
  unfold Mach.steer
  try dsimp only
  repeat' first | (with_reducible assumption) | (with_reducible apply wf_put) | (with_reducible apply wf_tuneTo) | (intro _) | split

theorem wf_toEdge {i : Nat} {m : Mach} (h : m.wf = true) : (Mach.toEdge i m).wf = true := by
  unfold Mach.toEdge
  try dsimp only
  repeat' first | (with_reducible assumption) | (with_reducible apply wf_advNow) | (with_reducible apply wf_elim) | (intro _)

theorem wf_dpllEdge {raw : Word} {fdiff : Word} {demand : Word} {s : Mach} (h : s.wf = true) : (Mach.dpllEdge raw fdiff demand s).wf = true
    := by
  unfold Mach.dpllEdge
  try dsimp only
  repeat' first | (with_reducible assumption) | (with_reducible apply wf_toEdge) | (with_reducible apply wf_put) | (with_reducible apply wf_steer)
                | (with_reducible apply wf_updRoot) | (refine wf_fst ?_ (by assumption)) | (refine wf_snd ?_ (by assumption)) | (intro _) | split

theorem wf_histValid {m : Mach} (h : m.wf = true) : (Mach.histValid m).wf = true := by
  unfold Mach.histValid
  try dsimp only
  repeat' first | (with_reducible assumption) | (with_reducible apply wf_advNow) | (with_reducible apply wf_put) | (intro _) | split

theorem wf_holdCfgHook {old : Word} {new : Word} {m : Mach} (h : m.wf = true) : (Mach.holdCfgHook old new m).wf = true := by
  unfold Mach.holdCfgHook
  try dsimp only
  repeat' first | (with_reducible assumption) | (with_reducible apply wf_draw) | (with_reducible apply wf_setReg) | (with_reducible apply wf_put)
                | (with_reducible apply wf_updRoot) | (refine wf_fst ?_ (by assumption)) | (refine wf_snd ?_ (by assumption)) | (intro _) | split

theorem wf_holdLong {m : Mach} (h : m.wf = true) : (Mach.holdLong m).wf = true := by
  unfold Mach.holdLong
  try dsimp only
  repeat' first | (with_reducible assumption) | (with_reducible apply wf_advNow) | (with_reducible apply wf_updRoot) | (with_reducible apply wf_put)
                | (with_reducible apply wf_raise) | (intro _) | split

theorem wf_todAlign {m : Mach} (h : m.wf = true) : (Mach.todAlign m).wf = true := by
  unfold Mach.todAlign
  try dsimp only
  repeat' first | (with_reducible assumption) | (with_reducible apply wf_put) | (with_reducible apply wf_updRoot) | (with_reducible apply wf_ledger)
                | (intro _) | split

theorem wf_ppsAccept {m : Mach} (h : m.wf = true) : (Mach.ppsAccept m).wf = true := by
  unfold Mach.ppsAccept
  try dsimp only
  repeat' first | (with_reducible assumption) | (with_reducible apply wf_updRoot) | (with_reducible apply wf_put)
                | (with_reducible apply wf_refActivity) | (with_reducible apply wf_todAlign) | (intro _) | split

theorem wf_ppsMiss {s : Mach} (h : s.wf = true) : (Mach.ppsMiss s).wf = true := by
  unfold Mach.ppsMiss
  try dsimp only
  repeat' first | (with_reducible assumption) | (with_reducible apply wf_advPhs) | (with_reducible apply wf_updRoot) | (with_reducible apply wf_put)
                | (with_reducible apply wf_raise) | (with_reducible apply wf_refLos) | (refine wf_fst ?_ (by assumption))
                | (refine wf_snd ?_ (by assumption)) | (intro _) | split

theorem wf_ppsJudge {levels : Bool} {interval : Nat} {m : Mach} (h : m.wf = true) : (Mach.ppsJudge levels interval m).wf = true := by
  unfold Mach.ppsJudge
  try dsimp only
  repeat' first | (with_reducible assumption) | (with_reducible apply wf_ppsAccept) | (with_reducible apply wf_put) | (intro _) | split

theorem wf_ppsEdge {levels : Bool} {interval : Nat} {m : Mach} (h : m.wf = true) : (Mach.ppsEdge levels interval m).wf = true := by
  unfold Mach.ppsEdge
  try dsimp only
  repeat' first | (with_reducible assumption) | (with_reducible apply wf_ppsJudge) | (with_reducible apply wf_ppsMiss)
                | (with_reducible apply wf_advPhs) | (refine wf_fst ?_ (by assumption)) | (refine wf_snd ?_ (by assumption)) | (intro _) | split

theorem wf_rootLocked {lockStep : Bool} {m : Mach} (h : m.wf = true) : (Mach.rootLocked lockStep m).wf = true := by
  unfold Mach.rootLocked
  try dsimp only
  repeat' first | (with_reducible assumption) | (with_reducible apply wf_put) | (with_reducible apply wf_noPend) | (with_reducible apply wf_showSrc)
                | (with_reducible apply wf_setTune) | (with_reducible apply wf_updRoot) | (with_reducible apply wf_tuneTo) | (intro _) | split

theorem wf_measureStart {live : Nat → Bool} {m : Mach} (h : m.wf = true) : (Mach.measureStart live m).wf = true := by
  unfold Mach.measureStart
  try dsimp only
  repeat' first | (with_reducible assumption) | (with_reducible apply wf_updRoot) | (with_reducible apply wf_gateStart)
                | (with_reducible apply wf_refLos) | (with_reducible apply wf_selEval) | (with_reducible apply wf_forN)
                | (with_reducible apply wf_foldl) | (with_reducible apply wf_foldl_fst) | (with_reducible apply wf_elim) | (intro _) | split

theorem wf_rootDrop {m : Mach} (h : m.wf = true) : (Mach.rootDrop m).wf = true := by
  unfold Mach.rootDrop
  try dsimp only
  repeat' first | (with_reducible assumption) | (with_reducible apply wf_put) | (with_reducible apply wf_refLos) | (with_reducible apply wf_updRoot)
                | (with_reducible apply wf_holdover) | (with_reducible apply wf_setTune) | (intro _) | split

theorem wf_rootLost {m : Mach} (h : m.wf = true) : (Mach.rootLost m).wf = true := by
  unfold Mach.rootLost
  try dsimp only
  repeat' first | (with_reducible assumption) | (with_reducible apply wf_put) | (with_reducible apply wf_raise) | (with_reducible apply wf_rootDrop)

theorem wf_setWide {i : Nat} {v : Wide} {m : Mach} (h : m.wf = true) : (Mach.setWide i v m).wf = true :=
  wf_wides h (cwf_cset _ (wf_parts.1 h).2.2.2.1)

theorem wf_wideLate {i : Nat} {m : Mach} (h : m.wf = true) : (Mach.wideLate i m).wf = true := by
  unfold Mach.wideLate
  try dsimp only
  repeat' first | (with_reducible assumption) | (with_reducible apply wf_setWide) | (with_reducible apply wf_todWrite) | (intro _) | split

theorem wf_wideCut {p : Nat} {m : Mach} (h : m.wf = true) : (Mach.wideCut p m).wf = true := by
  unfold Mach.wideCut
  try dsimp only
  repeat' first | (with_reducible assumption) | (with_reducible apply wf_setWide) | (with_reducible apply wf_wideLate) | (intro _) | split

theorem wf_updLink {f : Link → Link} {m : Mach} (h : m.wf = true) : (Mach.updLink f m).wf = true := by
  unfold Mach.updLink
  try dsimp only
  repeat' first | (with_reducible assumption) | (intro _) | split
                | (fail_if_no_progress (with_reducible refine wf_mk ?_ rfl rfl rfl rfl rfl rfl rfl rfl rfl rfl rfl))

theorem wf_setLp {p : LPort} {v : LinkPort} {m : Mach} (h : m.wf = true) : (Mach.setLp p v m).wf = true := by
  unfold Mach.setLp
  try dsimp only
  repeat' first | (with_reducible assumption) | (with_reducible apply wf_updLink) | (intro _) | split

theorem wf_setLstate {p : LPort} {s : Nat} {m : Mach} (h : m.wf = true) : (Mach.setLstate p s m).wf = true := by
  unfold Mach.setLstate
  try dsimp only
  repeat' first | (with_reducible assumption) | (with_reducible apply wf_put)

theorem wf_pump {p : LPort} {m : Mach} (h : m.wf = true) : (Mach.pump p m).wf = true := by
  unfold Mach.pump
  try dsimp only
  repeat' first | (with_reducible assumption) | (with_reducible apply wf_setLp) | (intro _) | split

theorem wf_sendOn {p : LPort} {f : Frame} {m : Mach} (h : m.wf = true) : (Mach.sendOn p f m).wf = true := by
  unfold Mach.sendOn
  try dsimp only
  repeat' first | (with_reducible assumption) | (with_reducible apply wf_setLp) | (with_reducible apply wf_pump)

theorem wf_sendTo {dst : Nat} {typ : Nat} {tid : Nat} {payload : List Byte} {m : Mach} (h : m.wf = true) :
    (Mach.sendTo dst typ tid payload m).wf = true := by
  unfold Mach.sendTo
  try dsimp only
  repeat' first | (with_reducible assumption) | (with_reducible apply wf_sendOn) | (intro _) | split

theorem wf_broadcast {typ : Nat} {payload : List Byte} {m : Mach} (h : m.wf = true) : (Mach.broadcast typ payload m).wf = true := by
  unfold Mach.broadcast
  try dsimp only
  repeat' first | (with_reducible assumption) | (with_reducible apply wf_sendOn) | (intro _) | split

theorem wf_nextTid {m : Mach} (h : m.wf = true) : (Mach.nextTid m).2.wf = true := by
  unfold Mach.nextTid
  try dsimp only
  repeat' first | (with_reducible assumption) | (with_reducible apply wf_updLink)

theorem wf_lraEnd {inst : Nat} {res : Nat} {flags : Nat} {nc : Nat} {m : Mach} (h : m.wf = true) : (Mach.lraEnd inst res flags nc m).wf = true := by
  unfold Mach.lraEnd
  try dsimp only
  repeat' first | (with_reducible assumption) | (with_reducible apply wf_put)

theorem wf_sendForward {q : Nat} {fseq : Nat} {m : Mach} (h : m.wf = true) : (Mach.sendForward q fseq m).wf = true := by
  unfold Mach.sendForward
  try dsimp only
  repeat' first | (with_reducible assumption) | (with_reducible apply wf_nextTid) | (with_reducible apply wf_startTimer)
                | (with_reducible apply wf_sendTo) | (with_reducible apply wf_take) | (refine wf_fst ?_ (by assumption))
                | (refine wf_snd ?_ (by assumption)) | (intro _) | split

theorem wf_urgWait {q : Nat} {m : Mach} (h : m.wf = true) : (Mach.urgWait q m).wf = true := by
  unfold Mach.urgWait
  try dsimp only
  repeat' first | (with_reducible assumption) | (with_reducible apply wf_setCq) | (with_reducible apply wf_raise) | (intro _) | split

theorem wf_enqueue {p : Nat} {urg : Bool} {linkSec : Bool} {d : Desc} {m : Mach} (h : m.wf = true) :
    (Mach.enqueue p urg linkSec d m).1.wf = true := by
  unfold Mach.enqueue
  try dsimp only
  repeat' first | (with_reducible assumption) | (with_reducible apply wf_setCq) | (with_reducible apply wf_urgWait) | (with_reducible apply wf_put)
                | (with_reducible apply wf_raise) | (intro _) | split

theorem wf_cmdPushHook {w : Who} {port : Port} {d : Word} {m : Mach} (h : m.wf = true) : (Mach.cmdPushHook w port d m).wf = true := by
  unfold Mach.cmdPushHook
  try dsimp only
  repeat' first | (with_reducible assumption) | (with_reducible apply wf_enqueue) | (with_reducible apply wf_put) | (refine wf_fst ?_ (by assumption))
                | (refine wf_snd ?_ (by assumption)) | (intro _) | split

theorem wf_complete {p : Nat} {d : Desc} {res : Nat} {detail : Nat} {m : Mach} (h : m.wf = true) : (Mach.complete p d res detail m).wf = true := by
  unfold Mach.complete
  try dsimp only
  repeat' first | (with_reducible assumption) | (with_reducible apply wf_sendTo) | (with_reducible apply wf_post) | (intro _) | split

theorem wf_downQueue {p : Nat} {q : Nat} {m : Mach} (h : m.wf = true) : (Mach.downQueue p q m).wf = true := by
  unfold Mach.downQueue
  try dsimp only
  repeat' first | (with_reducible assumption) | (with_reducible apply wf_take) | (with_reducible apply wf_complete) | (with_reducible apply wf_setCq)
                | (with_reducible apply wf_foldl) | (intro _)

theorem wf_downQueues {p : Nat} {m : Mach} (h : m.wf = true) : (Mach.downQueues p m).wf = true := by
  unfold Mach.downQueues
  try dsimp only
  repeat' first | (with_reducible assumption) | (with_reducible apply wf_downQueue)

theorem wf_emptied {q : Nat} {m : Mach} (h : m.wf = true) : (Mach.emptied q m).wf = true := by
  unfold Mach.emptied
  try dsimp only
  repeat' first | (with_reducible assumption) | (with_reducible apply wf_put) | (intro _) | split
                | (fail_if_no_progress (with_reducible refine wf_mk ?_ rfl rfl rfl rfl rfl rfl rfl rfl rfl rfl rfl))

theorem wf_imgWrite {s : Section} {addr : Nat} {d : Word} {m : Mach} (h : m.wf = true) {t : Mach} (eq : m.imgWrite s addr d = some t) : t.wf = true :=
  by
  unfold Mach.imgWrite at eq
  dsimp only at eq
  repeat' split at eq
  all_goals first | cases eq; done | skip
  · cases eq; exact wf_mk h rfl rfl rfl rfl rfl rfl rfl rfl rfl rfl rfl
  · cases eq
    exact wf_mk (wf_fieldUpdate (wf_mk h rfl rfl rfl rfl rfl rfl rfl rfl rfl rfl rfl)) rfl rfl rfl rfl rfl rfl rfl rfl rfl rfl rfl

theorem wf_imgChWrite {s : Section} {off : Nat} {d : Word} {m : Mach} (h : m.wf = true) {t : Mach} (eq : m.imgChWrite s off d = some t)
    : t.wf = true :=
  by
  unfold Mach.imgChWrite at eq
  dsimp only at eq
  repeat' split at eq
  all_goals first | cases eq; done | skip
  cases eq
  exact wf_mk (wf_tblWrite (wf_mk h rfl rfl rfl rfl rfl rfl rfl rfl rfl rfl rfl)) rfl rfl rfl rfl rfl rfl rfl rfl rfl rfl rfl

theorem wf_imgAonWrite {s : Section} {off : Nat} {d : Word} {m : Mach} (h : m.wf = true) {t : Mach} (eq : m.imgAonWrite s off d = some t)
    : t.wf = true :=
  by
  unfold Mach.imgAonWrite at eq
  split at eq
  · cases eq; exact wf_mk h rfl rfl rfl rfl rfl rfl rfl rfl rfl rfl rfl
  · cases eq

theorem wf_imgBootStart {s : Section} {ws : List Word} {m : Mach} (h : m.wf = true) {t : Mach} (eq : m.imgBootStart s ws = some t) : t.wf = true :=
  by
  unfold Mach.imgBootStart at eq
  dsimp only at eq
  split at eq
  · cases eq
    refine wf_foldl (fun t n ht => ?_) _ (wf_mk h rfl rfl rfl rfl rfl rfl rfl rfl rfl rfl rfl)
    exact wf_mk (wf_tput ht) rfl rfl rfl rfl rfl rfl rfl rfl rfl rfl rfl
  · cases eq

theorem wf_imgWords {run : Mach → Mach} {f : Nat → Word → Mach → Option Mach} {a : Nat} {ws : List Word} {m : Mach} (h : m.wf = true) (hr
    : ∀ t, Mach.wf t = true → (run t).wf = true) (hf : ∀ x d u t, Mach.wf u = true → f x d u = some t → t.wf = true) {t : Mach} (eq : m.imgWords run f a ws = some t) : t.wf = true :=
  by
  unfold Mach.imgWords at eq
  have key : ∀ (l : List (Word × Nat)) (o : Option Mach), (∀ u, o = some u → u.wf = true) →
      ∀ t, l.foldl (fun t e => t.bind (fun u => (f (a + 4 * e.2) e.1 u).map run)) o = some t → t.wf = true := by
    intro l
    induction l with
    | nil => intro o ho t e; exact ho t e
    | cons x l ih =>
      intro o ho t e
      refine ih _ (fun u hu => ?_) t e
      cases o with
      | none => cases hu
      | some v =>
        simp only [Option.bind_some, Option.map_eq_some_iff] at hu
        obtain ⟨w, hw, rfl⟩ := hu
        exact hr _ (hf _ _ _ _ (ho v rfl) hw)
  exact key _ _ (fun u hu => by cases hu; exact h) t eq

theorem wf_imgRecord {run : Mach → Mach} {s : Section} {boot : Bool} {m : Mach} (h : m.wf = true) (hr : ∀ t, Mach.wf t = true →
    (run t).wf = true) {t : Mach} (eq : m.imgRecord run s boot = some t) : t.wf = true :=
  by
  unfold Mach.imgRecord at eq
  dsimp only at eq
  split at eq
  · cases eq
  · simp only [Option.map_eq_some_iff] at eq
    obtain ⟨u, hu, rfl⟩ := eq
    refine wf_mk (m := u) ?_ rfl rfl rfl rfl rfl rfl rfl rfl rfl rfl rfl
    split at hu
    · exact wf_imgWords h hr (fun _ _ _ _ hu e => wf_imgWrite hu e) hu
    · exact wf_imgWords h hr (fun _ _ _ _ hu e => wf_imgChWrite hu e) hu
    · exact wf_imgWords h hr (fun _ _ _ _ hu e => wf_imgAonWrite hu e) hu
    · exact wf_imgBootStart h hu
    · cases hu
      split
      · exact wf_put h
      · exact h

theorem wf_imgSeek {k : Nat} {m : Mach} (h : m.wf = true) : (Mach.imgSeek k m).wf = true :=
  by
  induction k generalizing m with
  | zero => exact h
  | succ k ih =>
    unfold Mach.imgSeek
    dsimp only
    repeat' first | (with_reducible assumption) | (with_reducible apply ih) | (with_reducible apply wf_put) | split
                  | (fail_if_no_progress (with_reducible refine wf_mk ?_ rfl rfl rfl rfl rfl rfl rfl rfl rfl rfl rfl))

theorem wf_grpUnqueue {addr : Nat} {m : Mach} (h : m.wf = true) : (Mach.grpUnqueue addr m).wf = true := by
  unfold Mach.grpUnqueue
  try dsimp only
  repeat' first | (with_reducible assumption) | (with_reducible apply wf_setGrp) | (refine wf_fst ?_ (by assumption))
                | (refine wf_snd ?_ (by assumption)) | (intro _) | split

theorem wf_wordBack {k : Nat} {m : Mach} (h : m.wf = true) : (Mach.wordBack k m).wf = true := by
  unfold Mach.wordBack
  try dsimp only
  repeat' first | (with_reducible assumption) | (with_reducible apply wf_grpUnqueue) | (with_reducible apply wf_setReg)
                | (with_reducible apply wf_grpDisable) | (with_reducible apply wf_push) | (with_reducible apply wf_hook)
                | (with_reducible apply wf_applyIf) | (intro _) | split

theorem wf_rollBack {m : Mach} (h : m.wf = true) : (Mach.rollBack m).wf = true := by
  unfold Mach.rollBack
  try dsimp only
  repeat' first | (with_reducible assumption) | (with_reducible apply wf_wordBack) | (with_reducible apply wf_cfgChanged)
                | (with_reducible apply wf_setTw) | (with_reducible apply wf_push) | (with_reducible apply wf_tblHook)
                | (with_reducible apply wf_foldl) | (with_reducible apply wf_foldl_fst) | (intro _) | split
                | (fail_if_no_progress (with_reducible refine wf_mk ?_ rfl rfl rfl rfl rfl rfl rfl rfl rfl rfl rfl))

theorem wf_postHeld {m : Mach} (h : m.wf = true) : (Mach.postHeld m).wf = true := by
  unfold Mach.postHeld
  try dsimp only
  repeat' first | (with_reducible assumption) | (with_reducible apply wf_postAon) | (with_reducible apply wf_foldl) | (intro _) | split
                | (fail_if_no_progress (with_reducible refine wf_mk ?_ rfl rfl rfl rfl rfl rfl rfl rfl rfl rfl rfl))

theorem wf_flashSend {cmds : List (List Byte)} {m : Mach} (h : m.wf = true) : (Mach.flashSend cmds m).wf = true := by
  unfold Mach.flashSend
  try dsimp only
  repeat' first | (with_reducible assumption) | (intro _) | split
                | (fail_if_no_progress (with_reducible refine wf_mk ?_ rfl rfl rfl rfl rfl rfl rfl rfl rfl rfl rfl))

theorem wf_svcClose {m : Mach} (h : m.wf = true) : (Mach.svcClose m).wf = true := by
  unfold Mach.svcClose
  try dsimp only
  repeat' first | (with_reducible assumption) | (with_reducible apply wf_ledger) | (with_reducible apply wf_put) | (intro _) | split

theorem wf_svcOpenSession {m : Mach} (h : m.wf = true) : (Mach.svcOpenSession m).wf = true := by
  unfold Mach.svcOpenSession
  try dsimp only
  repeat' first | (with_reducible assumption) | (with_reducible apply wf_put) | (with_reducible apply wf_startTimer)

theorem wf_svcEnd {err : Nat} {m : Mach} (h : m.wf = true) : (Mach.svcEnd err m).wf = true := by
  unfold Mach.svcEnd
  try dsimp only
  repeat' first | (with_reducible assumption) | (with_reducible apply wf_put) | (with_reducible apply wf_startTimer)

theorem wf_svcHook {d : Word} {m : Mach} (h : m.wf = true) : (Mach.svcHook d m).wf = true := by
  unfold Mach.svcHook
  try dsimp only
  repeat' first | (with_reducible assumption) | (with_reducible apply wf_svcEnd) | (with_reducible apply wf_svcClose) | (with_reducible apply wf_put)
                | (with_reducible apply wf_flashSend) | (with_reducible apply wf_startTimer) | (intro _) | split
                | (fail_if_no_progress (with_reducible refine wf_mk ?_ rfl rfl rfl rfl rfl rfl rfl rfl rfl rfl rfl))

theorem wf_svcVerdict {r : Nat × Nat × Nat} {same : Bool} {m : Mach} (h : m.wf = true) : (Mach.svcVerdict r same m).wf = true := by
  unfold Mach.svcVerdict
  try dsimp only
  repeat' first | (with_reducible assumption) | (with_reducible apply wf_put)

theorem wf_svcCheck {bytes : List Byte} {m : Mach} (h : m.wf = true) : (Mach.svcCheck bytes m).wf = true := by
  unfold Mach.svcCheck
  try dsimp only
  repeat' first | (with_reducible assumption) | (with_reducible apply wf_svcVerdict)

theorem wf_svcVerified {bytes : List Byte} {sfdp : Option Sfdp} {m : Mach} (h : m.wf = true) : (Mach.svcVerified bytes sfdp m).wf = true :=
    by
  unfold Mach.svcVerified
  try dsimp only
  repeat' first | (with_reducible assumption) | (with_reducible apply wf_svcCheck) | (with_reducible apply wf_svcVerdict)
                | (with_reducible apply wf_flashSend) | (refine wf_fst ?_ (by assumption)) | (refine wf_snd ?_ (by assumption)) | (intro _) | split
                | (fail_if_no_progress (with_reducible refine wf_mk ?_ rfl rfl rfl rfl rfl rfl rfl rfl rfl rfl rfl))

theorem wf_svcDone {timeout : Bool} {bytes : List Byte} {sfdp : Option Sfdp} {m : Mach} (h : m.wf = true) : (Mach.svcDone timeout bytes sfdp
    m).wf = true := by
  unfold Mach.svcDone
  try dsimp only
  repeat' first | (with_reducible assumption) | (with_reducible apply wf_reach) | (with_reducible apply wf_svcEnd)
                | (with_reducible apply wf_setBytes) | (with_reducible apply wf_put) | (with_reducible apply wf_svcVerified)
                | (refine wf_fst ?_ (by assumption)) | (refine wf_snd ?_ (by assumption)) | (intro _) | split

theorem wf_svcTimeout {m : Mach} (h : m.wf = true) : (Mach.svcTimeout m).wf = true := by
  unfold Mach.svcTimeout
  try dsimp only
  repeat' first | (with_reducible assumption) | (with_reducible apply wf_reach) | (with_reducible apply wf_svcClose) | (intro _) | split

theorem wf_bankClear {p : Nat} {m : Mach} (h : m.wf = true) : (Mach.bankClear p m).wf = true :=
  wf_regs h (cwf_cdrop _ _ (wf_parts.1 h).1)

theorem wf_freshen {p : Nat} {m : Mach} (h : m.wf = true) : (Mach.freshen p m).wf = true := by
  unfold Mach.freshen
  try dsimp only
  repeat' first | (with_reducible assumption) | (with_reducible apply wf_bankClear) | (with_reducible apply wf_clearLines)
                | (with_reducible apply wf_put) | (with_reducible apply wf_stopTimer)

theorem wf_instantiate {p : Nat} {m : Mach} (h : m.wf = true) : (Mach.instantiate p m).wf = true :=
  by
  unfold Mach.instantiate
  extract_lets m1
  have h1 : m1.wf = true := wf_put (wf_freshen h)
  clear_value m1
  have h2 := wf_recqs h1 (cwf_cdrop (fun q => q / 4 == p) _ (wf_parts.1 h1).2.2.2.2.2.1)
  exact wf_cmdqs h2 (cwf_cdrop (fun q => q / 4 == p) _ (wf_parts.1 h1).2.2.2.2.2.2.1)

theorem wf_instantiateAll {m : Mach} (h : m.wf = true) : (Mach.instantiateAll m).wf = true := by
  unfold Mach.instantiateAll
  try dsimp only
  repeat' first | (with_reducible assumption) | (with_reducible apply wf_instantiate) | (with_reducible apply wf_forN)
                | (with_reducible apply wf_applyIf) | (intro _)

theorem wf_diagnostic {m : Mach} (h : m.wf = true) : (Mach.diagnostic m).wf = true := by
  unfold Mach.diagnostic
  try dsimp only
  repeat' first | (with_reducible assumption) | (with_reducible apply wf_instantiate) | (with_reducible apply wf_applyIf)

theorem wf_cut {p : Nat} {m : Mach} (h : m.wf = true) : (Mach.cut p m).wf = true :=
  by
  unfold Mach.cut
  extract_lets m1 m2 m3
  have h1 : m1.wf = true := wf_put (wf_freshen h)
  have h2 : m2.wf = true := wf_forN (fun i t ht => wf_applyIf (fun u hu => wf_tput hu) ht) _ h1
  clear_value m2
  have h3 : m3.wf = true := wf_mk (wf_wideCut h2) rfl rfl rfl rfl rfl rfl rfl rfl rfl rfl rfl
  clear_value m3
  split
  · exact wf_forN (fun i t ht => wf_setReg ht) _ h3
  · exact h3

theorem wf_partCheck {p : Nat} {m : Mach} (h : m.wf = true) : (Mach.partCheck p m).wf = true := by
  unfold Mach.partCheck
  try dsimp only
  repeat' first | (with_reducible assumption) | (with_reducible apply wf_cut) | (intro _) | split

theorem wf_parkPins {p : Nat} {m : Mach} (h : m.wf = true) : (Mach.parkPins p m).wf = true := by
  unfold Mach.parkPins
  try dsimp only
  repeat' first | (with_reducible assumption) | (with_reducible apply wf_updCh) | (with_reducible apply wf_forN) | (with_reducible apply wf_applyIf)
                | (intro _)

theorem wf_stopAll {p : Nat} {cause : Nat} {m : Mach} (h : m.wf = true) : (Mach.stopAll p cause m).wf = true := by
  unfold Mach.stopAll
  try dsimp only
  repeat' first | (with_reducible assumption) | (with_reducible apply wf_withdraw) | (with_reducible apply wf_stop) | (with_reducible apply wf_forN)
                | (with_reducible apply wf_applyIf) | (intro _) | split

theorem wf_partReset {p : Nat} {cause : Nat} {m : Mach} (h : m.wf = true) : (Mach.partReset p cause m).wf = true := by
  unfold Mach.partReset
  try dsimp only
  repeat' first | (with_reducible assumption) | (with_reducible apply wf_put) | (with_reducible apply wf_raise) | (with_reducible apply wf_downQueues)
                | (with_reducible apply wf_freeLocks) | (with_reducible apply wf_stopAll) | (with_reducible apply wf_parkPins)
                | (with_reducible apply wf_svcClose) | (with_reducible apply wf_push) | (with_reducible apply wf_partCheck)
                | (with_reducible apply wf_forN) | (intro _) | split

theorem wf_dropBindings {p : Nat} {m : Mach} (h : m.wf = true) : (Mach.dropBindings p m).wf = true := by
  unfold Mach.dropBindings
  try dsimp only
  repeat' first | (with_reducible assumption) | (with_reducible apply wf_put) | (with_reducible apply wf_setReg) | (with_reducible apply wf_foldl)
                | (intro _)

theorem wf_clearDone {p : Nat} {m : Mach} (h : m.wf = true) : (Mach.clearDone p m).wf = true := by
  unfold Mach.clearDone
  try dsimp only
  repeat' first | (with_reducible assumption) | (with_reducible apply wf_put) | (with_reducible apply wf_event)
                | (with_reducible apply wf_dropBindings) | (intro _) | split

theorem wf_orstHook {d : Word} {m : Mach} (h : m.wf = true) : (Mach.orstHook d m).wf = true := by
  unfold Mach.orstHook
  try dsimp only
  repeat' first | (with_reducible assumption) | (with_reducible apply wf_push) | (with_reducible apply wf_partReset) | (with_reducible apply wf_forN)
                | (with_reducible apply wf_applyIf) | (intro _)

theorem wf_partEnHook {old : Word} {new : Word} {m : Mach} (h : m.wf = true) : (Mach.partEnHook old new m).wf = true := by
  unfold Mach.partEnHook
  try dsimp only
  repeat' first | (with_reducible assumption) | (with_reducible apply wf_instantiate) | (with_reducible apply wf_put) | (with_reducible apply wf_push)
                | (with_reducible apply wf_partReset) | (with_reducible apply wf_forN) | (with_reducible apply wf_applyIf) | (intro _) | split

theorem wf_partCfgHook {p : Nat} {old : Word} {new : Word} {m : Mach} (h : m.wf = true) : (Mach.partCfgHook p old new m).wf = true := by
  unfold Mach.partCfgHook
  try dsimp only
  repeat' first | (with_reducible assumption) | (with_reducible apply wf_setReg) | (with_reducible apply wf_put) | (with_reducible apply wf_foldl)
                | (intro _) | split

theorem wf_bucketClock {p : Nat} {m : Mach} (h : m.wf = true) : (Mach.bucketClock p m).wf = true := by
  unfold Mach.bucketClock
  try dsimp only
  repeat' first | (with_reducible assumption) | (with_reducible apply wf_stopTimer) | (with_reducible apply wf_startTimer) | (intro _) | split

theorem wf_partSvcHook {p : Nat} {m : Mach} (h : m.wf = true) : (Mach.partSvcHook p m).wf = true := by
  unfold Mach.partSvcHook
  try dsimp only
  repeat' first | (with_reducible assumption) | (with_reducible apply wf_put) | (with_reducible apply wf_bucketClock) | (intro _) | split

theorem wf_tokenRefill {p : Nat} {m : Mach} (h : m.wf = true) : (Mach.tokenRefill p m).wf = true := by
  unfold Mach.tokenRefill
  try dsimp only
  repeat' first | (with_reducible assumption) | (with_reducible apply wf_reach) | (with_reducible apply wf_stopTimer) | (with_reducible apply wf_put)
                | (with_reducible apply wf_bucketClock) | (intro _) | split

theorem wf_takeToken {p : Nat} {m : Mach} (h : m.wf = true) : (Mach.takeToken p m).wf = true := by
  unfold Mach.takeToken
  try dsimp only
  repeat' first | (with_reducible assumption) | (with_reducible apply wf_put) | (with_reducible apply wf_bucketClock)

theorem wf_newOwner {n : Nat} {m : Mach} (h : m.wf = true) : (Mach.newOwner n m).wf = true := by
  unfold Mach.newOwner
  try dsimp only
  repeat' first | (with_reducible assumption) | (with_reducible apply wf_setTw) | (with_reducible apply wf_tput) | (with_reducible apply wf_chGrpHook)

theorem wf_ownHook {addr : Nat} {old : Word} {new : Word} {m : Mach} (h : m.wf = true) : (Mach.ownHook addr old new m).wf = true := by
  unfold Mach.ownHook
  try dsimp only
  repeat' first | (with_reducible assumption) | (with_reducible apply wf_newOwner) | (with_reducible apply wf_forN)
                | (with_reducible apply wf_applyIf) | (intro _) | split

theorem wf_attachCheck {port : Port} {i : Nat} {m : Mach} (h : m.wf = true) : (Mach.attachCheck port i m).1.wf = true := by
  unfold Mach.attachCheck
  try dsimp only
  repeat' first | (with_reducible assumption) | (with_reducible apply wf_raise) | (with_reducible apply wf_authCheck) | (with_reducible apply wf_take)
                | (with_reducible apply wf_setReg) | (with_reducible apply wf_put) | (refine wf_fst ?_ (by assumption))
                | (refine wf_snd ?_ (by assumption)) | (intro _) | split

theorem wf_attach {port : Port} {i : Nat} {m : Mach} (h : m.wf = true) : (Mach.attach port i m).wf = true := by
  unfold Mach.attach
  try dsimp only
  repeat' first | (with_reducible assumption) | (with_reducible apply wf_attachCheck) | (with_reducible apply wf_put)

theorem wf_unbindHook {i : Nat} {d : Word} {m : Mach} (h : m.wf = true) : (Mach.unbindHook i d m).wf = true := by
  unfold Mach.unbindHook
  try dsimp only
  repeat' first | (with_reducible assumption) | (with_reducible apply wf_put) | (with_reducible apply wf_forN) | (with_reducible apply wf_applyIf)
                | (intro _)

theorem wf_endRemote {q t : Nat} {post : Desc → Mach → Mach} {m : Mach} (h : m.wf = true) (hf : ∀ d t, Mach.wf t = true → (post d t).wf = true)
    : (Mach.endRemote q t post m).wf = true :=
  by
  unfold Mach.endRemote
  dsimp only
  split
  · exact h
  · split
    · exact wf_urgWait (hf _ _ (wf_release (wf_emptied (wf_setCq h))))
    · exact h

theorem wf_dropTxn {x : Txn} {m : Mach} (h : m.wf = true) : (Mach.dropTxn x m).wf = true := by
  unfold Mach.dropTxn
  try dsimp only
  repeat' first | (with_reducible assumption) | (with_reducible apply wf_updLink) | (with_reducible apply wf_lraEnd)
                | (with_reducible apply wf_endRemote) | (with_reducible apply wf_complete) | (intro _) | split

theorem wf_dropTxns {p : Txn → Bool} {m : Mach} (h : m.wf = true) : (Mach.dropTxns p m).wf = true := by
  unfold Mach.dropTxns
  try dsimp only
  repeat' first | (with_reducible assumption) | (with_reducible apply wf_dropTxn) | (with_reducible apply wf_foldl) | (intro _)

theorem wf_txnTimeout {tid : Nat} {m : Mach} (h : m.wf = true) : (Mach.txnTimeout tid m).wf = true := by
  unfold Mach.txnTimeout
  try dsimp only
  repeat' first | (with_reducible assumption) | (with_reducible apply wf_advNow) | (with_reducible apply wf_dropTxns) | (with_reducible apply wf_put)
                | (refine wf_fst ?_ (by assumption)) | (refine wf_snd ?_ (by assumption)) | (intro _) | split

theorem wf_showChain {m : Mach} (h : m.wf = true) : (Mach.showChain m).wf = true := by
  unfold Mach.showChain
  try dsimp only
  repeat' first | (with_reducible assumption) | (with_reducible apply wf_put)

theorem wf_calFail {reason : Nat} {m : Mach} (h : m.wf = true) : (Mach.calFail reason m).wf = true := by
  unfold Mach.calFail
  try dsimp only
  repeat' first | (with_reducible assumption) | (with_reducible apply wf_put) | (with_reducible apply wf_broadcast) | (with_reducible apply wf_raise)
                | (intro _) | split

theorem wf_hopLost {k : Nat} {m : Mach} (h : m.wf = true) : (Mach.hopLost k m).wf = true := by
  unfold Mach.hopLost
  try dsimp only
  repeat' first | (with_reducible assumption) | (with_reducible apply wf_updLink) | (with_reducible apply wf_put)
                | (with_reducible apply wf_showChain) | (with_reducible apply wf_raise) | (with_reducible apply wf_calFail) | (intro _) | split

theorem wf_hopBack {k : Nat} {m : Mach} (h : m.wf = true) : (Mach.hopBack k m).wf = true := by
  unfold Mach.hopBack
  try dsimp only
  repeat' first | (with_reducible assumption) | (with_reducible apply wf_updLink) | (with_reducible apply wf_put)
                | (with_reducible apply wf_showChain)

theorem wf_reroute {fs : List Frame} {m : Mach} (h : m.wf = true) : (Mach.reroute fs m).wf = true := by
  unfold Mach.reroute
  try dsimp only
  repeat' first | (with_reducible assumption) | (with_reducible apply wf_sendOn) | (with_reducible apply wf_foldl)
                | (with_reducible apply wf_foldl_fst) | (with_reducible apply wf_elim) | (intro _) | split

theorem wf_epochCheck {m : Mach} (h : m.wf = true) : (Mach.epochCheck m).wf = true := by
  unfold Mach.epochCheck
  try dsimp only
  repeat' first | (with_reducible assumption) | (with_reducible apply wf_refActivity) | (with_reducible apply wf_refLos) | (intro _) | split

theorem wf_secFree {m : Mach} (h : m.wf = true) : (Mach.secFree m).wf = true := by
  unfold Mach.secFree
  try dsimp only
  repeat' first | (with_reducible assumption) | (with_reducible apply wf_winFree) | (intro _) | split

theorem wf_secCheck {m : Mach} (h : m.wf = true) : (Mach.secCheck m).wf = true := by
  unfold Mach.secCheck
  try dsimp only
  repeat' first | (with_reducible assumption) | (with_reducible apply wf_secFree) | (intro _) | split

theorem wf_nodeLost {p : LPort} {m : Mach} (h : m.wf = true) : (Mach.nodeLost p m).wf = true := by
  unfold Mach.nodeLost
  try dsimp only
  repeat' first | (with_reducible assumption) | (with_reducible apply wf_updLink) | (intro _) | split

theorem wf_portLost {p : LPort} {cause : Nat} {m : Mach} (h : m.wf = true) : (Mach.portLost p cause m).wf = true := by
  unfold Mach.portLost
  try dsimp only
  repeat' first | (with_reducible assumption) | (with_reducible apply wf_setLstate) | (with_reducible apply wf_secCheck)
                | (with_reducible apply wf_put) | (with_reducible apply wf_raise) | (with_reducible apply wf_setLp)
                | (with_reducible apply wf_updLink) | (with_reducible apply wf_stopTimer) | (with_reducible apply wf_epochCheck) | (intro _) | split

theorem wf_ringLost {p : LPort} {fs : List Frame} {m : Mach} (h : m.wf = true) : (Mach.ringLost p fs m).wf = true := by
  unfold Mach.ringLost
  try dsimp only
  repeat' first | (with_reducible assumption) | (with_reducible apply wf_dropTxns) | (with_reducible apply wf_reroute)
                | (with_reducible apply wf_nodeLost) | (with_reducible apply wf_hopLost) | (with_reducible apply wf_broadcast)

theorem wf_leaveUp {p : LPort} {cause : Nat} {m : Mach} (h : m.wf = true) : (Mach.leaveUp p cause m).wf = true := by
  unfold Mach.leaveUp
  try dsimp only
  repeat' first | (with_reducible assumption) | (with_reducible apply wf_portLost) | (with_reducible apply wf_ringLost) | (intro _) | split

theorem wf_portsIdle {cause : Nat} {m : Mach} (h : m.wf = true) : (Mach.portsIdle cause m).wf = true := by
  unfold Mach.portsIdle
  try dsimp only
  repeat' first | (with_reducible assumption) | (with_reducible apply wf_portLost) | (with_reducible apply wf_ringLost)
                | (with_reducible apply wf_setLstate) | (with_reducible apply wf_foldl) | (with_reducible apply wf_foldl_fst) | (intro _) | split

theorem wf_portStart {p : LPort} {m : Mach} (h : m.wf = true) : (Mach.portStart p m).wf = true := by
  unfold Mach.portStart
  try dsimp only
  repeat' first | (with_reducible assumption) | (with_reducible apply wf_setLstate) | (intro _) | split

theorem wf_portsStart {m : Mach} (h : m.wf = true) : (Mach.portsStart m).wf = true := by
  unfold Mach.portsStart
  try dsimp only
  repeat' first | (with_reducible assumption) | (with_reducible apply wf_portStart) | (with_reducible apply wf_put) | (intro _) | split

theorem wf_portStep {p : LPort} {s : Nat} {m : Mach} (h : m.wf = true) : (Mach.portStep p s m).wf = true := by
  unfold Mach.portStep
  try dsimp only
  repeat' first | (with_reducible assumption) | (with_reducible apply wf_setLstate) | (with_reducible apply wf_setLp)
                | (with_reducible apply wf_startTimer) | (intro _) | split

theorem wf_trainTimeout {p : LPort} {m : Mach} (h : m.wf = true) : (Mach.trainTimeout p m).wf = true := by
  unfold Mach.trainTimeout
  try dsimp only
  repeat' first | (with_reducible assumption) | (with_reducible apply wf_reach) | (with_reducible apply wf_setLstate) | (intro _) | split

theorem wf_startEnum {m : Mach} (h : m.wf = true) : (Mach.startEnum m).wf = true := by
  unfold Mach.startEnum
  try dsimp only
  repeat' first | (with_reducible assumption) | (with_reducible apply wf_draw) | (with_reducible apply wf_updLink) | (with_reducible apply wf_put)
                | (with_reducible apply wf_startTimer) | (with_reducible apply wf_sendOn) | (refine wf_fst ?_ (by assumption))
                | (refine wf_snd ?_ (by assumption)) | (intro _) | split

theorem wf_joinSeen {p : LPort} {m : Mach} (h : m.wf = true) : (Mach.joinSeen p m).wf = true := by
  unfold Mach.joinSeen
  try dsimp only
  repeat' first | (with_reducible assumption) | (with_reducible apply wf_broadcast) | (intro _) | split

theorem wf_calBegin {m : Mach} (h : m.wf = true) : (Mach.calBegin m).wf = true := by
  unfold Mach.calBegin
  try dsimp only
  repeat' first | (with_reducible assumption) | (with_reducible apply wf_put) | (with_reducible apply wf_updLink) | (intro _) | split

theorem wf_calStartAll {m : Mach} (h : m.wf = true) : (Mach.calStartAll m).wf = true := by
  unfold Mach.calStartAll
  try dsimp only
  repeat' first | (with_reducible assumption) | (with_reducible apply wf_calBegin) | (with_reducible apply wf_put)
                | (with_reducible apply wf_startTimer) | (with_reducible apply wf_broadcast) | (intro _) | split

theorem wf_calOkHere {m : Mach} (h : m.wf = true) : (Mach.calOkHere m).wf = true := by
  unfold Mach.calOkHere
  try dsimp only
  repeat' first | (with_reducible assumption) | (with_reducible apply wf_put) | (with_reducible apply wf_push)

theorem wf_calOk {m : Mach} (h : m.wf = true) : (Mach.calOk m).wf = true := by
  unfold Mach.calOk
  try dsimp only
  repeat' first | (with_reducible assumption) | (with_reducible apply wf_calOkHere) | (with_reducible apply wf_broadcast)

theorem wf_calTimeout {m : Mach} (h : m.wf = true) : (Mach.calTimeout m).wf = true := by
  unfold Mach.calTimeout
  try dsimp only
  repeat' first | (with_reducible assumption) | (with_reducible apply wf_reach) | (with_reducible apply wf_calFail) | (intro _) | split

theorem wf_replay {p : LPort} {t : TrainSet} {m : Mach} (h : m.wf = true) : (Mach.replay p t m).wf = true := by
  unfold Mach.replay
  try dsimp only
  repeat' first | (with_reducible assumption) | (with_reducible apply wf_setLp) | (with_reducible apply wf_put)

theorem wf_enumWait {p : LPort} {m : Mach} (h : m.wf = true) : (Mach.enumWait p m).wf = true := by
  unfold Mach.enumWait
  try dsimp only
  repeat' first | (with_reducible assumption) | (with_reducible apply wf_startTimer) | (intro _) | split

theorem wf_enterUp {p : LPort} {t : TrainSet} {m : Mach} (h : m.wf = true) : (Mach.enterUp p t m).wf = true := by
  unfold Mach.enterUp
  try dsimp only
  repeat' first | (with_reducible assumption) | (with_reducible apply wf_setLstate) | (with_reducible apply wf_put) | (with_reducible apply wf_replay)
                | (with_reducible apply wf_enumWait) | (with_reducible apply wf_setLp) | (with_reducible apply wf_updLink)
                | (with_reducible apply wf_hopBack) | (with_reducible apply wf_broadcast) | (with_reducible apply wf_calStartAll)
                | (with_reducible apply wf_startEnum) | (with_reducible apply wf_joinSeen) | (intro _) | split

theorem wf_trainSet {p : LPort} {t : TrainSet} {sent16 : Bool} {m : Mach} (h : m.wf = true) : (Mach.trainSet p t sent16 m).wf = true := by
  unfold Mach.trainSet
  try dsimp only
  repeat' first | (with_reducible assumption) | (with_reducible apply wf_leaveUp) | (with_reducible apply wf_put) | (with_reducible apply wf_setLp)
                | (with_reducible apply wf_enterUp) | (intro _) | split

theorem wf_delayQuery {m : Mach} (h : m.wf = true) : (Mach.delayQuery m).wf = true := by
  unfold Mach.delayQuery
  try dsimp only
  repeat' first | (with_reducible assumption) | (with_reducible apply wf_updLink) | (with_reducible apply wf_take) | (intro _) | split

theorem wf_dqAnswer {id : Nat} {turn : Nat} {m : Mach} (h : m.wf = true) : (Mach.dqAnswer id turn m).wf = true := by
  unfold Mach.dqAnswer
  try dsimp only
  repeat' first | (with_reducible assumption) | (with_reducible apply wf_updLink) | (intro _) | split

theorem wf_delayResponse {id : Nat} {rtt : Int} {turn : Nat} {m : Mach} (h : m.wf = true) : (Mach.delayResponse id rtt turn m).wf = true :=
    by
  unfold Mach.delayResponse
  try dsimp only
  repeat' first | (with_reducible assumption) | (with_reducible apply wf_take) | (with_reducible apply wf_updLink) | (with_reducible apply wf_put)
                | (with_reducible apply wf_startTimer) | (with_reducible apply wf_epochCheck) | (with_reducible apply wf_foldl)
                | (with_reducible apply wf_foldl_fst) | (intro _) | split

theorem wf_dupTrack {s : Mach} (h : s.wf = true) : (Mach.dupTrack s).wf = true := by
  unfold Mach.dupTrack
  try dsimp only
  repeat' first | (with_reducible assumption) | (with_reducible apply wf_reach) | (with_reducible apply wf_startTimer)
                | (with_reducible apply wf_updLink) | (intro _) | split

theorem wf_answer {p : LPort} {kind : Nat} {m : Mach} (h : m.wf = true) : (Mach.answer p kind m).wf = true := by
  unfold Mach.answer
  try dsimp only
  repeat' first | (with_reducible assumption) | (with_reducible apply wf_setLp)

theorem wf_takeLocal {p : LPort} {f : Frame} {m : Mach} (h : m.wf = true) : (Mach.takeLocal p f m).wf = true := by
  unfold Mach.takeLocal
  try dsimp only
  repeat' first | (with_reducible assumption) | (with_reducible apply wf_updLink) | (with_reducible apply wf_put) | (intro _) | split

theorem wf_passOn {p : LPort} {f : Frame} {m : Mach} (h : m.wf = true) : (Mach.passOn p f m).wf = true := by
  unfold Mach.passOn
  try dsimp only
  repeat' first | (with_reducible assumption) | (with_reducible apply wf_sendOn) | (with_reducible apply wf_elim) | (intro _) | split

theorem wf_dispose {p : LPort} {f : Frame} {m : Mach} (h : m.wf = true) : (Mach.dispose p f m).wf = true := by
  unfold Mach.dispose
  try dsimp only
  repeat' first | (with_reducible assumption) | (with_reducible apply wf_updLink) | (with_reducible apply wf_put)
                | (with_reducible apply wf_takeLocal) | (with_reducible apply wf_passOn) | (intro _) | split

theorem wf_frameRx {p : LPort} {bytes : List Byte} {eof : Bool} {room : Bool} {m : Mach} (h : m.wf = true) :
    (Mach.frameRx p bytes eof room m).wf = true := by
  unfold Mach.frameRx
  try dsimp only
  repeat' first | (with_reducible assumption) | (with_reducible apply wf_answer) | (with_reducible apply wf_take) | (with_reducible apply wf_put)
                | (with_reducible apply wf_raise) | (with_reducible apply wf_setLp) | (with_reducible apply wf_dispose) | (intro _) | split

theorem wf_ackUpTo {p : LPort} {seq : Nat} {m : Mach} (h : m.wf = true) : (Mach.ackUpTo p seq m).wf = true := by
  unfold Mach.ackUpTo
  try dsimp only
  repeat' first | (with_reducible assumption) | (with_reducible apply wf_setLp) | (with_reducible apply wf_pump) | (intro _) | split

theorem wf_resend {p : LPort} {m : Mach} (h : m.wf = true) : (Mach.resend p m).wf = true := by
  unfold Mach.resend
  try dsimp only
  repeat' first | (with_reducible assumption) | (with_reducible apply wf_raise) | (with_reducible apply wf_leaveUp) | (with_reducible apply wf_setLp)
                | (with_reducible apply wf_put) | (refine wf_fst ?_ (by assumption)) | (refine wf_snd ?_ (by assumption)) | (intro _) | split

theorem wf_ackRx {p : LPort} {seq : Nat} {m : Mach} (h : m.wf = true) : (Mach.ackRx p seq m).wf = true := by
  unfold Mach.ackRx
  try dsimp only
  repeat' first | (with_reducible assumption) | (with_reducible apply wf_ackUpTo) | (intro _) | split

theorem wf_nakRx {p : LPort} {seq : Nat} {m : Mach} (h : m.wf = true) : (Mach.nakRx p seq m).wf = true := by
  unfold Mach.nakRx
  try dsimp only
  repeat' first | (with_reducible assumption) | (with_reducible apply wf_ackUpTo) | (with_reducible apply wf_resend) | (intro _) | split

theorem wf_busyRx {p : LPort} {seq : Nat} {m : Mach} (h : m.wf = true) : (Mach.busyRx p seq m).wf = true := by
  unfold Mach.busyRx
  try dsimp only
  repeat' first | (with_reducible assumption) | (with_reducible apply wf_ackUpTo) | (with_reducible apply wf_setLp)
                | (with_reducible apply wf_startTimer) | (intro _) | split

theorem wf_busyExpire {p : LPort} {s : Mach} (h : s.wf = true) : (Mach.busyExpire p s).wf = true := by
  unfold Mach.busyExpire
  try dsimp only
  repeat' first | (with_reducible assumption) | (with_reducible apply wf_reach) | (with_reducible apply wf_setLp) | (with_reducible apply wf_resend)
                | (intro _) | split

theorem wf_retryTimeout {p : LPort} {m : Mach} (h : m.wf = true) : (Mach.retryTimeout p m).wf = true := by
  unfold Mach.retryTimeout
  try dsimp only
  repeat' first | (with_reducible assumption) | (with_reducible apply wf_advNow) | (with_reducible apply wf_resend)
                | (refine wf_fst ?_ (by assumption)) | (refine wf_snd ?_ (by assumption)) | (intro _) | split

theorem wf_takeFrame {typs : List Nat} {m : Mach} (h : m.wf = true) {t : (LPort × Frame) × Mach} (eq : m.takeFrame typs = some t) : t.2.wf = true :=
  by
  unfold Mach.takeFrame at eq
  simp only [Option.map_eq_some_iff] at eq
  obtain ⟨u, _, rfl⟩ := eq
  exact wf_updLink h

theorem wf_onFrame {typs : List Nat} {f : LPort → Frame → Mach → Mach} {m : Mach} (h : m.wf = true) (hf : ∀ p x t, Mach.wf t = true →
    (f p x t).wf = true) : (Mach.onFrame typs f m).wf = true :=
  by
  unfold Mach.onFrame
  split
  · rename_i e t heq
    exact hf _ _ _ (wf_takeFrame (t := (e, t)) h heq)
  · exact h

theorem wf_lraGo {w : Who} {port : Port} {d : Word} {m : Mach} (h : m.wf = true) : (Mach.lraGo w port d m).wf = true := by
  unfold Mach.lraGo
  try dsimp only
  repeat' first | (with_reducible assumption) | (with_reducible apply wf_accErr) | (with_reducible apply wf_lraEnd)
                | (with_reducible apply wf_nextTid) | (with_reducible apply wf_put) | (with_reducible apply wf_updLink)
                | (with_reducible apply wf_sendTo) | (refine wf_fst ?_ (by assumption)) | (refine wf_snd ?_ (by assumption)) | (intro _) | split

theorem wf_rrsp {f : Frame} {m : Mach} (h : m.wf = true) : (Mach.rrsp f m).wf = true := by
  unfold Mach.rrsp
  try dsimp only
  repeat' first | (with_reducible assumption) | (with_reducible apply wf_updLink) | (with_reducible apply wf_setBytes)
                | (with_reducible apply wf_lraEnd) | (intro _) | split

theorem wf_dupCheck {f : Frame} {m : Mach} (h : m.wf = true) : (Mach.dupCheck f m).2.wf = true := by
  unfold Mach.dupCheck
  try dsimp only
  repeat' first | (with_reducible assumption) | (with_reducible apply wf_updLink)

theorem wf_linkCmd {f : Frame} {m : Mach} (h : m.wf = true) : (Mach.linkCmd f m).wf = true := by
  unfold Mach.linkCmd
  try dsimp only
  repeat' first | (with_reducible assumption) | (with_reducible apply wf_dupCheck) | (with_reducible apply wf_stop)
                | (with_reducible apply wf_complete) | (with_reducible apply wf_enqueue) | (refine wf_fst ?_ (by assumption))
                | (refine wf_snd ?_ (by assumption)) | (intro _) | split

theorem wf_linkCpl {f : Frame} {m : Mach} (h : m.wf = true) : (Mach.linkCpl f m).wf = true := by
  unfold Mach.linkCpl
  try dsimp only
  repeat' first | (with_reducible assumption) | (with_reducible apply wf_updLink) | (with_reducible apply wf_endRemote)
                | (with_reducible apply wf_post) | (intro _) | split

theorem wf_forwardRx {f : Frame} {m : Mach} (h : m.wf = true) : (Mach.forwardRx f m).wf = true := by
  unfold Mach.forwardRx
  try dsimp only
  repeat' first | (with_reducible assumption) | (with_reducible apply wf_nextTid) | (with_reducible apply wf_sendTo)
                | (with_reducible apply wf_updLink) | (with_reducible apply wf_post) | (refine wf_fst ?_ (by assumption))
                | (refine wf_snd ?_ (by assumption)) | (intro _) | split

theorem wf_agack {f : Frame} {m : Mach} (h : m.wf = true) : (Mach.agack f m).wf = true := by
  unfold Mach.agack
  try dsimp only
  repeat' first | (with_reducible assumption) | (with_reducible apply wf_updLink) | (with_reducible apply wf_stopTimer)
                | (with_reducible apply wf_startTimer) | (refine wf_fst ?_ (by assumption)) | (refine wf_snd ?_ (by assumption)) | (intro _) | split

theorem wf_forwardResend {ledger : Bool} {s : Mach} (h : s.wf = true) : (Mach.forwardResend ledger s).wf = true := by
  unfold Mach.forwardResend
  try dsimp only
  repeat' first | (with_reducible assumption) | (with_reducible apply wf_sendForward) | (with_reducible apply wf_reach)
                | (with_reducible apply wf_startTimer) | (with_reducible apply wf_foldl) | (with_reducible apply wf_foldl_fst)
                | (refine wf_fst ?_ (by assumption)) | (refine wf_snd ?_ (by assumption)) | (intro _) | split

theorem wf_renumber {m : Mach} (h : m.wf = true) : (Mach.renumber m).wf = true := by
  unfold Mach.renumber
  try dsimp only
  repeat' first | (with_reducible assumption) | (with_reducible apply wf_updLink)

theorem wf_takeBudget {b : Nat} {m : Mach} (h : m.wf = true) : (Mach.takeBudget b m).wf = true := by
  unfold Mach.takeBudget
  try dsimp only
  repeat' first | (with_reducible assumption) | (with_reducible apply wf_refreshBudget) | (intro _) | split
                | (fail_if_no_progress (with_reducible refine wf_mk ?_ rfl rfl rfl rfl rfl rfl rfl rfl rfl rfl rfl))

theorem wf_budgetOut {m : Mach} (h : m.wf = true) : (Mach.budgetOut m).wf = true := by
  unfold Mach.budgetOut
  try dsimp only
  repeat' first | (with_reducible assumption) | (with_reducible apply wf_broadcast) | (with_reducible apply wf_takeBudget)

theorem wf_budgetSend {m : Mach} (h : m.wf = true) : (Mach.budgetSend m).wf = true := by
  unfold Mach.budgetSend
  try dsimp only
  repeat' first | (with_reducible assumption) | (with_reducible apply wf_updLink) | (with_reducible apply wf_budgetOut)
                | (with_reducible apply wf_reach) | (with_reducible apply wf_startTimer) | (intro _) | split

theorem wf_budgetRx {f : Frame} {m : Mach} (h : m.wf = true) : (Mach.budgetRx f m).wf = true := by
  unfold Mach.budgetRx
  try dsimp only
  repeat' first | (with_reducible assumption) | (with_reducible apply wf_takeBudget) | (intro _) | split

theorem wf_dropLinkBindings {first : Nat} {m : Mach} (h : m.wf = true) : (Mach.dropLinkBindings first m).wf = true :=
  wf_regs h (cwf_cdrop _ _ (wf_parts.1 h).1)

theorem wf_unenum {m : Mach} (h : m.wf = true) : (Mach.unenum m).wf = true := by
  unfold Mach.unenum
  try dsimp only
  repeat' first | (with_reducible assumption) | (with_reducible apply wf_put) | (with_reducible apply wf_secFree)
                | (with_reducible apply wf_epochCheck) | (intro _) | split

theorem wf_enumFail {reason : Nat} {m : Mach} (h : m.wf = true) : (Mach.enumFail reason m).wf = true := by
  unfold Mach.enumFail
  try dsimp only
  repeat' first | (with_reducible assumption) | (with_reducible apply wf_updLink) | (with_reducible apply wf_raise) | (intro _) | split

theorem wf_enumSet {count : Nat} {openChain : Bool} {m : Mach} (h : m.wf = true) : (Mach.enumSet count openChain m).wf = true := by
  unfold Mach.enumSet
  try dsimp only
  repeat' first | (with_reducible assumption) | (with_reducible apply wf_dropLinkBindings) | (with_reducible apply wf_put)
                | (with_reducible apply wf_stopTimer) | (with_reducible apply wf_updLink) | (with_reducible apply wf_renumber)
                | (with_reducible apply wf_showChain) | (with_reducible apply wf_epochCheck)

theorem wf_enumEnd {count : Nat} {openChain : Bool} {m : Mach} (h : m.wf = true) : (Mach.enumEnd count openChain m).wf = true := by
  unfold Mach.enumEnd
  try dsimp only
  repeat' first | (with_reducible assumption) | (with_reducible apply wf_updLink) | (with_reducible apply wf_put) | (with_reducible apply wf_enumSet)
                | (with_reducible apply wf_startTimer) | (with_reducible apply wf_broadcast) | (with_reducible apply wf_calStartAll)

theorem wf_enumRx {p : LPort} {f : Frame} {m : Mach} (h : m.wf = true) : (Mach.enumRx p f m).wf = true := by
  unfold Mach.enumRx
  try dsimp only
  repeat' first | (with_reducible assumption) | (with_reducible apply wf_enumEnd) | (with_reducible apply wf_enumFail)
                | (with_reducible apply wf_updLink) | (with_reducible apply wf_unenum) | (with_reducible apply wf_dropLinkBindings)
                | (with_reducible apply wf_dropTxns) | (with_reducible apply wf_put) | (with_reducible apply wf_sendOn) | (intro _) | split

theorem wf_enumDoneRx {f : Frame} {m : Mach} (h : m.wf = true) : (Mach.enumDoneRx f m).wf = true := by
  unfold Mach.enumDoneRx
  try dsimp only
  repeat' first | (with_reducible assumption) | (with_reducible apply wf_enumSet) | (intro _) | split

theorem wf_enumTimeout {s : Mach} (h : s.wf = true) : (Mach.enumTimeout s).wf = true := by
  unfold Mach.enumTimeout
  try dsimp only
  repeat' first | (with_reducible assumption) | (with_reducible apply wf_reach) | (with_reducible apply wf_enumFail)
                | (with_reducible apply wf_enumEnd) | (with_reducible apply wf_unenum) | (intro _) | split

theorem wf_dropFramesTo {b : Nat} {m : Mach} (h : m.wf = true) : (Mach.dropFramesTo b m).wf = true := by
  unfold Mach.dropFramesTo
  try dsimp only
  repeat' first | (with_reducible assumption) | (with_reducible apply wf_updLink)

theorem wf_noticeRx {f : Frame} {m : Mach} (h : m.wf = true) : (Mach.noticeRx f m).wf = true := by
  unfold Mach.noticeRx
  try dsimp only
  repeat' first | (with_reducible assumption) | (with_reducible apply wf_dropTxns) | (with_reducible apply wf_hopLost)
                | (with_reducible apply wf_hopBack) | (with_reducible apply wf_calStartAll) | (with_reducible apply wf_updLink)
                | (with_reducible apply wf_dropFramesTo) | (with_reducible apply wf_startEnum) | (refine wf_fst ?_ (by assumption))
                | (refine wf_snd ?_ (by assumption)) | (intro _) | split

theorem wf_linkWarm {m : Mach} (h : m.wf = true) : (Mach.linkWarm m).wf = true := by
  unfold Mach.linkWarm
  try dsimp only
  repeat' first | (with_reducible assumption) | (with_reducible apply wf_broadcast) | (with_reducible apply wf_portsIdle) | (intro _) | split

theorem wf_calStartRx {m : Mach} (h : m.wf = true) : (Mach.calStartRx m).wf = true := by
  unfold Mach.calStartRx
  try dsimp only
  repeat' first | (with_reducible assumption) | (with_reducible apply wf_calBegin) | (intro _) | split

theorem wf_calResult {f : Frame} {m : Mach} (h : m.wf = true) : (Mach.calResult f m).wf = true := by
  unfold Mach.calResult
  try dsimp only
  repeat' first | (with_reducible assumption) | (with_reducible apply wf_calOkHere) | (with_reducible apply wf_put) | (intro _) | split

theorem wf_judge {e : Int} {m : Mach} (h : m.wf = true) : (Mach.judge e m).wf = true := by
  unfold Mach.judge
  try dsimp only
  repeat' first | (with_reducible assumption) | (with_reducible apply wf_put) | (with_reducible apply wf_calOk) | (with_reducible apply wf_calFail)
                | (with_reducible apply wf_updLink) | (with_reducible apply wf_broadcast) | (intro _) | split

theorem wf_gridRx {p : LPort} {gl : Bool} {g : Nat} {arrival : Nat} {m : Mach} (h : m.wf = true) : (Mach.gridRx p gl g arrival m).wf = true
    := by
  unfold Mach.gridRx
  try dsimp only
  repeat' first | (with_reducible assumption) | (with_reducible apply wf_judge) | (with_reducible apply wf_calOk) | (with_reducible apply wf_gridLoad)
                | (with_reducible apply wf_put) | (with_reducible apply wf_updLink) | (intro _) | split

theorem wf_vlinkBo {m : Mach} (h : m.wf = true) : (Mach.vlinkBo m).wf = true := by
  unfold Mach.vlinkBo
  try dsimp only
  repeat' first | (with_reducible assumption) | (with_reducible apply wf_updPwr) | (with_reducible apply wf_put) | (with_reducible apply wf_raise)
                | (with_reducible apply wf_portsIdle) | (intro _) | split

theorem wf_vlinkBack {m : Mach} (h : m.wf = true) : (Mach.vlinkBack m).wf = true := by
  unfold Mach.vlinkBack
  try dsimp only
  repeat' first | (with_reducible assumption) | (with_reducible apply wf_updPwr) | (with_reducible apply wf_portsStart) | (intro _) | split

theorem wf_updTest {f : SelfTest → SelfTest} {m : Mach} (h : m.wf = true) : (Mach.updTest f m).wf = true := by
  unfold Mach.updTest
  try dsimp only
  repeat' first | (with_reducible assumption) | (intro _) | split
                | (fail_if_no_progress (with_reducible refine wf_mk ?_ rfl rfl rfl rfl rfl rfl rfl rfl rfl rfl rfl))

theorem wf_testDue {a : Activity} {m : Mach} (h : m.wf = true) : (Mach.testDue a m).wf = true := by
  unfold Mach.testDue
  try dsimp only
  repeat' first | (with_reducible assumption) | (with_reducible apply wf_reach) | (with_reducible apply wf_askSlot) | (intro _) | split

theorem wf_tstEnd {pass : Bool} {step : Nat} {data : Nat} {m : Mach} (h : m.wf = true) : (Mach.tstEnd pass step data m).wf = true := by
  unfold Mach.tstEnd
  try dsimp only
  repeat' first | (with_reducible assumption) | (with_reducible apply wf_put) | (with_reducible apply wf_updTest)

theorem wf_nextTurn {a : Activity} {m : Mach} (h : m.wf = true) : (Mach.nextTurn a m).wf = true := by
  unfold Mach.nextTurn
  try dsimp only
  repeat' first | (with_reducible assumption) | (with_reducible apply wf_updTest) | (refine wf_fst ?_ (by assumption))
                | (refine wf_snd ?_ (by assumption)) | (intro _) | split

theorem wf_actEnd {a : Activity} {pass : Bool} {step : Nat} {data : Nat} {m : Mach} (h : m.wf = true) : (Mach.actEnd a pass step data m).wf
    = true := by
  unfold Mach.actEnd
  try dsimp only
  repeat' first | (with_reducible assumption) | (with_reducible apply wf_tstEnd) | (with_reducible apply wf_slotEnd)
                | (with_reducible apply wf_startTimer) | (with_reducible apply wf_nextTurn) | (intro _) | split

theorem wf_setPass {g : Nat} {v : Pass} {m : Mach} (h : m.wf = true) : (Mach.setPass g v m).wf = true := by
  unfold Mach.setPass
  try dsimp only
  repeat' first | (with_reducible assumption) | (with_reducible apply wf_updTest)

theorem wf_lineVerdict {g : Nat} {fails : Nat} {m : Mach} (h : m.wf = true) : (Mach.lineVerdict g fails m).wf = true := by
  unfold Mach.lineVerdict
  try dsimp only
  repeat' first | (with_reducible assumption) | (with_reducible apply wf_raise) | (intro _) | split

theorem wf_stampVerdict {k : Nat} {pins : Nat} {m : Mach} (h : m.wf = true) : (Mach.stampVerdict k pins m).wf = true := by
  unfold Mach.stampVerdict
  try dsimp only
  repeat' first | (with_reducible assumption) | (with_reducible apply wf_updTest) | (with_reducible apply wf_setReg) | (with_reducible apply wf_put)
                | (with_reducible apply wf_raise) | (intro _) | split
                | (fail_if_no_progress (with_reducible refine wf_mk ?_ rfl rfl rfl rfl rfl rfl rfl rfl rfl rfl rfl))

theorem wf_passStep {g : Nat} {m : Mach} (h : m.wf = true) : (Mach.passStep g m).wf = true := by
  unfold Mach.passStep
  try dsimp only
  repeat' first | (with_reducible assumption) | (with_reducible apply wf_setPass)

theorem wf_passEnd {g : Fin 17} {stamp : Nat} {m : Mach} (h : m.wf = true) : (Mach.passEnd g stamp m).wf = true := by
  unfold Mach.passEnd
  try dsimp only
  repeat' first | (with_reducible assumption) | (with_reducible apply wf_setPass) | (with_reducible apply wf_lineVerdict)
                | (with_reducible apply wf_stampVerdict) | (with_reducible apply wf_actEnd) | (intro _) | split

theorem wf_lineDone {g : Fin 17} {q : Nat} {ok : Bool} {stamp : Nat} {m : Mach} (h : m.wf = true) : (Mach.lineDone g q ok stamp m).wf = true
    := by
  unfold Mach.lineDone
  try dsimp only
  repeat' first | (with_reducible assumption) | (with_reducible apply wf_stampVerdict) | (with_reducible apply wf_tstEnd)
                | (with_reducible apply wf_passEnd) | (with_reducible apply wf_setPass) | (with_reducible apply wf_passStep)
                | (refine wf_fst ?_ (by assumption)) | (refine wf_snd ?_ (by assumption)) | (intro _) | split

theorem wf_lineSwap {g : Fin 17} {q : Nat} {m : Mach} (h : m.wf = true) : (Mach.lineSwap g q m).wf = true := by
  unfold Mach.lineSwap
  try dsimp only
  repeat' first | (with_reducible assumption) | (with_reducible apply wf_advTo) | (with_reducible apply wf_passStep)
                | (refine wf_fst ?_ (by assumption)) | (refine wf_snd ?_ (by assumption)) | (intro _) | split

theorem wf_stoppedSwap {n : Nat} {m : Mach} (h : m.wf = true) : (Mach.stoppedSwap n m).wf = true := by
  unfold Mach.stoppedSwap
  try dsimp only
  repeat' first | (with_reducible assumption) | (with_reducible apply wf_passStep) | (with_reducible apply wf_applyIf)
                | (refine wf_fst ?_ (by assumption)) | (refine wf_snd ?_ (by assumption)) | (intro _) | split

theorem wf_prepareCal {lines : Nat → Nat} {stamps : Nat → Nat} {m : Mach} (h : m.wf = true) : (Mach.prepareCal lines stamps m).wf = true :=
    by
  unfold Mach.prepareCal
  try dsimp only
  repeat' first | (with_reducible assumption) | (with_reducible apply wf_passBegins) | (with_reducible apply wf_lineVerdict)
                | (with_reducible apply wf_updTest) | (with_reducible apply wf_startTimer) | (with_reducible apply wf_stampVerdict)
                | (with_reducible apply wf_forN) | (intro _)

theorem wf_laneTest {ok : Bool} {m0 : Mach} (h : m0.wf = true) : (Mach.laneTest ok m0).wf = true := by
  unfold Mach.laneTest
  try dsimp only
  repeat' first | (with_reducible assumption) | (with_reducible apply wf_reach) | (with_reducible apply wf_startTimer)
                | (with_reducible apply wf_updTest) | (with_reducible apply wf_raise) | (with_reducible apply wf_actEnd)
                | (refine wf_fst ?_ (by assumption)) | (refine wf_snd ?_ (by assumption)) | (intro _) | split

theorem wf_qengTest {ok : Bool} {m0 : Mach} (h : m0.wf = true) : (Mach.qengTest ok m0).wf = true := by
  unfold Mach.qengTest
  try dsimp only
  repeat' first | (with_reducible assumption) | (with_reducible apply wf_reach) | (with_reducible apply wf_startTimer)
                | (with_reducible apply wf_updTest) | (with_reducible apply wf_raise) | (with_reducible apply wf_actEnd) | (intro _) | split

theorem wf_scrubTest {r : ScrubResult} {m0 : Mach} (h : m0.wf = true) : (Mach.scrubTest r m0).wf = true := by
  unfold Mach.scrubTest
  try dsimp only
  repeat' first | (with_reducible assumption) | (with_reducible apply wf_advReg) | (with_reducible apply wf_raise) | (with_reducible apply wf_updTest)
                | (with_reducible apply wf_actEnd) | (refine wf_fst ?_ (by assumption)) | (refine wf_snd ?_ (by assumption)) | (intro _) | split

theorem wf_loopback {p : LPort} {seen : Nat} {k : Int} {m : Mach} (h : m.wf = true) : (Mach.loopback p seen k m).wf = true := by
  unfold Mach.loopback
  try dsimp only
  repeat' first | (with_reducible assumption) | (with_reducible apply wf_setLp) | (with_reducible apply wf_raise) | (with_reducible apply wf_actEnd)
                | (intro _) | split

theorem wf_loopbackCut {p : LPort} {m : Mach} (h : m.wf = true) : (Mach.loopbackCut p m).wf = true := by
  unfold Mach.loopbackCut
  try dsimp only
  repeat' first | (with_reducible assumption) | (with_reducible apply wf_tstEnd) | (with_reducible apply wf_showSlots) | (intro _) | split
                | (fail_if_no_progress (with_reducible refine wf_mk ?_ rfl rfl rfl rfl rfl rfl rfl rfl rfl rfl rfl))

theorem wf_detect {p : LPort} {m : Mach} (h : m.wf = true) : (Mach.detect p m).wf = true := by
  unfold Mach.detect
  try dsimp only
  repeat' first | (with_reducible assumption) | (with_reducible apply wf_loopbackCut) | (with_reducible apply wf_portStep) | (intro _) | split

theorem wf_yieldAll {m : Mach} (h : m.wf = true) : (Mach.yieldAll m).wf = true := by
  unfold Mach.yieldAll
  try dsimp only
  repeat' first | (with_reducible assumption) | (with_reducible apply wf_showSlots) | (intro _) | split
                | (fail_if_no_progress (with_reducible refine wf_mk ?_ rfl rfl rfl rfl rfl rfl rfl rfl rfl rfl rfl))

theorem wf_testAbandon {m : Mach} (h : m.wf = true) : (Mach.testAbandon m).wf = true := by
  unfold Mach.testAbandon
  try dsimp only
  repeat' first | (with_reducible assumption) | (with_reducible apply wf_yieldAll) | (with_reducible apply wf_tstEnd)
                | (refine wf_fst ?_ (by assumption)) | (refine wf_snd ?_ (by assumption)) | (intro _) | split

theorem wf_testFresh {t : Nat} {i : Nat} {m : Mach} (h : m.wf = true) : (Mach.testFresh t i m).wf = true := by
  unfold Mach.testFresh
  try dsimp only
  repeat' first | (with_reducible assumption) | (with_reducible apply wf_passBegins) | (with_reducible apply wf_updTest) | (intro _) | split

theorem wf_clocksStop {m : Mach} (h : m.wf = true) : (Mach.clocksStop m).wf = true := by
  unfold Mach.clocksStop
  try dsimp only
  repeat' first | (with_reducible assumption) | (intro _) | split
                | (fail_if_no_progress (with_reducible refine wf_mk ?_ rfl rfl rfl rfl rfl rfl rfl rfl rfl rfl rfl))

theorem wf_apllStart {m : Mach} (h : m.wf = true) : (Mach.apllStart m).wf = true := by
  unfold Mach.apllStart
  try dsimp only
  repeat' first | (with_reducible assumption) | (with_reducible apply wf_rootDrop) | (with_reducible apply wf_clocksStop)
                | (with_reducible apply wf_portsIdle)

theorem wf_tstHook {d : Word} {m : Mach} (h : m.wf = true) : (Mach.tstHook d m).wf = true := by
  unfold Mach.tstHook
  try dsimp only
  repeat' first | (with_reducible assumption) | (with_reducible apply wf_put) | (with_reducible apply wf_testFresh)
                | (with_reducible apply wf_apllStart) | (intro _) | split

theorem wf_wideDeliver {i : Nat} {cls : Nat} {idx : Nat} {m : Mach} (h : m.wf = true) : (Mach.wideDeliver i cls idx m).wf = true := by
  unfold Mach.wideDeliver
  try dsimp only
  repeat' first | (with_reducible assumption) | (with_reducible apply wf_put)

theorem wf_wideRefuse {i : Nat} {m : Mach} (h : m.wf = true) : (Mach.wideRefuse i m).wf = true := by
  unfold Mach.wideRefuse
  try dsimp only
  repeat' first | (with_reducible assumption) | (with_reducible apply wf_put)

theorem wf_wideHook {w : Who} {d : Word} {m : Mach} (h : m.wf = true) : (Mach.wideHook w d m).wf = true := by
  unfold Mach.wideHook
  try dsimp only
  repeat' first | (with_reducible assumption) | (with_reducible apply wf_put) | (with_reducible apply wf_wideRefuse)
                | (with_reducible apply wf_wideDeliver) | (with_reducible apply wf_setWide) | (intro _) | split

theorem wf_wideDone {i : Nat} {m : Mach} (h : m.wf = true) : (Mach.wideDone i m).wf = true := by
  unfold Mach.wideDone
  try dsimp only
  repeat' first | (with_reducible assumption) | (with_reducible apply wf_setWide) | (with_reducible apply wf_wideLate)
                | (with_reducible apply wf_wideDeliver) | (with_reducible apply wf_wideRefuse) | (with_reducible apply wf_todWrite)
                | (with_reducible apply wf_put) | (intro _) | split

theorem wf_capture {setEn : Bool} {m : Mach} (h : m.wf = true) : (Mach.capture setEn m).wf = true := by
  unfold Mach.capture
  try dsimp only
  repeat' first | (with_reducible assumption) | (intro _) | split
                | (fail_if_no_progress (with_reducible refine wf_mk ?_ rfl rfl rfl rfl rfl rfl rfl rfl rfl rfl rfl))

theorem wf_crcCtlHook {d : Word} {m : Mach} (h : m.wf = true) : (Mach.crcCtlHook d m).wf = true := by
  unfold Mach.crcCtlHook
  try dsimp only
  repeat' first | (with_reducible assumption) | (with_reducible apply wf_capture) | (intro _) | split

theorem wf_crcRefHook {m : Mach} (h : m.wf = true) : (Mach.crcRefHook m).wf = true := by
  unfold Mach.crcRefHook
  try dsimp only
  repeat' first | (with_reducible assumption) | (with_reducible apply wf_put)

theorem wf_crcLoad {v : Nat} {m : Mach} (h : m.wf = true) : (Mach.crcLoad v m).wf = true := by
  unfold Mach.crcLoad
  try dsimp only
  repeat' first | (with_reducible assumption) | (with_reducible apply wf_put) | (intro _) | split
                | (fail_if_no_progress (with_reducible refine wf_mk ?_ rfl rfl rfl rfl rfl rfl rfl rfl rfl rfl rfl))

theorem wf_sweepEnd {m : Mach} (h : m.wf = true) : (Mach.sweepEnd m).wf = true := by
  unfold Mach.sweepEnd
  try dsimp only
  repeat' first | (with_reducible assumption) | (with_reducible apply wf_put) | (with_reducible apply wf_capture) | (with_reducible apply wf_crcLoad)
                | (with_reducible apply wf_raise) | (intro _) | split
                | (fail_if_no_progress (with_reducible refine wf_mk ?_ rfl rfl rfl rfl rfl rfl rfl rfl rfl rfl rfl))

theorem wf_updBoot {f : Boot → Boot} {m : Mach} (h : m.wf = true) : (Mach.updBoot f m).wf = true := by
  unfold Mach.updBoot
  try dsimp only
  repeat' first | (with_reducible assumption) | (intro _) | split
                | (fail_if_no_progress (with_reducible refine wf_mk ?_ rfl rfl rfl rfl rfl rfl rfl rfl rfl rfl rfl))

theorem wf_updImg {f : Img → Img} {m : Mach} (h : m.wf = true) : (Mach.updImg f m).wf = true := by
  unfold Mach.updImg
  try dsimp only
  repeat' first | (with_reducible assumption) | (intro _) | split
                | (fail_if_no_progress (with_reducible refine wf_mk ?_ rfl rfl rfl rfl rfl rfl rfl rfl rfl rfl rfl))

theorem wf_oscStart {m : Mach} (h : m.wf = true) : (Mach.oscStart m).wf = true := by
  unfold Mach.oscStart
  try dsimp only
  repeat' first | (with_reducible assumption) | (with_reducible apply wf_updBoot) | (intro _) | split

theorem wf_qualifyWindow {count : Nat} {m : Mach} (h : m.wf = true) : (Mach.qualifyWindow count m).wf = true := by
  unfold Mach.qualifyWindow
  try dsimp only
  repeat' first | (with_reducible assumption) | (with_reducible apply wf_updBoot) | (with_reducible apply wf_ledger) | (intro _) | split

theorem wf_coreRelease {s1 : BitVec 4} {s2 : BitVec 4} {s3 : BitVec 4} {xo : Bool} {m : Mach} (h : m.wf = true) : (Mach.coreRelease s1 s2 s3
    xo m).wf = true := by
  unfold Mach.coreRelease
  try dsimp only
  repeat' first | (with_reducible assumption) | (with_reducible apply wf_updBoot) | (with_reducible apply wf_put) | (intro _) | split

theorem wf_resetN {m : Mach} (h : m.wf = true) : (Mach.resetN m).wf = true := by
  unfold Mach.resetN
  try dsimp only
  repeat' first | (with_reducible assumption) | (with_reducible apply wf_svcClose) | (with_reducible apply wf_coreReset)
                | (with_reducible apply wf_vokAfterReset) | (intro _) | split
                | (fail_if_no_progress (with_reducible refine wf_mk ?_ rfl rfl rfl rfl rfl rfl rfl rfl rfl rfl rfl))

theorem wf_bootRecord {code : Nat} {index : Nat} {addr : Nat} {part : Nat} {prst : Nat} {m : Mach} (h : m.wf = true) :
    (Mach.bootRecord code index addr part prst m).wf = true := by
  unfold Mach.bootRecord
  try dsimp only
  repeat' first | (with_reducible assumption) | (with_reducible apply wf_put) | (with_reducible apply wf_ledger)

theorem wf_enterOchre {precfg : Bool} {cause : Nat} {m : Mach} (h : m.wf = true) : (Mach.enterOchre precfg cause m).wf = true := by
  unfold Mach.enterOchre
  try dsimp only
  repeat' first | (with_reducible assumption) | (intro _) | split
                | (fail_if_no_progress (with_reducible refine wf_mk ?_ rfl rfl rfl rfl rfl rfl rfl rfl rfl rfl rfl))

theorem wf_preOchre {m : Mach} (h : m.wf = true) : (Mach.preOchre m).wf = true := by
  unfold Mach.preOchre
  try dsimp only
  repeat' first | (with_reducible assumption) | (with_reducible apply wf_updBoot) | (with_reducible apply wf_enterOchre)
                | (with_reducible apply wf_diagnostic)

theorem wf_bootFail {code : Nat} {index : Nat} {addr : Nat} {m : Mach} (h : m.wf = true) : (Mach.bootFail code index addr m).wf = true := by
  unfold Mach.bootFail
  try dsimp only
  repeat' first | (with_reducible assumption) | (with_reducible apply wf_bootRecord) | (with_reducible apply wf_preOchre)
                | (with_reducible apply wf_updBoot) | (intro _) | split

theorem wf_epochStep {fails : Nat} {m : Mach} (h : m.wf = true) : (Mach.epochStep fails m).wf = true := by
  unfold Mach.epochStep
  try dsimp only
  repeat' first | (with_reducible assumption) | (with_reducible apply wf_epochBurn) | (with_reducible apply wf_preOchre) | (intro _) | split

theorem wf_flashWake {m : Mach} (h : m.wf = true) : (Mach.flashWake m).wf = true := by
  unfold Mach.flashWake
  try dsimp only
  repeat' first | (with_reducible assumption) | (with_reducible apply wf_flashSend) | (with_reducible apply wf_updBoot) | (intro _) | split

theorem wf_discover {t : Sfdp} {m : Mach} (h : m.wf = true) : (Mach.discover t m).wf = true := by
  unfold Mach.discover
  try dsimp only
  repeat' first | (with_reducible assumption) | (with_reducible apply wf_flashSend) | (with_reducible apply wf_updBoot)
                | (with_reducible apply wf_startTimer) | (with_reducible apply wf_bootFail) | (with_reducible apply wf_put)
                | (refine wf_fst ?_ (by assumption)) | (refine wf_snd ?_ (by assumption)) | (intro _) | split

theorem wf_sfdpRetry {m : Mach} (h : m.wf = true) : (Mach.sfdpRetry m).wf = true := by
  unfold Mach.sfdpRetry
  try dsimp only
  repeat' first | (with_reducible assumption) | (with_reducible apply wf_reach) | (with_reducible apply wf_updBoot) | (intro _) | split

theorem wf_headerCheck {bytes : List Byte} {m : Mach} (h : m.wf = true) : (Mach.headerCheck bytes m).wf = true := by
  unfold Mach.headerCheck
  try dsimp only
  repeat' first | (with_reducible assumption) | (with_reducible apply wf_bootFail) | (with_reducible apply wf_updImg) | (intro _) | split

theorem wf_sectionCheck {payload : List Byte} {crc : Word} {m : Mach} (h : m.wf = true) : (Mach.sectionCheck payload crc m).wf = true := by
  unfold Mach.sectionCheck
  try dsimp only
  repeat' first | (with_reducible assumption) | (with_reducible apply wf_updImg) | (with_reducible apply wf_bootFail) | (with_reducible apply wf_put)
                | (with_reducible apply wf_flashSend) | (refine wf_fst ?_ (by assumption)) | (refine wf_snd ?_ (by assumption)) | (intro _) | split

theorem wf_imgShow {tag : List Byte} {m : Mach} (h : m.wf = true) : (Mach.imgShow tag m).wf = true := by
  unfold Mach.imgShow
  try dsimp only
  repeat' first | (with_reducible assumption) | (with_reducible apply wf_put) | (with_reducible apply wf_setBytes)

theorem wf_cmacFinalise {tag : List Byte} {m : Mach} (h : m.wf = true) : (Mach.cmacFinalise tag m).wf = true := by
  unfold Mach.cmacFinalise
  try dsimp only
  repeat' first | (with_reducible assumption) | (with_reducible apply wf_updBoot) | (with_reducible apply wf_bootFail)
                | (with_reducible apply wf_imgShow) | (with_reducible apply wf_updImg) | (intro _) | split
                | (fail_if_no_progress (with_reducible refine wf_mk ?_ rfl rfl rfl rfl rfl rfl rfl rfl rfl rfl rfl))

theorem wf_bootStarts {p : Nat → Bool} {m : Mach} (h : m.wf = true) : (Mach.bootStarts p m).wf = true := by
  unfold Mach.bootStarts
  try dsimp only
  repeat' first | (with_reducible assumption) | (with_reducible apply wf_push) | (with_reducible apply wf_forN) | (with_reducible apply wf_applyIf)
                | (intro _)

theorem wf_restartDone {p : Nat} {m : Mach} (h : m.wf = true) : (Mach.restartDone p m).wf = true := by
  unfold Mach.restartDone
  try dsimp only
  repeat' first | (with_reducible assumption) | (with_reducible apply wf_setReg) | (with_reducible apply wf_unpark)
                | (with_reducible apply wf_updBoot) | (with_reducible apply wf_postHeld) | (with_reducible apply wf_bootStarts)
                | (with_reducible apply wf_forN) | (with_reducible apply wf_applyIf) | (intro _) | split

theorem wf_restartBegin {p : Nat} {m : Mach} (h : m.wf = true) : (Mach.restartBegin p m).wf = true := by
  unfold Mach.restartBegin
  try dsimp only
  repeat' first | (with_reducible assumption) | (with_reducible apply wf_updBoot) | (with_reducible apply wf_bootRecord)
                | (with_reducible apply wf_restartDone) | (with_reducible apply wf_updImg) | (intro _) | split

theorem wf_recordApply {run : Mach → Mach} {m : Mach} (hrun : ∀ t, Mach.wf t = true → (run t).wf = true) (h : m.wf = true) :
    (Mach.recordApply run m).wf = true :=
  by
  unfold Mach.recordApply
  split
  · extract_lets m1
    have h1 : m1.wf = true := wf_imgSeek h
    split
    · exact h1
    · split
      · rename_i heq
        exact wf_imgRecord h1 hrun heq
      · exact wf_preOchre (wf_bootRecord (hrun _ (wf_rollBack h1)))
  · split
    · exact h
    · split
      · exact h
      · split
        · exact h
        · split
          · rename_i heq
            have h1 := wf_imgRecord h hrun heq
            split
            · exact h1
            · exact wf_restartDone h1
          · exact wf_bootRecord (wf_updBoot (hrun _ (wf_rollBack h)))

theorem wf_configEnd {m : Mach} (h : m.wf = true) : (Mach.configEnd m).wf = true :=
  by
  unfold Mach.configEnd
  extract_lets m0 m1 m2 m3 m4
  split
  · exact h
  · have h2 : m2.wf = true := wf_forN (fun k t ht => wf_applyIf (fun u hu => wf_raise hu) ht) _ (wf_capture (wf_postHeld (wf_imgSeek h)))
    have h3 : m3.wf = true := wf_ite (wf_raise h2) h2
    have h4 : m4.wf = true := wf_put (wf_put h3)
    exact wf_chainStart (wf_startTimer (wf_mk h4 rfl rfl rfl rfl rfl rfl rfl rfl rfl rfl rfl))

theorem wf_clocksStart {m : Mach} (h : m.wf = true) : (Mach.clocksStart m).wf = true := by
  unfold Mach.clocksStart
  try dsimp only
  repeat' first | (with_reducible assumption) | (with_reducible apply wf_updCh) | (with_reducible apply wf_forN) | (intro _) | split
                | (fail_if_no_progress (with_reducible refine wf_mk ?_ rfl rfl rfl rfl rfl rfl rfl rfl rfl rfl rfl))

theorem wf_familyStart {m : Mach} (h : m.wf = true) : (Mach.familyStart m).wf = true := by
  unfold Mach.familyStart
  try dsimp only
  repeat' first | (with_reducible assumption) | (with_reducible apply wf_clocksStart) | (with_reducible apply wf_measureStart)

theorem wf_lockEnd {m : Mach} (h : m.wf = true) : (Mach.lockEnd m).wf = true := by
  unfold Mach.lockEnd
  try dsimp only
  repeat' first | (with_reducible assumption) | (with_reducible apply wf_familyStart) | (with_reducible apply wf_updBoot)

theorem wf_apllLock {m : Mach} (h : m.wf = true) : (Mach.apllLock m).wf = true := by
  unfold Mach.apllLock
  try dsimp only
  repeat' first | (with_reducible assumption) | (with_reducible apply wf_rootLocked) | (with_reducible apply wf_lockEnd)
                | (with_reducible apply wf_familyStart) | (with_reducible apply wf_portsStart) | (refine wf_fst ?_ (by assumption))
                | (refine wf_snd ?_ (by assumption)) | (intro _) | split

theorem wf_haltAll {cause : Nat} {m : Mach} (h : m.wf = true) : (Mach.haltAll cause m).wf = true := by
  unfold Mach.haltAll
  try dsimp only
  repeat' first | (with_reducible assumption) | (with_reducible apply wf_withdraw) | (with_reducible apply wf_tput)
                | (with_reducible apply wf_parkNow) | (with_reducible apply wf_forN) | (intro _) | split

theorem wf_armingLost {m : Mach} (h : m.wf = true) : (Mach.armingLost m).wf = true := by
  unfold Mach.armingLost
  try dsimp only
  repeat' first | (with_reducible assumption) | (with_reducible apply wf_clocksStop) | (with_reducible apply wf_portsIdle)
                | (with_reducible apply wf_startTimer) | (with_reducible apply wf_updBoot) | (with_reducible apply wf_put)

theorem wf_teaselGo {m : Mach} (h : m.wf = true) : (Mach.teaselGo m).wf = true := by
  unfold Mach.teaselGo
  try dsimp only
  repeat' first | (with_reducible assumption) | (with_reducible apply wf_setReg) | (with_reducible apply wf_yieldAll) | (intro _) | split
                | (fail_if_no_progress (with_reducible refine wf_mk ?_ rfl rfl rfl rfl rfl rfl rfl rfl rfl rfl rfl))

theorem wf_parkEnds {cause : Nat} {m : Mach} (h : m.wf = true) : (Mach.parkEnds cause m).wf = true := by
  unfold Mach.parkEnds
  try dsimp only
  repeat' first | (with_reducible assumption) | (with_reducible apply wf_enterOchre) | (with_reducible apply wf_draw)
                | (with_reducible apply wf_updTest) | (with_reducible apply wf_teaselGo) | (refine wf_fst ?_ (by assumption))
                | (refine wf_snd ?_ (by assumption)) | (intro _) | split

theorem wf_apllLol {m : Mach} (h : m.wf = true) : (Mach.apllLol m).wf = true := by
  unfold Mach.apllLol
  try dsimp only
  repeat' first | (with_reducible assumption) | (with_reducible apply wf_rootLost) | (with_reducible apply wf_testAbandon)
                | (with_reducible apply wf_rootParkAll) | (with_reducible apply wf_haltAll) | (with_reducible apply wf_clocksStop)
                | (with_reducible apply wf_portsIdle) | (with_reducible apply wf_stop) | (with_reducible apply wf_push)
                | (with_reducible apply wf_phaseCheck) | (with_reducible apply wf_updBoot) | (with_reducible apply wf_parkEnds)
                | (with_reducible apply wf_armingLost) | (refine wf_fst ?_ (by assumption)) | (refine wf_snd ?_ (by assumption)) | (intro _) | split

theorem wf_rootTimeout {m : Mach} (h : m.wf = true) : (Mach.rootTimeout m).wf = true := by
  unfold Mach.rootTimeout
  try dsimp only
  repeat' first | (with_reducible assumption) | (with_reducible apply wf_reach) | (with_reducible apply wf_bootRecord)
                | (with_reducible apply wf_enterOchre) | (with_reducible apply wf_diagnostic) | (intro _) | split

theorem wf_bootGo {m : Mach} (h : m.wf = true) : (Mach.bootGo m).wf = true := by
  unfold Mach.bootGo
  try dsimp only
  repeat' first | (with_reducible assumption) | (with_reducible apply wf_updBoot) | (with_reducible apply wf_bootStarts) | (intro _) | split

theorem wf_enterRun {m : Mach} (h : m.wf = true) : (Mach.enterRun m).wf = true := by
  unfold Mach.enterRun
  try dsimp only
  repeat' first | (with_reducible assumption) | (with_reducible apply wf_setReg) | (with_reducible apply wf_startTimer)
                | (with_reducible apply wf_put) | (with_reducible apply wf_portsStart) | (with_reducible apply wf_bootGo) | (intro _) | split
                | (fail_if_no_progress (with_reducible refine wf_mk ?_ rfl rfl rfl rfl rfl rfl rfl rfl rfl rfl rfl))

theorem wf_gate {m : Mach} (h : m.wf = true) : (Mach.gate m).wf = true := by
  unfold Mach.gate
  try dsimp only
  repeat' first | (with_reducible assumption) | (with_reducible apply wf_enterRun) | (with_reducible apply wf_put) | (with_reducible apply wf_updBoot)
                | (intro _) | split

theorem wf_prepareDone {lines : List (Fin 17 × BitVec 16)} {stamps : List (Bank × BitVec 16)} {m : Mach} (h : m.wf = true) :
    (Mach.prepareDone lines stamps m).wf = true := by
  unfold Mach.prepareDone
  try dsimp only
  repeat' first | (with_reducible assumption) | (with_reducible apply wf_instantiateAll) | (with_reducible apply wf_prepareCal)
                | (with_reducible apply wf_rebuildAtBoot) | (with_reducible apply wf_updBoot) | (with_reducible apply wf_gate) | (intro _) | split

theorem wf_linkTimeout {m : Mach} (h : m.wf = true) : (Mach.linkTimeout m).wf = true := by
  unfold Mach.linkTimeout
  try dsimp only
  repeat' first | (with_reducible assumption) | (with_reducible apply wf_reach) | (with_reducible apply wf_put) | (with_reducible apply wf_bootGo)
                | (intro _) | split

theorem wf_stopEvery {cause : Nat} {m : Mach} (h : m.wf = true) : (Mach.stopEvery cause m).wf = true := by
  unfold Mach.stopEvery
  try dsimp only
  repeat' first | (with_reducible assumption) | (with_reducible apply wf_withdraw) | (with_reducible apply wf_stop) | (with_reducible apply wf_forN)
                | (intro _) | split

theorem wf_parkBegins {cause : Nat} {m : Mach} (h : m.wf = true) : (Mach.parkBegins cause m).wf = true := by
  unfold Mach.parkBegins
  try dsimp only
  repeat' first | (with_reducible assumption) | (with_reducible apply wf_updBoot) | (with_reducible apply wf_stopEvery)
                | (with_reducible apply wf_put) | (with_reducible apply wf_push) | (with_reducible apply wf_phaseCheck) | (intro _) | split

theorem wf_teaselEntry {m : Mach} (h : m.wf = true) : (Mach.teaselEntry m).wf = true := by
  unfold Mach.teaselEntry
  try dsimp only
  repeat' first | (with_reducible assumption) | (with_reducible apply wf_stop) | (with_reducible apply wf_updTest)
                | (with_reducible apply wf_teaselGo) | (intro _) | split

theorem wf_warmReset {m : Mach} (h : m.wf = true) : (Mach.warmReset m).wf = true := by
  unfold Mach.warmReset
  try dsimp only
  repeat' first | (with_reducible assumption) | (with_reducible apply wf_coreReset) | (with_reducible apply wf_vokAfterReset) | (intro _) | split
                | (fail_if_no_progress (with_reducible refine wf_mk ?_ rfl rfl rfl rfl rfl rfl rfl rfl rfl rfl rfl))

theorem wf_phaseCheck {m : Mach} (h : m.wf = true) : (Mach.phaseCheck m).wf = true := by
  unfold Mach.phaseCheck
  try dsimp only
  repeat' first | (with_reducible assumption) | (with_reducible apply wf_stop) | (with_reducible apply wf_warmReset)
                | (with_reducible apply wf_parkEnds) | (refine wf_fst ?_ (by assumption)) | (refine wf_snd ?_ (by assumption)) | (intro _) | split

theorem wf_warm {m : Mach} (h : m.wf = true) : (Mach.warm m).wf = true := by
  unfold Mach.warm
  try dsimp only
  repeat' first | (with_reducible assumption) | (with_reducible apply wf_svcClose) | (with_reducible apply wf_put)
                | (with_reducible apply wf_startTimer) | (with_reducible apply wf_updBoot) | (with_reducible apply wf_downQueues)
                | (with_reducible apply wf_linkWarm) | (with_reducible apply wf_stopEvery) | (with_reducible apply wf_push)
                | (with_reducible apply wf_phaseCheck) | (with_reducible apply wf_forN)

theorem wf_warmTimeout {m : Mach} (h : m.wf = true) : (Mach.warmTimeout m).wf = true := by
  unfold Mach.warmTimeout
  try dsimp only
  repeat' first | (with_reducible assumption) | (with_reducible apply wf_stop) | (with_reducible apply wf_forceStop) | (with_reducible apply wf_reach)
                | (with_reducible apply wf_push) | (with_reducible apply wf_phaseCheck) | (with_reducible apply wf_forN) | (intro _) | split

theorem wf_resume {m : Mach} (h : m.wf = true) : (Mach.resume m).wf = true := by
  unfold Mach.resume
  try dsimp only
  repeat' first | (with_reducible assumption) | (with_reducible apply wf_startTimer) | (with_reducible apply wf_portsIdle)
                | (with_reducible apply wf_lockEnd) | (intro _) | split
                | (fail_if_no_progress (with_reducible refine wf_mk ?_ rfl rfl rfl rfl rfl rfl rfl rfl rfl rfl rfl))

theorem wf_codeRej {m : Mach} (h : m.wf = true) : (Mach.codeRej m).wf = true := by
  unfold Mach.codeRej
  try dsimp only
  repeat' first | (with_reducible assumption) | (with_reducible apply wf_put)

theorem wf_partRestart {p : Nat} {m : Mach} (h : m.wf = true) : (Mach.partRestart p m).wf = true := by
  unfold Mach.partRestart
  try dsimp only
  repeat' first | (with_reducible assumption) | (with_reducible apply wf_updBoot) | (with_reducible apply wf_restartBegin)
                | (with_reducible apply wf_push) | (with_reducible apply wf_partReset) | (intro _) | split

theorem wf_devCtl {d : Word} {m : Mach} (h : m.wf = true) : (Mach.devCtl d m).wf = true := by
  unfold Mach.devCtl
  try dsimp only
  repeat' first | (with_reducible assumption) | (with_reducible apply wf_stop) | (with_reducible apply wf_warm) | (with_reducible apply wf_codeRej)
                | (with_reducible apply wf_updBoot) | (with_reducible apply wf_gate) | (with_reducible apply wf_parkBegins)
                | (with_reducible apply wf_resume) | (with_reducible apply wf_partRestart) | (intro _) | split

theorem wf_partCleared {p : Nat} {m : Mach} (h : m.wf = true) : (Mach.partCleared p m).wf = true := by
  unfold Mach.partCleared
  try dsimp only
  repeat' first | (with_reducible assumption) | (with_reducible apply wf_clearDone) | (with_reducible apply wf_restartBegin) | (intro _) | split

theorem wf_mainLoss {c : MainSupply} {m : Mach} (h : m.wf = true) : (Mach.mainLoss c m).wf = true := by
  unfold Mach.mainLoss
  try dsimp only
  repeat' first | (with_reducible assumption) | (with_reducible apply wf_svcClose) | (with_reducible apply wf_keyCut)
                | (with_reducible apply wf_pgMainLoss) | (intro _) | split

theorem wf_vbakLoss {m : Mach} (h : m.wf = true) : (Mach.vbakLoss m).wf = true :=
  by
  unfold Mach.vbakLoss
  rw [wf_parts] at h ⊢
  exact ⟨rfl, rfl, rfl, rfl, rfl, rfl, rfl, rfl, rfl, rfl, cwf_filter _ _ h.2.2.2.2.2.2.2.2.2.2⟩

theorem wf_backupRise {m : Mach} (h : m.wf = true) : (Mach.backupRise m).wf = true := by
  unfold Mach.backupRise
  try dsimp only
  repeat' first | (with_reducible assumption) | (with_reducible apply wf_vbakRise) | (with_reducible apply wf_pgMainTrue) | (intro _) | split

theorem wf_setServing {urg : Bool} {s : Option Serving} {m : Mach} (h : m.wf = true) : (Mach.setServing urg s m).wf = true := by
  unfold Mach.setServing
  try dsimp only
  repeat' first | (with_reducible assumption) | (intro _) | split
                | (fail_if_no_progress (with_reducible refine wf_mk ?_ rfl rfl rfl rfl rfl rfl rfl rfl rfl rfl rfl))

theorem wf_finish {s : Serving} {res : Nat} {detail : Nat} {m : Mach} (h : m.wf = true) : (Mach.finish s res detail m).wf = true := by
  unfold Mach.finish
  try dsimp only
  repeat' first | (with_reducible assumption) | (with_reducible apply wf_setServing) | (with_reducible apply wf_setCq)
                | (with_reducible apply wf_emptied) | (with_reducible apply wf_release) | (with_reducible apply wf_complete)
                | (with_reducible apply wf_urgWait) | (intro _) | split

theorem wf_dispatchChecks {s : Serving} {m : Mach} (h : m.wf = true) : (Mach.dispatchChecks s m).wf = true := by
  unfold Mach.dispatchChecks
  try dsimp only
  repeat' first | (with_reducible assumption) | (with_reducible apply wf_finish) | (with_reducible apply wf_authCheck)
                | (with_reducible apply wf_take) | (refine wf_fst ?_ (by assumption)) | (refine wf_snd ?_ (by assumption)) | (intro _) | split

theorem wf_sendRemote {s : Serving} {m : Mach} (h : m.wf = true) : (Mach.sendRemote s m).wf = true := by
  unfold Mach.sendRemote
  try dsimp only
  repeat' first | (with_reducible assumption) | (with_reducible apply wf_finish) | (with_reducible apply wf_setServing)
                | (with_reducible apply wf_nextTid) | (with_reducible apply wf_setCq) | (with_reducible apply wf_updLink)
                | (with_reducible apply wf_sendTo) | (refine wf_fst ?_ (by assumption)) | (refine wf_snd ?_ (by assumption)) | (intro _) | split

theorem wf_take {p : Nat} {urg : Bool} {d : Desc} {m : Mach} (h : m.wf = true) : (Mach.take p urg d m).wf = true := by
  unfold Mach.take
  try dsimp only
  repeat' first | (with_reducible assumption) | (with_reducible apply wf_setRq) | (with_reducible apply wf_setCq)
                | (with_reducible apply wf_setServing) | (with_reducible apply wf_dispatchChecks) | (with_reducible apply wf_sendRemote) | (intro _)
                | split

theorem wf_serveNormal {p : Nat} {d : Desc} {m : Mach} (h : m.wf = true) : (Mach.serveNormal p d m).wf = true := by
  unfold Mach.serveNormal
  try dsimp only
  repeat' first | (with_reducible assumption) | (with_reducible apply wf_put) | (with_reducible apply wf_take) | (intro _) | split
                | (fail_if_no_progress (with_reducible refine wf_mk ?_ rfl rfl rfl rfl rfl rfl rfl rfl rfl rfl rfl))

theorem wf_visits {k : Nat} {m : Mach} (h : m.wf = true) : (Mach.visits k m).wf = true :=
  by
  induction k generalizing m with
  | zero => exact h
  | succ k ih =>
    unfold Mach.visits
    dsimp only
    repeat' first | (with_reducible assumption) | (with_reducible apply ih) | (with_reducible apply wf_put) | (with_reducible apply wf_serveNormal)
                  | split | (fail_if_no_progress (with_reducible refine wf_mk ?_ rfl rfl rfl rfl rfl rfl rfl rfl rfl rfl rfl))

theorem wf_nextNormal {m : Mach} (h : m.wf = true) : (Mach.nextNormal m).wf = true :=
  by
  unfold Mach.nextNormal
  split
  · exact wf_serveNormal h
  · exact wf_visits (wf_mk h rfl rfl rfl rfl rfl rfl rfl rfl rfl rfl rfl)

theorem wf_dispatch {m : Mach} (h : m.wf = true) : (Mach.dispatch m).wf = true := by
  unfold Mach.dispatch
  try dsimp only
  repeat' first | (with_reducible assumption) | (with_reducible apply wf_takeToken) | (with_reducible apply wf_put) | (with_reducible apply wf_take)
                | (with_reducible apply wf_nextNormal) | (refine wf_fst ?_ (by assumption)) | (refine wf_snd ?_ (by assumption)) | (intro _) | split
                | (fail_if_no_progress (with_reducible refine wf_mk ?_ rfl rfl rfl rfl rfl rfl rfl rfl rfl rfl rfl))

theorem wf_onCommand {op : Nat} {f : Serving → Mach → Mach} {m : Mach} (h : m.wf = true) (hf : ∀ s t, Mach.wf t = true → (f s t).wf = true) :
    (Mach.onCommand op f m).wf = true :=
  by
  unfold Mach.onCommand
  repeat' split
  all_goals first | exact h | exact hf _ _ h

theorem wf_cmdNop {s : Serving} {m : Mach} (h : m.wf = true) : (Mach.cmdNop s m).wf = true := by
  unfold Mach.cmdNop
  try dsimp only
  repeat' first | (with_reducible assumption) | (with_reducible apply wf_finish)

theorem wf_chFinish {s : Serving} {m : Mach} (h : m.wf = true) : (Mach.chFinish s m).wf = true := by
  unfold Mach.chFinish
  try dsimp only
  repeat' first | (with_reducible assumption) | (with_reducible apply wf_finish) | (intro _) | split

theorem wf_cmdChStart {s : Serving} {m : Mach} (h : m.wf = true) : (Mach.cmdChStart s m).wf = true :=
  by
  unfold Mach.cmdChStart
  extract_lets ns r
  have h1 : r.1.wf = true := by
    refine wf_foldl_fst (s := (m, s)) ?_ _ h
    intro t b ht
    exact wf_submit ht
  clear_value r
  exact wf_ite (wf_dispatch h) (wf_ite (wf_chFinish h1) (wf_setServing h1))

theorem wf_cmdChannels {f : Nat → Mach → Mach} {s : Serving} {m : Mach} (h : m.wf = true) (hf : ∀ n t, Mach.wf t = true → (f n t).wf = true) :
    (Mach.cmdChannels f s m).wf = true :=
  by
  unfold Mach.cmdChannels
  extract_lets r
  have h1 : r.1.wf = true := by
    refine wf_foldl_fst (s := (m, s)) ?_ _ h
    intro t b ht
    exact hf b t.1 ht
  clear_value r
  exact wf_chFinish h1

theorem wf_cmdBudget {s : Serving} {m : Mach} (h : m.wf = true) : (Mach.cmdBudget s m).wf = true := by
  unfold Mach.cmdBudget
  try dsimp only
  repeat' first | (with_reducible assumption) | (with_reducible apply wf_put) | (with_reducible apply wf_refreshBudget)
                | (with_reducible apply wf_finish)

theorem wf_cmdSvcOpen {s : Serving} {m : Mach} (h : m.wf = true) : (Mach.cmdSvcOpen s m).wf = true := by
  unfold Mach.cmdSvcOpen
  try dsimp only
  repeat' first | (with_reducible assumption) | (with_reducible apply wf_svcOpenSession) | (with_reducible apply wf_finish)

theorem wf_cmdRetireClear {s : Serving} {m : Mach} (h : m.wf = true) : (Mach.cmdRetireClear s m).wf = true := by
  unfold Mach.cmdRetireClear
  try dsimp only
  repeat' first | (with_reducible assumption) | (with_reducible apply wf_retireClear) | (with_reducible apply wf_finish)

theorem wf_hireFinish {s : Serving} {r : Option (Mach × Nat)} {m : Mach} (h : m.wf = true) (hr : ∀ t, r = some t → t.1.wf = true) :
    (Mach.hireFinish s r m).wf = true :=
  by
  unfold Mach.hireFinish
  split
  · exact wf_finish h
  · exact wf_finish (hr _ rfl)

theorem wf_cmdHireOpen {s : Serving} {m : Mach} (h : m.wf = true) : (Mach.cmdHireOpen s m).wf = true := by
  unfold Mach.cmdHireOpen
  try dsimp only
  repeat' first | (with_reducible assumption) | (with_reducible apply wf_hireFinish) | (refine wf_hireOpen ?_ (by assumption)) | (intro _)

theorem wf_cmdHireClose {s : Serving} {m : Mach} (h : m.wf = true) : (Mach.cmdHireClose s m).wf = true := by
  unfold Mach.cmdHireClose
  try dsimp only
  repeat' first | (with_reducible assumption) | (with_reducible apply wf_hireFinish) | (refine wf_hireClose ?_ (by assumption)) | (intro _)

theorem wf_cmdReport {rtype : Nat} {ok : Bool} {body : List Byte} {s : Serving} {m : Mach} (h : m.wf = true) :
    (Mach.cmdReport rtype ok body s m).wf = true := by
  unfold Mach.cmdReport
  try dsimp only
  repeat' first | (with_reducible assumption) | (with_reducible apply wf_finish) | (with_reducible apply wf_signReport)
                | (with_reducible apply wf_take) | (refine wf_fst ?_ (by assumption)) | (refine wf_snd ?_ (by assumption)) | (intro _) | split

theorem wf_cmdMeterReport {s : Serving} {m : Mach} (h : m.wf = true) : (Mach.cmdMeterReport s m).wf = true := by
  unfold Mach.cmdMeterReport
  try dsimp only
  repeat' first | (with_reducible assumption) | (with_reducible apply wf_cmdReport)

theorem wf_cmdLedgerReport {s : Serving} {m : Mach} (h : m.wf = true) : (Mach.cmdLedgerReport s m).wf = true := by
  unfold Mach.cmdLedgerReport
  try dsimp only
  repeat' first | (with_reducible assumption) | (with_reducible apply wf_cmdReport)

theorem wf_cmdLockoutClear {s : Serving} {m : Mach} (h : m.wf = true) : (Mach.cmdLockoutClear s m).wf = true := by
  unfold Mach.cmdLockoutClear
  try dsimp only
  repeat' first | (with_reducible assumption) | (with_reducible apply wf_finish) | (with_reducible apply wf_lockoutClear)
                | (refine wf_fst ?_ (by assumption)) | (refine wf_snd ?_ (by assumption)) | (intro _) | split

theorem wf_popHook {w : Who} {kind : Nat} {d : Word} {m : Mach} (h : m.wf = true) : (Mach.popHook w kind d m).wf = true := by
  unfold Mach.popHook
  try dsimp only
  repeat' first | (with_reducible assumption) | (with_reducible apply wf_pop) | (intro _) | split

theorem wf_clearHi {q : Nat} {m : Mach} (h : m.wf = true) : (Mach.clearHi q m).wf = true := by
  unfold Mach.clearHi
  try dsimp only
  repeat' first | (with_reducible assumption) | (with_reducible apply wf_setCq) | (with_reducible apply wf_setRq) | (intro _) | split

theorem wf_winRead {x : Win} {w : Who} {port : Port} {addr : Nat} {m : Mach} (h : m.wf = true) : (Mach.winRead x w port addr m).2.wf = true := by
  unfold Mach.winRead
  try dsimp only
  repeat' first | (with_reducible assumption) | (with_reducible apply wf_accErr) | (with_reducible apply wf_winStep) | (intro _) | split

theorem wf_regRead {w : Who} {a : Acc} {r : Row} {addr : Nat} {m : Mach} (h : m.wf = true) : (Mach.regRead w a r addr m).2.wf = true := by
  unfold Mach.regRead
  try dsimp only
  repeat' first | (with_reducible assumption) | (with_reducible apply wf_draw) | (refine wf_fst ?_ (by assumption))
                | (refine wf_snd ?_ (by assumption)) | (intro _) | split

theorem wf_busRead {a : Acc} {addr : Nat} {m : Mach} (h : m.wf = true) : (Mach.busRead a addr m).2.wf = true := by
  unfold Mach.busRead
  try dsimp only
  repeat' first | (with_reducible assumption) | (with_reducible apply wf_unmarked) | (with_reducible apply wf_accErr)
                | (with_reducible apply wf_winRead) | (with_reducible apply wf_regRead) | (with_reducible apply wf_winTouch)
                | (with_reducible apply wf_grpTouch) | (refine wf_fst ?_ (by assumption)) | (refine wf_snd ?_ (by assumption)) | (intro _) | split

theorem wf_updSpi {f : Spi → Spi} {m : Mach} (h : m.wf = true) : (Mach.updSpi f m).wf = true := by
  unfold Mach.updSpi
  try dsimp only
  repeat' first | (with_reducible assumption) | (intro _) | split
                | (fail_if_no_progress (with_reducible refine wf_mk ?_ rfl rfl rfl rfl rfl rfl rfl rfl rfl rfl rfl))

theorem wf_spiResult {rsp : Nat} {nc : Nat} {m : Mach} (h : m.wf = true) : (Mach.spiResult rsp nc m).wf = true := by
  unfold Mach.spiResult
  try dsimp only
  repeat' first | (with_reducible assumption) | (with_reducible apply wf_put) | (intro _) | split

theorem wf_spiNak {rsp : Nat} {nc : Nat} {m : Mach} (h : m.wf = true) : (Mach.spiNak rsp nc m).wf = true := by
  unfold Mach.spiNak
  try dsimp only
  repeat' first | (with_reducible assumption) | (with_reducible apply wf_updSpi) | (with_reducible apply wf_spiResult)

theorem wf_spiHeader {bytes : List Byte} {m : Mach} (h : m.wf = true) : (Mach.spiHeader bytes m).wf = true := by
  unfold Mach.spiHeader
  try dsimp only
  repeat' first | (with_reducible assumption) | (with_reducible apply wf_take) | (with_reducible apply wf_spiNak) | (with_reducible apply wf_raise)
                | (intro _) | split | (fail_if_no_progress (with_reducible refine wf_mk ?_ rfl rfl rfl rfl rfl rfl rfl rfl rfl rfl rfl))

theorem wf_spiWord {run : Mach → Mach} {d : Word} {m : Mach} (hrun : ∀ t, Mach.wf t = true → (run t).wf = true) (h : m.wf = true) :
    (Mach.spiWord run d m).wf = true := by
  unfold Mach.spiWord
  try dsimp only
  repeat' first | (with_reducible assumption) | (with_reducible apply wf_busWrite) | (with_reducible apply wf_updSpi) | (with_reducible apply hrun)
                | (intro _) | split

theorem wf_spiWritten {m : Mach} (h : m.wf = true) : (Mach.spiWritten m).wf = true := by
  unfold Mach.spiWritten
  try dsimp only
  repeat' first | (with_reducible assumption) | (with_reducible apply wf_updSpi) | (with_reducible apply wf_spiResult) | (intro _) | split

theorem wf_spiSegment {run : Mach → Mach} {words : List Word} {crc : Nat} {m : Mach} (hrun : ∀ t, Mach.wf t = true → (run t).wf = true) (h
    : m.wf = true) : (Mach.spiSegment run words crc m).wf = true := by
  unfold Mach.spiSegment
  try dsimp only
  repeat' first | (with_reducible assumption) | (with_reducible apply wf_spiNak) | (with_reducible apply wf_raise) | (with_reducible apply wf_spiWord)
                | (with_reducible apply wf_updSpi) | (with_reducible apply wf_spiWritten) | (with_reducible apply wf_foldl)
                | (with_reducible apply hrun) | (intro _) | split

theorem wf_fetch {a : Acc} {fix : Bool} {addr k : Nat} {m : Mach} (h : m.wf = true) : (Mach.fetch a fix addr k m).2.wf = true :=
  by
  induction k generalizing m addr with
  | zero => exact h
  | succ k ih =>
    unfold Mach.fetch
    exact ih (wf_updSpi (wf_busRead h))

theorem wf_spiCut {nc : Nat} {m : Mach} (h : m.wf = true) : (Mach.spiCut nc m).wf = true := by
  unfold Mach.spiCut
  try dsimp only
  repeat' first | (with_reducible assumption) | (with_reducible apply wf_updSpi) | (with_reducible apply wf_spiResult)
                | (with_reducible apply wf_raise)

theorem wf_spiRead {cut : Option (Nat × Nat)} {m : Mach} (h : m.wf = true) : (Mach.spiRead cut m).wf = true := by
  unfold Mach.spiRead
  try dsimp only
  repeat' first | (with_reducible assumption) | (with_reducible apply wf_fetch) | (with_reducible apply wf_spiCut) | (with_reducible apply wf_updSpi)
                | (with_reducible apply wf_spiResult) | (refine wf_fst ?_ (by assumption)) | (refine wf_snd ?_ (by assumption))
                | (with_reducible apply wf_elim) | (intro _) | split

theorem wf_spiAbort {m : Mach} (h : m.wf = true) : (Mach.spiAbort m).wf = true := by
  unfold Mach.spiAbort
  try dsimp only
  repeat' first | (with_reducible assumption) | (with_reducible apply wf_updSpi) | (with_reducible apply wf_spiCut) | (intro _) | split

theorem wf_i2cNext {m : Mach} (h : m.wf = true) : (Mach.i2cNext m).wf = true := by
  unfold Mach.i2cNext
  try dsimp only
  repeat' first | (with_reducible assumption) | (with_reducible apply wf_put) | (intro _) | split

theorem wf_i2cCount {n : Nat} {m : Mach} (h : m.wf = true) : (Mach.i2cCount n m).wf = true := by
  unfold Mach.i2cCount
  try dsimp only
  repeat' first | (with_reducible assumption) | (with_reducible apply wf_put)

theorem wf_i2cHeader {tag : Nat} {addr : Nat} {m : Mach} (h : m.wf = true) : (Mach.i2cHeader tag addr m).wf = true := by
  unfold Mach.i2cHeader
  try dsimp only
  repeat' first | (with_reducible assumption) | (with_reducible apply wf_put) | (with_reducible apply wf_i2cCount) | (intro _) | split
                | (fail_if_no_progress (with_reducible refine wf_mk ?_ rfl rfl rfl rfl rfl rfl rfl rfl rfl rfl rfl))

theorem wf_i2cGroup {run : Mach → Mach} {d : Word} {m : Mach} (hrun : ∀ t, Mach.wf t = true → (run t).wf = true) (h : m.wf = true) :
    (Mach.i2cGroup run d m).wf = true := by
  unfold Mach.i2cGroup
  try dsimp only
  repeat' first | (with_reducible assumption) | (with_reducible apply wf_i2cCount) | (with_reducible apply wf_i2cNext)
                | (with_reducible apply wf_busWrite) | (with_reducible apply hrun) | (intro _) | split

theorem wf_i2cRead {first : Bool} {bytes : Nat} {m : Mach} (h : m.wf = true) : (Mach.i2cRead first bytes m).wf = true := by
  unfold Mach.i2cRead
  try dsimp only
  repeat' first | (with_reducible assumption) | (with_reducible apply wf_busRead) | (with_reducible apply wf_i2cNext)
                | (with_reducible apply wf_i2cCount) | (refine wf_fst ?_ (by assumption)) | (refine wf_snd ?_ (by assumption)) | (intro _) | split
                | (fail_if_no_progress (with_reducible refine wf_mk ?_ rfl rfl rfl rfl rfl rfl rfl rfl rfl rfl rfl))

theorem wf_i2cDiscard {m : Mach} (h : m.wf = true) : (Mach.i2cDiscard m).wf = true := by
  unfold Mach.i2cDiscard
  try dsimp only
  repeat' first | (with_reducible assumption) | (with_reducible apply wf_accErr)

theorem wf_i2cCut {flag : Fld} {bytes : Nat} {m : Mach} (h : m.wf = true) : (Mach.i2cCut flag bytes m).wf = true := by
  unfold Mach.i2cCut
  try dsimp only
  repeat' first | (with_reducible assumption) | (with_reducible apply wf_put) | (with_reducible apply wf_i2cCount) | (with_reducible apply wf_raise)
                | (intro _) | split | (fail_if_no_progress (with_reducible refine wf_mk ?_ rfl rfl rfl rfl rfl rfl rfl rfl rfl rfl rfl))

theorem wf_i2cAbort {bytes : Nat} {hdr : Bool} {m : Mach} (h : m.wf = true) : (Mach.i2cAbort bytes hdr m).wf = true := by
  unfold Mach.i2cAbort
  try dsimp only
  repeat' first | (with_reducible assumption) | (with_reducible apply wf_i2cDiscard) | (with_reducible apply wf_i2cCut) | (intro _) | split

theorem wf_i2cTimeout {bytes : Nat} {m : Mach} (h : m.wf = true) : (Mach.i2cTimeout bytes m).wf = true := by
  unfold Mach.i2cTimeout
  try dsimp only
  repeat' first | (with_reducible assumption) | (with_reducible apply wf_i2cDiscard) | (with_reducible apply wf_i2cCut) | (intro _) | split

theorem wf_linkWrites {run : Mach → Mach} (hr : ∀ t, Mach.wf t = true → (run t).wf = true) {a : Acc} {fix : Bool} {addr : Nat} {ws : List Word}
    {s : Bool × Bool × Mach} (h : s.2.2.wf = true) : (Mach.linkWrites run a fix addr ws s).2.2.wf = true :=
  by
  induction ws generalizing s addr with
  | nil => exact h
  | cons d t ih =>
    unfold Mach.linkWrites
    exact ih (hr _ (wf_busWrite h))

theorem wf_linkReads {a : Acc} {fix : Bool} {addr k : Nat} {s : Bool × Bool × Mach} (h : s.2.2.wf = true) :
    (Mach.linkReads a fix addr k s).2.2.2.wf = true :=
  by
  induction k generalizing s addr with
  | zero => exact h
  | succ k ih =>
    unfold Mach.linkReads
    exact ih (wf_busRead h)

theorem wf_rreq {run : Mach → Mach} {f : Frame} {m : Mach} (hrun : ∀ t, Mach.wf t = true → (run t).wf = true) (h : m.wf = true) :
    (Mach.rreq run f m).wf = true :=
  by
  unfold Mach.rreq
  dsimp only
  split
  · exact h
  · split
    · exact wf_sendTo (wf_dupCheck h)
    · split
      · exact wf_sendTo (wf_linkReads (s := (false, false, (m.dupCheck f).2)) (wf_dupCheck h))
      · exact wf_sendTo (wf_linkWrites (s := (false, false, (m.dupCheck f).2)) hrun (wf_dupCheck h))

theorem wf_hookGlobal {w : Who} {addr : Nat} {d : Word} {old : Word} {new : Word} {m : Mach} (h : m.wf = true) : (Mach.hookGlobal w addr d
    old new m).wf = true := by
  unfold Mach.hookGlobal
  try dsimp only
  repeat' first | (with_reducible assumption) | (with_reducible apply wf_wideHook) | (with_reducible apply wf_crcCtlHook)
                | (with_reducible apply wf_crcRefHook) | (with_reducible apply wf_chgCtlHook) | (with_reducible apply wf_gaugeHook)
                | (with_reducible apply wf_devCtl) | (with_reducible apply wf_svcHook) | (refine wf_fst ?_ (by assumption))
                | (refine wf_snd ?_ (by assumption)) | (intro _) | split

theorem wf_hookRoot {addr : Nat} {d : Word} {old : Word} {new : Word} {m : Mach} (h : m.wf = true) : (Mach.hookRoot addr d old new m).wf = true := by
  unfold Mach.hookRoot
  try dsimp only
  repeat' first | (with_reducible assumption) | (with_reducible apply wf_refCfgHook) | (with_reducible apply wf_selEval)
                | (with_reducible apply wf_holdCfgHook) | (with_reducible apply wf_put) | (intro _) | split

theorem wf_hookGroup {w : Who} {a : Acc} {addr : Nat} {d : Word} {old : Word} {new : Word} {m : Mach} (h : m.wf = true) :
    (Mach.hookGroup w a addr d old new m).wf = true := by
  unfold Mach.hookGroup
  try dsimp only
  repeat' first | (with_reducible assumption) | (with_reducible apply wf_grpCfgHook) | (with_reducible apply wf_grpWordHook)
                | (with_reducible apply wf_grpLockHook) | (intro _) | split

theorem wf_hookOutput {w : Who} {addr : Nat} {d : Word} {old : Word} {new : Word} {m : Mach} (h : m.wf = true) :
    (Mach.hookOutput w addr d old new m).wf = true := by
  unfold Mach.hookOutput
  try dsimp only
  repeat' first | (with_reducible assumption) | (with_reducible apply wf_checkVok) | (with_reducible apply wf_pgpoHook)
                | (with_reducible apply wf_haltClear) | (with_reducible apply wf_haltModeHook) | (with_reducible apply wf_applyIf) | (intro _) | split

theorem wf_hookMonitor {w : Who} {port : Port} {addr : Nat} {d : Word} {new : Word} {m : Mach} (h : m.wf = true) : (Mach.hookMonitor w port
    addr d new m).wf = true := by
  unfold Mach.hookMonitor
  try dsimp only
  repeat' first | (with_reducible assumption) | (with_reducible apply wf_trimHold) | (with_reducible apply wf_showSi)
                | (with_reducible apply wf_monRequest) | (with_reducible apply wf_applyIf) | (intro _) | split

theorem wf_firstClear {b : Nat} {m : Mach} (h : m.wf = true) : (Mach.firstClear b m).wf = true := by
  unfold Mach.firstClear
  try dsimp only
  repeat' first | (with_reducible assumption) | (with_reducible apply wf_setReg) | (with_reducible apply wf_forN) | (intro _)

theorem wf_devFirstClear {m : Mach} (h : m.wf = true) : (Mach.devFirstClear m).wf = true := by
  unfold Mach.devFirstClear
  try dsimp only
  repeat' first | (with_reducible assumption) | (with_reducible apply wf_setReg) | (with_reducible apply wf_forN) | (intro _)

theorem wf_hookFault {w : Who} {addr : Nat} {d : Word} {old : Word} {new : Word} {m : Mach} (h : m.wf = true) :
    (Mach.hookFault w addr d old new m).wf = true := by
  unfold Mach.hookFault
  try dsimp only
  repeat' first | (with_reducible assumption) | (with_reducible apply wf_devFirstClear) | (with_reducible apply wf_ackBits)
                | (with_reducible apply wf_ackAll) | (with_reducible apply wf_firstClear) | (with_reducible apply wf_fltCfgChanged)
                | (with_reducible apply wf_applyIf) | (intro _) | split

theorem wf_hookGovernor {addr : Nat} {m : Mach} (h : m.wf = true) : (Mach.hookGovernor addr m).wf = true := by
  unfold Mach.hookGovernor
  try dsimp only
  repeat' first | (with_reducible assumption) | (with_reducible apply wf_refreshBudget) | (with_reducible apply wf_showSi)
                | (with_reducible apply wf_showBudget) | (intro _) | split

theorem wf_hookPartition {a : Acc} {addr : Nat} {d : Word} {old : Word} {new : Word} {m : Mach} (h : m.wf = true) :
    (Mach.hookPartition a addr d old new m).wf = true := by
  unfold Mach.hookPartition
  try dsimp only
  repeat' first | (with_reducible assumption) | (with_reducible apply wf_ownHook) | (with_reducible apply wf_partEnHook)
                | (with_reducible apply wf_orstHook) | (with_reducible apply wf_attach) | (with_reducible apply wf_unbindHook)
                | (with_reducible apply wf_partCfgHook) | (with_reducible apply wf_partSvcHook) | (with_reducible apply wf_push)
                | (with_reducible apply wf_partReset) | (with_reducible apply wf_applyIf) | (intro _) | split

theorem wf_hookQueue {w : Who} {port : Port} {addr : Nat} {d : Word} {m : Mach} (h : m.wf = true) : (Mach.hookQueue w port addr d m).wf = true := by
  unfold Mach.hookQueue
  try dsimp only
  repeat' first | (with_reducible assumption) | (with_reducible apply wf_clearHi) | (with_reducible apply wf_cmdPushHook)
                | (with_reducible apply wf_popHook) | (with_reducible apply wf_applyIf) | (intro _) | split

theorem wf_hookLink {w : Who} {port : Port} {addr : Nat} {d : Word} {m : Mach} (h : m.wf = true) : (Mach.hookLink w port addr d m).wf = true
    := by
  unfold Mach.hookLink
  try dsimp only
  repeat' first | (with_reducible assumption) | (with_reducible apply wf_calStartAll) | (with_reducible apply wf_updLink)
                | (with_reducible apply wf_lraGo) | (with_reducible apply wf_applyIf) | (intro _) | split

theorem wf_hookSecurity {addr : Nat} {d : Word} {m : Mach} (h : m.wf = true) : (Mach.hookSecurity addr d m).wf = true := by
  unfold Mach.hookSecurity
  try dsimp only
  repeat' first | (with_reducible assumption) | (with_reducible apply wf_keyProg) | (with_reducible apply wf_applyIf) | (intro _) | split

theorem wf_hookAon {w : Who} {addr : Nat} {d : Word} {old : Word} {new : Word} {m : Mach} (h : m.wf = true) :
    (Mach.hookAon w addr d old new m).wf = true := by
  unfold Mach.hookAon
  try dsimp only
  repeat' first | (with_reducible assumption) | (with_reducible apply wf_mtrCfgHook) | (with_reducible apply wf_immobRefresh)
                | (with_reducible apply wf_sentClrHook) | (with_reducible apply wf_ldgRdHook) | (with_reducible apply wf_ldgCtlHook) | (intro _)
                | split

theorem wf_hookTest {addr : Nat} {d : Word} {m : Mach} (h : m.wf = true) : (Mach.hookTest addr d m).wf = true := by
  unfold Mach.hookTest
  try dsimp only
  repeat' first | (with_reducible assumption) | (with_reducible apply wf_tstHook) | (with_reducible apply wf_inject)
                | (with_reducible apply wf_applyIf) | (intro _) | split

theorem wf_hook {w : Who} {a : Acc} {addr : Nat} {d : Word} {old : Word} {new : Word} {m : Mach} (h : m.wf = true) :
    (Mach.hook w a addr d old new m).wf = true := by
  unfold Mach.hook
  try dsimp only
  repeat' first | (with_reducible assumption) | (with_reducible apply wf_hookGlobal) | (with_reducible apply wf_hookRoot)
                | (with_reducible apply wf_hookGroup) | (with_reducible apply wf_hookOutput) | (with_reducible apply wf_hookMonitor)
                | (with_reducible apply wf_hookFault) | (with_reducible apply wf_hookGovernor) | (with_reducible apply wf_hookPartition)
                | (with_reducible apply wf_hookQueue) | (with_reducible apply wf_hookLink) | (with_reducible apply wf_hookSecurity)
                | (with_reducible apply wf_hookAon) | (with_reducible apply wf_hookTest) | (intro _) | split

theorem wf_tblHook {n : Nat} {wd : Nat} {d : Word} {old : Word} {new : Word} {m : Mach} (h : m.wf = true) : (Mach.tblHook n wd d old new
    m).wf = true := by
  unfold Mach.tblHook
  try dsimp only
  repeat' first | (with_reducible assumption) | (with_reducible apply wf_showCost) | (with_reducible apply wf_chTriggers)
                | (with_reducible apply wf_liveWord) | (with_reducible apply wf_setTw) | (with_reducible apply wf_tput)
                | (with_reducible apply wf_chPinHook) | (with_reducible apply wf_chGrpHook) | (with_reducible apply wf_elim)
                | (refine wf_fst ?_ (by assumption)) | (refine wf_snd ?_ (by assumption)) | (intro _) | split

theorem wf_afterStopped {n : Nat} {m : Mach} (h : m.wf = true) : (Mach.afterStopped n m).wf = true := by
  unfold Mach.afterStopped
  try dsimp only
  repeat' first | (with_reducible assumption) | (with_reducible apply wf_switchStopped) | (with_reducible apply wf_grpStopped)
                | (with_reducible apply wf_monStopped) | (with_reducible apply wf_stoppedSwap) | (with_reducible apply wf_tput)
                | (with_reducible apply wf_submit) | (with_reducible apply wf_partCheck) | (with_reducible apply wf_phaseCheck)
                | (refine wf_fst ?_ (by assumption)) | (refine wf_snd ?_ (by assumption)) | (intro _) | split

theorem wf_faultStop {n : Nat} {cause : Nat} {m : Mach} (h : m.wf = true) : (Mach.faultStop n cause m).wf = true := by
  unfold Mach.faultStop
  try dsimp only
  repeat' first | (with_reducible assumption) | (with_reducible apply wf_stop) | (intro _) | split

theorem wf_work {w : Work} {m : Mach} (h : m.wf = true) : (Mach.work w m).wf = true := by
  unfold Mach.work
  try dsimp only
  repeat' first | (with_reducible assumption) | (with_reducible apply wf_takeRaw) | (with_reducible apply wf_hook) | (with_reducible apply wf_tblHook)
                | (with_reducible apply wf_stop) | (with_reducible apply wf_faultStop) | (with_reducible apply wf_submit)
                | (with_reducible apply wf_afterStopped) | (with_reducible apply wf_adoptStarting) | (with_reducible apply wf_evaluate)
                | (with_reducible apply wf_freeLocks) | (with_reducible apply wf_partReset) | (with_reducible apply wf_parkBegins)
                | (with_reducible apply wf_partCheck) | (with_reducible apply wf_phaseCheck) | (with_reducible apply wf_sendForward)
                | (with_reducible apply wf_bootGo) | (refine wf_fst ?_ (by assumption)) | (refine wf_snd ?_ (by assumption)) | (intro _) | split

theorem wf_settleFor {k : Nat} {m : Mach} (h : m.wf = true) : (Mach.settleFor k m).wf = true :=
  by
  induction k generalizing m with
  | zero => exact h
  | succ k ih =>
    unfold Mach.settleFor
    split
    · exact h
    · exact ih (wf_work (wf_mk h rfl rfl rfl rfl rfl rfl rfl rfl rfl rfl rfl))

theorem wf_settle {m : Mach} (h : m.wf = true) : (Mach.settle m).wf = true :=
  wf_settleFor h

theorem wf_write {a : Acc} {addr : Nat} {d : Word} {m : Mach} (h : m.wf = true) : (Mach.write a addr d m).wf = true :=
  wf_settleFor (wf_busWrite h)

theorem wf_scanLoad {m : Mach} (h : m.wf = true) : (Mach.scanLoad m).wf = true := by
  unfold Mach.scanLoad
  try dsimp only
  repeat' first | (with_reducible assumption) | (with_reducible apply wf_draw) | (with_reducible apply wf_forN) | (refine wf_fst ?_ (by assumption))
                | (refine wf_snd ?_ (by assumption)) | (intro _) | split
                | (fail_if_no_progress (with_reducible refine wf_mk ?_ rfl rfl rfl rfl rfl rfl rfl rfl rfl rfl rfl))

theorem wf_tapUpdate {i : TapInstr} {m : Mach} (h : m.wf = true) : (Mach.tapUpdate i m).wf = true := by
  unfold Mach.tapUpdate
  try dsimp only
  repeat' first | (with_reducible assumption) | (with_reducible apply wf_scanLoad) | (refine wf_fst ?_ (by assumption))
                | (refine wf_snd ?_ (by assumption)) | (intro _) | split
                | (fail_if_no_progress (with_reducible refine wf_mk ?_ rfl rfl rfl rfl rfl rfl rfl rfl rfl rfl rfl))

theorem wf_chTrigger {n : Nat} {bit : Nat} {m : Mach} (h : m.wf = true) : (Mach.chTrigger n bit m).wf = true := by
  unfold Mach.chTrigger
  try dsimp only
  repeat' first | (with_reducible assumption) | (with_reducible apply wf_chTriggers) | (intro _) | split

theorem wf_askReset {a : Acc} {p : Nat} {owner : Bool} {m : Mach} (h : m.wf = true) : (Mach.askReset a p owner m).wf = true := by
  unfold Mach.askReset
  try dsimp only
  repeat' first | (with_reducible assumption) | (with_reducible apply wf_write) | (intro _) | split

theorem wf_onCal {kinds : List Nat} {f : Frame → Mach → Mach} {m : Mach} (h : m.wf = true) (hf : ∀ x t, Mach.wf t = true → (f x t).wf = true) :
    (Mach.onCal kinds f m).wf = true :=
  by
  unfold Mach.onCal
  split
  · exact hf _ _ (wf_updLink h)
  · exact h

theorem wf_linkDown {p : LPort} {cause : Nat} {m : Mach} (h : m.wf = true) : (Mach.linkDown p cause m).wf = true := by
  unfold Mach.linkDown
  try dsimp only
  repeat' first | (with_reducible assumption) | (with_reducible apply wf_leaveUp) | (intro _) | split

theorem wf_pinWrite {a : Acc} {n : Nat} {d : Word} {m : Mach} (h : m.wf = true) : (Mach.pinWrite a n d m).wf = true := by
  unfold Mach.pinWrite
  try dsimp only
  repeat' first | (with_reducible assumption) | (with_reducible apply wf_unmarked) | (with_reducible apply wf_accErr)
                | (with_reducible apply wf_stageGrp) | (with_reducible apply wf_tblWrite) | (intro _) | split

theorem wf_readData {a : Acc} {addr : Nat} {m : Mach} (h : m.wf = true) : (Mach.readData a addr m).wf = true := by
  unfold Mach.readData
  try dsimp only
  repeat' first | (with_reducible assumption) | (with_reducible apply wf_busRead) | (refine wf_fst ?_ (by assumption))
                | (refine wf_snd ?_ (by assumption)) | (intro _) | split
                | (fail_if_no_progress (with_reducible refine wf_mk ?_ rfl rfl rfl rfl rfl rfl rfl rfl rfl rfl rfl))

theorem wf_svcWrite {a : Acc} {op : Nat} {m : Mach} (h : m.wf = true) : (Mach.svcWrite a op m).wf = true := by
  unfold Mach.svcWrite
  try dsimp only
  repeat' first | (with_reducible assumption) | (with_reducible apply wf_write)

theorem wf_aonArrive {m : Mach} (h : m.wf = true) : (Mach.aonArrive m).wf = true := by
  unfold Mach.aonArrive
  try dsimp only
  repeat' first | (with_reducible assumption) | (with_reducible apply wf_setAw) | (with_reducible apply wf_updPwr)
                | (with_reducible apply wf_listArrive) | (intro _) | split
                | (fail_if_no_progress (with_reducible refine wf_mk ?_ rfl rfl rfl rfl rfl rfl rfl rfl rfl rfl rfl))

theorem wf_apllTest {failed : Nat} {m : Mach} (h : m.wf = true) : (Mach.apllTest failed m).wf = true := by
  unfold Mach.apllTest
  try dsimp only
  repeat' first | (with_reducible assumption) | (with_reducible apply wf_rootLocked) | (with_reducible apply wf_familyStart)
                | (with_reducible apply wf_portsStart) | (with_reducible apply wf_tstEnd) | (refine wf_fst ?_ (by assumption))
                | (refine wf_snd ?_ (by assumption)) | (intro _) | split

end Sys2Proof.Laws
end

