-- ==== Sys2Proof/Laws/State.lean ====
section
/-! SUPPORT. One lemma per field per update of the machine: what each named update leaves as it was. -/
namespace Sys2Proof.Machine

@[simp] theorem Mach.setReg_dev (m : Mach) (k : Nat) (v : Word) : (m.setReg k v).dev = m.dev := rfl
@[simp] theorem Mach.setReg_tbl (m : Mach) (k : Nat) (v : Word) : (m.setReg k v).tbl = m.tbl := rfl
@[simp] theorem Mach.setReg_aon (m : Mach) (k : Nat) (v : Word) : (m.setReg k v).aon = m.aon := rfl
@[simp] theorem Mach.setReg_aonPost (m : Mach) (k : Nat) (v : Word) : (m.setReg k v).aonPost = m.aonPost := rfl
@[simp] theorem Mach.setReg_now (m : Mach) (k : Nat) (v : Word) : (m.setReg k v).now = m.now := rfl
@[simp] theorem Mach.setReg_ts (m : Mach) (k : Nat) (v : Word) : (m.setReg k v).ts = m.ts := rfl
@[simp] theorem Mach.setReg_rclk (m : Mach) (k : Nat) (v : Word) : (m.setReg k v).rclk = m.rclk := rfl
@[simp] theorem Mach.setReg_grid (m : Mach) (k : Nat) (v : Word) : (m.setReg k v).grid = m.grid := rfl
@[simp] theorem Mach.setReg_tod (m : Mach) (k : Nat) (v : Word) : (m.setReg k v).tod = m.tod := rfl
@[simp] theorem Mach.setReg_sub (m : Mach) (k : Nat) (v : Word) : (m.setReg k v).sub = m.sub := rfl
@[simp] theorem Mach.setReg_free (m : Mach) (k : Nat) (v : Word) : (m.setReg k v).free = m.free := rfl
@[simp] theorem Mach.setReg_todo (m : Mach) (k : Nat) (v : Word) : (m.setReg k v).todo = m.todo := rfl
@[simp] theorem Mach.setReg_accFlag (m : Mach) (k : Nat) (v : Word) : (m.setReg k v).accFlag = m.accFlag := rfl
@[simp] theorem Mach.setReg_ignFlag (m : Mach) (k : Nat) (v : Word) : (m.setReg k v).ignFlag = m.ignFlag := rfl
@[simp] theorem Mach.setReg_spi (m : Mach) (k : Nat) (v : Word) : (m.setReg k v).spi = m.spi := rfl
@[simp] theorem Mach.setReg_i2c (m : Mach) (k : Nat) (v : Word) : (m.setReg k v).i2c = m.i2c := rfl
@[simp] theorem Mach.setReg_rdata (m : Mach) (k : Nat) (v : Word) : (m.setReg k v).rdata = m.rdata := rfl
@[simp] theorem Mach.setReg_chWin (m : Mach) (k : Nat) (v : Word) : (m.setReg k v).chWin = m.chWin := rfl
@[simp] theorem Mach.setReg_aonWin (m : Mach) (k : Nat) (v : Word) : (m.setReg k v).aonWin = m.aonWin := rfl
@[simp] theorem Mach.setReg_wides (m : Mach) (k : Nat) (v : Word) : (m.setReg k v).wides = m.wides := rfl
@[simp] theorem Mach.setReg_crc (m : Mach) (k : Nat) (v : Word) : (m.setReg k v).crc = m.crc := rfl
@[simp] theorem Mach.setReg_pwr (m : Mach) (k : Nat) (v : Word) : (m.setReg k v).pwr = m.pwr := rfl
@[simp] theorem Mach.setReg_boot (m : Mach) (k : Nat) (v : Word) : (m.setReg k v).boot = m.boot := rfl
@[simp] theorem Mach.setReg_img (m : Mach) (k : Nat) (v : Word) : (m.setReg k v).img = m.img := rfl
@[simp] theorem Mach.setReg_svc (m : Mach) (k : Nat) (v : Word) : (m.setReg k v).svc = m.svc := rfl
@[simp] theorem Mach.setReg_lines (m : Mach) (k : Nat) (v : Word) : (m.setReg k v).lines = m.lines := rfl
@[simp] theorem Mach.setReg_recqs (m : Mach) (k : Nat) (v : Word) : (m.setReg k v).recqs = m.recqs := rfl
@[simp] theorem Mach.setReg_cmdqs (m : Mach) (k : Nat) (v : Word) : (m.setReg k v).cmdqs = m.cmdqs := rfl
@[simp] theorem Mach.setReg_normal (m : Mach) (k : Nat) (v : Word) : (m.setReg k v).normal = m.normal := rfl
@[simp] theorem Mach.setReg_urgent (m : Mach) (k : Nat) (v : Word) : (m.setReg k v).urgent = m.urgent := rfl
@[simp] theorem Mach.setReg_lastNormal (m : Mach) (k : Nat) (v : Word) : (m.setReg k v).lastNormal = m.lastNormal := rfl
@[simp] theorem Mach.setReg_lastUrgent (m : Mach) (k : Nat) (v : Word) : (m.setReg k v).lastUrgent = m.lastUrgent := rfl
@[simp] theorem Mach.setReg_visiting (m : Mach) (k : Nat) (v : Word) : (m.setReg k v).visiting = m.visiting := rfl
@[simp] theorem Mach.setReg_ldgBuf (m : Mach) (k : Nat) (v : Word) : (m.setReg k v).ldgBuf = m.ldgBuf := rfl
@[simp] theorem Mach.setReg_ldgDrop (m : Mach) (k : Nat) (v : Word) : (m.setReg k v).ldgDrop = m.ldgDrop := rfl
@[simp] theorem Mach.setReg_grps (m : Mach) (k : Nat) (v : Word) : (m.setReg k v).grps = m.grps := rfl
@[simp] theorem Mach.setReg_chans (m : Mach) (k : Nat) (v : Word) : (m.setReg k v).chans = m.chans := rfl
@[simp] theorem Mach.setReg_nextOrd (m : Mach) (k : Nat) (v : Word) : (m.setReg k v).nextOrd = m.nextOrd := rfl
@[simp] theorem Mach.setReg_gov (m : Mach) (k : Nat) (v : Word) : (m.setReg k v).gov = m.gov := rfl
@[simp] theorem Mach.setReg_sec (m : Mach) (k : Nat) (v : Word) : (m.setReg k v).sec = m.sec := rfl
@[simp] theorem Mach.setReg_mtrs (m : Mach) (k : Nat) (v : Word) : (m.setReg k v).mtrs = m.mtrs := rfl
@[simp] theorem Mach.setReg_ldg (m : Mach) (k : Nat) (v : Word) : (m.setReg k v).ldg = m.ldg := rfl
@[simp] theorem Mach.setReg_sent (m : Mach) (k : Nat) (v : Word) : (m.setReg k v).sent = m.sent := rfl
@[simp] theorem Mach.setReg_root (m : Mach) (k : Nat) (v : Word) : (m.setReg k v).root = m.root := rfl
@[simp] theorem Mach.setReg_link (m : Mach) (k : Nat) (v : Word) : (m.setReg k v).link = m.link := rfl
@[simp] theorem Mach.setReg_test (m : Mach) (k : Nat) (v : Word) : (m.setReg k v).test = m.test := rfl
@[simp] theorem Mach.setReg_tap (m : Mach) (k : Nat) (v : Word) : (m.setReg k v).tap = m.tap := rfl
@[simp] theorem Mach.setReg_bsr (m : Mach) (k : Nat) (v : Word) : (m.setReg k v).bsr = m.bsr := rfl
@[simp] theorem Mach.setReg_flash (m : Mach) (k : Nat) (v : Word) : (m.setReg k v).flash = m.flash := rfl
@[simp] theorem Mach.setReg_timers (m : Mach) (k : Nat) (v : Word) : (m.setReg k v).timers = m.timers := rfl

@[simp] theorem Mach.put_dev (m : Mach) (x : Fld) (v : Nat) : (m.put x v).dev = m.dev := rfl
@[simp] theorem Mach.put_tbl (m : Mach) (x : Fld) (v : Nat) : (m.put x v).tbl = m.tbl := rfl
@[simp] theorem Mach.put_aon (m : Mach) (x : Fld) (v : Nat) : (m.put x v).aon = m.aon := rfl
@[simp] theorem Mach.put_aonPost (m : Mach) (x : Fld) (v : Nat) : (m.put x v).aonPost = m.aonPost := rfl
@[simp] theorem Mach.put_now (m : Mach) (x : Fld) (v : Nat) : (m.put x v).now = m.now := rfl
@[simp] theorem Mach.put_ts (m : Mach) (x : Fld) (v : Nat) : (m.put x v).ts = m.ts := rfl
@[simp] theorem Mach.put_rclk (m : Mach) (x : Fld) (v : Nat) : (m.put x v).rclk = m.rclk := rfl
@[simp] theorem Mach.put_grid (m : Mach) (x : Fld) (v : Nat) : (m.put x v).grid = m.grid := rfl
@[simp] theorem Mach.put_tod (m : Mach) (x : Fld) (v : Nat) : (m.put x v).tod = m.tod := rfl
@[simp] theorem Mach.put_sub (m : Mach) (x : Fld) (v : Nat) : (m.put x v).sub = m.sub := rfl
@[simp] theorem Mach.put_free (m : Mach) (x : Fld) (v : Nat) : (m.put x v).free = m.free := rfl
@[simp] theorem Mach.put_todo (m : Mach) (x : Fld) (v : Nat) : (m.put x v).todo = m.todo := rfl
@[simp] theorem Mach.put_accFlag (m : Mach) (x : Fld) (v : Nat) : (m.put x v).accFlag = m.accFlag := rfl
@[simp] theorem Mach.put_ignFlag (m : Mach) (x : Fld) (v : Nat) : (m.put x v).ignFlag = m.ignFlag := rfl
@[simp] theorem Mach.put_spi (m : Mach) (x : Fld) (v : Nat) : (m.put x v).spi = m.spi := rfl
@[simp] theorem Mach.put_i2c (m : Mach) (x : Fld) (v : Nat) : (m.put x v).i2c = m.i2c := rfl
@[simp] theorem Mach.put_rdata (m : Mach) (x : Fld) (v : Nat) : (m.put x v).rdata = m.rdata := rfl
@[simp] theorem Mach.put_chWin (m : Mach) (x : Fld) (v : Nat) : (m.put x v).chWin = m.chWin := rfl
@[simp] theorem Mach.put_aonWin (m : Mach) (x : Fld) (v : Nat) : (m.put x v).aonWin = m.aonWin := rfl
@[simp] theorem Mach.put_wides (m : Mach) (x : Fld) (v : Nat) : (m.put x v).wides = m.wides := rfl
@[simp] theorem Mach.put_crc (m : Mach) (x : Fld) (v : Nat) : (m.put x v).crc = m.crc := rfl
@[simp] theorem Mach.put_pwr (m : Mach) (x : Fld) (v : Nat) : (m.put x v).pwr = m.pwr := rfl
@[simp] theorem Mach.put_boot (m : Mach) (x : Fld) (v : Nat) : (m.put x v).boot = m.boot := rfl
@[simp] theorem Mach.put_img (m : Mach) (x : Fld) (v : Nat) : (m.put x v).img = m.img := rfl
@[simp] theorem Mach.put_svc (m : Mach) (x : Fld) (v : Nat) : (m.put x v).svc = m.svc := rfl
@[simp] theorem Mach.put_lines (m : Mach) (x : Fld) (v : Nat) : (m.put x v).lines = m.lines := rfl
@[simp] theorem Mach.put_recqs (m : Mach) (x : Fld) (v : Nat) : (m.put x v).recqs = m.recqs := rfl
@[simp] theorem Mach.put_cmdqs (m : Mach) (x : Fld) (v : Nat) : (m.put x v).cmdqs = m.cmdqs := rfl
@[simp] theorem Mach.put_normal (m : Mach) (x : Fld) (v : Nat) : (m.put x v).normal = m.normal := rfl
@[simp] theorem Mach.put_urgent (m : Mach) (x : Fld) (v : Nat) : (m.put x v).urgent = m.urgent := rfl
@[simp] theorem Mach.put_lastNormal (m : Mach) (x : Fld) (v : Nat) : (m.put x v).lastNormal = m.lastNormal := rfl
@[simp] theorem Mach.put_lastUrgent (m : Mach) (x : Fld) (v : Nat) : (m.put x v).lastUrgent = m.lastUrgent := rfl
@[simp] theorem Mach.put_visiting (m : Mach) (x : Fld) (v : Nat) : (m.put x v).visiting = m.visiting := rfl
@[simp] theorem Mach.put_ldgBuf (m : Mach) (x : Fld) (v : Nat) : (m.put x v).ldgBuf = m.ldgBuf := rfl
@[simp] theorem Mach.put_ldgDrop (m : Mach) (x : Fld) (v : Nat) : (m.put x v).ldgDrop = m.ldgDrop := rfl
@[simp] theorem Mach.put_grps (m : Mach) (x : Fld) (v : Nat) : (m.put x v).grps = m.grps := rfl
@[simp] theorem Mach.put_chans (m : Mach) (x : Fld) (v : Nat) : (m.put x v).chans = m.chans := rfl
@[simp] theorem Mach.put_nextOrd (m : Mach) (x : Fld) (v : Nat) : (m.put x v).nextOrd = m.nextOrd := rfl
@[simp] theorem Mach.put_gov (m : Mach) (x : Fld) (v : Nat) : (m.put x v).gov = m.gov := rfl
@[simp] theorem Mach.put_sec (m : Mach) (x : Fld) (v : Nat) : (m.put x v).sec = m.sec := rfl
@[simp] theorem Mach.put_mtrs (m : Mach) (x : Fld) (v : Nat) : (m.put x v).mtrs = m.mtrs := rfl
@[simp] theorem Mach.put_ldg (m : Mach) (x : Fld) (v : Nat) : (m.put x v).ldg = m.ldg := rfl
@[simp] theorem Mach.put_sent (m : Mach) (x : Fld) (v : Nat) : (m.put x v).sent = m.sent := rfl
@[simp] theorem Mach.put_root (m : Mach) (x : Fld) (v : Nat) : (m.put x v).root = m.root := rfl
@[simp] theorem Mach.put_link (m : Mach) (x : Fld) (v : Nat) : (m.put x v).link = m.link := rfl
@[simp] theorem Mach.put_test (m : Mach) (x : Fld) (v : Nat) : (m.put x v).test = m.test := rfl
@[simp] theorem Mach.put_tap (m : Mach) (x : Fld) (v : Nat) : (m.put x v).tap = m.tap := rfl
@[simp] theorem Mach.put_bsr (m : Mach) (x : Fld) (v : Nat) : (m.put x v).bsr = m.bsr := rfl
@[simp] theorem Mach.put_flash (m : Mach) (x : Fld) (v : Nat) : (m.put x v).flash = m.flash := rfl
@[simp] theorem Mach.put_timers (m : Mach) (x : Fld) (v : Nat) : (m.put x v).timers = m.timers := rfl

@[simp] theorem Mach.orReg_dev (m : Mach) (k mask : Nat) : (m.orReg k mask).dev = m.dev := rfl
@[simp] theorem Mach.orReg_tbl (m : Mach) (k mask : Nat) : (m.orReg k mask).tbl = m.tbl := rfl
@[simp] theorem Mach.orReg_aon (m : Mach) (k mask : Nat) : (m.orReg k mask).aon = m.aon := rfl
@[simp] theorem Mach.orReg_aonPost (m : Mach) (k mask : Nat) : (m.orReg k mask).aonPost = m.aonPost := rfl
@[simp] theorem Mach.orReg_now (m : Mach) (k mask : Nat) : (m.orReg k mask).now = m.now := rfl
@[simp] theorem Mach.orReg_ts (m : Mach) (k mask : Nat) : (m.orReg k mask).ts = m.ts := rfl
@[simp] theorem Mach.orReg_rclk (m : Mach) (k mask : Nat) : (m.orReg k mask).rclk = m.rclk := rfl
@[simp] theorem Mach.orReg_grid (m : Mach) (k mask : Nat) : (m.orReg k mask).grid = m.grid := rfl
@[simp] theorem Mach.orReg_tod (m : Mach) (k mask : Nat) : (m.orReg k mask).tod = m.tod := rfl
@[simp] theorem Mach.orReg_sub (m : Mach) (k mask : Nat) : (m.orReg k mask).sub = m.sub := rfl
@[simp] theorem Mach.orReg_free (m : Mach) (k mask : Nat) : (m.orReg k mask).free = m.free := rfl
@[simp] theorem Mach.orReg_todo (m : Mach) (k mask : Nat) : (m.orReg k mask).todo = m.todo := rfl
@[simp] theorem Mach.orReg_accFlag (m : Mach) (k mask : Nat) : (m.orReg k mask).accFlag = m.accFlag := rfl
@[simp] theorem Mach.orReg_ignFlag (m : Mach) (k mask : Nat) : (m.orReg k mask).ignFlag = m.ignFlag := rfl
@[simp] theorem Mach.orReg_spi (m : Mach) (k mask : Nat) : (m.orReg k mask).spi = m.spi := rfl
@[simp] theorem Mach.orReg_i2c (m : Mach) (k mask : Nat) : (m.orReg k mask).i2c = m.i2c := rfl
@[simp] theorem Mach.orReg_rdata (m : Mach) (k mask : Nat) : (m.orReg k mask).rdata = m.rdata := rfl
@[simp] theorem Mach.orReg_chWin (m : Mach) (k mask : Nat) : (m.orReg k mask).chWin = m.chWin := rfl
@[simp] theorem Mach.orReg_aonWin (m : Mach) (k mask : Nat) : (m.orReg k mask).aonWin = m.aonWin := rfl
@[simp] theorem Mach.orReg_wides (m : Mach) (k mask : Nat) : (m.orReg k mask).wides = m.wides := rfl
@[simp] theorem Mach.orReg_crc (m : Mach) (k mask : Nat) : (m.orReg k mask).crc = m.crc := rfl
@[simp] theorem Mach.orReg_pwr (m : Mach) (k mask : Nat) : (m.orReg k mask).pwr = m.pwr := rfl
@[simp] theorem Mach.orReg_boot (m : Mach) (k mask : Nat) : (m.orReg k mask).boot = m.boot := rfl
@[simp] theorem Mach.orReg_img (m : Mach) (k mask : Nat) : (m.orReg k mask).img = m.img := rfl
@[simp] theorem Mach.orReg_svc (m : Mach) (k mask : Nat) : (m.orReg k mask).svc = m.svc := rfl
@[simp] theorem Mach.orReg_lines (m : Mach) (k mask : Nat) : (m.orReg k mask).lines = m.lines := rfl
@[simp] theorem Mach.orReg_recqs (m : Mach) (k mask : Nat) : (m.orReg k mask).recqs = m.recqs := rfl
@[simp] theorem Mach.orReg_cmdqs (m : Mach) (k mask : Nat) : (m.orReg k mask).cmdqs = m.cmdqs := rfl
@[simp] theorem Mach.orReg_normal (m : Mach) (k mask : Nat) : (m.orReg k mask).normal = m.normal := rfl
@[simp] theorem Mach.orReg_urgent (m : Mach) (k mask : Nat) : (m.orReg k mask).urgent = m.urgent := rfl
@[simp] theorem Mach.orReg_lastNormal (m : Mach) (k mask : Nat) : (m.orReg k mask).lastNormal = m.lastNormal := rfl
@[simp] theorem Mach.orReg_lastUrgent (m : Mach) (k mask : Nat) : (m.orReg k mask).lastUrgent = m.lastUrgent := rfl
@[simp] theorem Mach.orReg_visiting (m : Mach) (k mask : Nat) : (m.orReg k mask).visiting = m.visiting := rfl
@[simp] theorem Mach.orReg_ldgBuf (m : Mach) (k mask : Nat) : (m.orReg k mask).ldgBuf = m.ldgBuf := rfl
@[simp] theorem Mach.orReg_ldgDrop (m : Mach) (k mask : Nat) : (m.orReg k mask).ldgDrop = m.ldgDrop := rfl
@[simp] theorem Mach.orReg_grps (m : Mach) (k mask : Nat) : (m.orReg k mask).grps = m.grps := rfl
@[simp] theorem Mach.orReg_chans (m : Mach) (k mask : Nat) : (m.orReg k mask).chans = m.chans := rfl
@[simp] theorem Mach.orReg_nextOrd (m : Mach) (k mask : Nat) : (m.orReg k mask).nextOrd = m.nextOrd := rfl
@[simp] theorem Mach.orReg_gov (m : Mach) (k mask : Nat) : (m.orReg k mask).gov = m.gov := rfl
@[simp] theorem Mach.orReg_sec (m : Mach) (k mask : Nat) : (m.orReg k mask).sec = m.sec := rfl
@[simp] theorem Mach.orReg_mtrs (m : Mach) (k mask : Nat) : (m.orReg k mask).mtrs = m.mtrs := rfl
@[simp] theorem Mach.orReg_ldg (m : Mach) (k mask : Nat) : (m.orReg k mask).ldg = m.ldg := rfl
@[simp] theorem Mach.orReg_sent (m : Mach) (k mask : Nat) : (m.orReg k mask).sent = m.sent := rfl
@[simp] theorem Mach.orReg_root (m : Mach) (k mask : Nat) : (m.orReg k mask).root = m.root := rfl
@[simp] theorem Mach.orReg_link (m : Mach) (k mask : Nat) : (m.orReg k mask).link = m.link := rfl
@[simp] theorem Mach.orReg_test (m : Mach) (k mask : Nat) : (m.orReg k mask).test = m.test := rfl
@[simp] theorem Mach.orReg_tap (m : Mach) (k mask : Nat) : (m.orReg k mask).tap = m.tap := rfl
@[simp] theorem Mach.orReg_bsr (m : Mach) (k mask : Nat) : (m.orReg k mask).bsr = m.bsr := rfl
@[simp] theorem Mach.orReg_flash (m : Mach) (k mask : Nat) : (m.orReg k mask).flash = m.flash := rfl
@[simp] theorem Mach.orReg_timers (m : Mach) (k mask : Nat) : (m.orReg k mask).timers = m.timers := rfl

@[simp] theorem Mach.setTw_dev (m : Mach) (e w : Nat) (v : Word) : (m.setTw e w v).dev = m.dev := rfl
@[simp] theorem Mach.setTw_regs (m : Mach) (e w : Nat) (v : Word) : (m.setTw e w v).regs = m.regs := rfl
@[simp] theorem Mach.setTw_aon (m : Mach) (e w : Nat) (v : Word) : (m.setTw e w v).aon = m.aon := rfl
@[simp] theorem Mach.setTw_aonPost (m : Mach) (e w : Nat) (v : Word) : (m.setTw e w v).aonPost = m.aonPost := rfl
@[simp] theorem Mach.setTw_now (m : Mach) (e w : Nat) (v : Word) : (m.setTw e w v).now = m.now := rfl
@[simp] theorem Mach.setTw_ts (m : Mach) (e w : Nat) (v : Word) : (m.setTw e w v).ts = m.ts := rfl
@[simp] theorem Mach.setTw_rclk (m : Mach) (e w : Nat) (v : Word) : (m.setTw e w v).rclk = m.rclk := rfl
@[simp] theorem Mach.setTw_grid (m : Mach) (e w : Nat) (v : Word) : (m.setTw e w v).grid = m.grid := rfl
@[simp] theorem Mach.setTw_tod (m : Mach) (e w : Nat) (v : Word) : (m.setTw e w v).tod = m.tod := rfl
@[simp] theorem Mach.setTw_sub (m : Mach) (e w : Nat) (v : Word) : (m.setTw e w v).sub = m.sub := rfl
@[simp] theorem Mach.setTw_free (m : Mach) (e w : Nat) (v : Word) : (m.setTw e w v).free = m.free := rfl
@[simp] theorem Mach.setTw_todo (m : Mach) (e w : Nat) (v : Word) : (m.setTw e w v).todo = m.todo := rfl
@[simp] theorem Mach.setTw_accFlag (m : Mach) (e w : Nat) (v : Word) : (m.setTw e w v).accFlag = m.accFlag := rfl
@[simp] theorem Mach.setTw_ignFlag (m : Mach) (e w : Nat) (v : Word) : (m.setTw e w v).ignFlag = m.ignFlag := rfl
@[simp] theorem Mach.setTw_spi (m : Mach) (e w : Nat) (v : Word) : (m.setTw e w v).spi = m.spi := rfl
@[simp] theorem Mach.setTw_i2c (m : Mach) (e w : Nat) (v : Word) : (m.setTw e w v).i2c = m.i2c := rfl
@[simp] theorem Mach.setTw_rdata (m : Mach) (e w : Nat) (v : Word) : (m.setTw e w v).rdata = m.rdata := rfl
@[simp] theorem Mach.setTw_chWin (m : Mach) (e w : Nat) (v : Word) : (m.setTw e w v).chWin = m.chWin := rfl
@[simp] theorem Mach.setTw_aonWin (m : Mach) (e w : Nat) (v : Word) : (m.setTw e w v).aonWin = m.aonWin := rfl
@[simp] theorem Mach.setTw_wides (m : Mach) (e w : Nat) (v : Word) : (m.setTw e w v).wides = m.wides := rfl
@[simp] theorem Mach.setTw_crc (m : Mach) (e w : Nat) (v : Word) : (m.setTw e w v).crc = m.crc := rfl
@[simp] theorem Mach.setTw_pwr (m : Mach) (e w : Nat) (v : Word) : (m.setTw e w v).pwr = m.pwr := rfl
@[simp] theorem Mach.setTw_boot (m : Mach) (e w : Nat) (v : Word) : (m.setTw e w v).boot = m.boot := rfl
@[simp] theorem Mach.setTw_img (m : Mach) (e w : Nat) (v : Word) : (m.setTw e w v).img = m.img := rfl
@[simp] theorem Mach.setTw_svc (m : Mach) (e w : Nat) (v : Word) : (m.setTw e w v).svc = m.svc := rfl
@[simp] theorem Mach.setTw_lines (m : Mach) (e w : Nat) (v : Word) : (m.setTw e w v).lines = m.lines := rfl
@[simp] theorem Mach.setTw_recqs (m : Mach) (e w : Nat) (v : Word) : (m.setTw e w v).recqs = m.recqs := rfl
@[simp] theorem Mach.setTw_cmdqs (m : Mach) (e w : Nat) (v : Word) : (m.setTw e w v).cmdqs = m.cmdqs := rfl
@[simp] theorem Mach.setTw_normal (m : Mach) (e w : Nat) (v : Word) : (m.setTw e w v).normal = m.normal := rfl
@[simp] theorem Mach.setTw_urgent (m : Mach) (e w : Nat) (v : Word) : (m.setTw e w v).urgent = m.urgent := rfl
@[simp] theorem Mach.setTw_lastNormal (m : Mach) (e w : Nat) (v : Word) : (m.setTw e w v).lastNormal = m.lastNormal := rfl
@[simp] theorem Mach.setTw_lastUrgent (m : Mach) (e w : Nat) (v : Word) : (m.setTw e w v).lastUrgent = m.lastUrgent := rfl
@[simp] theorem Mach.setTw_visiting (m : Mach) (e w : Nat) (v : Word) : (m.setTw e w v).visiting = m.visiting := rfl
@[simp] theorem Mach.setTw_ldgBuf (m : Mach) (e w : Nat) (v : Word) : (m.setTw e w v).ldgBuf = m.ldgBuf := rfl
@[simp] theorem Mach.setTw_ldgDrop (m : Mach) (e w : Nat) (v : Word) : (m.setTw e w v).ldgDrop = m.ldgDrop := rfl
@[simp] theorem Mach.setTw_grps (m : Mach) (e w : Nat) (v : Word) : (m.setTw e w v).grps = m.grps := rfl
@[simp] theorem Mach.setTw_chans (m : Mach) (e w : Nat) (v : Word) : (m.setTw e w v).chans = m.chans := rfl
@[simp] theorem Mach.setTw_nextOrd (m : Mach) (e w : Nat) (v : Word) : (m.setTw e w v).nextOrd = m.nextOrd := rfl
@[simp] theorem Mach.setTw_gov (m : Mach) (e w : Nat) (v : Word) : (m.setTw e w v).gov = m.gov := rfl
@[simp] theorem Mach.setTw_sec (m : Mach) (e w : Nat) (v : Word) : (m.setTw e w v).sec = m.sec := rfl
@[simp] theorem Mach.setTw_mtrs (m : Mach) (e w : Nat) (v : Word) : (m.setTw e w v).mtrs = m.mtrs := rfl
@[simp] theorem Mach.setTw_ldg (m : Mach) (e w : Nat) (v : Word) : (m.setTw e w v).ldg = m.ldg := rfl
@[simp] theorem Mach.setTw_sent (m : Mach) (e w : Nat) (v : Word) : (m.setTw e w v).sent = m.sent := rfl
@[simp] theorem Mach.setTw_root (m : Mach) (e w : Nat) (v : Word) : (m.setTw e w v).root = m.root := rfl
@[simp] theorem Mach.setTw_link (m : Mach) (e w : Nat) (v : Word) : (m.setTw e w v).link = m.link := rfl
@[simp] theorem Mach.setTw_test (m : Mach) (e w : Nat) (v : Word) : (m.setTw e w v).test = m.test := rfl
@[simp] theorem Mach.setTw_tap (m : Mach) (e w : Nat) (v : Word) : (m.setTw e w v).tap = m.tap := rfl
@[simp] theorem Mach.setTw_bsr (m : Mach) (e w : Nat) (v : Word) : (m.setTw e w v).bsr = m.bsr := rfl
@[simp] theorem Mach.setTw_flash (m : Mach) (e w : Nat) (v : Word) : (m.setTw e w v).flash = m.flash := rfl
@[simp] theorem Mach.setTw_timers (m : Mach) (e w : Nat) (v : Word) : (m.setTw e w v).timers = m.timers := rfl

@[simp] theorem Mach.tput_dev (m : Mach) (e : Nat) (x : TFld) (v : Nat) : (m.tput e x v).dev = m.dev := rfl
@[simp] theorem Mach.tput_regs (m : Mach) (e : Nat) (x : TFld) (v : Nat) : (m.tput e x v).regs = m.regs := rfl
@[simp] theorem Mach.tput_aon (m : Mach) (e : Nat) (x : TFld) (v : Nat) : (m.tput e x v).aon = m.aon := rfl
@[simp] theorem Mach.tput_aonPost (m : Mach) (e : Nat) (x : TFld) (v : Nat) : (m.tput e x v).aonPost = m.aonPost := rfl
@[simp] theorem Mach.tput_now (m : Mach) (e : Nat) (x : TFld) (v : Nat) : (m.tput e x v).now = m.now := rfl
@[simp] theorem Mach.tput_ts (m : Mach) (e : Nat) (x : TFld) (v : Nat) : (m.tput e x v).ts = m.ts := rfl
@[simp] theorem Mach.tput_rclk (m : Mach) (e : Nat) (x : TFld) (v : Nat) : (m.tput e x v).rclk = m.rclk := rfl
@[simp] theorem Mach.tput_grid (m : Mach) (e : Nat) (x : TFld) (v : Nat) : (m.tput e x v).grid = m.grid := rfl
@[simp] theorem Mach.tput_tod (m : Mach) (e : Nat) (x : TFld) (v : Nat) : (m.tput e x v).tod = m.tod := rfl
@[simp] theorem Mach.tput_sub (m : Mach) (e : Nat) (x : TFld) (v : Nat) : (m.tput e x v).sub = m.sub := rfl
@[simp] theorem Mach.tput_free (m : Mach) (e : Nat) (x : TFld) (v : Nat) : (m.tput e x v).free = m.free := rfl
@[simp] theorem Mach.tput_todo (m : Mach) (e : Nat) (x : TFld) (v : Nat) : (m.tput e x v).todo = m.todo := rfl
@[simp] theorem Mach.tput_accFlag (m : Mach) (e : Nat) (x : TFld) (v : Nat) : (m.tput e x v).accFlag = m.accFlag := rfl
@[simp] theorem Mach.tput_ignFlag (m : Mach) (e : Nat) (x : TFld) (v : Nat) : (m.tput e x v).ignFlag = m.ignFlag := rfl
@[simp] theorem Mach.tput_spi (m : Mach) (e : Nat) (x : TFld) (v : Nat) : (m.tput e x v).spi = m.spi := rfl
@[simp] theorem Mach.tput_i2c (m : Mach) (e : Nat) (x : TFld) (v : Nat) : (m.tput e x v).i2c = m.i2c := rfl
@[simp] theorem Mach.tput_rdata (m : Mach) (e : Nat) (x : TFld) (v : Nat) : (m.tput e x v).rdata = m.rdata := rfl
@[simp] theorem Mach.tput_chWin (m : Mach) (e : Nat) (x : TFld) (v : Nat) : (m.tput e x v).chWin = m.chWin := rfl
@[simp] theorem Mach.tput_aonWin (m : Mach) (e : Nat) (x : TFld) (v : Nat) : (m.tput e x v).aonWin = m.aonWin := rfl
@[simp] theorem Mach.tput_wides (m : Mach) (e : Nat) (x : TFld) (v : Nat) : (m.tput e x v).wides = m.wides := rfl
@[simp] theorem Mach.tput_crc (m : Mach) (e : Nat) (x : TFld) (v : Nat) : (m.tput e x v).crc = m.crc := rfl
@[simp] theorem Mach.tput_pwr (m : Mach) (e : Nat) (x : TFld) (v : Nat) : (m.tput e x v).pwr = m.pwr := rfl
@[simp] theorem Mach.tput_boot (m : Mach) (e : Nat) (x : TFld) (v : Nat) : (m.tput e x v).boot = m.boot := rfl
@[simp] theorem Mach.tput_img (m : Mach) (e : Nat) (x : TFld) (v : Nat) : (m.tput e x v).img = m.img := rfl
@[simp] theorem Mach.tput_svc (m : Mach) (e : Nat) (x : TFld) (v : Nat) : (m.tput e x v).svc = m.svc := rfl
@[simp] theorem Mach.tput_lines (m : Mach) (e : Nat) (x : TFld) (v : Nat) : (m.tput e x v).lines = m.lines := rfl
@[simp] theorem Mach.tput_recqs (m : Mach) (e : Nat) (x : TFld) (v : Nat) : (m.tput e x v).recqs = m.recqs := rfl
@[simp] theorem Mach.tput_cmdqs (m : Mach) (e : Nat) (x : TFld) (v : Nat) : (m.tput e x v).cmdqs = m.cmdqs := rfl
@[simp] theorem Mach.tput_normal (m : Mach) (e : Nat) (x : TFld) (v : Nat) : (m.tput e x v).normal = m.normal := rfl
@[simp] theorem Mach.tput_urgent (m : Mach) (e : Nat) (x : TFld) (v : Nat) : (m.tput e x v).urgent = m.urgent := rfl
@[simp] theorem Mach.tput_lastNormal (m : Mach) (e : Nat) (x : TFld) (v : Nat) : (m.tput e x v).lastNormal = m.lastNormal := rfl
@[simp] theorem Mach.tput_lastUrgent (m : Mach) (e : Nat) (x : TFld) (v : Nat) : (m.tput e x v).lastUrgent = m.lastUrgent := rfl
@[simp] theorem Mach.tput_visiting (m : Mach) (e : Nat) (x : TFld) (v : Nat) : (m.tput e x v).visiting = m.visiting := rfl
@[simp] theorem Mach.tput_ldgBuf (m : Mach) (e : Nat) (x : TFld) (v : Nat) : (m.tput e x v).ldgBuf = m.ldgBuf := rfl
@[simp] theorem Mach.tput_ldgDrop (m : Mach) (e : Nat) (x : TFld) (v : Nat) : (m.tput e x v).ldgDrop = m.ldgDrop := rfl
@[simp] theorem Mach.tput_grps (m : Mach) (e : Nat) (x : TFld) (v : Nat) : (m.tput e x v).grps = m.grps := rfl
@[simp] theorem Mach.tput_chans (m : Mach) (e : Nat) (x : TFld) (v : Nat) : (m.tput e x v).chans = m.chans := rfl
@[simp] theorem Mach.tput_nextOrd (m : Mach) (e : Nat) (x : TFld) (v : Nat) : (m.tput e x v).nextOrd = m.nextOrd := rfl
@[simp] theorem Mach.tput_gov (m : Mach) (e : Nat) (x : TFld) (v : Nat) : (m.tput e x v).gov = m.gov := rfl
@[simp] theorem Mach.tput_sec (m : Mach) (e : Nat) (x : TFld) (v : Nat) : (m.tput e x v).sec = m.sec := rfl
@[simp] theorem Mach.tput_mtrs (m : Mach) (e : Nat) (x : TFld) (v : Nat) : (m.tput e x v).mtrs = m.mtrs := rfl
@[simp] theorem Mach.tput_ldg (m : Mach) (e : Nat) (x : TFld) (v : Nat) : (m.tput e x v).ldg = m.ldg := rfl
@[simp] theorem Mach.tput_sent (m : Mach) (e : Nat) (x : TFld) (v : Nat) : (m.tput e x v).sent = m.sent := rfl
@[simp] theorem Mach.tput_root (m : Mach) (e : Nat) (x : TFld) (v : Nat) : (m.tput e x v).root = m.root := rfl
@[simp] theorem Mach.tput_link (m : Mach) (e : Nat) (x : TFld) (v : Nat) : (m.tput e x v).link = m.link := rfl
@[simp] theorem Mach.tput_test (m : Mach) (e : Nat) (x : TFld) (v : Nat) : (m.tput e x v).test = m.test := rfl
@[simp] theorem Mach.tput_tap (m : Mach) (e : Nat) (x : TFld) (v : Nat) : (m.tput e x v).tap = m.tap := rfl
@[simp] theorem Mach.tput_bsr (m : Mach) (e : Nat) (x : TFld) (v : Nat) : (m.tput e x v).bsr = m.bsr := rfl
@[simp] theorem Mach.tput_flash (m : Mach) (e : Nat) (x : TFld) (v : Nat) : (m.tput e x v).flash = m.flash := rfl
@[simp] theorem Mach.tput_timers (m : Mach) (e : Nat) (x : TFld) (v : Nat) : (m.tput e x v).timers = m.timers := rfl

@[simp] theorem Mach.setAw_dev (m : Mach) (off : Nat) (v : Word) : (m.setAw off v).dev = m.dev := rfl
@[simp] theorem Mach.setAw_regs (m : Mach) (off : Nat) (v : Word) : (m.setAw off v).regs = m.regs := rfl
@[simp] theorem Mach.setAw_tbl (m : Mach) (off : Nat) (v : Word) : (m.setAw off v).tbl = m.tbl := rfl
@[simp] theorem Mach.setAw_aonPost (m : Mach) (off : Nat) (v : Word) : (m.setAw off v).aonPost = m.aonPost := rfl
@[simp] theorem Mach.setAw_now (m : Mach) (off : Nat) (v : Word) : (m.setAw off v).now = m.now := rfl
@[simp] theorem Mach.setAw_ts (m : Mach) (off : Nat) (v : Word) : (m.setAw off v).ts = m.ts := rfl
@[simp] theorem Mach.setAw_rclk (m : Mach) (off : Nat) (v : Word) : (m.setAw off v).rclk = m.rclk := rfl
@[simp] theorem Mach.setAw_grid (m : Mach) (off : Nat) (v : Word) : (m.setAw off v).grid = m.grid := rfl
@[simp] theorem Mach.setAw_tod (m : Mach) (off : Nat) (v : Word) : (m.setAw off v).tod = m.tod := rfl
@[simp] theorem Mach.setAw_sub (m : Mach) (off : Nat) (v : Word) : (m.setAw off v).sub = m.sub := rfl
@[simp] theorem Mach.setAw_free (m : Mach) (off : Nat) (v : Word) : (m.setAw off v).free = m.free := rfl
@[simp] theorem Mach.setAw_todo (m : Mach) (off : Nat) (v : Word) : (m.setAw off v).todo = m.todo := rfl
@[simp] theorem Mach.setAw_accFlag (m : Mach) (off : Nat) (v : Word) : (m.setAw off v).accFlag = m.accFlag := rfl
@[simp] theorem Mach.setAw_ignFlag (m : Mach) (off : Nat) (v : Word) : (m.setAw off v).ignFlag = m.ignFlag := rfl
@[simp] theorem Mach.setAw_spi (m : Mach) (off : Nat) (v : Word) : (m.setAw off v).spi = m.spi := rfl
@[simp] theorem Mach.setAw_i2c (m : Mach) (off : Nat) (v : Word) : (m.setAw off v).i2c = m.i2c := rfl
@[simp] theorem Mach.setAw_rdata (m : Mach) (off : Nat) (v : Word) : (m.setAw off v).rdata = m.rdata := rfl
@[simp] theorem Mach.setAw_chWin (m : Mach) (off : Nat) (v : Word) : (m.setAw off v).chWin = m.chWin := rfl
@[simp] theorem Mach.setAw_aonWin (m : Mach) (off : Nat) (v : Word) : (m.setAw off v).aonWin = m.aonWin := rfl
@[simp] theorem Mach.setAw_wides (m : Mach) (off : Nat) (v : Word) : (m.setAw off v).wides = m.wides := rfl
@[simp] theorem Mach.setAw_crc (m : Mach) (off : Nat) (v : Word) : (m.setAw off v).crc = m.crc := rfl
@[simp] theorem Mach.setAw_pwr (m : Mach) (off : Nat) (v : Word) : (m.setAw off v).pwr = m.pwr := rfl
@[simp] theorem Mach.setAw_boot (m : Mach) (off : Nat) (v : Word) : (m.setAw off v).boot = m.boot := rfl
@[simp] theorem Mach.setAw_img (m : Mach) (off : Nat) (v : Word) : (m.setAw off v).img = m.img := rfl
@[simp] theorem Mach.setAw_svc (m : Mach) (off : Nat) (v : Word) : (m.setAw off v).svc = m.svc := rfl
@[simp] theorem Mach.setAw_lines (m : Mach) (off : Nat) (v : Word) : (m.setAw off v).lines = m.lines := rfl
@[simp] theorem Mach.setAw_recqs (m : Mach) (off : Nat) (v : Word) : (m.setAw off v).recqs = m.recqs := rfl
@[simp] theorem Mach.setAw_cmdqs (m : Mach) (off : Nat) (v : Word) : (m.setAw off v).cmdqs = m.cmdqs := rfl
@[simp] theorem Mach.setAw_normal (m : Mach) (off : Nat) (v : Word) : (m.setAw off v).normal = m.normal := rfl
@[simp] theorem Mach.setAw_urgent (m : Mach) (off : Nat) (v : Word) : (m.setAw off v).urgent = m.urgent := rfl
@[simp] theorem Mach.setAw_lastNormal (m : Mach) (off : Nat) (v : Word) : (m.setAw off v).lastNormal = m.lastNormal := rfl
@[simp] theorem Mach.setAw_lastUrgent (m : Mach) (off : Nat) (v : Word) : (m.setAw off v).lastUrgent = m.lastUrgent := rfl
@[simp] theorem Mach.setAw_visiting (m : Mach) (off : Nat) (v : Word) : (m.setAw off v).visiting = m.visiting := rfl
@[simp] theorem Mach.setAw_ldgBuf (m : Mach) (off : Nat) (v : Word) : (m.setAw off v).ldgBuf = m.ldgBuf := rfl
@[simp] theorem Mach.setAw_ldgDrop (m : Mach) (off : Nat) (v : Word) : (m.setAw off v).ldgDrop = m.ldgDrop := rfl
@[simp] theorem Mach.setAw_grps (m : Mach) (off : Nat) (v : Word) : (m.setAw off v).grps = m.grps := rfl
@[simp] theorem Mach.setAw_chans (m : Mach) (off : Nat) (v : Word) : (m.setAw off v).chans = m.chans := rfl
@[simp] theorem Mach.setAw_nextOrd (m : Mach) (off : Nat) (v : Word) : (m.setAw off v).nextOrd = m.nextOrd := rfl
@[simp] theorem Mach.setAw_gov (m : Mach) (off : Nat) (v : Word) : (m.setAw off v).gov = m.gov := rfl
@[simp] theorem Mach.setAw_sec (m : Mach) (off : Nat) (v : Word) : (m.setAw off v).sec = m.sec := rfl
@[simp] theorem Mach.setAw_mtrs (m : Mach) (off : Nat) (v : Word) : (m.setAw off v).mtrs = m.mtrs := rfl
@[simp] theorem Mach.setAw_ldg (m : Mach) (off : Nat) (v : Word) : (m.setAw off v).ldg = m.ldg := rfl
@[simp] theorem Mach.setAw_sent (m : Mach) (off : Nat) (v : Word) : (m.setAw off v).sent = m.sent := rfl
@[simp] theorem Mach.setAw_root (m : Mach) (off : Nat) (v : Word) : (m.setAw off v).root = m.root := rfl
@[simp] theorem Mach.setAw_link (m : Mach) (off : Nat) (v : Word) : (m.setAw off v).link = m.link := rfl
@[simp] theorem Mach.setAw_test (m : Mach) (off : Nat) (v : Word) : (m.setAw off v).test = m.test := rfl
@[simp] theorem Mach.setAw_tap (m : Mach) (off : Nat) (v : Word) : (m.setAw off v).tap = m.tap := rfl
@[simp] theorem Mach.setAw_bsr (m : Mach) (off : Nat) (v : Word) : (m.setAw off v).bsr = m.bsr := rfl
@[simp] theorem Mach.setAw_flash (m : Mach) (off : Nat) (v : Word) : (m.setAw off v).flash = m.flash := rfl
@[simp] theorem Mach.setAw_timers (m : Mach) (off : Nat) (v : Word) : (m.setAw off v).timers = m.timers := rfl

@[simp] theorem Mach.push_dev (m : Mach) (w : Work) : (m.push w).dev = m.dev := rfl
@[simp] theorem Mach.push_regs (m : Mach) (w : Work) : (m.push w).regs = m.regs := rfl
@[simp] theorem Mach.push_tbl (m : Mach) (w : Work) : (m.push w).tbl = m.tbl := rfl
@[simp] theorem Mach.push_aon (m : Mach) (w : Work) : (m.push w).aon = m.aon := rfl
@[simp] theorem Mach.push_aonPost (m : Mach) (w : Work) : (m.push w).aonPost = m.aonPost := rfl
@[simp] theorem Mach.push_now (m : Mach) (w : Work) : (m.push w).now = m.now := rfl
@[simp] theorem Mach.push_ts (m : Mach) (w : Work) : (m.push w).ts = m.ts := rfl
@[simp] theorem Mach.push_rclk (m : Mach) (w : Work) : (m.push w).rclk = m.rclk := rfl
@[simp] theorem Mach.push_grid (m : Mach) (w : Work) : (m.push w).grid = m.grid := rfl
@[simp] theorem Mach.push_tod (m : Mach) (w : Work) : (m.push w).tod = m.tod := rfl
@[simp] theorem Mach.push_sub (m : Mach) (w : Work) : (m.push w).sub = m.sub := rfl
@[simp] theorem Mach.push_free (m : Mach) (w : Work) : (m.push w).free = m.free := rfl
@[simp] theorem Mach.push_accFlag (m : Mach) (w : Work) : (m.push w).accFlag = m.accFlag := rfl
@[simp] theorem Mach.push_ignFlag (m : Mach) (w : Work) : (m.push w).ignFlag = m.ignFlag := rfl
@[simp] theorem Mach.push_spi (m : Mach) (w : Work) : (m.push w).spi = m.spi := rfl
@[simp] theorem Mach.push_i2c (m : Mach) (w : Work) : (m.push w).i2c = m.i2c := rfl
@[simp] theorem Mach.push_rdata (m : Mach) (w : Work) : (m.push w).rdata = m.rdata := rfl
@[simp] theorem Mach.push_chWin (m : Mach) (w : Work) : (m.push w).chWin = m.chWin := rfl
@[simp] theorem Mach.push_aonWin (m : Mach) (w : Work) : (m.push w).aonWin = m.aonWin := rfl
@[simp] theorem Mach.push_wides (m : Mach) (w : Work) : (m.push w).wides = m.wides := rfl
@[simp] theorem Mach.push_crc (m : Mach) (w : Work) : (m.push w).crc = m.crc := rfl
@[simp] theorem Mach.push_pwr (m : Mach) (w : Work) : (m.push w).pwr = m.pwr := rfl
@[simp] theorem Mach.push_boot (m : Mach) (w : Work) : (m.push w).boot = m.boot := rfl
@[simp] theorem Mach.push_img (m : Mach) (w : Work) : (m.push w).img = m.img := rfl
@[simp] theorem Mach.push_svc (m : Mach) (w : Work) : (m.push w).svc = m.svc := rfl
@[simp] theorem Mach.push_lines (m : Mach) (w : Work) : (m.push w).lines = m.lines := rfl
@[simp] theorem Mach.push_recqs (m : Mach) (w : Work) : (m.push w).recqs = m.recqs := rfl
@[simp] theorem Mach.push_cmdqs (m : Mach) (w : Work) : (m.push w).cmdqs = m.cmdqs := rfl
@[simp] theorem Mach.push_normal (m : Mach) (w : Work) : (m.push w).normal = m.normal := rfl
@[simp] theorem Mach.push_urgent (m : Mach) (w : Work) : (m.push w).urgent = m.urgent := rfl
@[simp] theorem Mach.push_lastNormal (m : Mach) (w : Work) : (m.push w).lastNormal = m.lastNormal := rfl
@[simp] theorem Mach.push_lastUrgent (m : Mach) (w : Work) : (m.push w).lastUrgent = m.lastUrgent := rfl
@[simp] theorem Mach.push_visiting (m : Mach) (w : Work) : (m.push w).visiting = m.visiting := rfl
@[simp] theorem Mach.push_ldgBuf (m : Mach) (w : Work) : (m.push w).ldgBuf = m.ldgBuf := rfl
@[simp] theorem Mach.push_ldgDrop (m : Mach) (w : Work) : (m.push w).ldgDrop = m.ldgDrop := rfl
@[simp] theorem Mach.push_grps (m : Mach) (w : Work) : (m.push w).grps = m.grps := rfl
@[simp] theorem Mach.push_chans (m : Mach) (w : Work) : (m.push w).chans = m.chans := rfl
@[simp] theorem Mach.push_nextOrd (m : Mach) (w : Work) : (m.push w).nextOrd = m.nextOrd := rfl
@[simp] theorem Mach.push_gov (m : Mach) (w : Work) : (m.push w).gov = m.gov := rfl
@[simp] theorem Mach.push_sec (m : Mach) (w : Work) : (m.push w).sec = m.sec := rfl
@[simp] theorem Mach.push_mtrs (m : Mach) (w : Work) : (m.push w).mtrs = m.mtrs := rfl
@[simp] theorem Mach.push_ldg (m : Mach) (w : Work) : (m.push w).ldg = m.ldg := rfl
@[simp] theorem Mach.push_sent (m : Mach) (w : Work) : (m.push w).sent = m.sent := rfl
@[simp] theorem Mach.push_root (m : Mach) (w : Work) : (m.push w).root = m.root := rfl
@[simp] theorem Mach.push_link (m : Mach) (w : Work) : (m.push w).link = m.link := rfl
@[simp] theorem Mach.push_test (m : Mach) (w : Work) : (m.push w).test = m.test := rfl
@[simp] theorem Mach.push_tap (m : Mach) (w : Work) : (m.push w).tap = m.tap := rfl
@[simp] theorem Mach.push_bsr (m : Mach) (w : Work) : (m.push w).bsr = m.bsr := rfl
@[simp] theorem Mach.push_flash (m : Mach) (w : Work) : (m.push w).flash = m.flash := rfl
@[simp] theorem Mach.push_timers (m : Mach) (w : Work) : (m.push w).timers = m.timers := rfl

@[simp] theorem Mach.pushFront_dev (m : Mach) (ws : List Work) : (m.pushFront ws).dev = m.dev := rfl
@[simp] theorem Mach.pushFront_regs (m : Mach) (ws : List Work) : (m.pushFront ws).regs = m.regs := rfl
@[simp] theorem Mach.pushFront_tbl (m : Mach) (ws : List Work) : (m.pushFront ws).tbl = m.tbl := rfl
@[simp] theorem Mach.pushFront_aon (m : Mach) (ws : List Work) : (m.pushFront ws).aon = m.aon := rfl
@[simp] theorem Mach.pushFront_aonPost (m : Mach) (ws : List Work) : (m.pushFront ws).aonPost = m.aonPost := rfl
@[simp] theorem Mach.pushFront_now (m : Mach) (ws : List Work) : (m.pushFront ws).now = m.now := rfl
@[simp] theorem Mach.pushFront_ts (m : Mach) (ws : List Work) : (m.pushFront ws).ts = m.ts := rfl
@[simp] theorem Mach.pushFront_rclk (m : Mach) (ws : List Work) : (m.pushFront ws).rclk = m.rclk := rfl
@[simp] theorem Mach.pushFront_grid (m : Mach) (ws : List Work) : (m.pushFront ws).grid = m.grid := rfl
@[simp] theorem Mach.pushFront_tod (m : Mach) (ws : List Work) : (m.pushFront ws).tod = m.tod := rfl
@[simp] theorem Mach.pushFront_sub (m : Mach) (ws : List Work) : (m.pushFront ws).sub = m.sub := rfl
@[simp] theorem Mach.pushFront_free (m : Mach) (ws : List Work) : (m.pushFront ws).free = m.free := rfl
@[simp] theorem Mach.pushFront_accFlag (m : Mach) (ws : List Work) : (m.pushFront ws).accFlag = m.accFlag := rfl
@[simp] theorem Mach.pushFront_ignFlag (m : Mach) (ws : List Work) : (m.pushFront ws).ignFlag = m.ignFlag := rfl
@[simp] theorem Mach.pushFront_spi (m : Mach) (ws : List Work) : (m.pushFront ws).spi = m.spi := rfl
@[simp] theorem Mach.pushFront_i2c (m : Mach) (ws : List Work) : (m.pushFront ws).i2c = m.i2c := rfl
@[simp] theorem Mach.pushFront_rdata (m : Mach) (ws : List Work) : (m.pushFront ws).rdata = m.rdata := rfl
@[simp] theorem Mach.pushFront_chWin (m : Mach) (ws : List Work) : (m.pushFront ws).chWin = m.chWin := rfl
@[simp] theorem Mach.pushFront_aonWin (m : Mach) (ws : List Work) : (m.pushFront ws).aonWin = m.aonWin := rfl
@[simp] theorem Mach.pushFront_wides (m : Mach) (ws : List Work) : (m.pushFront ws).wides = m.wides := rfl
@[simp] theorem Mach.pushFront_crc (m : Mach) (ws : List Work) : (m.pushFront ws).crc = m.crc := rfl
@[simp] theorem Mach.pushFront_pwr (m : Mach) (ws : List Work) : (m.pushFront ws).pwr = m.pwr := rfl
@[simp] theorem Mach.pushFront_boot (m : Mach) (ws : List Work) : (m.pushFront ws).boot = m.boot := rfl
@[simp] theorem Mach.pushFront_img (m : Mach) (ws : List Work) : (m.pushFront ws).img = m.img := rfl
@[simp] theorem Mach.pushFront_svc (m : Mach) (ws : List Work) : (m.pushFront ws).svc = m.svc := rfl
@[simp] theorem Mach.pushFront_lines (m : Mach) (ws : List Work) : (m.pushFront ws).lines = m.lines := rfl
@[simp] theorem Mach.pushFront_recqs (m : Mach) (ws : List Work) : (m.pushFront ws).recqs = m.recqs := rfl
@[simp] theorem Mach.pushFront_cmdqs (m : Mach) (ws : List Work) : (m.pushFront ws).cmdqs = m.cmdqs := rfl
@[simp] theorem Mach.pushFront_normal (m : Mach) (ws : List Work) : (m.pushFront ws).normal = m.normal := rfl
@[simp] theorem Mach.pushFront_urgent (m : Mach) (ws : List Work) : (m.pushFront ws).urgent = m.urgent := rfl
@[simp] theorem Mach.pushFront_lastNormal (m : Mach) (ws : List Work) : (m.pushFront ws).lastNormal = m.lastNormal := rfl
@[simp] theorem Mach.pushFront_lastUrgent (m : Mach) (ws : List Work) : (m.pushFront ws).lastUrgent = m.lastUrgent := rfl
@[simp] theorem Mach.pushFront_visiting (m : Mach) (ws : List Work) : (m.pushFront ws).visiting = m.visiting := rfl
@[simp] theorem Mach.pushFront_ldgBuf (m : Mach) (ws : List Work) : (m.pushFront ws).ldgBuf = m.ldgBuf := rfl
@[simp] theorem Mach.pushFront_ldgDrop (m : Mach) (ws : List Work) : (m.pushFront ws).ldgDrop = m.ldgDrop := rfl
@[simp] theorem Mach.pushFront_grps (m : Mach) (ws : List Work) : (m.pushFront ws).grps = m.grps := rfl
@[simp] theorem Mach.pushFront_chans (m : Mach) (ws : List Work) : (m.pushFront ws).chans = m.chans := rfl
@[simp] theorem Mach.pushFront_nextOrd (m : Mach) (ws : List Work) : (m.pushFront ws).nextOrd = m.nextOrd := rfl
@[simp] theorem Mach.pushFront_gov (m : Mach) (ws : List Work) : (m.pushFront ws).gov = m.gov := rfl
@[simp] theorem Mach.pushFront_sec (m : Mach) (ws : List Work) : (m.pushFront ws).sec = m.sec := rfl
@[simp] theorem Mach.pushFront_mtrs (m : Mach) (ws : List Work) : (m.pushFront ws).mtrs = m.mtrs := rfl
@[simp] theorem Mach.pushFront_ldg (m : Mach) (ws : List Work) : (m.pushFront ws).ldg = m.ldg := rfl
@[simp] theorem Mach.pushFront_sent (m : Mach) (ws : List Work) : (m.pushFront ws).sent = m.sent := rfl
@[simp] theorem Mach.pushFront_root (m : Mach) (ws : List Work) : (m.pushFront ws).root = m.root := rfl
@[simp] theorem Mach.pushFront_link (m : Mach) (ws : List Work) : (m.pushFront ws).link = m.link := rfl
@[simp] theorem Mach.pushFront_test (m : Mach) (ws : List Work) : (m.pushFront ws).test = m.test := rfl
@[simp] theorem Mach.pushFront_tap (m : Mach) (ws : List Work) : (m.pushFront ws).tap = m.tap := rfl
@[simp] theorem Mach.pushFront_bsr (m : Mach) (ws : List Work) : (m.pushFront ws).bsr = m.bsr := rfl
@[simp] theorem Mach.pushFront_flash (m : Mach) (ws : List Work) : (m.pushFront ws).flash = m.flash := rfl
@[simp] theorem Mach.pushFront_timers (m : Mach) (ws : List Work) : (m.pushFront ws).timers = m.timers := rfl

@[simp] theorem Mach.setRq_dev (m : Mach) (q : Nat) (r : RecQ) : (m.setRq q r).dev = m.dev := rfl
@[simp] theorem Mach.setRq_regs (m : Mach) (q : Nat) (r : RecQ) : (m.setRq q r).regs = m.regs := rfl
@[simp] theorem Mach.setRq_tbl (m : Mach) (q : Nat) (r : RecQ) : (m.setRq q r).tbl = m.tbl := rfl
@[simp] theorem Mach.setRq_aon (m : Mach) (q : Nat) (r : RecQ) : (m.setRq q r).aon = m.aon := rfl
@[simp] theorem Mach.setRq_aonPost (m : Mach) (q : Nat) (r : RecQ) : (m.setRq q r).aonPost = m.aonPost := rfl
@[simp] theorem Mach.setRq_now (m : Mach) (q : Nat) (r : RecQ) : (m.setRq q r).now = m.now := rfl
@[simp] theorem Mach.setRq_ts (m : Mach) (q : Nat) (r : RecQ) : (m.setRq q r).ts = m.ts := rfl
@[simp] theorem Mach.setRq_rclk (m : Mach) (q : Nat) (r : RecQ) : (m.setRq q r).rclk = m.rclk := rfl
@[simp] theorem Mach.setRq_grid (m : Mach) (q : Nat) (r : RecQ) : (m.setRq q r).grid = m.grid := rfl
@[simp] theorem Mach.setRq_tod (m : Mach) (q : Nat) (r : RecQ) : (m.setRq q r).tod = m.tod := rfl
@[simp] theorem Mach.setRq_sub (m : Mach) (q : Nat) (r : RecQ) : (m.setRq q r).sub = m.sub := rfl
@[simp] theorem Mach.setRq_free (m : Mach) (q : Nat) (r : RecQ) : (m.setRq q r).free = m.free := rfl
@[simp] theorem Mach.setRq_todo (m : Mach) (q : Nat) (r : RecQ) : (m.setRq q r).todo = m.todo := rfl
@[simp] theorem Mach.setRq_accFlag (m : Mach) (q : Nat) (r : RecQ) : (m.setRq q r).accFlag = m.accFlag := rfl
@[simp] theorem Mach.setRq_ignFlag (m : Mach) (q : Nat) (r : RecQ) : (m.setRq q r).ignFlag = m.ignFlag := rfl
@[simp] theorem Mach.setRq_spi (m : Mach) (q : Nat) (r : RecQ) : (m.setRq q r).spi = m.spi := rfl
@[simp] theorem Mach.setRq_i2c (m : Mach) (q : Nat) (r : RecQ) : (m.setRq q r).i2c = m.i2c := rfl
@[simp] theorem Mach.setRq_rdata (m : Mach) (q : Nat) (r : RecQ) : (m.setRq q r).rdata = m.rdata := rfl
@[simp] theorem Mach.setRq_chWin (m : Mach) (q : Nat) (r : RecQ) : (m.setRq q r).chWin = m.chWin := rfl
@[simp] theorem Mach.setRq_aonWin (m : Mach) (q : Nat) (r : RecQ) : (m.setRq q r).aonWin = m.aonWin := rfl
@[simp] theorem Mach.setRq_wides (m : Mach) (q : Nat) (r : RecQ) : (m.setRq q r).wides = m.wides := rfl
@[simp] theorem Mach.setRq_crc (m : Mach) (q : Nat) (r : RecQ) : (m.setRq q r).crc = m.crc := rfl
@[simp] theorem Mach.setRq_pwr (m : Mach) (q : Nat) (r : RecQ) : (m.setRq q r).pwr = m.pwr := rfl
@[simp] theorem Mach.setRq_boot (m : Mach) (q : Nat) (r : RecQ) : (m.setRq q r).boot = m.boot := rfl
@[simp] theorem Mach.setRq_img (m : Mach) (q : Nat) (r : RecQ) : (m.setRq q r).img = m.img := rfl
@[simp] theorem Mach.setRq_svc (m : Mach) (q : Nat) (r : RecQ) : (m.setRq q r).svc = m.svc := rfl
@[simp] theorem Mach.setRq_lines (m : Mach) (q : Nat) (r : RecQ) : (m.setRq q r).lines = m.lines := rfl
@[simp] theorem Mach.setRq_cmdqs (m : Mach) (q : Nat) (r : RecQ) : (m.setRq q r).cmdqs = m.cmdqs := rfl
@[simp] theorem Mach.setRq_normal (m : Mach) (q : Nat) (r : RecQ) : (m.setRq q r).normal = m.normal := rfl
@[simp] theorem Mach.setRq_urgent (m : Mach) (q : Nat) (r : RecQ) : (m.setRq q r).urgent = m.urgent := rfl
@[simp] theorem Mach.setRq_lastNormal (m : Mach) (q : Nat) (r : RecQ) : (m.setRq q r).lastNormal = m.lastNormal := rfl
@[simp] theorem Mach.setRq_lastUrgent (m : Mach) (q : Nat) (r : RecQ) : (m.setRq q r).lastUrgent = m.lastUrgent := rfl
@[simp] theorem Mach.setRq_visiting (m : Mach) (q : Nat) (r : RecQ) : (m.setRq q r).visiting = m.visiting := rfl
@[simp] theorem Mach.setRq_ldgBuf (m : Mach) (q : Nat) (r : RecQ) : (m.setRq q r).ldgBuf = m.ldgBuf := rfl
@[simp] theorem Mach.setRq_ldgDrop (m : Mach) (q : Nat) (r : RecQ) : (m.setRq q r).ldgDrop = m.ldgDrop := rfl
@[simp] theorem Mach.setRq_grps (m : Mach) (q : Nat) (r : RecQ) : (m.setRq q r).grps = m.grps := rfl
@[simp] theorem Mach.setRq_chans (m : Mach) (q : Nat) (r : RecQ) : (m.setRq q r).chans = m.chans := rfl
@[simp] theorem Mach.setRq_nextOrd (m : Mach) (q : Nat) (r : RecQ) : (m.setRq q r).nextOrd = m.nextOrd := rfl
@[simp] theorem Mach.setRq_gov (m : Mach) (q : Nat) (r : RecQ) : (m.setRq q r).gov = m.gov := rfl
@[simp] theorem Mach.setRq_sec (m : Mach) (q : Nat) (r : RecQ) : (m.setRq q r).sec = m.sec := rfl
@[simp] theorem Mach.setRq_mtrs (m : Mach) (q : Nat) (r : RecQ) : (m.setRq q r).mtrs = m.mtrs := rfl
@[simp] theorem Mach.setRq_ldg (m : Mach) (q : Nat) (r : RecQ) : (m.setRq q r).ldg = m.ldg := rfl
@[simp] theorem Mach.setRq_sent (m : Mach) (q : Nat) (r : RecQ) : (m.setRq q r).sent = m.sent := rfl
@[simp] theorem Mach.setRq_root (m : Mach) (q : Nat) (r : RecQ) : (m.setRq q r).root = m.root := rfl
@[simp] theorem Mach.setRq_link (m : Mach) (q : Nat) (r : RecQ) : (m.setRq q r).link = m.link := rfl
@[simp] theorem Mach.setRq_test (m : Mach) (q : Nat) (r : RecQ) : (m.setRq q r).test = m.test := rfl
@[simp] theorem Mach.setRq_tap (m : Mach) (q : Nat) (r : RecQ) : (m.setRq q r).tap = m.tap := rfl
@[simp] theorem Mach.setRq_bsr (m : Mach) (q : Nat) (r : RecQ) : (m.setRq q r).bsr = m.bsr := rfl
@[simp] theorem Mach.setRq_flash (m : Mach) (q : Nat) (r : RecQ) : (m.setRq q r).flash = m.flash := rfl
@[simp] theorem Mach.setRq_timers (m : Mach) (q : Nat) (r : RecQ) : (m.setRq q r).timers = m.timers := rfl

@[simp] theorem Mach.setCq_dev (m : Mach) (q : Nat) (r : CmdQ) : (m.setCq q r).dev = m.dev := rfl
@[simp] theorem Mach.setCq_regs (m : Mach) (q : Nat) (r : CmdQ) : (m.setCq q r).regs = m.regs := rfl
@[simp] theorem Mach.setCq_tbl (m : Mach) (q : Nat) (r : CmdQ) : (m.setCq q r).tbl = m.tbl := rfl
@[simp] theorem Mach.setCq_aon (m : Mach) (q : Nat) (r : CmdQ) : (m.setCq q r).aon = m.aon := rfl
@[simp] theorem Mach.setCq_aonPost (m : Mach) (q : Nat) (r : CmdQ) : (m.setCq q r).aonPost = m.aonPost := rfl
@[simp] theorem Mach.setCq_now (m : Mach) (q : Nat) (r : CmdQ) : (m.setCq q r).now = m.now := rfl
@[simp] theorem Mach.setCq_ts (m : Mach) (q : Nat) (r : CmdQ) : (m.setCq q r).ts = m.ts := rfl
@[simp] theorem Mach.setCq_rclk (m : Mach) (q : Nat) (r : CmdQ) : (m.setCq q r).rclk = m.rclk := rfl
@[simp] theorem Mach.setCq_grid (m : Mach) (q : Nat) (r : CmdQ) : (m.setCq q r).grid = m.grid := rfl
@[simp] theorem Mach.setCq_tod (m : Mach) (q : Nat) (r : CmdQ) : (m.setCq q r).tod = m.tod := rfl
@[simp] theorem Mach.setCq_sub (m : Mach) (q : Nat) (r : CmdQ) : (m.setCq q r).sub = m.sub := rfl
@[simp] theorem Mach.setCq_free (m : Mach) (q : Nat) (r : CmdQ) : (m.setCq q r).free = m.free := rfl
@[simp] theorem Mach.setCq_todo (m : Mach) (q : Nat) (r : CmdQ) : (m.setCq q r).todo = m.todo := rfl
@[simp] theorem Mach.setCq_accFlag (m : Mach) (q : Nat) (r : CmdQ) : (m.setCq q r).accFlag = m.accFlag := rfl
@[simp] theorem Mach.setCq_ignFlag (m : Mach) (q : Nat) (r : CmdQ) : (m.setCq q r).ignFlag = m.ignFlag := rfl
@[simp] theorem Mach.setCq_spi (m : Mach) (q : Nat) (r : CmdQ) : (m.setCq q r).spi = m.spi := rfl
@[simp] theorem Mach.setCq_i2c (m : Mach) (q : Nat) (r : CmdQ) : (m.setCq q r).i2c = m.i2c := rfl
@[simp] theorem Mach.setCq_rdata (m : Mach) (q : Nat) (r : CmdQ) : (m.setCq q r).rdata = m.rdata := rfl
@[simp] theorem Mach.setCq_chWin (m : Mach) (q : Nat) (r : CmdQ) : (m.setCq q r).chWin = m.chWin := rfl
@[simp] theorem Mach.setCq_aonWin (m : Mach) (q : Nat) (r : CmdQ) : (m.setCq q r).aonWin = m.aonWin := rfl
@[simp] theorem Mach.setCq_wides (m : Mach) (q : Nat) (r : CmdQ) : (m.setCq q r).wides = m.wides := rfl
@[simp] theorem Mach.setCq_crc (m : Mach) (q : Nat) (r : CmdQ) : (m.setCq q r).crc = m.crc := rfl
@[simp] theorem Mach.setCq_pwr (m : Mach) (q : Nat) (r : CmdQ) : (m.setCq q r).pwr = m.pwr := rfl
@[simp] theorem Mach.setCq_boot (m : Mach) (q : Nat) (r : CmdQ) : (m.setCq q r).boot = m.boot := rfl
@[simp] theorem Mach.setCq_img (m : Mach) (q : Nat) (r : CmdQ) : (m.setCq q r).img = m.img := rfl
@[simp] theorem Mach.setCq_svc (m : Mach) (q : Nat) (r : CmdQ) : (m.setCq q r).svc = m.svc := rfl
@[simp] theorem Mach.setCq_lines (m : Mach) (q : Nat) (r : CmdQ) : (m.setCq q r).lines = m.lines := rfl
@[simp] theorem Mach.setCq_recqs (m : Mach) (q : Nat) (r : CmdQ) : (m.setCq q r).recqs = m.recqs := rfl
@[simp] theorem Mach.setCq_normal (m : Mach) (q : Nat) (r : CmdQ) : (m.setCq q r).normal = m.normal := rfl
@[simp] theorem Mach.setCq_urgent (m : Mach) (q : Nat) (r : CmdQ) : (m.setCq q r).urgent = m.urgent := rfl
@[simp] theorem Mach.setCq_lastNormal (m : Mach) (q : Nat) (r : CmdQ) : (m.setCq q r).lastNormal = m.lastNormal := rfl
@[simp] theorem Mach.setCq_lastUrgent (m : Mach) (q : Nat) (r : CmdQ) : (m.setCq q r).lastUrgent = m.lastUrgent := rfl
@[simp] theorem Mach.setCq_visiting (m : Mach) (q : Nat) (r : CmdQ) : (m.setCq q r).visiting = m.visiting := rfl
@[simp] theorem Mach.setCq_ldgBuf (m : Mach) (q : Nat) (r : CmdQ) : (m.setCq q r).ldgBuf = m.ldgBuf := rfl
@[simp] theorem Mach.setCq_ldgDrop (m : Mach) (q : Nat) (r : CmdQ) : (m.setCq q r).ldgDrop = m.ldgDrop := rfl
@[simp] theorem Mach.setCq_grps (m : Mach) (q : Nat) (r : CmdQ) : (m.setCq q r).grps = m.grps := rfl
@[simp] theorem Mach.setCq_chans (m : Mach) (q : Nat) (r : CmdQ) : (m.setCq q r).chans = m.chans := rfl
@[simp] theorem Mach.setCq_nextOrd (m : Mach) (q : Nat) (r : CmdQ) : (m.setCq q r).nextOrd = m.nextOrd := rfl
@[simp] theorem Mach.setCq_gov (m : Mach) (q : Nat) (r : CmdQ) : (m.setCq q r).gov = m.gov := rfl
@[simp] theorem Mach.setCq_sec (m : Mach) (q : Nat) (r : CmdQ) : (m.setCq q r).sec = m.sec := rfl
@[simp] theorem Mach.setCq_mtrs (m : Mach) (q : Nat) (r : CmdQ) : (m.setCq q r).mtrs = m.mtrs := rfl
@[simp] theorem Mach.setCq_ldg (m : Mach) (q : Nat) (r : CmdQ) : (m.setCq q r).ldg = m.ldg := rfl
@[simp] theorem Mach.setCq_sent (m : Mach) (q : Nat) (r : CmdQ) : (m.setCq q r).sent = m.sent := rfl
@[simp] theorem Mach.setCq_root (m : Mach) (q : Nat) (r : CmdQ) : (m.setCq q r).root = m.root := rfl
@[simp] theorem Mach.setCq_link (m : Mach) (q : Nat) (r : CmdQ) : (m.setCq q r).link = m.link := rfl
@[simp] theorem Mach.setCq_test (m : Mach) (q : Nat) (r : CmdQ) : (m.setCq q r).test = m.test := rfl
@[simp] theorem Mach.setCq_tap (m : Mach) (q : Nat) (r : CmdQ) : (m.setCq q r).tap = m.tap := rfl
@[simp] theorem Mach.setCq_bsr (m : Mach) (q : Nat) (r : CmdQ) : (m.setCq q r).bsr = m.bsr := rfl
@[simp] theorem Mach.setCq_flash (m : Mach) (q : Nat) (r : CmdQ) : (m.setCq q r).flash = m.flash := rfl
@[simp] theorem Mach.setCq_timers (m : Mach) (q : Nat) (r : CmdQ) : (m.setCq q r).timers = m.timers := rfl

@[simp] theorem Mach.unmarked_dev (m : Mach)  : (m.unmarked ).dev = m.dev := rfl
@[simp] theorem Mach.unmarked_regs (m : Mach)  : (m.unmarked ).regs = m.regs := rfl
@[simp] theorem Mach.unmarked_tbl (m : Mach)  : (m.unmarked ).tbl = m.tbl := rfl
@[simp] theorem Mach.unmarked_aon (m : Mach)  : (m.unmarked ).aon = m.aon := rfl
@[simp] theorem Mach.unmarked_aonPost (m : Mach)  : (m.unmarked ).aonPost = m.aonPost := rfl
@[simp] theorem Mach.unmarked_now (m : Mach)  : (m.unmarked ).now = m.now := rfl
@[simp] theorem Mach.unmarked_ts (m : Mach)  : (m.unmarked ).ts = m.ts := rfl
@[simp] theorem Mach.unmarked_rclk (m : Mach)  : (m.unmarked ).rclk = m.rclk := rfl
@[simp] theorem Mach.unmarked_grid (m : Mach)  : (m.unmarked ).grid = m.grid := rfl
@[simp] theorem Mach.unmarked_tod (m : Mach)  : (m.unmarked ).tod = m.tod := rfl
@[simp] theorem Mach.unmarked_sub (m : Mach)  : (m.unmarked ).sub = m.sub := rfl
@[simp] theorem Mach.unmarked_free (m : Mach)  : (m.unmarked ).free = m.free := rfl
@[simp] theorem Mach.unmarked_todo (m : Mach)  : (m.unmarked ).todo = m.todo := rfl
@[simp] theorem Mach.unmarked_spi (m : Mach)  : (m.unmarked ).spi = m.spi := rfl
@[simp] theorem Mach.unmarked_i2c (m : Mach)  : (m.unmarked ).i2c = m.i2c := rfl
@[simp] theorem Mach.unmarked_rdata (m : Mach)  : (m.unmarked ).rdata = m.rdata := rfl
@[simp] theorem Mach.unmarked_chWin (m : Mach)  : (m.unmarked ).chWin = m.chWin := rfl
@[simp] theorem Mach.unmarked_aonWin (m : Mach)  : (m.unmarked ).aonWin = m.aonWin := rfl
@[simp] theorem Mach.unmarked_wides (m : Mach)  : (m.unmarked ).wides = m.wides := rfl
@[simp] theorem Mach.unmarked_crc (m : Mach)  : (m.unmarked ).crc = m.crc := rfl
@[simp] theorem Mach.unmarked_pwr (m : Mach)  : (m.unmarked ).pwr = m.pwr := rfl
@[simp] theorem Mach.unmarked_boot (m : Mach)  : (m.unmarked ).boot = m.boot := rfl
@[simp] theorem Mach.unmarked_img (m : Mach)  : (m.unmarked ).img = m.img := rfl
@[simp] theorem Mach.unmarked_svc (m : Mach)  : (m.unmarked ).svc = m.svc := rfl
@[simp] theorem Mach.unmarked_lines (m : Mach)  : (m.unmarked ).lines = m.lines := rfl
@[simp] theorem Mach.unmarked_recqs (m : Mach)  : (m.unmarked ).recqs = m.recqs := rfl
@[simp] theorem Mach.unmarked_cmdqs (m : Mach)  : (m.unmarked ).cmdqs = m.cmdqs := rfl
@[simp] theorem Mach.unmarked_normal (m : Mach)  : (m.unmarked ).normal = m.normal := rfl
@[simp] theorem Mach.unmarked_urgent (m : Mach)  : (m.unmarked ).urgent = m.urgent := rfl
@[simp] theorem Mach.unmarked_lastNormal (m : Mach)  : (m.unmarked ).lastNormal = m.lastNormal := rfl
@[simp] theorem Mach.unmarked_lastUrgent (m : Mach)  : (m.unmarked ).lastUrgent = m.lastUrgent := rfl
@[simp] theorem Mach.unmarked_visiting (m : Mach)  : (m.unmarked ).visiting = m.visiting := rfl
@[simp] theorem Mach.unmarked_ldgBuf (m : Mach)  : (m.unmarked ).ldgBuf = m.ldgBuf := rfl
@[simp] theorem Mach.unmarked_ldgDrop (m : Mach)  : (m.unmarked ).ldgDrop = m.ldgDrop := rfl
@[simp] theorem Mach.unmarked_grps (m : Mach)  : (m.unmarked ).grps = m.grps := rfl
@[simp] theorem Mach.unmarked_chans (m : Mach)  : (m.unmarked ).chans = m.chans := rfl
@[simp] theorem Mach.unmarked_nextOrd (m : Mach)  : (m.unmarked ).nextOrd = m.nextOrd := rfl
@[simp] theorem Mach.unmarked_gov (m : Mach)  : (m.unmarked ).gov = m.gov := rfl
@[simp] theorem Mach.unmarked_sec (m : Mach)  : (m.unmarked ).sec = m.sec := rfl
@[simp] theorem Mach.unmarked_mtrs (m : Mach)  : (m.unmarked ).mtrs = m.mtrs := rfl
@[simp] theorem Mach.unmarked_ldg (m : Mach)  : (m.unmarked ).ldg = m.ldg := rfl
@[simp] theorem Mach.unmarked_sent (m : Mach)  : (m.unmarked ).sent = m.sent := rfl
@[simp] theorem Mach.unmarked_root (m : Mach)  : (m.unmarked ).root = m.root := rfl
@[simp] theorem Mach.unmarked_link (m : Mach)  : (m.unmarked ).link = m.link := rfl
@[simp] theorem Mach.unmarked_test (m : Mach)  : (m.unmarked ).test = m.test := rfl
@[simp] theorem Mach.unmarked_tap (m : Mach)  : (m.unmarked ).tap = m.tap := rfl
@[simp] theorem Mach.unmarked_bsr (m : Mach)  : (m.unmarked ).bsr = m.bsr := rfl
@[simp] theorem Mach.unmarked_flash (m : Mach)  : (m.unmarked ).flash = m.flash := rfl
@[simp] theorem Mach.unmarked_timers (m : Mach)  : (m.unmarked ).timers = m.timers := rfl

@[simp] theorem Mach.setGrp_dev (m : Mach) (g : Nat) (r : Grp) : (m.setGrp g r).dev = m.dev := rfl
@[simp] theorem Mach.setGrp_regs (m : Mach) (g : Nat) (r : Grp) : (m.setGrp g r).regs = m.regs := rfl
@[simp] theorem Mach.setGrp_tbl (m : Mach) (g : Nat) (r : Grp) : (m.setGrp g r).tbl = m.tbl := rfl
@[simp] theorem Mach.setGrp_aon (m : Mach) (g : Nat) (r : Grp) : (m.setGrp g r).aon = m.aon := rfl
@[simp] theorem Mach.setGrp_aonPost (m : Mach) (g : Nat) (r : Grp) : (m.setGrp g r).aonPost = m.aonPost := rfl
@[simp] theorem Mach.setGrp_now (m : Mach) (g : Nat) (r : Grp) : (m.setGrp g r).now = m.now := rfl
@[simp] theorem Mach.setGrp_ts (m : Mach) (g : Nat) (r : Grp) : (m.setGrp g r).ts = m.ts := rfl
@[simp] theorem Mach.setGrp_rclk (m : Mach) (g : Nat) (r : Grp) : (m.setGrp g r).rclk = m.rclk := rfl
@[simp] theorem Mach.setGrp_grid (m : Mach) (g : Nat) (r : Grp) : (m.setGrp g r).grid = m.grid := rfl
@[simp] theorem Mach.setGrp_tod (m : Mach) (g : Nat) (r : Grp) : (m.setGrp g r).tod = m.tod := rfl
@[simp] theorem Mach.setGrp_sub (m : Mach) (g : Nat) (r : Grp) : (m.setGrp g r).sub = m.sub := rfl
@[simp] theorem Mach.setGrp_free (m : Mach) (g : Nat) (r : Grp) : (m.setGrp g r).free = m.free := rfl
@[simp] theorem Mach.setGrp_todo (m : Mach) (g : Nat) (r : Grp) : (m.setGrp g r).todo = m.todo := rfl
@[simp] theorem Mach.setGrp_accFlag (m : Mach) (g : Nat) (r : Grp) : (m.setGrp g r).accFlag = m.accFlag := rfl
@[simp] theorem Mach.setGrp_ignFlag (m : Mach) (g : Nat) (r : Grp) : (m.setGrp g r).ignFlag = m.ignFlag := rfl
@[simp] theorem Mach.setGrp_spi (m : Mach) (g : Nat) (r : Grp) : (m.setGrp g r).spi = m.spi := rfl
@[simp] theorem Mach.setGrp_i2c (m : Mach) (g : Nat) (r : Grp) : (m.setGrp g r).i2c = m.i2c := rfl
@[simp] theorem Mach.setGrp_rdata (m : Mach) (g : Nat) (r : Grp) : (m.setGrp g r).rdata = m.rdata := rfl
@[simp] theorem Mach.setGrp_chWin (m : Mach) (g : Nat) (r : Grp) : (m.setGrp g r).chWin = m.chWin := rfl
@[simp] theorem Mach.setGrp_aonWin (m : Mach) (g : Nat) (r : Grp) : (m.setGrp g r).aonWin = m.aonWin := rfl
@[simp] theorem Mach.setGrp_wides (m : Mach) (g : Nat) (r : Grp) : (m.setGrp g r).wides = m.wides := rfl
@[simp] theorem Mach.setGrp_crc (m : Mach) (g : Nat) (r : Grp) : (m.setGrp g r).crc = m.crc := rfl
@[simp] theorem Mach.setGrp_pwr (m : Mach) (g : Nat) (r : Grp) : (m.setGrp g r).pwr = m.pwr := rfl
@[simp] theorem Mach.setGrp_boot (m : Mach) (g : Nat) (r : Grp) : (m.setGrp g r).boot = m.boot := rfl
@[simp] theorem Mach.setGrp_img (m : Mach) (g : Nat) (r : Grp) : (m.setGrp g r).img = m.img := rfl
@[simp] theorem Mach.setGrp_svc (m : Mach) (g : Nat) (r : Grp) : (m.setGrp g r).svc = m.svc := rfl
@[simp] theorem Mach.setGrp_lines (m : Mach) (g : Nat) (r : Grp) : (m.setGrp g r).lines = m.lines := rfl
@[simp] theorem Mach.setGrp_recqs (m : Mach) (g : Nat) (r : Grp) : (m.setGrp g r).recqs = m.recqs := rfl
@[simp] theorem Mach.setGrp_cmdqs (m : Mach) (g : Nat) (r : Grp) : (m.setGrp g r).cmdqs = m.cmdqs := rfl
@[simp] theorem Mach.setGrp_normal (m : Mach) (g : Nat) (r : Grp) : (m.setGrp g r).normal = m.normal := rfl
@[simp] theorem Mach.setGrp_urgent (m : Mach) (g : Nat) (r : Grp) : (m.setGrp g r).urgent = m.urgent := rfl
@[simp] theorem Mach.setGrp_lastNormal (m : Mach) (g : Nat) (r : Grp) : (m.setGrp g r).lastNormal = m.lastNormal := rfl
@[simp] theorem Mach.setGrp_lastUrgent (m : Mach) (g : Nat) (r : Grp) : (m.setGrp g r).lastUrgent = m.lastUrgent := rfl
@[simp] theorem Mach.setGrp_visiting (m : Mach) (g : Nat) (r : Grp) : (m.setGrp g r).visiting = m.visiting := rfl
@[simp] theorem Mach.setGrp_ldgBuf (m : Mach) (g : Nat) (r : Grp) : (m.setGrp g r).ldgBuf = m.ldgBuf := rfl
@[simp] theorem Mach.setGrp_ldgDrop (m : Mach) (g : Nat) (r : Grp) : (m.setGrp g r).ldgDrop = m.ldgDrop := rfl
@[simp] theorem Mach.setGrp_chans (m : Mach) (g : Nat) (r : Grp) : (m.setGrp g r).chans = m.chans := rfl
@[simp] theorem Mach.setGrp_nextOrd (m : Mach) (g : Nat) (r : Grp) : (m.setGrp g r).nextOrd = m.nextOrd := rfl
@[simp] theorem Mach.setGrp_gov (m : Mach) (g : Nat) (r : Grp) : (m.setGrp g r).gov = m.gov := rfl
@[simp] theorem Mach.setGrp_sec (m : Mach) (g : Nat) (r : Grp) : (m.setGrp g r).sec = m.sec := rfl
@[simp] theorem Mach.setGrp_mtrs (m : Mach) (g : Nat) (r : Grp) : (m.setGrp g r).mtrs = m.mtrs := rfl
@[simp] theorem Mach.setGrp_ldg (m : Mach) (g : Nat) (r : Grp) : (m.setGrp g r).ldg = m.ldg := rfl
@[simp] theorem Mach.setGrp_sent (m : Mach) (g : Nat) (r : Grp) : (m.setGrp g r).sent = m.sent := rfl
@[simp] theorem Mach.setGrp_root (m : Mach) (g : Nat) (r : Grp) : (m.setGrp g r).root = m.root := rfl
@[simp] theorem Mach.setGrp_link (m : Mach) (g : Nat) (r : Grp) : (m.setGrp g r).link = m.link := rfl
@[simp] theorem Mach.setGrp_test (m : Mach) (g : Nat) (r : Grp) : (m.setGrp g r).test = m.test := rfl
@[simp] theorem Mach.setGrp_tap (m : Mach) (g : Nat) (r : Grp) : (m.setGrp g r).tap = m.tap := rfl
@[simp] theorem Mach.setGrp_bsr (m : Mach) (g : Nat) (r : Grp) : (m.setGrp g r).bsr = m.bsr := rfl
@[simp] theorem Mach.setGrp_flash (m : Mach) (g : Nat) (r : Grp) : (m.setGrp g r).flash = m.flash := rfl
@[simp] theorem Mach.setGrp_timers (m : Mach) (g : Nat) (r : Grp) : (m.setGrp g r).timers = m.timers := rfl

@[simp] theorem Mach.setCh_dev (m : Mach) (n : Nat) (c : Chan) : (m.setCh n c).dev = m.dev := rfl
@[simp] theorem Mach.setCh_regs (m : Mach) (n : Nat) (c : Chan) : (m.setCh n c).regs = m.regs := rfl
@[simp] theorem Mach.setCh_tbl (m : Mach) (n : Nat) (c : Chan) : (m.setCh n c).tbl = m.tbl := rfl
@[simp] theorem Mach.setCh_aon (m : Mach) (n : Nat) (c : Chan) : (m.setCh n c).aon = m.aon := rfl
@[simp] theorem Mach.setCh_aonPost (m : Mach) (n : Nat) (c : Chan) : (m.setCh n c).aonPost = m.aonPost := rfl
@[simp] theorem Mach.setCh_now (m : Mach) (n : Nat) (c : Chan) : (m.setCh n c).now = m.now := rfl
@[simp] theorem Mach.setCh_ts (m : Mach) (n : Nat) (c : Chan) : (m.setCh n c).ts = m.ts := rfl
@[simp] theorem Mach.setCh_rclk (m : Mach) (n : Nat) (c : Chan) : (m.setCh n c).rclk = m.rclk := rfl
@[simp] theorem Mach.setCh_grid (m : Mach) (n : Nat) (c : Chan) : (m.setCh n c).grid = m.grid := rfl
@[simp] theorem Mach.setCh_tod (m : Mach) (n : Nat) (c : Chan) : (m.setCh n c).tod = m.tod := rfl
@[simp] theorem Mach.setCh_sub (m : Mach) (n : Nat) (c : Chan) : (m.setCh n c).sub = m.sub := rfl
@[simp] theorem Mach.setCh_free (m : Mach) (n : Nat) (c : Chan) : (m.setCh n c).free = m.free := rfl
@[simp] theorem Mach.setCh_todo (m : Mach) (n : Nat) (c : Chan) : (m.setCh n c).todo = m.todo := rfl
@[simp] theorem Mach.setCh_accFlag (m : Mach) (n : Nat) (c : Chan) : (m.setCh n c).accFlag = m.accFlag := rfl
@[simp] theorem Mach.setCh_ignFlag (m : Mach) (n : Nat) (c : Chan) : (m.setCh n c).ignFlag = m.ignFlag := rfl
@[simp] theorem Mach.setCh_spi (m : Mach) (n : Nat) (c : Chan) : (m.setCh n c).spi = m.spi := rfl
@[simp] theorem Mach.setCh_i2c (m : Mach) (n : Nat) (c : Chan) : (m.setCh n c).i2c = m.i2c := rfl
@[simp] theorem Mach.setCh_rdata (m : Mach) (n : Nat) (c : Chan) : (m.setCh n c).rdata = m.rdata := rfl
@[simp] theorem Mach.setCh_chWin (m : Mach) (n : Nat) (c : Chan) : (m.setCh n c).chWin = m.chWin := rfl
@[simp] theorem Mach.setCh_aonWin (m : Mach) (n : Nat) (c : Chan) : (m.setCh n c).aonWin = m.aonWin := rfl
@[simp] theorem Mach.setCh_wides (m : Mach) (n : Nat) (c : Chan) : (m.setCh n c).wides = m.wides := rfl
@[simp] theorem Mach.setCh_crc (m : Mach) (n : Nat) (c : Chan) : (m.setCh n c).crc = m.crc := rfl
@[simp] theorem Mach.setCh_pwr (m : Mach) (n : Nat) (c : Chan) : (m.setCh n c).pwr = m.pwr := rfl
@[simp] theorem Mach.setCh_boot (m : Mach) (n : Nat) (c : Chan) : (m.setCh n c).boot = m.boot := rfl
@[simp] theorem Mach.setCh_img (m : Mach) (n : Nat) (c : Chan) : (m.setCh n c).img = m.img := rfl
@[simp] theorem Mach.setCh_svc (m : Mach) (n : Nat) (c : Chan) : (m.setCh n c).svc = m.svc := rfl
@[simp] theorem Mach.setCh_lines (m : Mach) (n : Nat) (c : Chan) : (m.setCh n c).lines = m.lines := rfl
@[simp] theorem Mach.setCh_recqs (m : Mach) (n : Nat) (c : Chan) : (m.setCh n c).recqs = m.recqs := rfl
@[simp] theorem Mach.setCh_cmdqs (m : Mach) (n : Nat) (c : Chan) : (m.setCh n c).cmdqs = m.cmdqs := rfl
@[simp] theorem Mach.setCh_normal (m : Mach) (n : Nat) (c : Chan) : (m.setCh n c).normal = m.normal := rfl
@[simp] theorem Mach.setCh_urgent (m : Mach) (n : Nat) (c : Chan) : (m.setCh n c).urgent = m.urgent := rfl
@[simp] theorem Mach.setCh_lastNormal (m : Mach) (n : Nat) (c : Chan) : (m.setCh n c).lastNormal = m.lastNormal := rfl
@[simp] theorem Mach.setCh_lastUrgent (m : Mach) (n : Nat) (c : Chan) : (m.setCh n c).lastUrgent = m.lastUrgent := rfl
@[simp] theorem Mach.setCh_visiting (m : Mach) (n : Nat) (c : Chan) : (m.setCh n c).visiting = m.visiting := rfl
@[simp] theorem Mach.setCh_ldgBuf (m : Mach) (n : Nat) (c : Chan) : (m.setCh n c).ldgBuf = m.ldgBuf := rfl
@[simp] theorem Mach.setCh_ldgDrop (m : Mach) (n : Nat) (c : Chan) : (m.setCh n c).ldgDrop = m.ldgDrop := rfl
@[simp] theorem Mach.setCh_grps (m : Mach) (n : Nat) (c : Chan) : (m.setCh n c).grps = m.grps := rfl
@[simp] theorem Mach.setCh_nextOrd (m : Mach) (n : Nat) (c : Chan) : (m.setCh n c).nextOrd = m.nextOrd := rfl
@[simp] theorem Mach.setCh_gov (m : Mach) (n : Nat) (c : Chan) : (m.setCh n c).gov = m.gov := rfl
@[simp] theorem Mach.setCh_sec (m : Mach) (n : Nat) (c : Chan) : (m.setCh n c).sec = m.sec := rfl
@[simp] theorem Mach.setCh_mtrs (m : Mach) (n : Nat) (c : Chan) : (m.setCh n c).mtrs = m.mtrs := rfl
@[simp] theorem Mach.setCh_ldg (m : Mach) (n : Nat) (c : Chan) : (m.setCh n c).ldg = m.ldg := rfl
@[simp] theorem Mach.setCh_sent (m : Mach) (n : Nat) (c : Chan) : (m.setCh n c).sent = m.sent := rfl
@[simp] theorem Mach.setCh_root (m : Mach) (n : Nat) (c : Chan) : (m.setCh n c).root = m.root := rfl
@[simp] theorem Mach.setCh_link (m : Mach) (n : Nat) (c : Chan) : (m.setCh n c).link = m.link := rfl
@[simp] theorem Mach.setCh_test (m : Mach) (n : Nat) (c : Chan) : (m.setCh n c).test = m.test := rfl
@[simp] theorem Mach.setCh_tap (m : Mach) (n : Nat) (c : Chan) : (m.setCh n c).tap = m.tap := rfl
@[simp] theorem Mach.setCh_bsr (m : Mach) (n : Nat) (c : Chan) : (m.setCh n c).bsr = m.bsr := rfl
@[simp] theorem Mach.setCh_flash (m : Mach) (n : Nat) (c : Chan) : (m.setCh n c).flash = m.flash := rfl
@[simp] theorem Mach.setCh_timers (m : Mach) (n : Nat) (c : Chan) : (m.setCh n c).timers = m.timers := rfl

@[simp] theorem Mach.ledger_dev (m : Mach) (typ a0 a1 : Nat) : (m.ledger typ a0 a1).dev = m.dev := by
  unfold Mach.ledger Mach.ledgerAt; dsimp only; split <;> rfl
@[simp] theorem Mach.ledger_regs (m : Mach) (typ a0 a1 : Nat) : (m.ledger typ a0 a1).regs = m.regs := by
  unfold Mach.ledger Mach.ledgerAt; dsimp only; split <;> rfl
@[simp] theorem Mach.ledger_tbl (m : Mach) (typ a0 a1 : Nat) : (m.ledger typ a0 a1).tbl = m.tbl := by
  unfold Mach.ledger Mach.ledgerAt; dsimp only; split <;> rfl
@[simp] theorem Mach.ledger_aon (m : Mach) (typ a0 a1 : Nat) : (m.ledger typ a0 a1).aon = m.aon := by
  unfold Mach.ledger Mach.ledgerAt; dsimp only; split <;> rfl
@[simp] theorem Mach.ledger_aonPost (m : Mach) (typ a0 a1 : Nat) : (m.ledger typ a0 a1).aonPost = m.aonPost := by
  unfold Mach.ledger Mach.ledgerAt; dsimp only; split <;> rfl
@[simp] theorem Mach.ledger_now (m : Mach) (typ a0 a1 : Nat) : (m.ledger typ a0 a1).now = m.now := by
  unfold Mach.ledger Mach.ledgerAt; dsimp only; split <;> rfl
@[simp] theorem Mach.ledger_ts (m : Mach) (typ a0 a1 : Nat) : (m.ledger typ a0 a1).ts = m.ts := by
  unfold Mach.ledger Mach.ledgerAt; dsimp only; split <;> rfl
@[simp] theorem Mach.ledger_rclk (m : Mach) (typ a0 a1 : Nat) : (m.ledger typ a0 a1).rclk = m.rclk := by
  unfold Mach.ledger Mach.ledgerAt; dsimp only; split <;> rfl
@[simp] theorem Mach.ledger_grid (m : Mach) (typ a0 a1 : Nat) : (m.ledger typ a0 a1).grid = m.grid := by
  unfold Mach.ledger Mach.ledgerAt; dsimp only; split <;> rfl
@[simp] theorem Mach.ledger_tod (m : Mach) (typ a0 a1 : Nat) : (m.ledger typ a0 a1).tod = m.tod := by
  unfold Mach.ledger Mach.ledgerAt; dsimp only; split <;> rfl
@[simp] theorem Mach.ledger_sub (m : Mach) (typ a0 a1 : Nat) : (m.ledger typ a0 a1).sub = m.sub := by
  unfold Mach.ledger Mach.ledgerAt; dsimp only; split <;> rfl
@[simp] theorem Mach.ledger_free (m : Mach) (typ a0 a1 : Nat) : (m.ledger typ a0 a1).free = m.free := by
  unfold Mach.ledger Mach.ledgerAt; dsimp only; split <;> rfl
@[simp] theorem Mach.ledger_todo (m : Mach) (typ a0 a1 : Nat) : (m.ledger typ a0 a1).todo = m.todo := by
  unfold Mach.ledger Mach.ledgerAt; dsimp only; split <;> rfl
@[simp] theorem Mach.ledger_accFlag (m : Mach) (typ a0 a1 : Nat) : (m.ledger typ a0 a1).accFlag = m.accFlag := by
  unfold Mach.ledger Mach.ledgerAt; dsimp only; split <;> rfl
@[simp] theorem Mach.ledger_ignFlag (m : Mach) (typ a0 a1 : Nat) : (m.ledger typ a0 a1).ignFlag = m.ignFlag := by
  unfold Mach.ledger Mach.ledgerAt; dsimp only; split <;> rfl
@[simp] theorem Mach.ledger_spi (m : Mach) (typ a0 a1 : Nat) : (m.ledger typ a0 a1).spi = m.spi := by
  unfold Mach.ledger Mach.ledgerAt; dsimp only; split <;> rfl
@[simp] theorem Mach.ledger_i2c (m : Mach) (typ a0 a1 : Nat) : (m.ledger typ a0 a1).i2c = m.i2c := by
  unfold Mach.ledger Mach.ledgerAt; dsimp only; split <;> rfl
@[simp] theorem Mach.ledger_rdata (m : Mach) (typ a0 a1 : Nat) : (m.ledger typ a0 a1).rdata = m.rdata := by
  unfold Mach.ledger Mach.ledgerAt; dsimp only; split <;> rfl
@[simp] theorem Mach.ledger_chWin (m : Mach) (typ a0 a1 : Nat) : (m.ledger typ a0 a1).chWin = m.chWin := by
  unfold Mach.ledger Mach.ledgerAt; dsimp only; split <;> rfl
@[simp] theorem Mach.ledger_aonWin (m : Mach) (typ a0 a1 : Nat) : (m.ledger typ a0 a1).aonWin = m.aonWin := by
  unfold Mach.ledger Mach.ledgerAt; dsimp only; split <;> rfl
@[simp] theorem Mach.ledger_wides (m : Mach) (typ a0 a1 : Nat) : (m.ledger typ a0 a1).wides = m.wides := by
  unfold Mach.ledger Mach.ledgerAt; dsimp only; split <;> rfl
@[simp] theorem Mach.ledger_crc (m : Mach) (typ a0 a1 : Nat) : (m.ledger typ a0 a1).crc = m.crc := by
  unfold Mach.ledger Mach.ledgerAt; dsimp only; split <;> rfl
@[simp] theorem Mach.ledger_pwr (m : Mach) (typ a0 a1 : Nat) : (m.ledger typ a0 a1).pwr = m.pwr := by
  unfold Mach.ledger Mach.ledgerAt; dsimp only; split <;> rfl
@[simp] theorem Mach.ledger_boot (m : Mach) (typ a0 a1 : Nat) : (m.ledger typ a0 a1).boot = m.boot := by
  unfold Mach.ledger Mach.ledgerAt; dsimp only; split <;> rfl
@[simp] theorem Mach.ledger_img (m : Mach) (typ a0 a1 : Nat) : (m.ledger typ a0 a1).img = m.img := by
  unfold Mach.ledger Mach.ledgerAt; dsimp only; split <;> rfl
@[simp] theorem Mach.ledger_svc (m : Mach) (typ a0 a1 : Nat) : (m.ledger typ a0 a1).svc = m.svc := by
  unfold Mach.ledger Mach.ledgerAt; dsimp only; split <;> rfl
@[simp] theorem Mach.ledger_lines (m : Mach) (typ a0 a1 : Nat) : (m.ledger typ a0 a1).lines = m.lines := by
  unfold Mach.ledger Mach.ledgerAt; dsimp only; split <;> rfl
@[simp] theorem Mach.ledger_recqs (m : Mach) (typ a0 a1 : Nat) : (m.ledger typ a0 a1).recqs = m.recqs := by
  unfold Mach.ledger Mach.ledgerAt; dsimp only; split <;> rfl
@[simp] theorem Mach.ledger_cmdqs (m : Mach) (typ a0 a1 : Nat) : (m.ledger typ a0 a1).cmdqs = m.cmdqs := by
  unfold Mach.ledger Mach.ledgerAt; dsimp only; split <;> rfl
@[simp] theorem Mach.ledger_normal (m : Mach) (typ a0 a1 : Nat) : (m.ledger typ a0 a1).normal = m.normal := by
  unfold Mach.ledger Mach.ledgerAt; dsimp only; split <;> rfl
@[simp] theorem Mach.ledger_urgent (m : Mach) (typ a0 a1 : Nat) : (m.ledger typ a0 a1).urgent = m.urgent := by
  unfold Mach.ledger Mach.ledgerAt; dsimp only; split <;> rfl
@[simp] theorem Mach.ledger_lastNormal (m : Mach) (typ a0 a1 : Nat) : (m.ledger typ a0 a1).lastNormal = m.lastNormal := by
  unfold Mach.ledger Mach.ledgerAt; dsimp only; split <;> rfl
@[simp] theorem Mach.ledger_lastUrgent (m : Mach) (typ a0 a1 : Nat) : (m.ledger typ a0 a1).lastUrgent = m.lastUrgent := by
  unfold Mach.ledger Mach.ledgerAt; dsimp only; split <;> rfl
@[simp] theorem Mach.ledger_visiting (m : Mach) (typ a0 a1 : Nat) : (m.ledger typ a0 a1).visiting = m.visiting := by
  unfold Mach.ledger Mach.ledgerAt; dsimp only; split <;> rfl
@[simp] theorem Mach.ledger_grps (m : Mach) (typ a0 a1 : Nat) : (m.ledger typ a0 a1).grps = m.grps := by
  unfold Mach.ledger Mach.ledgerAt; dsimp only; split <;> rfl
@[simp] theorem Mach.ledger_chans (m : Mach) (typ a0 a1 : Nat) : (m.ledger typ a0 a1).chans = m.chans := by
  unfold Mach.ledger Mach.ledgerAt; dsimp only; split <;> rfl
@[simp] theorem Mach.ledger_nextOrd (m : Mach) (typ a0 a1 : Nat) : (m.ledger typ a0 a1).nextOrd = m.nextOrd := by
  unfold Mach.ledger Mach.ledgerAt; dsimp only; split <;> rfl
@[simp] theorem Mach.ledger_gov (m : Mach) (typ a0 a1 : Nat) : (m.ledger typ a0 a1).gov = m.gov := by
  unfold Mach.ledger Mach.ledgerAt; dsimp only; split <;> rfl
@[simp] theorem Mach.ledger_sec (m : Mach) (typ a0 a1 : Nat) : (m.ledger typ a0 a1).sec = m.sec := by
  unfold Mach.ledger Mach.ledgerAt; dsimp only; split <;> rfl
@[simp] theorem Mach.ledger_mtrs (m : Mach) (typ a0 a1 : Nat) : (m.ledger typ a0 a1).mtrs = m.mtrs := by
  unfold Mach.ledger Mach.ledgerAt; dsimp only; split <;> rfl
@[simp] theorem Mach.ledger_ldg (m : Mach) (typ a0 a1 : Nat) : (m.ledger typ a0 a1).ldg = m.ldg := by
  unfold Mach.ledger Mach.ledgerAt; dsimp only; split <;> rfl
@[simp] theorem Mach.ledger_sent (m : Mach) (typ a0 a1 : Nat) : (m.ledger typ a0 a1).sent = m.sent := by
  unfold Mach.ledger Mach.ledgerAt; dsimp only; split <;> rfl
@[simp] theorem Mach.ledger_root (m : Mach) (typ a0 a1 : Nat) : (m.ledger typ a0 a1).root = m.root := by
  unfold Mach.ledger Mach.ledgerAt; dsimp only; split <;> rfl
@[simp] theorem Mach.ledger_link (m : Mach) (typ a0 a1 : Nat) : (m.ledger typ a0 a1).link = m.link := by
  unfold Mach.ledger Mach.ledgerAt; dsimp only; split <;> rfl
@[simp] theorem Mach.ledger_test (m : Mach) (typ a0 a1 : Nat) : (m.ledger typ a0 a1).test = m.test := by
  unfold Mach.ledger Mach.ledgerAt; dsimp only; split <;> rfl
@[simp] theorem Mach.ledger_tap (m : Mach) (typ a0 a1 : Nat) : (m.ledger typ a0 a1).tap = m.tap := by
  unfold Mach.ledger Mach.ledgerAt; dsimp only; split <;> rfl
@[simp] theorem Mach.ledger_bsr (m : Mach) (typ a0 a1 : Nat) : (m.ledger typ a0 a1).bsr = m.bsr := by
  unfold Mach.ledger Mach.ledgerAt; dsimp only; split <;> rfl
@[simp] theorem Mach.ledger_flash (m : Mach) (typ a0 a1 : Nat) : (m.ledger typ a0 a1).flash = m.flash := by
  unfold Mach.ledger Mach.ledgerAt; dsimp only; split <;> rfl
@[simp] theorem Mach.ledger_timers (m : Mach) (typ a0 a1 : Nat) : (m.ledger typ a0 a1).timers = m.timers := by
  unfold Mach.ledger Mach.ledgerAt; dsimp only; split <;> rfl

@[simp] theorem Mach.raise_dev (m : Mach) (bc : Nat × Nat) (src : Nat) (pay : Word) : (m.raise bc src pay).dev = m.dev := by
  unfold Mach.raise; split <;> rfl
@[simp] theorem Mach.raise_regs (m : Mach) (bc : Nat × Nat) (src : Nat) (pay : Word) : (m.raise bc src pay).regs = m.regs := by
  unfold Mach.raise; split <;> rfl
@[simp] theorem Mach.raise_tbl (m : Mach) (bc : Nat × Nat) (src : Nat) (pay : Word) : (m.raise bc src pay).tbl = m.tbl := by
  unfold Mach.raise; split <;> rfl
@[simp] theorem Mach.raise_aon (m : Mach) (bc : Nat × Nat) (src : Nat) (pay : Word) : (m.raise bc src pay).aon = m.aon := by
  unfold Mach.raise; split <;> rfl
@[simp] theorem Mach.raise_aonPost (m : Mach) (bc : Nat × Nat) (src : Nat) (pay : Word) : (m.raise bc src pay).aonPost = m.aonPost := by
  unfold Mach.raise; split <;> rfl
@[simp] theorem Mach.raise_now (m : Mach) (bc : Nat × Nat) (src : Nat) (pay : Word) : (m.raise bc src pay).now = m.now := by
  unfold Mach.raise; split <;> rfl
@[simp] theorem Mach.raise_ts (m : Mach) (bc : Nat × Nat) (src : Nat) (pay : Word) : (m.raise bc src pay).ts = m.ts := by
  unfold Mach.raise; split <;> rfl
@[simp] theorem Mach.raise_rclk (m : Mach) (bc : Nat × Nat) (src : Nat) (pay : Word) : (m.raise bc src pay).rclk = m.rclk := by
  unfold Mach.raise; split <;> rfl
@[simp] theorem Mach.raise_grid (m : Mach) (bc : Nat × Nat) (src : Nat) (pay : Word) : (m.raise bc src pay).grid = m.grid := by
  unfold Mach.raise; split <;> rfl
@[simp] theorem Mach.raise_tod (m : Mach) (bc : Nat × Nat) (src : Nat) (pay : Word) : (m.raise bc src pay).tod = m.tod := by
  unfold Mach.raise; split <;> rfl
@[simp] theorem Mach.raise_sub (m : Mach) (bc : Nat × Nat) (src : Nat) (pay : Word) : (m.raise bc src pay).sub = m.sub := by
  unfold Mach.raise; split <;> rfl
@[simp] theorem Mach.raise_free (m : Mach) (bc : Nat × Nat) (src : Nat) (pay : Word) : (m.raise bc src pay).free = m.free := by
  unfold Mach.raise; split <;> rfl
@[simp] theorem Mach.raise_accFlag (m : Mach) (bc : Nat × Nat) (src : Nat) (pay : Word) : (m.raise bc src pay).accFlag = m.accFlag := by
  unfold Mach.raise; split <;> rfl
@[simp] theorem Mach.raise_ignFlag (m : Mach) (bc : Nat × Nat) (src : Nat) (pay : Word) : (m.raise bc src pay).ignFlag = m.ignFlag := by
  unfold Mach.raise; split <;> rfl
@[simp] theorem Mach.raise_spi (m : Mach) (bc : Nat × Nat) (src : Nat) (pay : Word) : (m.raise bc src pay).spi = m.spi := by
  unfold Mach.raise; split <;> rfl
@[simp] theorem Mach.raise_i2c (m : Mach) (bc : Nat × Nat) (src : Nat) (pay : Word) : (m.raise bc src pay).i2c = m.i2c := by
  unfold Mach.raise; split <;> rfl
@[simp] theorem Mach.raise_rdata (m : Mach) (bc : Nat × Nat) (src : Nat) (pay : Word) : (m.raise bc src pay).rdata = m.rdata := by
  unfold Mach.raise; split <;> rfl
@[simp] theorem Mach.raise_chWin (m : Mach) (bc : Nat × Nat) (src : Nat) (pay : Word) : (m.raise bc src pay).chWin = m.chWin := by
  unfold Mach.raise; split <;> rfl
@[simp] theorem Mach.raise_aonWin (m : Mach) (bc : Nat × Nat) (src : Nat) (pay : Word) : (m.raise bc src pay).aonWin = m.aonWin := by
  unfold Mach.raise; split <;> rfl
@[simp] theorem Mach.raise_wides (m : Mach) (bc : Nat × Nat) (src : Nat) (pay : Word) : (m.raise bc src pay).wides = m.wides := by
  unfold Mach.raise; split <;> rfl
@[simp] theorem Mach.raise_crc (m : Mach) (bc : Nat × Nat) (src : Nat) (pay : Word) : (m.raise bc src pay).crc = m.crc := by
  unfold Mach.raise; split <;> rfl
@[simp] theorem Mach.raise_pwr (m : Mach) (bc : Nat × Nat) (src : Nat) (pay : Word) : (m.raise bc src pay).pwr = m.pwr := by
  unfold Mach.raise; split <;> rfl
@[simp] theorem Mach.raise_boot (m : Mach) (bc : Nat × Nat) (src : Nat) (pay : Word) : (m.raise bc src pay).boot = m.boot := by
  unfold Mach.raise; split <;> rfl
@[simp] theorem Mach.raise_img (m : Mach) (bc : Nat × Nat) (src : Nat) (pay : Word) : (m.raise bc src pay).img = m.img := by
  unfold Mach.raise; split <;> rfl
@[simp] theorem Mach.raise_svc (m : Mach) (bc : Nat × Nat) (src : Nat) (pay : Word) : (m.raise bc src pay).svc = m.svc := by
  unfold Mach.raise; split <;> rfl
@[simp] theorem Mach.raise_lines (m : Mach) (bc : Nat × Nat) (src : Nat) (pay : Word) : (m.raise bc src pay).lines = m.lines := by
  unfold Mach.raise; split <;> rfl
@[simp] theorem Mach.raise_recqs (m : Mach) (bc : Nat × Nat) (src : Nat) (pay : Word) : (m.raise bc src pay).recqs = m.recqs := by
  unfold Mach.raise; split <;> rfl
@[simp] theorem Mach.raise_cmdqs (m : Mach) (bc : Nat × Nat) (src : Nat) (pay : Word) : (m.raise bc src pay).cmdqs = m.cmdqs := by
  unfold Mach.raise; split <;> rfl
@[simp] theorem Mach.raise_normal (m : Mach) (bc : Nat × Nat) (src : Nat) (pay : Word) : (m.raise bc src pay).normal = m.normal := by
  unfold Mach.raise; split <;> rfl
@[simp] theorem Mach.raise_urgent (m : Mach) (bc : Nat × Nat) (src : Nat) (pay : Word) : (m.raise bc src pay).urgent = m.urgent := by
  unfold Mach.raise; split <;> rfl
@[simp] theorem Mach.raise_lastNormal (m : Mach) (bc : Nat × Nat) (src : Nat) (pay : Word) : (m.raise bc src pay).lastNormal = m.lastNormal := by
  unfold Mach.raise; split <;> rfl
@[simp] theorem Mach.raise_lastUrgent (m : Mach) (bc : Nat × Nat) (src : Nat) (pay : Word) : (m.raise bc src pay).lastUrgent = m.lastUrgent := by
  unfold Mach.raise; split <;> rfl
@[simp] theorem Mach.raise_visiting (m : Mach) (bc : Nat × Nat) (src : Nat) (pay : Word) : (m.raise bc src pay).visiting = m.visiting := by
  unfold Mach.raise; split <;> rfl
@[simp] theorem Mach.raise_ldgBuf (m : Mach) (bc : Nat × Nat) (src : Nat) (pay : Word) : (m.raise bc src pay).ldgBuf = m.ldgBuf := by
  unfold Mach.raise; split <;> rfl
@[simp] theorem Mach.raise_ldgDrop (m : Mach) (bc : Nat × Nat) (src : Nat) (pay : Word) : (m.raise bc src pay).ldgDrop = m.ldgDrop := by
  unfold Mach.raise; split <;> rfl
@[simp] theorem Mach.raise_grps (m : Mach) (bc : Nat × Nat) (src : Nat) (pay : Word) : (m.raise bc src pay).grps = m.grps := by
  unfold Mach.raise; split <;> rfl
@[simp] theorem Mach.raise_chans (m : Mach) (bc : Nat × Nat) (src : Nat) (pay : Word) : (m.raise bc src pay).chans = m.chans := by
  unfold Mach.raise; split <;> rfl
@[simp] theorem Mach.raise_nextOrd (m : Mach) (bc : Nat × Nat) (src : Nat) (pay : Word) : (m.raise bc src pay).nextOrd = m.nextOrd := by
  unfold Mach.raise; split <;> rfl
@[simp] theorem Mach.raise_gov (m : Mach) (bc : Nat × Nat) (src : Nat) (pay : Word) : (m.raise bc src pay).gov = m.gov := by
  unfold Mach.raise; split <;> rfl
@[simp] theorem Mach.raise_sec (m : Mach) (bc : Nat × Nat) (src : Nat) (pay : Word) : (m.raise bc src pay).sec = m.sec := by
  unfold Mach.raise; split <;> rfl
@[simp] theorem Mach.raise_mtrs (m : Mach) (bc : Nat × Nat) (src : Nat) (pay : Word) : (m.raise bc src pay).mtrs = m.mtrs := by
  unfold Mach.raise; split <;> rfl
@[simp] theorem Mach.raise_ldg (m : Mach) (bc : Nat × Nat) (src : Nat) (pay : Word) : (m.raise bc src pay).ldg = m.ldg := by
  unfold Mach.raise; split <;> rfl
@[simp] theorem Mach.raise_sent (m : Mach) (bc : Nat × Nat) (src : Nat) (pay : Word) : (m.raise bc src pay).sent = m.sent := by
  unfold Mach.raise; split <;> rfl
@[simp] theorem Mach.raise_root (m : Mach) (bc : Nat × Nat) (src : Nat) (pay : Word) : (m.raise bc src pay).root = m.root := by
  unfold Mach.raise; split <;> rfl
@[simp] theorem Mach.raise_link (m : Mach) (bc : Nat × Nat) (src : Nat) (pay : Word) : (m.raise bc src pay).link = m.link := by
  unfold Mach.raise; split <;> rfl
@[simp] theorem Mach.raise_test (m : Mach) (bc : Nat × Nat) (src : Nat) (pay : Word) : (m.raise bc src pay).test = m.test := by
  unfold Mach.raise; split <;> rfl
@[simp] theorem Mach.raise_tap (m : Mach) (bc : Nat × Nat) (src : Nat) (pay : Word) : (m.raise bc src pay).tap = m.tap := by
  unfold Mach.raise; split <;> rfl
@[simp] theorem Mach.raise_bsr (m : Mach) (bc : Nat × Nat) (src : Nat) (pay : Word) : (m.raise bc src pay).bsr = m.bsr := by
  unfold Mach.raise; split <;> rfl
@[simp] theorem Mach.raise_flash (m : Mach) (bc : Nat × Nat) (src : Nat) (pay : Word) : (m.raise bc src pay).flash = m.flash := by
  unfold Mach.raise; split <;> rfl
@[simp] theorem Mach.raise_timers (m : Mach) (bc : Nat × Nat) (src : Nat) (pay : Word) : (m.raise bc src pay).timers = m.timers := by
  unfold Mach.raise; split <;> rfl

@[simp] theorem Mach.setTimer_dev (m : Mach) (t : Timer) (v : Option Nat) : (m.setTimer t v).dev = m.dev := rfl
@[simp] theorem Mach.setTimer_tbl (m : Mach) (t : Timer) (v : Option Nat) : (m.setTimer t v).tbl = m.tbl := rfl
@[simp] theorem Mach.setTimer_aon (m : Mach) (t : Timer) (v : Option Nat) : (m.setTimer t v).aon = m.aon := rfl
@[simp] theorem Mach.setTimer_aonPost (m : Mach) (t : Timer) (v : Option Nat) : (m.setTimer t v).aonPost = m.aonPost := rfl
@[simp] theorem Mach.setTimer_now (m : Mach) (t : Timer) (v : Option Nat) : (m.setTimer t v).now = m.now := rfl
@[simp] theorem Mach.setTimer_ts (m : Mach) (t : Timer) (v : Option Nat) : (m.setTimer t v).ts = m.ts := rfl
@[simp] theorem Mach.setTimer_rclk (m : Mach) (t : Timer) (v : Option Nat) : (m.setTimer t v).rclk = m.rclk := rfl
@[simp] theorem Mach.setTimer_grid (m : Mach) (t : Timer) (v : Option Nat) : (m.setTimer t v).grid = m.grid := rfl
@[simp] theorem Mach.setTimer_tod (m : Mach) (t : Timer) (v : Option Nat) : (m.setTimer t v).tod = m.tod := rfl
@[simp] theorem Mach.setTimer_sub (m : Mach) (t : Timer) (v : Option Nat) : (m.setTimer t v).sub = m.sub := rfl
@[simp] theorem Mach.setTimer_free (m : Mach) (t : Timer) (v : Option Nat) : (m.setTimer t v).free = m.free := rfl
@[simp] theorem Mach.setTimer_todo (m : Mach) (t : Timer) (v : Option Nat) : (m.setTimer t v).todo = m.todo := rfl
@[simp] theorem Mach.setTimer_accFlag (m : Mach) (t : Timer) (v : Option Nat) : (m.setTimer t v).accFlag = m.accFlag := rfl
@[simp] theorem Mach.setTimer_ignFlag (m : Mach) (t : Timer) (v : Option Nat) : (m.setTimer t v).ignFlag = m.ignFlag := rfl
@[simp] theorem Mach.setTimer_spi (m : Mach) (t : Timer) (v : Option Nat) : (m.setTimer t v).spi = m.spi := rfl
@[simp] theorem Mach.setTimer_i2c (m : Mach) (t : Timer) (v : Option Nat) : (m.setTimer t v).i2c = m.i2c := rfl
@[simp] theorem Mach.setTimer_rdata (m : Mach) (t : Timer) (v : Option Nat) : (m.setTimer t v).rdata = m.rdata := rfl
@[simp] theorem Mach.setTimer_chWin (m : Mach) (t : Timer) (v : Option Nat) : (m.setTimer t v).chWin = m.chWin := rfl
@[simp] theorem Mach.setTimer_aonWin (m : Mach) (t : Timer) (v : Option Nat) : (m.setTimer t v).aonWin = m.aonWin := rfl
@[simp] theorem Mach.setTimer_wides (m : Mach) (t : Timer) (v : Option Nat) : (m.setTimer t v).wides = m.wides := rfl
@[simp] theorem Mach.setTimer_crc (m : Mach) (t : Timer) (v : Option Nat) : (m.setTimer t v).crc = m.crc := rfl
@[simp] theorem Mach.setTimer_pwr (m : Mach) (t : Timer) (v : Option Nat) : (m.setTimer t v).pwr = m.pwr := rfl
@[simp] theorem Mach.setTimer_boot (m : Mach) (t : Timer) (v : Option Nat) : (m.setTimer t v).boot = m.boot := rfl
@[simp] theorem Mach.setTimer_img (m : Mach) (t : Timer) (v : Option Nat) : (m.setTimer t v).img = m.img := rfl
@[simp] theorem Mach.setTimer_svc (m : Mach) (t : Timer) (v : Option Nat) : (m.setTimer t v).svc = m.svc := rfl
@[simp] theorem Mach.setTimer_lines (m : Mach) (t : Timer) (v : Option Nat) : (m.setTimer t v).lines = m.lines := rfl
@[simp] theorem Mach.setTimer_recqs (m : Mach) (t : Timer) (v : Option Nat) : (m.setTimer t v).recqs = m.recqs := rfl
@[simp] theorem Mach.setTimer_cmdqs (m : Mach) (t : Timer) (v : Option Nat) : (m.setTimer t v).cmdqs = m.cmdqs := rfl
@[simp] theorem Mach.setTimer_normal (m : Mach) (t : Timer) (v : Option Nat) : (m.setTimer t v).normal = m.normal := rfl
@[simp] theorem Mach.setTimer_urgent (m : Mach) (t : Timer) (v : Option Nat) : (m.setTimer t v).urgent = m.urgent := rfl
@[simp] theorem Mach.setTimer_lastNormal (m : Mach) (t : Timer) (v : Option Nat) : (m.setTimer t v).lastNormal = m.lastNormal := rfl
@[simp] theorem Mach.setTimer_lastUrgent (m : Mach) (t : Timer) (v : Option Nat) : (m.setTimer t v).lastUrgent = m.lastUrgent := rfl
@[simp] theorem Mach.setTimer_visiting (m : Mach) (t : Timer) (v : Option Nat) : (m.setTimer t v).visiting = m.visiting := rfl
@[simp] theorem Mach.setTimer_ldgBuf (m : Mach) (t : Timer) (v : Option Nat) : (m.setTimer t v).ldgBuf = m.ldgBuf := rfl
@[simp] theorem Mach.setTimer_ldgDrop (m : Mach) (t : Timer) (v : Option Nat) : (m.setTimer t v).ldgDrop = m.ldgDrop := rfl
@[simp] theorem Mach.setTimer_grps (m : Mach) (t : Timer) (v : Option Nat) : (m.setTimer t v).grps = m.grps := rfl
@[simp] theorem Mach.setTimer_chans (m : Mach) (t : Timer) (v : Option Nat) : (m.setTimer t v).chans = m.chans := rfl
@[simp] theorem Mach.setTimer_nextOrd (m : Mach) (t : Timer) (v : Option Nat) : (m.setTimer t v).nextOrd = m.nextOrd := rfl
@[simp] theorem Mach.setTimer_gov (m : Mach) (t : Timer) (v : Option Nat) : (m.setTimer t v).gov = m.gov := rfl
@[simp] theorem Mach.setTimer_sec (m : Mach) (t : Timer) (v : Option Nat) : (m.setTimer t v).sec = m.sec := rfl
@[simp] theorem Mach.setTimer_mtrs (m : Mach) (t : Timer) (v : Option Nat) : (m.setTimer t v).mtrs = m.mtrs := rfl
@[simp] theorem Mach.setTimer_ldg (m : Mach) (t : Timer) (v : Option Nat) : (m.setTimer t v).ldg = m.ldg := rfl
@[simp] theorem Mach.setTimer_sent (m : Mach) (t : Timer) (v : Option Nat) : (m.setTimer t v).sent = m.sent := rfl
@[simp] theorem Mach.setTimer_root (m : Mach) (t : Timer) (v : Option Nat) : (m.setTimer t v).root = m.root := rfl
@[simp] theorem Mach.setTimer_link (m : Mach) (t : Timer) (v : Option Nat) : (m.setTimer t v).link = m.link := rfl
@[simp] theorem Mach.setTimer_test (m : Mach) (t : Timer) (v : Option Nat) : (m.setTimer t v).test = m.test := rfl
@[simp] theorem Mach.setTimer_tap (m : Mach) (t : Timer) (v : Option Nat) : (m.setTimer t v).tap = m.tap := rfl
@[simp] theorem Mach.setTimer_bsr (m : Mach) (t : Timer) (v : Option Nat) : (m.setTimer t v).bsr = m.bsr := rfl
@[simp] theorem Mach.setTimer_flash (m : Mach) (t : Timer) (v : Option Nat) : (m.setTimer t v).flash = m.flash := rfl
@[simp] theorem Mach.setTimer_regs (m : Mach) (t : Timer) (v : Option Nat) : (m.setTimer t v).regs = m.regs := rfl

@[simp] theorem Mach.startTimer_dev (m : Mach) (t : Timer) : (m.startTimer t).dev = m.dev := rfl
@[simp] theorem Mach.startTimer_tbl (m : Mach) (t : Timer) : (m.startTimer t).tbl = m.tbl := rfl
@[simp] theorem Mach.startTimer_aon (m : Mach) (t : Timer) : (m.startTimer t).aon = m.aon := rfl
@[simp] theorem Mach.startTimer_aonPost (m : Mach) (t : Timer) : (m.startTimer t).aonPost = m.aonPost := rfl
@[simp] theorem Mach.startTimer_now (m : Mach) (t : Timer) : (m.startTimer t).now = m.now := rfl
@[simp] theorem Mach.startTimer_ts (m : Mach) (t : Timer) : (m.startTimer t).ts = m.ts := rfl
@[simp] theorem Mach.startTimer_rclk (m : Mach) (t : Timer) : (m.startTimer t).rclk = m.rclk := rfl
@[simp] theorem Mach.startTimer_grid (m : Mach) (t : Timer) : (m.startTimer t).grid = m.grid := rfl
@[simp] theorem Mach.startTimer_tod (m : Mach) (t : Timer) : (m.startTimer t).tod = m.tod := rfl
@[simp] theorem Mach.startTimer_sub (m : Mach) (t : Timer) : (m.startTimer t).sub = m.sub := rfl
@[simp] theorem Mach.startTimer_free (m : Mach) (t : Timer) : (m.startTimer t).free = m.free := rfl
@[simp] theorem Mach.startTimer_todo (m : Mach) (t : Timer) : (m.startTimer t).todo = m.todo := rfl
@[simp] theorem Mach.startTimer_accFlag (m : Mach) (t : Timer) : (m.startTimer t).accFlag = m.accFlag := rfl
@[simp] theorem Mach.startTimer_ignFlag (m : Mach) (t : Timer) : (m.startTimer t).ignFlag = m.ignFlag := rfl
@[simp] theorem Mach.startTimer_spi (m : Mach) (t : Timer) : (m.startTimer t).spi = m.spi := rfl
@[simp] theorem Mach.startTimer_i2c (m : Mach) (t : Timer) : (m.startTimer t).i2c = m.i2c := rfl
@[simp] theorem Mach.startTimer_rdata (m : Mach) (t : Timer) : (m.startTimer t).rdata = m.rdata := rfl
@[simp] theorem Mach.startTimer_chWin (m : Mach) (t : Timer) : (m.startTimer t).chWin = m.chWin := rfl
@[simp] theorem Mach.startTimer_aonWin (m : Mach) (t : Timer) : (m.startTimer t).aonWin = m.aonWin := rfl
@[simp] theorem Mach.startTimer_wides (m : Mach) (t : Timer) : (m.startTimer t).wides = m.wides := rfl
@[simp] theorem Mach.startTimer_crc (m : Mach) (t : Timer) : (m.startTimer t).crc = m.crc := rfl
@[simp] theorem Mach.startTimer_pwr (m : Mach) (t : Timer) : (m.startTimer t).pwr = m.pwr := rfl
@[simp] theorem Mach.startTimer_boot (m : Mach) (t : Timer) : (m.startTimer t).boot = m.boot := rfl
@[simp] theorem Mach.startTimer_img (m : Mach) (t : Timer) : (m.startTimer t).img = m.img := rfl
@[simp] theorem Mach.startTimer_svc (m : Mach) (t : Timer) : (m.startTimer t).svc = m.svc := rfl
@[simp] theorem Mach.startTimer_lines (m : Mach) (t : Timer) : (m.startTimer t).lines = m.lines := rfl
@[simp] theorem Mach.startTimer_recqs (m : Mach) (t : Timer) : (m.startTimer t).recqs = m.recqs := rfl
@[simp] theorem Mach.startTimer_cmdqs (m : Mach) (t : Timer) : (m.startTimer t).cmdqs = m.cmdqs := rfl
@[simp] theorem Mach.startTimer_normal (m : Mach) (t : Timer) : (m.startTimer t).normal = m.normal := rfl
@[simp] theorem Mach.startTimer_urgent (m : Mach) (t : Timer) : (m.startTimer t).urgent = m.urgent := rfl
@[simp] theorem Mach.startTimer_lastNormal (m : Mach) (t : Timer) : (m.startTimer t).lastNormal = m.lastNormal := rfl
@[simp] theorem Mach.startTimer_lastUrgent (m : Mach) (t : Timer) : (m.startTimer t).lastUrgent = m.lastUrgent := rfl
@[simp] theorem Mach.startTimer_visiting (m : Mach) (t : Timer) : (m.startTimer t).visiting = m.visiting := rfl
@[simp] theorem Mach.startTimer_ldgBuf (m : Mach) (t : Timer) : (m.startTimer t).ldgBuf = m.ldgBuf := rfl
@[simp] theorem Mach.startTimer_ldgDrop (m : Mach) (t : Timer) : (m.startTimer t).ldgDrop = m.ldgDrop := rfl
@[simp] theorem Mach.startTimer_grps (m : Mach) (t : Timer) : (m.startTimer t).grps = m.grps := rfl
@[simp] theorem Mach.startTimer_chans (m : Mach) (t : Timer) : (m.startTimer t).chans = m.chans := rfl
@[simp] theorem Mach.startTimer_nextOrd (m : Mach) (t : Timer) : (m.startTimer t).nextOrd = m.nextOrd := rfl
@[simp] theorem Mach.startTimer_gov (m : Mach) (t : Timer) : (m.startTimer t).gov = m.gov := rfl
@[simp] theorem Mach.startTimer_sec (m : Mach) (t : Timer) : (m.startTimer t).sec = m.sec := rfl
@[simp] theorem Mach.startTimer_mtrs (m : Mach) (t : Timer) : (m.startTimer t).mtrs = m.mtrs := rfl
@[simp] theorem Mach.startTimer_ldg (m : Mach) (t : Timer) : (m.startTimer t).ldg = m.ldg := rfl
@[simp] theorem Mach.startTimer_sent (m : Mach) (t : Timer) : (m.startTimer t).sent = m.sent := rfl
@[simp] theorem Mach.startTimer_root (m : Mach) (t : Timer) : (m.startTimer t).root = m.root := rfl
@[simp] theorem Mach.startTimer_link (m : Mach) (t : Timer) : (m.startTimer t).link = m.link := rfl
@[simp] theorem Mach.startTimer_test (m : Mach) (t : Timer) : (m.startTimer t).test = m.test := rfl
@[simp] theorem Mach.startTimer_tap (m : Mach) (t : Timer) : (m.startTimer t).tap = m.tap := rfl
@[simp] theorem Mach.startTimer_bsr (m : Mach) (t : Timer) : (m.startTimer t).bsr = m.bsr := rfl
@[simp] theorem Mach.startTimer_flash (m : Mach) (t : Timer) : (m.startTimer t).flash = m.flash := rfl
@[simp] theorem Mach.startTimer_regs (m : Mach) (t : Timer) : (m.startTimer t).regs = m.regs := rfl

@[simp] theorem Mach.stopTimer_dev (m : Mach) (t : Timer) : (m.stopTimer t).dev = m.dev := rfl
@[simp] theorem Mach.stopTimer_tbl (m : Mach) (t : Timer) : (m.stopTimer t).tbl = m.tbl := rfl
@[simp] theorem Mach.stopTimer_aon (m : Mach) (t : Timer) : (m.stopTimer t).aon = m.aon := rfl
@[simp] theorem Mach.stopTimer_aonPost (m : Mach) (t : Timer) : (m.stopTimer t).aonPost = m.aonPost := rfl
@[simp] theorem Mach.stopTimer_now (m : Mach) (t : Timer) : (m.stopTimer t).now = m.now := rfl
@[simp] theorem Mach.stopTimer_ts (m : Mach) (t : Timer) : (m.stopTimer t).ts = m.ts := rfl
@[simp] theorem Mach.stopTimer_rclk (m : Mach) (t : Timer) : (m.stopTimer t).rclk = m.rclk := rfl
@[simp] theorem Mach.stopTimer_grid (m : Mach) (t : Timer) : (m.stopTimer t).grid = m.grid := rfl
@[simp] theorem Mach.stopTimer_tod (m : Mach) (t : Timer) : (m.stopTimer t).tod = m.tod := rfl
@[simp] theorem Mach.stopTimer_sub (m : Mach) (t : Timer) : (m.stopTimer t).sub = m.sub := rfl
@[simp] theorem Mach.stopTimer_free (m : Mach) (t : Timer) : (m.stopTimer t).free = m.free := rfl
@[simp] theorem Mach.stopTimer_todo (m : Mach) (t : Timer) : (m.stopTimer t).todo = m.todo := rfl
@[simp] theorem Mach.stopTimer_accFlag (m : Mach) (t : Timer) : (m.stopTimer t).accFlag = m.accFlag := rfl
@[simp] theorem Mach.stopTimer_ignFlag (m : Mach) (t : Timer) : (m.stopTimer t).ignFlag = m.ignFlag := rfl
@[simp] theorem Mach.stopTimer_spi (m : Mach) (t : Timer) : (m.stopTimer t).spi = m.spi := rfl
@[simp] theorem Mach.stopTimer_i2c (m : Mach) (t : Timer) : (m.stopTimer t).i2c = m.i2c := rfl
@[simp] theorem Mach.stopTimer_rdata (m : Mach) (t : Timer) : (m.stopTimer t).rdata = m.rdata := rfl
@[simp] theorem Mach.stopTimer_chWin (m : Mach) (t : Timer) : (m.stopTimer t).chWin = m.chWin := rfl
@[simp] theorem Mach.stopTimer_aonWin (m : Mach) (t : Timer) : (m.stopTimer t).aonWin = m.aonWin := rfl
@[simp] theorem Mach.stopTimer_wides (m : Mach) (t : Timer) : (m.stopTimer t).wides = m.wides := rfl
@[simp] theorem Mach.stopTimer_crc (m : Mach) (t : Timer) : (m.stopTimer t).crc = m.crc := rfl
@[simp] theorem Mach.stopTimer_pwr (m : Mach) (t : Timer) : (m.stopTimer t).pwr = m.pwr := rfl
@[simp] theorem Mach.stopTimer_boot (m : Mach) (t : Timer) : (m.stopTimer t).boot = m.boot := rfl
@[simp] theorem Mach.stopTimer_img (m : Mach) (t : Timer) : (m.stopTimer t).img = m.img := rfl
@[simp] theorem Mach.stopTimer_svc (m : Mach) (t : Timer) : (m.stopTimer t).svc = m.svc := rfl
@[simp] theorem Mach.stopTimer_lines (m : Mach) (t : Timer) : (m.stopTimer t).lines = m.lines := rfl
@[simp] theorem Mach.stopTimer_recqs (m : Mach) (t : Timer) : (m.stopTimer t).recqs = m.recqs := rfl
@[simp] theorem Mach.stopTimer_cmdqs (m : Mach) (t : Timer) : (m.stopTimer t).cmdqs = m.cmdqs := rfl
@[simp] theorem Mach.stopTimer_normal (m : Mach) (t : Timer) : (m.stopTimer t).normal = m.normal := rfl
@[simp] theorem Mach.stopTimer_urgent (m : Mach) (t : Timer) : (m.stopTimer t).urgent = m.urgent := rfl
@[simp] theorem Mach.stopTimer_lastNormal (m : Mach) (t : Timer) : (m.stopTimer t).lastNormal = m.lastNormal := rfl
@[simp] theorem Mach.stopTimer_lastUrgent (m : Mach) (t : Timer) : (m.stopTimer t).lastUrgent = m.lastUrgent := rfl
@[simp] theorem Mach.stopTimer_visiting (m : Mach) (t : Timer) : (m.stopTimer t).visiting = m.visiting := rfl
@[simp] theorem Mach.stopTimer_ldgBuf (m : Mach) (t : Timer) : (m.stopTimer t).ldgBuf = m.ldgBuf := rfl
@[simp] theorem Mach.stopTimer_ldgDrop (m : Mach) (t : Timer) : (m.stopTimer t).ldgDrop = m.ldgDrop := rfl
@[simp] theorem Mach.stopTimer_grps (m : Mach) (t : Timer) : (m.stopTimer t).grps = m.grps := rfl
@[simp] theorem Mach.stopTimer_chans (m : Mach) (t : Timer) : (m.stopTimer t).chans = m.chans := rfl
@[simp] theorem Mach.stopTimer_nextOrd (m : Mach) (t : Timer) : (m.stopTimer t).nextOrd = m.nextOrd := rfl
@[simp] theorem Mach.stopTimer_gov (m : Mach) (t : Timer) : (m.stopTimer t).gov = m.gov := rfl
@[simp] theorem Mach.stopTimer_sec (m : Mach) (t : Timer) : (m.stopTimer t).sec = m.sec := rfl
@[simp] theorem Mach.stopTimer_mtrs (m : Mach) (t : Timer) : (m.stopTimer t).mtrs = m.mtrs := rfl
@[simp] theorem Mach.stopTimer_ldg (m : Mach) (t : Timer) : (m.stopTimer t).ldg = m.ldg := rfl
@[simp] theorem Mach.stopTimer_sent (m : Mach) (t : Timer) : (m.stopTimer t).sent = m.sent := rfl
@[simp] theorem Mach.stopTimer_root (m : Mach) (t : Timer) : (m.stopTimer t).root = m.root := rfl
@[simp] theorem Mach.stopTimer_link (m : Mach) (t : Timer) : (m.stopTimer t).link = m.link := rfl
@[simp] theorem Mach.stopTimer_test (m : Mach) (t : Timer) : (m.stopTimer t).test = m.test := rfl
@[simp] theorem Mach.stopTimer_tap (m : Mach) (t : Timer) : (m.stopTimer t).tap = m.tap := rfl
@[simp] theorem Mach.stopTimer_bsr (m : Mach) (t : Timer) : (m.stopTimer t).bsr = m.bsr := rfl
@[simp] theorem Mach.stopTimer_flash (m : Mach) (t : Timer) : (m.stopTimer t).flash = m.flash := rfl
@[simp] theorem Mach.stopTimer_regs (m : Mach) (t : Timer) : (m.stopTimer t).regs = m.regs := rfl

end Sys2Proof.Machine
end

