-- ==== Sys2Proof/Laws/Fields.lean ====
section
/-! SUPPORT. Reading a field back after a write of the same field, of another field of its word, and of another word. -/
namespace Sys2Proof.Machine
open Sys2Proof Sys2Proof.Laws

theorem getF_testBit (w : Word) (lo len i : Nat) : (getF w lo len).testBit i = (decide (i < len) && w.getLsbD (lo + i)) := by
  unfold getF
  rw [Nat.testBit_mod_two_pow, Nat.testBit_shiftRight]
  rfl

theorem fmask_getLsbD (lo len i : Nat) (h : i < 32) : (fmask lo len).getLsbD i = (decide (lo ≤ i) && decide (i < lo + len)) := by
  unfold fmask
  rw [BitVec.getLsbD_ofNat, Nat.testBit_mul_two_pow, Nat.testBit_two_pow_sub_one]
  simp only [h, decide_true, Bool.true_and]
  by_cases h1 : lo ≤ i
  · simp only [h1, decide_true, Bool.true_and, decide_eq_decide]; omega
  · simp [h1]

theorem setF_getLsbD (w : Word) (lo len v i : Nat) (h : i < 32) :
    (setF w lo len v).getLsbD i = if lo ≤ i ∧ i < lo + len then v.testBit (i - lo) else w.getLsbD i := by
  unfold setF
  rw [BitVec.getLsbD_or, BitVec.getLsbD_and, BitVec.getLsbD_and, BitVec.getLsbD_not, fmask_getLsbD _ _ _ h, BitVec.getLsbD_ofNat,
    Nat.testBit_mul_two_pow]
  simp only [h, decide_true, Bool.true_and]
  by_cases h1 : lo ≤ i <;> by_cases h2 : i < lo + len <;> simp [h1, h2]

/-- The field that was written reads as the value, cut to its width. -/
theorem getF_setF_same (w : Word) (lo len v : Nat) (h : lo + len ≤ 32) : getF (setF w lo len v) lo len = v % 2 ^ len := by
  apply Nat.eq_of_testBit_eq
  intro i
  rw [getF_testBit, Nat.testBit_mod_two_pow]
  by_cases hi : i < len
  · rw [setF_getLsbD _ _ _ _ _ (by omega), if_pos (by omega)]
    simp [hi]
  · simp [hi]

/-- A field apart from the one that was written is as it was. -/
theorem getF_setF_ne (w : Word) (lo len v lo' len' : Nat) (h : lo' + len' ≤ lo ∨ lo + len ≤ lo') :
    getF (setF w lo len v) lo' len' = getF w lo' len' := by
  apply Nat.eq_of_testBit_eq
  intro i
  rw [getF_testBit, getF_testBit]
  by_cases hi : i < len'
  · by_cases h32 : lo' + i < 32
    · rw [setF_getLsbD _ _ _ _ _ h32, if_neg (by omega)]
    · rw [BitVec.getLsbD_of_ge _ _ (by omega), BitVec.getLsbD_of_ge _ _ (by omega)]
  · simp [hi]

@[simp] theorem and_full (x : Word) : x &&& 4294967295#32 = x := BitVec.and_allOnes

theorem getF_lt (w : Word) (lo len : Nat) : getF w lo len < 2 ^ len := Nat.mod_lt _ (Nat.two_pow_pos _)

theorem wf_stores_regs {m : Mach} (h : m.wf = true) : cwf regReset m.regs = true := by
  unfold Mach.wf at h; simp only [Bool.and_eq_true] at h; exact h.1.1.1.1.1.1.1.1.1.1

theorem wf_stores_tbl {m : Mach} (h : m.wf = true) : cwf tblReset m.tbl = true := by
  unfold Mach.wf at h; simp only [Bool.and_eq_true] at h; exact h.1.1.1.1.1.1.1.1.1.2

theorem wf_stores_aon {m : Mach} (h : m.wf = true) : cwf aonReset m.aon = true := by
  unfold Mach.wf at h; simp only [Bool.and_eq_true] at h; exact h.1.1.1.1.1.1.1.1.2

/-- A register word read after a write of it. -/
theorem Mach.reg_setReg_same {m : Mach} (h : m.wf = true) (k : Nat) (v : Word) : (m.setReg k v).reg k = v :=
  cget_cset_same _ (wf_stores_regs h)

/-- A register word read after a write of another. -/
theorem Mach.reg_setReg_ne {m : Mach} (h : m.wf = true) {k j : Nat} (hj : j ≠ k) (v : Word) : (m.setReg k v).reg j = m.reg j :=
  cget_cset_ne hj _ (wf_stores_regs h)

theorem Mach.wf_setReg {m : Mach} (h : m.wf = true) (k : Nat) (v : Word) : (m.setReg k v).wf = true := by
  have h1 := cwf_cset (k := k) (v := v) _ (wf_stores_regs h)
  unfold Mach.wf at h ⊢
  simp only [Bool.and_eq_true] at h ⊢
  exact ⟨⟨⟨⟨⟨⟨⟨⟨⟨⟨h1, h.1.1.1.1.1.1.1.1.1.2⟩, h.1.1.1.1.1.1.1.1.2⟩, h.1.1.1.1.1.1.1.2⟩, h.1.1.1.1.1.1.2⟩, h.1.1.1.1.1.2⟩, h.1.1.1.1.2⟩, h.1.1.1.2⟩,
    h.1.1.2⟩, h.1.2⟩, h.2⟩

/-- A table word read after a write of it. -/
theorem Mach.tw_setTw_same {m : Mach} (h : m.wf = true) (e w : Nat) (v : Word) : (m.setTw e w v).tw e w = v :=
  cget_cset_same _ (wf_stores_tbl h)

/-- A table word read after a write of another. -/
theorem Mach.tw_setTw_ne {m : Mach} (h : m.wf = true) {e w e' w' : Nat} (hj : 64 * e' + 4 * w' ≠ 64 * e + 4 * w) (v : Word) :
    (m.setTw e w v).tw e' w' = m.tw e' w' :=
  cget_cset_ne hj _ (wf_stores_tbl h)

/-- An always-on word read after a write of it. -/
theorem Mach.aw_setAw_same {m : Mach} (h : m.wf = true) (k : Nat) (v : Word) : (m.setAw k v).aw k = v :=
  cget_cset_same _ (wf_stores_aon h)

/-- An always-on word read after a write of another. -/
theorem Mach.aw_setAw_ne {m : Mach} (h : m.wf = true) {k j : Nat} (hj : j ≠ k) (v : Word) : (m.setAw k v).aw j = m.aw j :=
  cget_cset_ne hj _ (wf_stores_aon h)

/-- A register field read after a write of it. -/
theorem Mach.f_put_same {m : Mach} (h : m.wf = true) (x : Fld) (v : Nat) (hx : x.lo + x.len ≤ 32) : (m.put x v).f x = v % 2 ^ x.len := by
  unfold Mach.f Mach.put
  rw [Mach.reg_setReg_same h, getF_setF_same _ _ _ _ hx]

/-- A register field read after a write of one apart from it. -/
theorem Mach.f_put_ne {m : Mach} (h : m.wf = true) (x y : Fld) (v : Nat)
    (hx : y.a ≠ x.a ∨ y.lo + y.len ≤ x.lo ∨ x.lo + x.len ≤ y.lo) : (m.put x v).f y = m.f y := by
  unfold Mach.f Mach.put
  by_cases ha : y.a = x.a
  · rw [ha, Mach.reg_setReg_same h, getF_setF_ne]
    exact hx.resolve_left (fun c => c ha)
  · rw [Mach.reg_setReg_ne h ha]

/-- A table field read after a write of it. -/
theorem Mach.t_tput_same {m : Mach} (h : m.wf = true) (e : Nat) (x : TFld) (v : Nat) (hx : x.lo + x.len ≤ 32) :
    (m.tput e x v).t e x = v % 2 ^ x.len := by
  unfold Mach.t Mach.tput
  rw [Mach.tw_setTw_same h, getF_setF_same _ _ _ _ hx]

/-- A table field of the same channel read after a write of one apart from it. -/
theorem Mach.t_tput_ne {m : Mach} (h : m.wf = true) (e : Nat) (x y : TFld) (v : Nat)
    (hx : y.w ≠ x.w ∨ y.lo + y.len ≤ x.lo ∨ x.lo + x.len ≤ y.lo) : (m.tput e x v).t e y = m.t e y := by
  unfold Mach.t Mach.tput
  by_cases ha : y.w = x.w
  · rw [ha, Mach.tw_setTw_same h, getF_setF_ne]
    exact hx.resolve_left (fun c => c ha)
  · rw [Mach.tw_setTw_ne h (by omega)]

/-- A table field of another channel read after a write. -/
theorem Mach.t_tput_other {m : Mach} (h : m.wf = true) {e e' : Nat} (he : e' ≠ e) (x y : TFld) (v : Nat) (hx : x.w < 16) (hy : y.w < 16) :
    (m.tput e x v).t e' y = m.t e' y := by
  unfold Mach.t Mach.tput
  rw [Mach.tw_setTw_ne h (by omega)]

/-! ## The agenda -/

/-- With an empty agenda nothing is left to work off. -/
theorem Mach.settle_nil {m : Mach} (h : m.todo = []) : m.settle = m := by
  unfold Mach.settle Mach.settleFor
  rw [h]

theorem Mach.settleFor_succ (k : Nat) {m : Mach} {w : Work} {l : List Work} (h : m.todo = w :: l) :
    Mach.settleFor (k + 1) m = Mach.settleFor k (({ m with todo := l }).work w) := by
  conv_lhs => unfold Mach.settleFor
  rw [h]

theorem Mach.settleFor_nil (k : Nat) {m : Mach} (h : m.todo = []) : Mach.settleFor k m = m := by
  unfold Mach.settleFor
  cases k with
  | zero => rfl
  | succ k => simp only [h]

/-- One consequence that leaves no other. -/
theorem Mach.settle_one {m : Mach} {w : Work} (h : m.todo = [w]) (h' : (({ m with todo := [] }).work w).todo = []) :
    m.settle = ({ m with todo := [] }).work w := by
  unfold Mach.settle
  rw [show (100000 : Nat) = 99999 + 1 from rfl, Mach.settleFor_succ 99999 h, Mach.settleFor_nil _ h']

/-- A command's outcome is its effect with the agenda worked off. -/
theorem act_eq (f : Mach → Mach) (s : State) : act f s = .next { s with m := (f s.m).settle } := rfl

/-- Where the effect leaves nothing on the agenda, it is the whole outcome. -/
theorem act_quiet (f : Mach → Mach) (s : State) (h : (f s.m).todo = []) : act f s = .next { s with m := f s.m } := by
  rw [act_eq, Mach.settle_nil h]

end Sys2Proof.Machine
end

