-- ==== Sys2Proof/Laws/Write.lean ====
section
/-! SUPPORT. The register write as a whole: which checks let it through, what it stores and when its word acts (R33). -/
namespace Sys2Proof.Machine
open Sys2Proof

theorem forN_push (n : Nat) (f : Nat → Mach → Mach) (w : Work) (h : ∀ i t, f i (Mach.push w t) = (f i t).push w) (m : Mach) :
    forN n f (m.push w) = (forN n f m).push w := by
  unfold forN
  induction List.range n generalizing m with
  | nil => rfl
  | cons a l ih => simp only [List.foldl_cons, h, ih]

/-- The idle counts of group locks and the agenda are apart (R224). -/
theorem Mach.grpTouch_push (m : Mach) (w : Who) (addr : Nat) (x : Work) : (m.push x).grpTouch w addr = (m.grpTouch w addr).push x := by
  unfold Mach.grpTouch
  split
  · refine forN_push 32 _ x (fun i t => ?_) m
    unfold applyIf
    rw [show (Mach.push x t).grp i = t.grp i from rfl]
    split <;> rfl
  · rfl

/-- An access outside the group block and the channel window reaches no group (R224). -/
theorem Mach.grpTouch_other (m : Mach) (w : Who) {addr : Nat} (h3 : addr / 0x10000 ≠ 3) (hw : winOf addr = none) : m.grpTouch w addr = m := by
  unfold Mach.grpTouch
  rw [if_neg (by simp [h3, hw])]

theorem forN_todo (n : Nat) (f : Nat → Mach → Mach) (h : ∀ i t, (f i t).todo = t.todo) (m : Mach) : (forN n f m).todo = m.todo := by
  unfold forN
  induction List.range n generalizing m with
  | nil => rfl
  | cons a l ih => rw [List.foldl_cons, ih, h]

@[simp] theorem Mach.grpTouch_todo (m : Mach) (w : Who) (addr : Nat) : (m.grpTouch w addr).todo = m.todo := by
  unfold Mach.grpTouch
  split
  · refine forN_todo 32 _ (fun i t => ?_) m
    unfold applyIf
    split <;> rfl
  · rfl

/-- A write that the port, the address and the writer allow comes to the gates of its register. -/
theorem Mach.busWrite_gated {m : Mach} {a : Acc} {addr : Nat} {r : Row} (d : Word) (hup : m.hostUp = true)
    (hb : m.bind a ≠ .unbound ∨ (r.inst = .port ∧ m.anyInst = true)) (hr : rowOf addr = some r) (h4 : addr % 4 = 0) (h15 : addr / 0x10000 ≠ 15 ∨ m.dev = .teasel)
    (hs : m.bind a ≠ .sec ∨ r.inst ≠ .bank ∨ addr / 0x10000 ≠ 6) (hw : winOf addr = none) (hu : addr % 0x10000 ≠ 0xFFF0) :
    m.busWrite a addr d = (m.unmarked.gatedWrite (m.bind a) a r addr d).grpTouch (m.bind a) addr := by
  have hup' : m.unmarked.hostUp = true := hup
  have h15' : ¬ (decide (addr / 0x10000 = 15) && m.unmarked.dev != .teasel) = true := by
    rcases h15 with h | h
    · simp [h]
    · simp [h, Mach.unmarked_dev]
  have hb' : ¬ (m.bind a == .unbound && !(r.inst == .port && m.unmarked.anyInst) && !m.unmarked.teaselOpen addr) = true := by
    rcases hb with h | ⟨h, hi⟩
    · simp [h]
    · have : m.unmarked.anyInst = true := hi
      simp [h, this]
  have hs' : ¬ (m.bind a == .sec && r.inst == .bank && decide (addr / 0x10000 = 6) && decide (addr % 0x10000 < 0xF000)) = true := by
    rcases hs with h | h | h
    · simp [h]
    · have : (r.inst == Inst.bank) = false := by simp [h]
      simp [this]
    · simp [h]
  unfold Mach.busWrite
  simp only [hup', h4, hr, hw, hu, if_false, Bool.not_true, Bool.false_eq_true, ne_eq, not_true_eq_false]
  rw [if_neg h15', if_neg hb', if_neg hs']

/-- A write of a register without KEY bits, by a writer with the right to it, stores its word. -/
theorem Mach.gatedWrite_update {m : Mach} {a : Acc} {w : Who} {addr : Nat} {r : Row} (d : Word)
    (hm : m.mayWrite r w addr = true) (ho : r.own = 0 ∨ w.isP0 = true) (hk : r.key = 0)
    (hp : r.own = 0 ∨ r.writer ≠ .p0key) (hl : m.lockedGrp r w addr = none) (hb : (m.spent w addr).svcBusy addr = false)
    (hw : addr ≠ 0x000110) :
    m.gatedWrite w a r addr d = (m.spent w addr).fieldUpdate w a r (instKey r w a addr) addr d
      ((w.isP0 || m.teaselOpen addr) && (r.writer != .p0key || m.mayOwnKey w addr)) (m.isArmed w addr && (r.writer != .p0key || m.mayOwnKey w addr)) := by
  have hm' : ¬ ((decide (r.own = 0) || decide ((r.rw ||| r.w1c ||| r.cfg ||| r.key) ≠ 0)) && !m.mayWrite r w addr) = true := by simp [hm]
  have ho' : ((w.isP0 || m.teaselOpen addr) && (r.writer != .p0key || m.mayOwnKey w addr) || decide (r.own = 0)) = true := by
    rcases ho with h | h
    · simp [h]
    · rcases hp with h' | h'
      · simp [h']
      · have : (r.writer != Writer.p0key) = true := by simp [h']
        simp [h, this]
  unfold Mach.gatedWrite
  dsimp only
  rw [if_pos ho', if_neg hm', hl]
  simp [hk, hb, hw]

@[simp] theorem Mach.store_todo (m : Mach) (key : Nat) (new : Word) : (m.store key new).todo = m.todo := by
  unfold Mach.store; split <;> rfl

@[simp] theorem Mach.store_same (m : Mach) (key : Nat) : m.store key (m.reg key) = m := by
  unfold Mach.store; simp

/-- The store of an ordinary register: its word, the mark of a changed CFG field, and the effect of the word on the agenda. -/
theorem Mach.storeWord_plain {m : Mach} {a : Acc} {w : Who} {key addr : Nat} {r : Row} (d new : Word) (ha : aonAlias addr = none)
    (ho : addr < 0x080000 ∨ 0x0800A8 ≤ addr) (hg : m.grpPending addr = false) (hb : m.grpBreaks addr new = false) :
    m.storeWord w a r key addr d new =
      ((if (m.reg key ^^^ new) &&& word r.cfg ≠ 0 then m.cfgChanged else m).store key new).push
        (.hook w a addr d (m.reg key) new) := by
  have ho' : ¬ (decide (0x080000 ≤ addr) && decide (addr < 0x0800A8)) = true := by
    rcases ho with h | h
    · simp; omega
    · simp; omega
  unfold Mach.storeWord Mach.heldWord
  dsimp only
  rw [ha]
  dsimp only
  rw [if_neg ho', hg, hb]
  simp

/-- An effect on an empty agenda acts, and nothing else comes before it. -/
theorem Mach.settleFor_push {m : Mach} (w : Work) (h : m.todo = []) : Mach.settleFor 1 (m.push w) = m.work w := by
  have h1 : (m.push w).todo = [w] := by unfold Mach.push; simp [h]
  rw [show (1 : Nat) = 0 + 1 from rfl, Mach.settleFor_succ 0 h1]
  unfold Mach.settleFor Mach.push
  congr 1
  cases m
  simp_all

/-- The machine between the checks and the store. -/
@[simp] theorem Mach.unmarked_bind (m : Mach) (a : Acc) : m.unmarked.bind a = m.bind a := rfl

theorem Mach.spent_fields (m : Mach) (w : Who) (addr : Nat) : m.spent w addr = { m with regs := (m.spent w addr).regs } := by
  unfold Mach.spent Mach.setArm Mach.put Mach.setReg
  split <;> rfl

theorem Mach.begun_fields (m : Mach) (a : Acc) (addr : Nat) :
    m.begun a addr = { m with regs := (m.begun a addr).regs, accFlag := false, ignFlag := false } := by
  unfold Mach.begun
  rw [Mach.spent_fields]
  rfl

@[simp] theorem Mach.begun_todo (m : Mach) (a : Acc) (addr : Nat) : (m.begun a addr).todo = m.todo := by
  rw [Mach.begun_fields]

@[simp] theorem Mach.begun_dev (m : Mach) (a : Acc) (addr : Nat) : (m.begun a addr).dev = m.dev := by
  rw [Mach.begun_fields]

theorem Who.isP0_bound {w : Who} (h : w.isP0 = true) : w ≠ .unbound := by
  intro c; rw [c] at h; exact absurd h (by decide)

/-- What is asked of a register for `write_plain`: one instance, no KEY and no CFG bits, not a WM register, not one with a home or
a rule of its own. -/
def plainAt (addr : Nat) (r : Row) : Bool :=
  addr % 4 == 0 && addr / 0x10000 != 15 && winOf addr == none && addr % 0x10000 != 0xFFF0 && r.inst == .one && r.key == 0 && r.cfg == 0
    && !r.wm && r.writer == .p0 && aonAlias addr == none && addr / 0x10000 != 3 && addr / 0x10000 != 8 && addr != 0x000110
    && addr != 0x000240 && !(0x000420 ≤ addr && addr < 0x000600)

/-- A write by P0 of a plain register: the word is stored by the attributes of its bits, and then acts. -/
theorem Mach.write_plain {m : Mach} {a : Acc} {addr : Nat} {r : Row} (d : Word) (h : m.byP0 a) (hr : rowOf addr = some r)
    (hp : plainAt addr r = true) :
    m.write a addr d = ((m.begun a addr).store addr (writeNew r addr d ((m.begun a addr).reg addr) (word r.rw ||| word r.own))).hook
      (m.bind a) a addr (d &&& (word r.rw ||| word r.own ||| word r.w1c)) ((m.begun a addr).reg addr)
      (writeNew r addr d ((m.begun a addr).reg addr) (word r.rw ||| word r.own)) := by
  obtain ⟨hu, hb, ht⟩ := h
  simp only [plainAt, Bool.and_eq_true, bne_iff_ne, ne_eq, beq_iff_eq, Bool.not_eq_true'] at hp
  obtain ⟨⟨⟨⟨⟨⟨⟨⟨⟨⟨⟨⟨⟨⟨h4, h15⟩, hw⟩, hul⟩, hi⟩, hk⟩, hc⟩, hwm⟩, hwr⟩, hal⟩, h3⟩, h8⟩, h110⟩, h240⟩, hsv⟩ := hp
  have hnu := Who.isP0_bound hb
  unfold Mach.write
  rw [Mach.busWrite_gated d hu (.inl hnu) hr h4 (.inl h15) (.inr (.inl (by rw [hi]; decide))) hw hul]
  have hmay : m.unmarked.mayWrite r (m.bind a) addr = true := by
    unfold Mach.mayWrite
    rw [hwr]
    unfold Who.isP0 at hb
    rw [beq_iff_eq] at hb
    rw [hb]
    split <;> rfl
  have hlock : m.unmarked.lockedGrp r (m.bind a) addr = none := by
    unfold Mach.lockedGrp
    rw [hwr]
    rfl
  have hbusy : (m.unmarked.spent (m.bind a) addr).svcBusy addr = false := by
    unfold Mach.svcBusy
    simp only [Bool.and_eq_false_iff, Bool.or_eq_false_iff, decide_eq_false_iff_not] at hsv ⊢
    right
    omega
  rw [Mach.gatedWrite_update d hmay (.inr hb) hk (.inr (by rw [hwr]; decide)) hlock hbusy h110]
  have hm : ∀ (t : Mach) (k : Bool), t.writeMask (m.bind a) r addr d true k = word r.rw ||| word r.own := by
    intro t k
    unfold Mach.writeMask
    simp [hwr, hwm, hk, hc, word]
  have hg : ∀ (t : Mach), t.grpPending addr = false := by
    intro t
    unfold Mach.grpPending
    simp only [Bool.and_eq_false_iff, Bool.or_eq_false_iff, decide_eq_false_iff_not]
    left; left
    omega
  have hgb : ∀ (t : Mach) (v : Word), t.grpBreaks addr v = false := by
    intro t v
    unfold Mach.grpBreaks
    simp only [Bool.and_eq_false_iff, decide_eq_false_iff_not]
    left; left; left
    omega
  unfold Mach.fieldUpdate
  have hheld : (m.unmarked.spent (m.bind a) addr).heldWord (instKey r (m.bind a) a addr) addr = (m.begun a addr).reg addr := by
    unfold Mach.heldWord instKey Mach.begun
    rw [hal, hi]
  have hkey : instKey r (m.bind a) a addr = addr := by unfold instKey; rw [hi]
  have hwm' : (r.writer == Writer.pgpo) = false := by rw [hwr]; rfl
  have hwk : (r.writer != Writer.p0key) = true := by rw [hwr]; rfl
  simp only [hheld, hb, hwk, Bool.true_or, Bool.true_and, hm, hwm', hwm, Bool.false_and, Bool.false_eq_true, if_false, hc]
  have hz : ∀ x : Word, (x &&& word 0 ≠ 0) = False := by intro x; simp [word]
  simp only [hz, decide_false, Bool.and_false, Bool.false_eq_true, if_false]
  rw [Mach.storeWord_plain _ _ hal (by omega) (hg _) (hgb _ _), hkey]
  simp only [hc, hz, if_false]
  rw [Mach.grpTouch_other _ _ h3 hw, Mach.settleFor_push _ (by rw [Mach.store_todo]; show (m.begun a addr).todo = []; rw [Mach.begun_todo, ht])]
  rfl

/-- A register without OWN bits has the same writable bits for every writer. -/
theorem Mach.writeMask_own (m : Mach) (w : Who) {r : Row} (addr : Nat) (d : Word) (k b b' : Bool) (h : r.own = 0) :
    m.writeMask w r addr d b k = m.writeMask w r addr d b' k := by
  unfold Mach.writeMask
  cases b <;> cases b' <;> simp [h, word]

@[simp] theorem Mach.accErr_todo (m : Mach) (w : Who) (p : Port) (x c : Nat) : (m.accErr w p x c).todo = m.todo := by
  unfold Mach.accErr; split
  · rfl
  · split <;> rfl

@[simp] theorem Mach.cfgIgn_todo (m : Mach) (w : Who) : (m.cfgIgn w).todo = m.todo := by
  unfold Mach.cfgIgn; split <;> rfl

@[simp] theorem Mach.cfgChanged_todo (m : Mach) : m.cfgChanged.todo = m.todo := by
  unfold Mach.cfgChanged Mach.sweepReach Mach.draw
  rfl

/-- The field rules of an ordinary register, from the mask to the effect of its word. -/
theorem Mach.fieldUpdate_row {m : Mach} {a : Acc} {w : Who} {addr key : Nat} {r : Row} (d : Word) (b armed : Bool) (ho : r.own = 0 ∨ b = true)
    (hal : aonAlias addr = none) (hp : addr < 0x080000 ∨ 0x0800A8 ≤ addr) (hw : r.writer ≠ .pgpo) (ht : m.todo = []) {m3 : Mach}
    (hm3 : (if !m.cfgOpen addr && (d ^^^ m.reg key) &&& word r.cfg ≠ 0 then m.cfgIgn w else m) = m3)
    (hg : m3.grpPending addr = false) (hb : ∀ v, m3.grpBreaks addr v = false) :
    Mach.settleFor 1 ((m.fieldUpdate w a r key addr d b armed).grpTouch w addr) =
      let mask := m.writeMask w r addr d true armed
      let new := writeNew r addr d (m.reg key) mask
      let m4 := (if (m3.reg key ^^^ new) &&& word r.cfg ≠ 0 then m3.cfgChanged else m3).store key new
      (m4.grpTouch w addr).hook w a addr (if r.wm then d else d &&& (mask ||| word r.w1c)) (m3.reg key) new := by
  have hmask : m.writeMask w r addr d b armed = m.writeMask w r addr d true armed := by
    rcases ho with h | h
    · exact m.writeMask_own w addr d armed b true h
    · rw [h]
  have hheld : m.heldWord key addr = m.reg key := by unfold Mach.heldWord; rw [hal]
  have hwr : (r.writer == Writer.pgpo) = false := by simp [hw]
  have ht3 : m3.todo = [] := by
    rw [← hm3]; split
    · rw [Mach.cfgIgn_todo, ht]
    · exact ht
  unfold Mach.fieldUpdate
  simp only [hmask, hheld, hwr, Bool.false_and, Bool.false_eq_true, if_false]
  rw [hm3, Mach.storeWord_plain _ _ hal hp hg (hb _), Mach.grpTouch_push, Mach.settleFor_push]
  · unfold Mach.work
    rfl
  · rw [Mach.grpTouch_todo, Mach.store_todo]
    split
    · rw [Mach.cfgChanged_todo, ht3]
    · exact ht3

/-- What a write of an ordinary register does where no check refuses it (R33): the arm is used up, a closed gate leaves its mark, the
word is stored under the open bits, and the word acts. -/
theorem Mach.write_row {m : Mach} {a : Acc} {addr : Nat} {r : Row} (d : Word) (h : m.opens a addr r) :
    m.write a addr d =
      let w := m.bind a
      let key := instKey r w a addr
      let armed := m.isArmed w addr
      let m1 := m.begun a addr
      let m2 := if r.key = 0 ∨ (d ^^^ m.reg key) &&& word r.key = 0 ∨ armed = true then m1 else m1.accErr w a.port addr cKEY
      let m3 := if !m2.cfgOpen addr && (d ^^^ m2.reg key) &&& word r.cfg ≠ 0 then m2.cfgIgn w else m2
      let mask := m2.writeMask w r addr d true armed
      let new := writeNew r addr d (m2.reg key) mask
      let m4 := (if (m3.reg key ^^^ new) &&& word r.cfg ≠ 0 then m3.cfgChanged else m3).store key new
      (m4.grpTouch w addr).hook w a addr (if r.wm then d else d &&& (mask ||| word r.w1c)) (m3.reg key) new := by
  obtain ⟨hu, ht, hnu, hr, hord, h15, h6, hmay, hown, hkey, hlock, h110, hbusy, hgrp, hlim⟩ := h
  simp only [Row.ordinary, Bool.and_eq_true, bne_iff_ne, ne_eq, beq_iff_eq, Bool.or_eq_true, decide_eq_true_eq] at hord
  obtain ⟨⟨⟨⟨⟨⟨h4, hw⟩, hul⟩, hal⟩, ho⟩, hwr⟩, hst⟩ := hord
  unfold Mach.write
  rw [Mach.busWrite_gated d hu hnu hr h4 h15 h6 hw hul]
  have hwk : (r.writer != Writer.p0key || m.unmarked.mayOwnKey (m.bind a) addr) = true := by
    rcases hkey with h | h
    · have : (r.writer != Writer.p0key) = true := by simp [h]
      simp [this]
    · have : m.unmarked.mayOwnKey (m.bind a) addr = true := h
      simp [this]
  have hpg : (r.writer == Writer.pgpo) = false := by simp [hwr]
  have hm' : ¬ ((decide (r.own = 0) || decide ((r.rw ||| r.w1c ||| r.cfg ||| r.key) ≠ 0)) && !m.unmarked.mayWrite r (m.bind a) addr) = true := by
    have : m.unmarked.mayWrite r (m.bind a) addr = true := hmay
    simp [this]
  have ho' : (((m.bind a).isP0 || m.unmarked.teaselOpen addr) && (r.writer != .p0key || m.unmarked.mayOwnKey (m.bind a) addr) || decide (r.own = 0)) = true := by
    rw [hwk]
    rcases hown with h | h
    · simp [h]
    · simp [h]
  have hlock' : m.unmarked.lockedGrp r (m.bind a) addr = none := hlock
  unfold Mach.gatedWrite
  dsimp only
  rw [if_pos ho', if_neg hm', hlock']
  simp only [hwk, Bool.and_true, Bool.not_true, Bool.false_eq_true, if_false]
  have hheld : m.unmarked.heldWord (instKey r (m.bind a) a addr) addr = m.reg (instKey r (m.bind a) a addr) := by
    unfold Mach.heldWord; rw [hal]; rfl
  rw [hheld]
  have hq : (if (decide (r.key = 0) || decide ((d ^^^ m.reg (instKey r (m.bind a) a addr)) &&& word r.key = 0)) = true then m.unmarked.spent (m.bind a) addr
      else if (!m.unmarked.isArmed (m.bind a) addr) = true then (m.unmarked.spent (m.bind a) addr).accErr (m.bind a) a.port addr cKEY
      else m.unmarked.spent (m.bind a) addr) =
      (if r.key = 0 ∨ (d ^^^ m.reg (instKey r (m.bind a) a addr)) &&& word r.key = 0 ∨ m.isArmed (m.bind a) addr = true then m.begun a addr
       else (m.begun a addr).accErr (m.bind a) a.port addr cKEY) := by
    have e : m.unmarked.isArmed (m.bind a) addr = m.isArmed (m.bind a) addr := rfl
    rw [e]
    by_cases h1 : r.key = 0
    · simp [h1]; rfl
    · by_cases h2 : (d ^^^ m.reg (instKey r (m.bind a) a addr)) &&& word r.key = 0
      · simp [h2]; rfl
      · cases h3 : m.isArmed (m.bind a) addr <;> simp [h1] <;> rfl
  rw [hq]
  have hkw : addr = 0x000110 → r.key = 0 := by
    intro h
    have hall : ∀ q, rowOf 0x000110 = some q → q.key = 0 := by decide
    exact hall r (h ▸ hr)
  have hbr : ∀ (t : Mach), grpLimited addr = false ∨ t.fb (GRP_CFG.EN (grpOf addr)) = false → ∀ v, t.grpBreaks addr v = false := by
    intro t h v
    unfold Mach.grpBreaks
    rcases h with h | h
    · unfold grpLimited at h
      simp only [Bool.and_eq_false_iff, Bool.or_eq_false_iff, decide_eq_false_iff_not, beq_eq_false_iff_ne] at h ⊢
      left; left; omega
    · simp [h]
  generalize hG : (if r.key = 0 ∨ (d ^^^ m.reg (instKey r (m.bind a) a addr)) &&& word r.key = 0 ∨ m.isArmed (m.bind a) addr = true then m.begun a addr
       else (m.begun a addr).accErr (m.bind a) a.port addr cKEY) = M2
  have hk0 : r.key = 0 → M2 = m.begun a addr := fun hk => by rw [← hG, if_pos (.inl hk)]
  have ht2 : M2.todo = [] := by
    rw [← hG]; split
    · rw [Mach.begun_todo, ht]
    · rw [Mach.accErr_todo, Mach.begun_todo, ht]
  have hwide : (decide (addr = 0x000110) && M2.fb (WIDE_STAT.BUSY.inst (m.bind a).inst)) = false := by
    by_cases h : addr = 0x000110
    · rw [hk0 (hkw h), h110.resolve_left (fun c => c h)]; simp
    · simp [h]
  have hsv : M2.svcBusy addr = false := by
    rcases hst with ⟨hk, _⟩ | ⟨hs, _⟩
    · rw [hk0 hk]; exact hbusy
    · unfold Mach.svcBusy
      simp only [Bool.not_eq_true', Bool.and_eq_false_iff, Bool.or_eq_false_iff, decide_eq_false_iff_not] at hs ⊢
      right; omega
  have hm3 : ∀ M3 : Mach, (if !M2.cfgOpen addr && (d ^^^ M2.reg (instKey r (m.bind a) a addr)) &&& word r.cfg ≠ 0 then M2.cfgIgn (m.bind a) else M2) = M3 →
      M3.grpPending addr = false ∧ ∀ v, M3.grpBreaks addr v = false := by
    intro M3 e
    rcases hst with ⟨hk, hc⟩ | ⟨_, h3⟩
    · have e' : M3 = m.begun a addr := by rw [← e, if_neg (by rw [hc]; simp [word]), hk0 hk]
      rw [e']
      exact ⟨hgrp, hbr _ hlim⟩
    · refine ⟨?_, hbr M3 (.inl ?_)⟩
      · unfold Mach.grpPending
        simp only [Bool.and_eq_false_iff, Bool.or_eq_false_iff, decide_eq_false_iff_not, beq_eq_false_iff_ne]
        left; left; omega
      · unfold grpLimited
        simp only [Bool.and_eq_false_iff, Bool.or_eq_false_iff, decide_eq_false_iff_not, beq_eq_false_iff_ne]
        omega
  rw [hsv, hwide, Bool.and_false, if_neg (by simp), if_neg (by simp)]
  obtain ⟨h1, h2⟩ := hm3 _ rfl
  exact Mach.fieldUpdate_row d _ _ (by rcases hown with h | h <;> simp [h]) hal ho hwr ht2 rfl h1 h2

end Sys2Proof.Machine
end

