-- ==== Sys2Proof/Laws/Outcome.lean ====
section
/-! SUPPORT. From a family's effect to the outcome of its command. -/
namespace Sys2Proof.Machine
open Sys2Proof

theorem does_act {f : Mach → Mach} {s : State} {x : Mach} (h : f s.m = x) :
    act f s = .next { s with m := x.settle } := by rw [act_eq, h]

theorem yields_act {f : Mach → Mach} {s : State} {P : Mach → Prop} (h : P (f s.m).settle) :
    ∃ m', act f s = .next { s with m := m' } ∧ P m' := ⟨_, rfl, h⟩

theorem yields_quiet {f : Mach → Mach} {s : State} {P : Mach → Prop} (ht : (f s.m).todo = []) (h : P (f s.m)) :
    ∃ m', act f s = .next { s with m := m' } ∧ P m' := ⟨_, act_quiet f s ht, h⟩

/-- What every step of a fold leaves, the fold leaves. -/
theorem forN_keeps {α β : Type} (p : α → β) {f : Nat → α → α} (hf : ∀ i t, p (f i t) = p t) (n : Nat) (s : α) :
    p (forN n f s) = p s := by
  unfold forN
  generalize List.range n = l
  induction l generalizing s with
  | nil => rfl
  | cons i l ih => rw [List.foldl_cons, ih, hf]

/-- A ledger entry depends on the buffer and on the time alone. -/
theorem Mach.ledger_ldgBuf_congr {m n : Mach} (h : m.ldgBuf = n.ldgBuf) (h' : m.now = n.now) (t a b : Nat) :
    (m.ledger t a b).ldgBuf = (n.ledger t a b).ldgBuf := by
  unfold Mach.ledger Mach.ledgerAt
  dsimp only
  rw [h, h']
  split <;> rfl

end Sys2Proof.Machine
end

