-- ==== Sys2Proof/Laws/Time.lean ====
section
/-! SUPPORT. What the passing of time leaves: one lemma for every way in which time moves on. -/
namespace Sys2Proof.Machine
open Sys2Proof Sys2Proof.Laws

/-- The registers that the passing of time may change: ROOT_TUNE and ROOT_STAT (R154, R167), and HIRE_STAT at the end of a hire (R466). -/
def timeRegs : List Nat := [ROOT_TUNE.TUNE.a, ROOT_STAT.FSLEWING.a, HIRE_STAT.STATE.a]

/-- `n` is `m` after some time: beyond the clocks, the root's hidden part, the ledger's buffer and `timeRegs` it is as it was. -/
def Mach.Later (m n : Mach) : Prop :=
  n = { m with regs := n.regs, now := n.now, ts := n.ts, rclk := n.rclk, grid := n.grid, tod := n.tod, sub := n.sub, root := n.root,
               ldgBuf := n.ldgBuf, ldgDrop := n.ldgDrop } ∧
  (m.wf = true → n.wf = true ∧ ∀ k, k ∉ timeRegs → n.reg k = m.reg k)

theorem Mach.Later.refl (m : Mach) : m.Later m := ⟨rfl, fun h => ⟨h, fun _ _ => rfl⟩⟩

theorem Mach.Later.trans {a b c : Mach} (h : a.Later b) (g : b.Later c) : a.Later c := by
  refine ⟨?_, fun hw => ⟨(g.2 (h.2 hw).1).1, fun k hk => ((g.2 (h.2 hw).1).2 k hk).trans ((h.2 hw).2 k hk)⟩⟩
  rw [g.1, h.1]

/-- A change of fields that time may change. -/
theorem Mach.Later.fields {a b : Mach} (h : a.Later b) (now ts rclk grid tod sub : Nat) (root : Root) (buf : List LdgEntry) (drop : Nat) :
    a.Later { b with now := now, ts := ts, rclk := rclk, grid := grid, tod := tod, sub := sub, root := root, ldgBuf := buf, ldgDrop := drop } := by
  refine h.trans ⟨rfl, fun hw => ⟨wf_of _ hw rfl rfl rfl rfl rfl rfl rfl rfl rfl rfl rfl, fun _ _ => rfl⟩⟩

/-- A change of a register that time may change. -/
theorem Mach.Later.put {a b : Mach} (h : a.Later b) (x : Fld) (v : Nat) (hx : x.a ∈ timeRegs) : a.Later (b.put x v) := by
  refine h.trans ⟨rfl, fun hw => ⟨wf_put hw, fun k hk => ?_⟩⟩
  exact Mach.reg_setReg_ne hw (fun e => hk (by rw [e]; exact hx)) _

theorem Mach.rootAdvance_later (k : Nat) (m : Mach) : m.Later (m.rootAdvance k) := by
  unfold Mach.rootAdvance
  dsimp only
  split
  · exact .refl m
  · split
    · exact (((Mach.Later.refl m).fields _ _ _ _ _ _ _ _ _).put _ _ (by decide)).put _ _ (by decide)
    · exact (Mach.Later.refl m).fields _ _ _ _ _ _ _ _ _

theorem Mach.todStep_later (c : Nat) (m : Mach) : m.Later (m.todStep c) := by
  unfold Mach.todStep
  dsimp only
  split <;> exact (Mach.Later.refl m).fields _ _ _ _ _ _ _ _ _

theorem Mach.todAdvance_later (c : Nat) (m : Mach) : m.Later (m.todAdvance c) := by
  unfold Mach.todAdvance
  split
  · exact ((Mach.Later.refl m).fields _ _ _ _ _ _ _ _ _).trans (Mach.todStep_later _ _)
  · exact Mach.todStep_later _ _

theorem Mach.hireCheck_later (m : Mach) : m.Later m.hireCheck := by
  unfold Mach.hireCheck
  dsimp only
  split
  · unfold Mach.ledger Mach.ledgerAt
    dsimp only
    split <;> exact (((Mach.Later.refl m).put _ _ (by decide)).put _ _ (by decide)).fields _ _ _ _ _ _ _ _ _
  · exact .refl m

/-- What an advance of time leaves. -/
theorem Mach.advance_later (k : Nat) (m : Mach) : m.Later (m.advance k) := by
  have h := (Mach.rootAdvance_later k m).fields (m.now + k)
    (if !m.powered || m.boot.held then m.ts
          else if m.boot.onboot then m.ts + cyclesIn 8 m.now k else m.ts + cyclesIn 6 m.root.phs ((m.rootAdvance k).root.phs - m.root.phs))
    (if !m.powered || m.boot.held then m.rclk
            else if m.boot.onboot then m.rclk + cyclesIn 8 m.now k else m.rclk + cyclesIn 12 m.root.phs ((m.rootAdvance k).root.phs - m.root.phs))
    (m.grid + ((m.rootAdvance k).root.phs - m.root.phs)) (m.rootAdvance k).tod (m.rootAdvance k).sub (m.rootAdvance k).root
    (m.rootAdvance k).ldgBuf (m.rootAdvance k).ldgDrop
  unfold Mach.advance
  dsimp only
  split
  · exact h
  · exact (h.trans (Mach.todAdvance_later _ _)).trans (Mach.hireCheck_later _)

theorem Mach.advNow_later (t : Nat) (m : Mach) : m.Later (m.advNow t) := by
  unfold Mach.advNow
  split
  · exact Mach.advance_later _ m
  · exact .refl m

theorem Mach.forN_later {f : Nat → Mach → Mach} (hf : ∀ i t, Mach.Later t (f i t)) (n : Nat) (m : Mach) : m.Later (forN n f m) := by
  unfold forN
  generalize List.range n = l
  induction l generalizing m with
  | nil => exact .refl m
  | cons i l ih => exact (hf i m).trans (ih _)

theorem Mach.advPhs_later (p : Nat) (m : Mach) : m.Later (m.advPhs p) := by
  unfold Mach.advPhs
  split
  · refine Mach.forN_later (fun _ t => ?_) 16 m
    split
    · exact Mach.advance_later _ t
    · exact .refl t
  · exact .refl m

theorem Mach.advTo_later (g : Nat) (m : Mach) : m.Later (m.advTo g) := by
  unfold Mach.advTo
  split
  · exact Mach.advPhs_later _ m
  · exact .refl m

theorem Mach.advReg_past {t : Nat} {m : Mach} (h : t ≤ m.rclk) : m.advReg t = m := by rw [Mach.advReg, if_pos h]

theorem Mach.advReg_boot {t : Nat} {m : Mach} (h : ¬ t ≤ m.rclk) (hb : m.boot.onboot = true) :
    m.advReg t = m.advNow ((m.now / 8 + (t - m.rclk)) * 8) := by rw [Mach.advReg, if_neg h, if_pos hb]

theorem Mach.advReg_core {t : Nat} {m : Mach} (h : ¬ t ≤ m.rclk) (hb : m.boot.onboot = false) :
    m.advReg t = m.advPhs ((m.root.phs / 12 + (t - m.rclk)) * 12) := by rw [Mach.advReg, if_neg h, hb]; rfl

theorem Mach.advReg_later (t : Nat) (m : Mach) : m.Later (m.advReg t) := by
  by_cases h : t ≤ m.rclk
  · rw [Mach.advReg_past h]; exact .refl m
  · cases hb : m.boot.onboot
    · rw [Mach.advReg_core h hb]; exact Mach.advPhs_later _ m
    · rw [Mach.advReg_boot h hb]; exact Mach.advNow_later _ m

theorem Mach.reach_later (t : Timer) (d : Nat) (m : Mach) : m.Later (m.reach t d) := by
  unfold Mach.reach
  cases m.since t with
  | none => exact .refl m
  | some a => exact Mach.advNow_later _ m

theorem Mach.reachAon_none {t : Timer} {c : Nat} {m : Mach} (h : m.since t = none) : m.reachAon t c = m := by
  rw [Mach.reachAon, h]; rfl

theorem Mach.reachAon_some {t : Timer} {a c : Nat} {m : Mach} (h : m.since t = some a) :
    m.reachAon t c = m.advNow (aonAt (aonCycles a + c)) := by
  rw [Mach.reachAon, h, Option.elim_some]

theorem Mach.reachAon_later (t : Timer) (c : Nat) (m : Mach) : m.Later (m.reachAon t c) := by
  have h' : ∀ a, m.Later (m.advNow (aonAt (aonCycles a + c))) := fun a => Mach.advNow_later _ m
  rcases h : m.since t with _ | a
  · rw [Mach.reachAon_none h]; exact .refl m
  · rw [Mach.reachAon_some h]; exact h' a

/-- A field of a register that time leaves reads as before. -/
theorem Mach.Later.f {m n : Mach} (h : m.Later n) (hw : m.wf = true) {x : Fld} (hx : x.a ∉ timeRegs) : n.f x = m.f x := by
  unfold Mach.f
  rw [(h.2 hw).2 _ hx]

theorem Mach.Later.dev {m n : Mach} (h : m.Later n) : n.dev = m.dev := by rw [h.1]
theorem Mach.Later.pwr {m n : Mach} (h : m.Later n) : n.pwr = m.pwr := by rw [h.1]
theorem Mach.Later.boot {m n : Mach} (h : m.Later n) : n.boot = m.boot := by rw [h.1]
theorem Mach.Later.tbl {m n : Mach} (h : m.Later n) : n.tbl = m.tbl := by rw [h.1]
theorem Mach.Later.aon {m n : Mach} (h : m.Later n) : n.aon = m.aon := by rw [h.1]
theorem Mach.Later.chans {m n : Mach} (h : m.Later n) : n.chans = m.chans := by rw [h.1]
theorem Mach.Later.grps {m n : Mach} (h : m.Later n) : n.grps = m.grps := by rw [h.1]
theorem Mach.Later.link {m n : Mach} (h : m.Later n) : n.link = m.link := by rw [h.1]
theorem Mach.Later.sec {m n : Mach} (h : m.Later n) : n.sec = m.sec := by rw [h.1]
theorem Mach.Later.timers {m n : Mach} (h : m.Later n) : n.timers = m.timers := by rw [h.1]
theorem Mach.Later.todo {m n : Mach} (h : m.Later n) : n.todo = m.todo := by rw [h.1]
theorem Mach.Later.free {m n : Mach} (h : m.Later n) : n.free = m.free := by rw [h.1]

end Sys2Proof.Machine
end

