-- ==== Sys2Proof/Laws/Writers.lean ====
section
/-! SUPPORT. The writers that no check of R33 refuses, and the commands that take their data from the state. -/
namespace Sys2Proof.Machine
open Sys2Proof

/-- A field lies within a mask that covers it. -/
theorem getF_and (x mk : Word) (lo len : Nat) (h : ∀ i, i < len → mk.getLsbD (lo + i) = true) : getF (x &&& mk) lo len = getF x lo len := by
  apply Nat.eq_of_testBit_eq
  intro i
  rw [getF_testBit, getF_testBit]
  by_cases hi : i < len
  · rw [BitVec.getLsbD_and, h i hi]; simp
  · simp [hi]

/-- No check refuses P0 a plain register of its own. -/
theorem Mach.opens_p0 {m : Mach} {a : Acc} {addr : Nat} {r : Row} (h : m.byP0 a) (hr : rowOf addr = some r)
    (hs : r.ordinary addr = true) (h15 : addr / 0x10000 ≠ 15) (hw : r.writer = .p0) (hi : r.inst = .one) (h110 : addr ≠ 0x110)
    (hb : addr < 0x420 ∨ 0x600 ≤ addr) (hg : addr / 0x10000 ≠ 3) : m.opens a addr r := by
  refine ⟨h.1, h.2.2, .inl (Who.isP0_bound h.2.1), hr, hs, .inl h15, .inr (.inl (by rw [hi]; decide)), ?_, .inr h.2.1, .inl (by rw [hw]; decide), ?_, .inl h110, ?_, ?_, .inl ?_⟩
  · have := h.2.1; unfold Who.isP0 at this; rw [beq_iff_eq] at this; unfold Mach.mayWrite; rw [hw, this]; split <;> rfl
  · unfold Mach.lockedGrp; rw [hw]; rfl
  · unfold Mach.svcBusy
    simp only [Bool.and_eq_false_iff, Bool.or_eq_false_iff, decide_eq_false_iff_not]
    right; omega
  · unfold Mach.grpPending
    simp only [Bool.and_eq_false_iff, Bool.or_eq_false_iff, decide_eq_false_iff_not]
    left; left; omega
  · simp [grpLimited, ‹addr / 0x10000 ≠ 3›]

/-- No check refuses a partition a plain register that it may write. -/
theorem Mach.opens_part {m : Mach} {a : Acc} {p k : Nat} {addr : Nat} {r : Row} (hb : m.bind a = .part p k) (hu : m.hostUp = true) (ht : m.todo = [])
    (hr : rowOf addr = some r) (hs : r.ordinary addr = true) (h15 : addr / 0x10000 ≠ 15) (hw : m.mayWrite r (.part p k) addr = true)
    (hk : r.writer ≠ .p0key) (ho : r.own = 0) (hg : r.writer ≠ .grp) (h110 : addr ≠ 0x110)
    (hbb : addr < 0x420 ∨ 0x600 ≤ addr) (h3 : addr / 0x10000 ≠ 3) : m.opens a addr r := by
  refine ⟨hu, ht, .inl (by rw [hb]; simp), hr, hs, .inl h15, .inl (by rw [hb]; simp), ?_, .inl ho, .inl hk, ?_, .inl h110, ?_, ?_, .inl ?_⟩
  · rw [hb]; exact hw
  · unfold Mach.lockedGrp
    have : (r.writer == Writer.grp) = false := by simp [hg]
    rw [this]; rfl
  · unfold Mach.svcBusy
    simp only [Bool.and_eq_false_iff, Bool.or_eq_false_iff, decide_eq_false_iff_not]
    right; omega
  · unfold Mach.grpPending
    simp only [Bool.and_eq_false_iff, Bool.or_eq_false_iff, decide_eq_false_iff_not]
    left; left; omega
  · simp [grpLimited, ‹addr / 0x10000 ≠ 3›]

/-- A register whose bits are all RW or OWN, not WM. -/
theorem Mach.write_easy {m : Mach} {a : Acc} {addr : Nat} {r : Row} (d : Word) (h : m.opens a addr r) (hk : r.key = 0) (hc : r.cfg = 0)
    (hwm : r.wm = false) (h3 : addr / 0x10000 ≠ 3) {key : Nat} (hkey : instKey r (m.bind a) a addr = key) :
    m.write a addr d = ((m.begun a addr).store key (writeNew r addr d ((m.begun a addr).reg key) (word r.rw ||| word r.own))).hook
      (m.bind a) a addr (d &&& (word r.rw ||| word r.own ||| word r.w1c)) ((m.begun a addr).reg key)
      (writeNew r addr d ((m.begun a addr).reg key) (word r.rw ||| word r.own)) := by
  rw [Mach.write_row d h]
  have hpg : (r.writer == Writer.pgpo) = false := by
    have := h.2.2.2.2.1
    simp only [Row.ordinary, Bool.and_eq_true, bne_iff_ne, ne_eq] at this
    simp [this.1.2]
  have hw : winOf addr = none := by
    have := h.2.2.2.2.1
    simp only [Row.ordinary, Bool.and_eq_true, bne_iff_ne, ne_eq, beq_iff_eq] at this
    exact this.1.1.1.1.1.2
  have hm : ∀ (t : Mach) (x : Bool), t.writeMask (m.bind a) r addr d true x = word r.rw ||| word r.own := by
    intro t x; unfold Mach.writeMask; simp [hwm, hpg, hk, hc, word]
  have hz : ∀ x : Word, (x &&& word 0 ≠ 0) = False := by intro x; simp [word]
  simp only [hk, hc, hkey, hm, hz, hwm, true_or, if_true, decide_false, Bool.and_false, Bool.false_eq_true, if_false, Mach.grpTouch_other _ _ h3 hw]

/-- A row of the command table acts on the command in service that it names (R384). -/
theorem Mach.onCommand_serves {m : Mach} {v : Serving} {op : Nat} (f : Serving → Mach → Mach) (h : m.serves v) (ho : v.desc.op = op) :
    m.onCommand op f = f v m := by
  unfold Mach.onCommand
  rcases h with h | ⟨h, h'⟩
  · rw [h]; exact if_pos ho
  · rw [h, h']; exact if_pos ho

/-- A link row acts on the first accepted frame of its types, taken from the inbox. -/
theorem Mach.onFrame_first {m : Mach} {ts : List Nat} {f : LPort → Frame → Mach → Mach} {e : LPort × Frame}
    (h : m.link.inbox.find? (fun e => ts.contains e.2.typ) = some e) :
    m.onFrame ts f = f e.1 e.2 { m with link := { m.link with inbox := m.link.inbox.erase e } } := by
  unfold Mach.onFrame Mach.takeFrame; rw [h]; rfl

theorem Mach.onFrame_one {m : Mach} {t : Nat} {f : LPort → Frame → Mach → Mach} {e : LPort × Frame}
    (h : m.link.inbox.find? (fun e => e.2.typ == t) = some e) :
    m.onFrame [t] f = f e.1 e.2 { m with link := { m.link with inbox := m.link.inbox.erase e } } := by
  apply Mach.onFrame_first
  rw [← h]; congr 1; funext x; simp [List.contains, List.elem]; cases x.2.typ == t <;> rfl

theorem Mach.onCal_first {m : Mach} {ks : List Nat} {f : Frame → Mach → Mach} {e : LPort × Frame}
    (h : m.link.inbox.find? (fun e => e.2.typ == ttCAL && ks.contains (byteAt e.2.payload 0)) = some e) :
    m.onCal ks f = f e.2 { m with link := { m.link with inbox := m.link.inbox.erase e } } := by
  unfold Mach.onCal; rw [h]; rfl

end Sys2Proof.Machine
end

