-- ==== Sys2Proof/WellFormed.lean ====
section
/-! DEFINITION. Which commands are well formed: the data that a command carries has the shape that the spec gives it. The meanings
take every command, well formed or not. -/
namespace Sys2Proof

/-- A list names nothing twice. -/
def distinct {α : Type} [DecidableEq α] : List α → Bool
  | [] => true
  | x :: xs => !xs.contains x && distinct xs

/-- The fault block has the code (R297). -/
def faultCode (b : Blk) (c : Fin 32) : Bool := decide (c.val < Machine.faultCodes b.val)

/-- The calibration group has the line: the spare group has eight (R520). -/
def hasLine (grp : Fin 17) (line : Fin 16) : Bool := decide (grp.val < 16) || decide (line.val < 8)

/-- The checks: a measured supply in millivolts (R98), the SFDP signature (R114), the image header, payloads and tag (R128 to R130, R134),
lines and banks named once (R117), the blocks that have an UNLOCK (R37), the service buffer (R147), fault codes (R297), ownership
registers (R332), SPI headers, segments and cuts (R350, R353, R359), I2C counts (R362 to R365), node addresses (R401), causes
of R402, key slots K1 to K5 (R446) and calibration lines (R520). -/
def Instr.wellFormed : Instr → Bool
  | .vbakRise | .pgMainTrue | .pgMainLoss _ | .vbakLoss | .vcoreWarn | .vlinkBo | .bankStop _ | .bankRecovery _ => true
  | .bankClassify _ mv => decide (mv ≤ 65535)
  | .bankPresent _ | .vbakLow | .chgPrechargeStart | .chgPrechargeEnd | .chgCtlWrite _ _ | .chgCvReached | .chgTerminate
  | .chgRecharge | .chgPause | .chgResume | .chgFault | .chgVauxLoss | .cellPresenceCheck _ | .gaugeFull _ _ | .gaugeClrAvg _ _
  | .reserveUpdate _ _ | .resetNAssert | .coreResetRelease _ _ _ _ | .qualifyWindow _ | .flashWake => true
  | .sfdpDiscover t => t.sig.length == 4
  | .sfdpRetry => true
  | .imageHeaderCheck bytes => decide (32 ≤ bytes.length)
  | .sectionCrcCheck payload _ => payload.length % 4 == 0
  | .cmacFinalise tag => tag.length == 16
  | .recordApply | .configEnd | .apllLock | .apllLol | .rootToExpire => true
  | .prepareDone lines stamps => distinct (lines.map Prod.fst) && distinct (stamps.map Prod.fst)
  | .linkToExpire | .warm _ | .warmStopTimeout | .go _ | .enterOchre _ | .resume _ | .partRestart _ _ | .registerWrite _ _ _ => true
  | .unlockWrite _ blk _ => decide (blk.val ≤ 12)
  | .wideRead _ _ | .wideWrite _ _ | .wideDone _ | .cfgcrcCapture _ _ | .cfgcrcSweepEnd | .indLockReq _ _ _ | .indAddrWrite _ _ _
  | .indDataWrite _ _ _ _ | .indDataRead _ _ _ | .indCommit _ _ _ | .indDiscard _ _ _ | .indLockTimeout _ | .svcRead _
  | .svcErase _ | .svcProgram _ | .svcVerify _ | .svcClose _ => true
  | .svcOpDone _ bytes _ => decide (bytes.length ≤ 256)
  | .svcSessionTimeout | .refCfgWrite _ _ _ | .refActivity _ | .refLos _ | .refPhit _ _ | .freqGateEnd _ _ | .refQualDone _
  | .selCtlWrite _ _ | .wtrExpire | .switchEdge _ | .dpllEdge _ _ _ | .histValid _ | .holdLong | .ppsEdge _ _ | .ppsMiss
  | .chCtlStart _ | .chCtlStop _ | .chCtlTrig _ | .chCtlResync _ | .chFirstEdge _ | .cleanStopEnd _ | .stopWatchdog _
  | .burstLastEdge _ | .updatePoint _ | .phaseMoveDone _ | .engCheck _ _ _ | .selfchkRestore _ | .grpCfgWrite _ _ _
  | .groupEpoch _ | .vacancyHoldExpire _ | .grpLockReq _ _ _ | .grpLockCommit _ _ _ | .grpLockDiscard _ _ _ | .grpLockTimeout _
  | .bankVselWrite _ _ _ | .bondWrite _ _ _ | .pinFuncSwitch _ _ _ | .parkIntervalEnd _ | .pgpoWrite _ _ _ | .haltAssert
  | .cleanGateEffect _ | .haltRelease | .haltLatchClear _ _ | .monitorVisit _ _ | .monRequest _ _ => true
  | .escalationTimer b c _ => faultCode b c
  | .fltAck _ _ _ | .fltAckall _ _ | .firstFaultClear _ _ | .devFirstClear _ => true
  | .fltCfgWrite _ b c _ => faultCode b c
  | .fltInj _ _ | .govPass | .tsenseRead _ _ _ _ | .budgetWrite _ _ | .budgetStale | .budgetWait _ | .dwellEnd | .slotEnd _
  | .partResetRequest _ _ _ | .partEnWrite _ _ | .partClearDone _ => true
  | .ownershipWrite _ addr _ => addr.toNat % 4 == 0 && decide (0x080000 ≤ addr.toNat) && decide (addr.toNat < 0x0800A8)
  | .attach _ | .attUnbind _ _ | .tokenRefill _ => true
  | .spiHeader bytes => bytes.length == 8
  | .spiSegment words _ => decide (1 ≤ words.length) && decide (words.length ≤ 256)
  | .spiReadFrame cut => cut.all (fun c => decide (c.2 ≤ c.1) && decide (c.1 ≤ 256))
  | .spiAbort | .i2cWriteHeader _ _ | .i2cWriteGroup _ => true
  | .i2cReadWord _ bytes => decide (bytes ≤ 4)
  | .i2cAbort bytes hdr => if hdr then decide (bytes ≤ 4) else decide (4 < bytes) && bytes % 4 != 0
  | .i2cTimeout _ | .cmdPush _ _ | .cmdDispatch | .nop | .chStart | .chStop | .chResync | .chTrig | .govBudgetSet | .svcOpen
  | .retireClear | .hireOpen | .hireClose | .meterReport | .ledgerReport | .lockoutClear | .evqPop _ _ | .ldqPop _ _
  | .qHiwatClear _ _ _ | .linkDetect _ | .linkAlign _ => true
  | .trainingSetRx _ t _ => decide (t.node.toNat < 64) || t.node == 0x7F
  | .trainTimeout _ => true
  | .linkDown _ cause => decide (1 ≤ cause.val) && decide (cause.val ≤ 6)
  | .delayQuery | .dqAnswer _ _ | .delayResponse _ _ _ | .linkFrameRx _ _ _ _ | .linkAckRx _ _ | .linkNakRx _ _ | .linkBusyRx _ _
  | .linkRetryTimeout _ | .rreq | .rrsp | .lraGo _ _ | .transactionTimeout _ | .linkCmd | .linkCpl | .evtForward | .agack | .enum
  | .enumDone | .enumTimeout | .budgetSend | .budgetRx | .noticeRx | .calStart | .lnkCalWrite _ _ | .gridRx _ _ _ _ | .calResult
  | .calTimeout | .dupTrack | .keyProg _ _ | .keyBurnDone _ | .epochBurn _ => true
  | .lockoutExpire k => k.val != 0
  | .mtrCfgWrite _ _ _ | .meterSample | .meterTick | .hireExpire | .sentClrWrite _ _ | .tamperStrobe _ _ | .motionEdge
  | .motionHoldEnd | .wakeTimeout | .ledgerWrite | .ledgerSeal | .ldgCheck _ _ | .chainCheckDone | .selftestDue _ => true
  | .fdcalLineDone grp line _ _ => hasLine grp line
  | .fdcalSwap grp line => hasLine grp line
  | .laneTestStep _ | .qengPiece _ | .scrubWord _ | .linkLoopback _ _ _ | .teaselEntry | .tstRun _ _ | .apllTest _
  | .vlinkRecovery | .vcoreWarnClear | .vbakLowClear | .vddoRise _ | .oscillatorStart | .tapInstructionUpdate _ | .aonWriteArrive
  | .forwardResend _ | .busyWaitExpire _ | .tuneSlewDone => true
  | .keyFailAge k => k.val != 0
  | .rawEventAge b c _ => faultCode b c

end Sys2Proof
end

