-- ==== Sys2Proof/Tests/Slice0.lean ====
section
/-! SUPPORT. Tests of the model: ill-formed commands that each check of WellFormed refuses; single steps whose results the spec's
worked examples give; and for every statement a concrete machine and operands that meet its hypotheses. -/

namespace Sys2Proof.Tests
open Sys2Proof.Machine

set_option Elab.async false

/-! ## Ill-formed commands -/

theorem test_wf_supply : (Instr.bankClassify 0 65536).wellFormed = false ∧ (Instr.bankClassify 0 65535).wellFormed = true := by decide

theorem test_wf_signature : (Instr.sfdpDiscover ⟨[0x53], 1, true, true, 0, 0, none⟩).wellFormed = false := by decide

theorem test_wf_image_header : (Instr.imageHeaderCheck (List.replicate 31 0)).wellFormed = false := by decide

theorem test_wf_payload : (Instr.sectionCrcCheck [1, 2, 3] 0).wellFormed = false := by decide

theorem test_wf_tag : (Instr.cmacFinalise (List.replicate 15 0)).wellFormed = false := by decide

theorem test_wf_lines : (Instr.prepareDone [(1, 0), (1, 3)] []).wellFormed = false ∧
    (Instr.prepareDone [] [(2, 0), (2, 1)]).wellFormed = false := by decide

theorem test_wf_unlock : (Instr.unlockWrite ⟨.spi, true, 0, 0, 0, false⟩ 13 0).wellFormed = false := by decide

theorem test_wf_service_buffer : (Instr.svcOpDone false (List.replicate 257 0) none).wellFormed = false := by decide +kernel

theorem test_wf_fault_codes : (Instr.escalationTimer 0 31 0).wellFormed = false ∧ (Instr.rawEventAge 0 31 0).wellFormed = false ∧
    (Instr.fltCfgWrite ⟨.spi, true, 0, 0, 0, false⟩ 0 31 0).wellFormed = false := by decide

theorem test_wf_ownership : (Instr.ownershipWrite ⟨.spi, true, 0, 0, 0, false⟩ 0x080002 0).wellFormed = false ∧
    (Instr.ownershipWrite ⟨.spi, true, 0, 0, 0, false⟩ 0x07FFFC 0).wellFormed = false ∧
    (Instr.ownershipWrite ⟨.spi, true, 0, 0, 0, false⟩ 0x0800A8 0).wellFormed = false := by decide

theorem test_wf_spi : (Instr.spiHeader [0x0A]).wellFormed = false ∧ (Instr.spiSegment [] 0).wellFormed = false ∧
    (Instr.spiReadFrame (some (3, 4))).wellFormed = false ∧ (Instr.spiReadFrame (some (257, 4))).wellFormed = false := by decide

theorem test_wf_i2c : (Instr.i2cReadWord true 5).wellFormed = false ∧ (Instr.i2cAbort 5 true).wellFormed = false ∧
    (Instr.i2cAbort 4 false).wellFormed = false ∧ (Instr.i2cAbort 8 false).wellFormed = false := by decide

theorem test_wf_node : (Instr.trainingSetRx .up ⟨true, 0, 64, 0⟩ true).wellFormed = false ∧
    (Instr.trainingSetRx .up ⟨true, 0, 0x7F, 0⟩ true).wellFormed = true := by decide

theorem test_wf_link_cause : (Instr.linkDown .up 0).wellFormed = false ∧ (Instr.linkDown .up 7).wellFormed = false := by decide

theorem test_wf_slot : (Instr.lockoutExpire 0).wellFormed = false ∧ (Instr.keyFailAge 0).wellFormed = false := by decide

theorem test_wf_line : (Instr.fdcalLineDone 16 8 true 0).wellFormed = false ∧ (Instr.fdcalSwap 16 8).wellFormed = false ∧
    (Instr.fdcalSwap 15 15).wellFormed = true := by decide

/-- The table gives no command any bits. -/
theorem test_no_word_spells_a_command : Sys2Proof.decodeTableWord 32 0 = none ∧ Sys2Proof.decodeTableWord 0 0 = none := by decide

/-! ## Machines -/

/-- The machine after one command, where it answers a next state. -/
def did (i : Instr) (m : Mach) : Option Mach :=
  match exec i { m := m, pending := [] } with
  | .next s => some s.m
  | _ => none

/-- A reading of the machine after one command. -/
def shows {α : Type} (i : Instr) (m : Mach) (f : Mach → α) : Option α := (did i m).map f

/-- A machine in a device state with partitions 0 and 1 ACTIVE and bound on the SPI port by key slots 1 and 2. -/
def up (d : Dev) : Mach :=
  ((((({ dev := d, boot := { held := false, clocks := true }, pwr := { pgMain := true } } : Mach).put (PART_STAT.STATE 0) 1).put
    (PART_STAT.STATE 1) 1).setReg (0x080328 + 32 * instSpan) 3).put ((ATT_KEY.KEY 0).inst 32) 1).put ((ATT_KEY.KEY 1).inst 32) 2

/-- A machine in RUN. -/
def run : Mach := up .run

/-- An access of partition 0 over SPI. -/
def h0 : Acc := ⟨.spi, true, 0, 0, 0, false⟩

/-- An access of partition 1 over SPI. -/
def h1 : Acc := ⟨.spi, true, 1, 0, 0, false⟩

/-- An access of nobody. -/
def nobody : Acc := ⟨.i2c, false, 0, 0, 0, false⟩

/-- A machine whose key slot `k` holds the key of zeros. -/
def authed (k : Nat) : Mach := { run with sec := { slots := [(k, { state := 1, key := List.replicate 16 0 })] } }

/-- The machine with the accessor's arm of a block. -/
def armed (a : Acc) (addr : Nat) (m : Mach) : Mach := m.setArm (m.bind a) addr 1

/-- A machine in RUN with bank `k` present and of class `c`, bank 0 to be classified, bank 1 to be found present. -/
def bank (k c : Nat) : Mach := { run with pwr := { run.pwr with
    pres := BitVec.ofNat 16 (2 ^ k), cls := [(k, c)], classDue := 1, presDue := 2, stopped := 1 } }

/-- A machine in RUN with the charger in state `k`, a cell that ends its charge, and the configuration's current `icc`. -/
def chg (k icc : Nat) : Mach := ((((run).put CHG_STAT.STATE k).put CHG_CFG.CELL_TYPE 3).put
    CHG_CFG.ICC icc).put CHG_CFG.TMAX 63

/-- A machine whose first sensor reads `t` in 0.1 °C. -/
def warm (t : Nat) (m : Mach) : Mach := (m.put (GOV_TEMP.VALID 0) 1).put (GOV_TEMP.T 0) t

/-- A machine in CONFIG before the record of chapter 06's worked example. -/
def config : Mach := { up .config with img := { secs := [⟨1, 0, false, 0, 12⟩], staged := [1, 1, 0, 0, 8, 3, 0, 0, 3, 0x14, 0xC8, 0] } }

/-- The image header of chapter 06's worked example. -/
def header : List Byte := [0x56, 0x58, 0x54, 0x4B, 0x01, 0x00, 0x20, 0x00, 0x54, 0x00, 0x00, 0x00, 0x02, 0x00, 0x00, 0x00,
    0x64, 0x25, 0x00, 0x00, 0x03, 0x00, 0x01, 0x00, 0x00, 0xD7, 0x73, 0x2D, 0x00, 0x00, 0x00, 0x00]

/-- A machine in the BOOT state, at a step, or with the core reset asserted. -/
def boot (step : Nat) (held : Bool) : Mach := { up .boot with boot := { held := held, step := step } }

/-- The reset's oscillator has started, one good window has passed, and NOCLK has counted `k`. -/
def osc (k : Nat) (q : Bool) : Mach := { boot 0 true with boot := { osc := true, goodWin := 1, noclk := k, qualified := q } }

/-- A discovery that passes every check. -/
def sfdp : Sfdp := ⟨[0x53, 0x46, 0x44, 0x50], 1, true, true, 0, 0, some 0x20⟩

/-- A machine in the Read step with one section of four bytes. -/
def read (second : Bool) : Mach := { boot 3 false with
    img := { staged := [0], secs := [⟨1, 0, false, 32, 4⟩], tableRead := true, second := second } }

/-- A machine in CONFIG with no record left, or in OCHRE's neighbourhood with the APLL in state `k`. -/
def root (d : Dev) (k : Nat) : Mach := (up d).put ROOT_STAT.APLL k

/-- A machine whose sweep has taken every word with the CRC 5, `ref` being the reference, a capture under way or not. -/
def sweep (cap fresh : Bool) (en ref : Nat) : Mach :=
    ((({ run with crc := { capture := cap, fresh := fresh, pos := 10000, run := 0xFFFFFFFA } }).put CFGCRC_CTL.EN en).put CFGCRC_STAT.STALE
      0).put CFGCRC_REF.REF ref

/-- A machine whose window is held by partition 0 and points at a word. -/
def held (w : Win) (off : Nat) : Mach := (run.setWin w { holder := some 0 }).put (IND_ADDR.OFF (winBase w)) off

/-- A machine with one staged word in the held window. -/
def staged (w : Win) (e : Staged) : Mach := run.setWin w { holder := some 0, staged := [e] }

/-- The machine in which that word is committed. -/
def commits (e : Staged) : Mach :=
    ((((staged .chan e).unmarked.put (IND_CTL.AINC 0x02E000) 0).setWin .chan { holder := some 0 })).setArm (.part 0 1) 0x02E008 0

/-- A machine that measures, source `i` in state `st`. -/
def source (i st : Nat) : Mach := (run.put ROOT_STAT.APLL 2).put (REF_STAT.STATE i) st

/-- Its gate has ended, and the next one has begun. -/
def gated (i : Nat) (m : Mach) : Mach := (m.reach (.gate i) (m.gateLen i)).gateStart i

/-- Source 0 configured at the least feedback divider, or below it. -/
def divided (fb : Nat) : Mach := ((run.put (REF_FB.FB 0) fb).put (REF_DIV.RDIV 0) 1).put (REF_CFG.MODE 0) 1

/-- Source 0 followed, the DPLL in state `d`, a switch under way or not. -/
def following (i d sw : Nat) : Mach := (((source i 3).put SEL_STAT.SRC i).put ROOT_STAT.DPLL d).put SEL_STAT.SWITCHING sw

/-- Source 0 qualified and pending, its wait-to-restore timer running. -/
def waiting : Mach := ((((source 0 3).put SEL_STAT.SRC 15).put SEL_STAT.PEND 0).put SEL_STAT.WTR_LEFT 1).put (REF_CFG.PRIO 0) 1

/-- A machine in RUN with every bank present and accepted, and channel `n` configured with N = 1024 and H = 512. -/
def clocked (n : Nat) : Mach :=
    (((({ run with pwr := { run.pwr with pres := 0xFFFF } } : Mach).setReg 0x040080 0xFFFF).tput n CH_PERIOD.N 1024).tput n CH_HIGH.H 512)

/-- That channel in state `st` of mode `mode`. -/
def chan (n st mode : Nat) : Mach := ((clocked n).tput n CH_STAT.STATE st).tput n CH_CTL.MODE mode

/-- That channel with one-shot pulses as given. -/
def pulsing (n : Nat) (p t : Option Nat) : Mach := (chan n 2 2).updCh n (fun c => { c with n := 64, h := 32, pulse := p, trigHeld := t })

/-- Channel 255 STOPPING after a host stop, its final low phase ending at `t`. -/
def ending (t : Nat) : Mach := ((chan 255 3 0).tput 255 CH_STAT.CAUSE csHOST).updCh 255 (fun c => { c with stopEnd := t })

/-- Channel 255 STOPPING after a host stop in a burst of one edge, the latest edge being at 0 and the period 512 PHS cycles. -/
def bursting (t : Nat) : Mach :=
    (((chan 255 3 1).tput 255 CH_STAT.CAUSE csHOST).tput 255 CH_BURST.COUNT 1).updCh 255 (fun c => { c with n := 512, stopEnd := t })

/-- Channel `n` in RUN with committed words that wait for the update point. -/
def shadowed (n h : Nat) : Mach := ((chan n 2 0).tput n CH_HIGH.H h).updCh n (fun c => { c with n := 1024, h := 512, shadow := true })

/-- The machine at the update point of channel 255. -/
def updated (m : Mach) : Mach := (m.advTo ((m.updateAt 255 + 63) / 64)).gateSettle 255

/-- Group 31 as its lock and commits stand. -/
def group (q : Grp) : Mach := run.setGrp 31 q

/-- A machine whose channel 255 is at a step of a pin change. -/
def switch (k : Nat) : Mach := run.updCh 255 (fun c => { c with swStep := k })

/-- The park interval of channel 255 has ended. -/
def parked (m : Mach) : Mach :=
    (((m.advTo (m.ch 255).parkEnd).updCh 255 (fun c => { c with swStep := 0 })).tput 255 CH_PIN.SWBUSY 0).tput 255 CH_PIN.SWDONE 1

/-- A machine whose HALT_N pin is asserted or latched, pin 255 gated in mode `mode`. -/
def halted (a l mode : Nat) : Mach := ((switch 2).put HALT_STAT.ASSERTED a |>.put HALT_STAT.LATCHED l).put (HALT_MODE.MODE 255) mode

/-- Channel 255 runs, its latest edge at 0 and its high time 512 PHS cycles long, and the decision of its CLEAN gate fell at 0. -/
def gating : Mach := (((chan 255 2 0).put HALT_STAT.ASSERTED 1).put (HALT_MODE.MODE 255) 1).updCh 255 (fun c =>
    { c with n := 1024, h := 512, cleanGate := some 0 })

/-- Channel 0 in RUN and visited, its window undisturbed, the engine's check passing. -/
def seen : Mach := ((((chan 0 2 0).tput 0 CH_MON.MEN 1).tput 0 CH_STAT.SELFCHK 1).put MON_CTL.EN 1).updCh 0 (fun c => { c with
    n := 1024, h := 512, winOk := true })

/-- A reading of no edge in a window of no time. -/
def reading : Meas := ⟨0, none, none, none, 0, none⟩

/-- Fault line 0 of block 0 asserted for partition 0, its timer ending at 5. -/
def asserted : Mach := ((run.setReg 0x060000 1).put ((FLT_CUR.EL 0 0).inst 0) 0).setLine 0 0 0 { timer := some 5, raws := [0] }

/-- Line 0 of block 0 with its last end taken along at `t`. -/
def joined (t : Nat) : Mach := run.setLine 0 0 0 { joined := some t }

/-- The machine at that time. -/
def atEnd (m : Mach) : Mach := m.advNow 5

/-- A machine whose access of partition 0 is bound by the owner key and has the arm of a block. -/
def owner (addr : Nat) : Mach := armed h0 addr run

/-- An ATTACH message of the SPI port for partition `p` and key slot `k`, with its tag under the key of zeros. -/
def attachMsg (p k : Nat) : List Byte :=
    let b : List Byte := [0xA7, BitVec.ofNat 8 p, 0, BitVec.ofNat 8 k, 1, 0, 0, 0, 0, 0, 0, 0, 0, 0, 0, 0]
    b ++ cmac (List.replicate 16 0) b

/-- That message staged by the SPI port of a machine with key slots 0 to 5 allowed for partition 0. -/
def attaching (b : List Byte) : Mach := ((authed 1).setReg 0x080400 0x3F).setBytes (0x080300 + 32 * instSpan) b

/-- A machine in an SPI frame, reading or writing, of `n` words with a running CRC. -/
def framed (rd : Bool) (n : Nat) : Mach := { run with spi := { phase := 1, rd := rd, len := n, crc := 0xF9A4 } }

/-- A machine in an I2C write transfer. -/
def sending : Mach := { run with i2c := { writing := true } }

/-- A header with its CRC. -/
def spiHead (b : List Byte) : List Byte := b ++ toLE 2 (crc16 b)

/-- A command of opcode `op` with the tag 1. -/
def cmd (op : Nat) (args : List Byte) : Desc := { bytes := padTo 64 ([BitVec.ofNat 8 op, 0, 0, 0, 1, 0, 0, 0] ++ args) }

/-- That command in service of partition 0, at the step `done`. -/
def service (op done : Nat) (args : List Byte) : Serving := { part := 0, urgent := false, desc := cmd op args, done := done }

/-- A machine with the command in service. -/
def serving (v : Serving) (m : Mach) : Mach := { m with normal := some v }

/-- Partition 0's bucket of `k` tokens has taken one more. -/
def refilled (k : Nat) : Mach :=
    let m := run.put (PART_STAT.TOKENS 0) k
    ((m.reach (.token 0) (Nat.max 1 (m.f (PART_SVC.BRATE 0)) * usec)).stopTimer (.token 0)).put (PART_STAT.TOKENS 0) (k + 1)

/-- A machine with a command in partition 0's urgent or normal queue. -/
def queued (q op : Nat) : Mach := (run.setCq q { cmds := [cmd op []] }).put (PART_STAT.TOKENS 0) 1

/-- With an urgent command waiting, one of `k` tokens of partition 0 is taken. -/
def spent (k : Nat) : Mach := ((queued 1 0x11).put (PART_STAT.TOKENS 0) k).put (PART_STAT.TOKENS 0) (k - 1)

/-- The staged descriptor of partition 0 over SPI is a NOP. -/
def pushing : Mach := run.setReg (0x090400 + 1200 * instSpan) 0x00000001

/-- A hire session of number 7 runs. -/
def hired : Mach := (run.put HIRE_STAT.STATE 1).put HIRE_SES.SES 7

/-- A machine in RUN with the port in PSTAT.STATE `st`. -/
def port (p : LPort) (st : Nat) : Mach := run.setLstate p st

/-- The hop delay has been measured as `d`, and it is time for a step towards it. -/
def tracked (d : Nat) : Mach := (((run.put LNK_DLY.DVALID 1).put LNK_DLY.D_UP d).reach .dup (100 * msec)).startTimer .dup

/-- The node N0. -/
def anchor (m : Mach) : Mach := { m with boot := { m.boot with straps := 4 } }

/-- A frame of a type with a payload, from node 1. -/
def frame (t : Nat) (b : List Byte) : Frame := { typ := t, tid := 0, dst := 0, bcast := false, src := 1, hops := 0, payload := b }

/-- A machine with a frame accepted by a port. -/
def got (p : LPort) (f : Frame) (m : Mach) : Mach := { m with link := { m.link with inbox := [(p, f)] } }

/-- The UP port in UP with frames that wait for an acknowledgement, after `r` resendings. -/
def window (n r : Nat) : Mach := { port .up 4 with link := { up := {
    unack := (List.range n).map (fun k => { seq := k, frame := frame 1 [], at' := 0 }), retries := r } } }

/-- A machine enumerated as node `k` of two, both ports UP. -/
def ring (k : Nat) : Mach := (((port .up 4).setLstate .down 4).put LNK_ID.ENUM 1 |>.put LNK_ID.NODE k).put LNK_ID.COUNT 2

/-- A frame of no payload as it arrives, with its CRC. -/
def wire (b : List Byte) : List Byte := b ++ toLE 4 (crc32c b)

/-- A machine with an outstanding transaction, of a remote access or of a forwarded command. -/
def waits (lra queue : Option Nat) (m : Mach) : Mach := { m with link := { m.link with txns := [⟨0, 1, 0, lra, queue⟩] } }

/-- A node that waits for the grid. -/
def loading : Mach := { ((((ring 1).put LNK_CSTAT.RUNNING 1).put SEL_STAT.SRC 9).put ROOT_STAT.DPLL 2).put LNK_DLY.DVALID 1 with
    link := { gl := true } }

/-- A machine with a burn of slot `k` under way. -/
def burning (k : Nat) : Mach := { run with sec := { burning := some (k, []) } }

/-- A machine in BOOT with the epoch at `n`. -/
def epoch (n : Nat) : Mach := { boot 1 false with sec := { ones := n } }

/-- A machine with meter group 31 in STATE `st`. -/
def metered (st en : Nat) : Mach := (run.put (MTR_STAT.STATE 31) st).put (MTR_CFG.EN 31) en

/-- An ACTIVE group 31 with its samples. -/
def sampled (qual run_ : Nat) (prev : Bool) : Mach := (metered 1 1).setMtr 31 { qual := qual, run := run_, prev := prev }

/-- A machine whose first tamper input stands low and has been sampled once at `b`. -/
def strobed (b : Bool) (live : Nat) : Mach :=
    ({ run.setAw 0x2008 0 with sent := { last := [b, false, false, false], same := [1, 0, 0, 0] } }).put SENT_STAT.TLIVE live

/-- A machine whose motion input is looked at. -/
def moving (hold : Bool) : Mach := { run.setAw 0x2008 0x200 with sent := { hold := hold } }

/-- The ledger with one entry waiting, the writer at slot `i`. -/
def entering (i : Nat) : Mach := ({ run with ldgBuf := [⟨word 0x10, none, 0, 0⟩] }).put LDG_STAT.WR i

/-- A machine in RUN with the APLL locked and the activity in a slot. -/
def testing (x : Activity) : Mach := { run.put ROOT_STAT.APLL 2 with gov := { slots := [x] } }

/-- The calibration of line 15 of group 15 waits for a low time of channel 255, whose latest edge was at 0. -/
def swapping : Mach := ({ chan 255 2 0 with gov := { slots := [.fdcal 15] } } : Mach).updCh 255 (fun c => { c with n := 1024, h := 512 })
    |>.setPass 15 { next := 15, ready := some 0 }

/-- A machine with a write of time of day in partition 16's mailbox. -/
def todWrite : Mach := (run.setWide 16 { busy := true, wr := true, cls := 1, lo := 5, who := 16 }).put (WIDE_STAT.BUSY.inst 16) 1

/-! ## Worked examples of the spec -/

/-- The check value of R352, and the header and data of chapter 15's write. -/
theorem test_crc16 : crc16 [0x31, 0x32, 0x33, 0x34, 0x35, 0x36, 0x37, 0x38, 0x39] = 0x29B1 ∧
    crc16 [0x0A, 0x80, 0x04, 0x00, 0x07, 0x00] = 0xF9A4 ∧ [(0x18 : Byte), 0, 0, 0].foldl crc16Byte 0xF9A4 = 0x9302 := by decide +kernel

/-- Chapter 06: the section's twelve bytes. -/
theorem test_crc32c : crc32c [1, 1, 0, 0, 8, 3, 0, 0, 3, 0x14, 0xC8, 0] = 0x62C048C2 := by decide +kernel

/-- FIPS 197's example of AES-128, and SP 800-38B's CMAC of the empty message, the functions that R133 and R442 name. -/
theorem test_aes : cmac [0x2B, 0x7E, 0x15, 0x16, 0x28, 0xAE, 0xD2, 0xA6, 0xAB, 0xF7, 0x15, 0x88, 0x09, 0xCF, 0x4F, 0x3C] [] =
    [0xBB, 0x1D, 0x69, 0x29, 0xE9, 0x59, 0x37, 0x28, 0x7F, 0xA3, 0x7D, 0x12, 0x9B, 0x75, 0x67, 0x46] := by decide +kernel

/-- Chapter 06: the DEVICE record sets BOOT_CFG. -/
theorem test_record_apply : shows .recordApply config (fun m => m.reg 0x000308) = some 0x00C81403 := by decide +kernel

/-- Chapter 15: the segment commits GOV_BUDGET, and the answer is SYNC with the trailer of one word. -/
theorem test_spi_segment : shows (.spiSegment [0x00000018] 0x9302) { run with spi :=
      { phase := 1, tagv := true, part := 0, addr := 0x070004, len := 1, crc := 0xF9A4 } }
    (fun m => (m.f GOV_BUDGET.B, m.reg 0x000600, m.spi.out)) = some (0x18, 0x00000100, [0xA5, 0x00, 0x00, 0x01, 0x00, 0xFE]) := by decide +kernel

/-- Chapter 15: an unbound I2C read of STRAP_STAT, and the pointer after it. -/
theorem test_i2c_read : shows (.i2cReadWord true 4) (({ run with boot := { run.boot with straps := 0 } } : Mach).put I2C_PTR.ADDR 0x140)
    (fun m => (m.i2c.out, m.reg 0x000614)) = some (0x00005800, 0x00000144) := by decide +kernel

/-- CH0 to CH3 of P1 in RUN as 16 kHz carriers. -/
def carriers : Mach :=
  forN 4 (fun n t => ((t.put (OWN_CH.P n) 1).tput n CH_STAT.STATE 2).updCh n (fun c => { c with n := 75000, h := 37500 })) run

/-- The urgent stop of CH0 to CH3 in service for P1. -/
def stopping : Mach :=
  { carriers with urgent := some { part := 1, urgent := true, desc := { bytes := padTo 64 [0x11, 0, 0, 0, 0x42, 0, 0, 0, 0x0F] } } }

/-- Chapter 16: the completion of the urgent stop of CH0 to CH3 by P1, and what its channels do. -/
theorem test_ch_stop_record : shows .chStop stopping (fun m => ((m.rq 6).recs.map (fun r => (getF r.w0 0 8, r.w2, r.w3)), m.chst 0, m.chst 3)) =
    some ([(1, 0x00420011, 4)], 3, 3) := by decide +kernel

/-- Chapter 13: the costs of a carrier, a DC-DC clock, a reference and a sampling clock at 3.3 V. -/
theorem test_costs :
    [(75000, 1), (120000, 3), (12000, 1), (60, 2), (293, 6)].map (fun x =>
      ((({ run with pwr := { run.pwr with cls := [(0, 3)] } } : Mach).tput 0 CH_PERIOD.N x.1).tput 0 CH_GOV.LCLASS x.2).cost 0) =
    [963, 963, 976, 5195, 4191] := by decide +kernel

/-- Chapter 13: the shares after GOV_BUDGET_SET with B = 17, and GOV_BEFF. -/
theorem test_budget_set : shows .govBudgetSet
      (serving (service 0x30 0 [17]) ((forN 16 (fun p t => t.put (GOV_SHARE.SHARE p) ([1, 2, 1, 16, 2].getD p 0)) run).put GOV_STRES.RES 2))
      (fun m => ((List.range 5).map m.share, m.reg 0x07001C)) = some ([6818, 13636, 6818, 109090, 13636], 0x000F0011) := by decide +kernel

/-- Chapter 18: the fifth failure under K1 starts a lockout of 10 s. -/
theorem test_lockout : ((((authed 1).setFails 1 (60, [0, 0, 0, 0])).authCheck 1 1 [1] [] 0).1.lockWord 1,
    ((authed 1).authCheck 1 1 [1] [] 0).1.failCount 1) = (0x000A0010, 1) := by decide +kernel

/-- Chapter 18: a counter above the stored one passes, and a replay of it does not. -/
theorem test_replay :
    let m := ({ authed 1 with sec := { (authed 1).sec with ones := 3 } }.setCtr 1 0x03000107).authCheck 1 0x03000108 [1]
      (cmac (List.replicate 16 0) [1]) 0
    (m.2, m.1.storedCtr 1) = (0, 0x03000108) ∧
    (m.1.authCheck 1 0x03000108 [1] (cmac (List.replicate 16 0) [1]) 0).2 ≠ 0 ∧
    (m.1.authCheck 1 0x03000108 [1] (cmac (List.replicate 16 0) [1]) 0).1.lockWord 1 = 0 := by decide +kernel

/-- Chapter 12: history entries of MON_RETIRE and MON_PRES, and the HEAD of an escalation by timer. -/
theorem test_history : entryWords 0x010 { blk := 5, code := 7, src := 19, pay := 8, part := 3, owned := true, inj := false } 2 false false false
      0x12A05F200 = [0x88E13010, 8, 0x2A05F200, 0x03000001] ∧
    (entryWords 4 { blk := 0, code := 0, src := 0, pay := 0, part := 0, owned := false, inj := false } 3 true true false 0).head? =
      some 0xBC000004 := by decide +kernel

/-- Chapter 12: BANK_BO of bank 3 at SEQ 2, in the global block's history and in DEV_FIRST_BLK. -/
theorem test_bank_bo : shows (.bankStop 3) ({ bank 3 3 with ts := 0x12A05F200 }.put (FLT_SEQ.NEXT 0) 2)
    (fun m => (m.reg 0x060120, m.reg 0x060124, m.reg 0x06012C)) = some (0x88603002, 0x00000300, 0x00000001) := by decide +kernel

/-- Chapter 17: the token that N2 forwards to N3, and N2's address. -/
theorem test_enum : shows .enum (got .up { frame ttENUM [2, 0x14, 0xC8, 0] with tid := 1, src := 0, hops := 2 } ((port .up 4).setLstate .down 4))
    (fun m => (m.node, (m.lp .down).unack.map (fun e => (e.seq, e.frame)), (m.lp .down).sent)) =
    some (2, [(0, { typ := 8, tid := 1, dst := 0, bcast := false, src := 0, hops := 3, payload := [3, 0x14, 0xC8, 0] })],
      [[0x01, 0x01, 0x00, 0x00, 0x08, 0x03, 0x00, 0x00, 0x03, 0x14, 0xC8, 0x00, 0xC2, 0x48, 0xC0, 0x62]]) := by decide +kernel

/-- Chapter 17: N1's hop delay after 1,024 samples of 9,216 fine steps. -/
theorem test_hop_delay : shows (.delayResponse 0 105216 96000) { port .up 4 with
      link := { dqs := [0], rtts := List.replicate 1023 9216, up := { k := some 0 } } } (fun m => m.reg 0x0A0020) = some 0x80001200 := by decide +kernel

/-- Chapter 08: the first edge of the carrier, the short way of its move, and the modulation period of the spread reference. -/
theorem test_edges : edgeFrom 120000 0 (64 * (36000010 + 64)) = 64 * 36120000 ∧ moveDelta 120000 (64 * 80000) 0 = -2560000 ∧
    mper 48 31 = 808 := by decide +kernel

/-- Chapter 07: at an accepted edge the subsecond count is at 32,750; the counts are set at the next AON32 edge. -/
theorem test_time_of_day :
    let m := ({ run with tod := 7, sub := 32750 } : Mach).todAlign
    let t := m.advNow (aonAt 1)
    (t.tod, t.sub, m.f PPS_STAT.TOD_ERR, m.ldgBuf.length) = (8, 0, 0xFFEE, 0) := by decide +kernel

/-- Chapter 04: the reserve of the lithium-manganese cell when full, and after 720 h. -/
theorem test_reserve : [1100000, 912800].map (fun q => (({ ((run.setAw 0x2000 0x1A002AF8).put CHG_CFG.CELL_TYPE 2) with
      pwr := { run.pwr with q := q, cellWritten := true } } : Mach).showReserve).f RESERVE.DAYS) = [176, 146] := by decide +kernel

/-- Chapter 04: the charge of the supercapacitor at 2.60 V is 78.33 µAh. -/
theorem test_charge : ((run.setAw 0x2000 0x1A0001D6).put CHG_CFG.CELL_TYPE 1).chargeAfter 2600 0 = 7833 := by decide +kernel

/-- Chapter 10: the park interval of a switch from PGPO to the 20 MHz clock. -/
theorem test_park_interval : tPark 0 60 = 120 := by decide

/-- Chapter 19: M0's record in the meter report. -/
theorem test_meter_record : ((((run.setReg 0x0C0000 7).setAw 0 0x01B777C1).setAw 8 400).setAw 12 5210).mtrRecord 0 =
    [0x00, 0x07, 0xC1, 0x77, 0xB7, 0x01, 0x00, 0x90, 0x01, 0x00, 0x00, 0x00, 0x5A, 0x14, 0x00, 0x00] := by decide +kernel

/-! ## Witnesses: a machine and operands for the hypotheses of each statement -/

theorem witness_SupplyMoves :
    State.reset.m.dev = .off ∧ State.reset.m.pwr.pgMain = false ∧ (up .woad).dev = .woad ∧ run.powered = true := by decide +kernel

theorem witness_SupplyWarnings :
    run.powered = true ∧ run.pwr.coreWarn = false ∧ (up .woad).powered = false ∧ (up .woad).pwr.coreWarn = false ∧
    ({ run with pwr := { coreWarn := true } } : Mach).pwr.coreWarn = true ∧ State.reset.m.dev = .off ∧ run.dev ≠ .off ∧ run.dev ≠ .woad ∧
    run.pwr.vbakLow = false ∧ (up .woad).dev = .woad ∧ (up .woad).pwr.vbakLow = false ∧
    ({ run with pwr := { vbakLow := true } } : Mach).pwr.vbakLow = true ∧ run.pwr.vlinkOk = true ∧
    ({ run with pwr := { vlinkOk := false } } : Mach).pwr.vlinkOk = false ∧ run.running = true ∧ (up .ochre).dev = .ochre ∧
    (up .config).running = false ∧ (up .config).dev ≠ .ochre := by decide +kernel

theorem witness_BankSupplies :
    (bank 15 3).present 15 = true ∧ (bank 15 3).powered = true ∧ (bank 15 3).bankClass 15 ≠ 1 ∧ (bank 15 1).bankClass 15 = 1 ∧
    ({ bank 15 3 with dev := .woad } : Mach).present 15 = true ∧ ({ bank 15 3 with dev := .woad } : Mach).powered = false ∧
    (bank 15 3).pwr.stopped.getLsbD 0 = true ∧ (bank 15 3).pwr.stopped.getLsbD 15 = false ∧ (bank 15 3).present 0 = false ∧
    (bank 15 3).pwr.classDue.getLsbD 0 = true ∧ (bank 15 3).pwr.presDue.getLsbD 1 = true ∧ (bank 15 3).pwr.classDue.getLsbD 1 = false ∧
    (bank 15 3).boot.held = false ∧ ({ bank 15 3 with dev := .woad } : Mach).pwr.presDue.getLsbD 1 = true := by decide +kernel

theorem witness_ChargerStates :
    (chg 0 1).f CHG_STAT.STATE = 0 ∧ (chg 1 1).f CHG_STAT.STATE = 1 ∧ (chg 1 1).f CHG_CTL.EN = 0 ∧ (chg 2 1).f CHG_STAT.STATE = 2 ∧
    (chg 3 1).f CHG_STAT.STATE = 3 ∧ (chg 3 1).cellEnds = true ∧ (chg 3 1).f CHG_CFG.ITERM ≠ 3 ∧ (chg 3 1).f CHG_CFG.TMAX ≠ 0 ∧
    (chg 4 1).f CHG_STAT.STATE = 4 ∧ (warm 1051 (chg 2 1)).f CHG_STAT.STATE = 2 ∧ (warm 1051 (chg 2 1)).tmax = some 1051 ∧
    (warm 949 (chg 5 1)).f CHG_STAT.STATE = 5 ∧ (warm 949 (chg 5 1)).tmax = some 949 := by decide +kernel

theorem witness_CellAndGauge :
    run.byP0 h0 ∧ (chg 1 200).byP0 h0 ∧ (1 : Word).getLsbD 0 = true ∧ ((chg 1 200).begun h0 0x000220).reg 0x000220 = 0 ∧
    (((chg 1 200).begun h0 0x000220).store 0x000220 (blend 0 1 1)).chgValid = true ∧
    (((chg 1 200).begun h0 0x000220).store 0x000220 (blend 0 1 1)).f CHG_STAT.STATE ≤ 1 ∧
    (((chg 1 201).begun h0 0x000220).store 0x000220 (blend 0 1 1)).chgValid = false ∧
    (((chg 2 1).put CHG_CTL.EN 1).begun h0 0x000220).reg 0x000220 = 1 ∧ ((chg 2 1).put CHG_CTL.EN 1).byP0 h0 ∧
    (0 : Word).getLsbD 0 = ((chg 1 200).begun h0 0x000220 |>.reg 0x000220).getLsbD 0 ∧ (run.begun h0 0x000234).f CHG_CFG.CELL_TYPE = 0 ∧
    ((chg 1 200).begun h0 0x000234).f CHG_CFG.CELL_TYPE ≠ 0 ∧ (0 : Word).getLsbD 1 = false ∧
    ((({ chg 2 1 with pwr := { noCell := true } } : Mach).reach .cell (60 * second)).startTimer .cell).pwr.noCell = true ∧
    (((chg 4 1).reach .cell (60 * second)).startTimer .cell).pwr.noCell = false ∧
    ({ chg 2 1 with pwr := { noCell := true } } : Mach).f CHG_STAT.STATE = 2 ∧ (chg 4 1).f CHG_STAT.STATE = 4 ∧ run.dev ≠ .off := by decide +kernel

theorem witness_ClockAndReset :
    run.powered = true ∧ run.boot.held = false ∧ (osc 0 false).dev = .boot ∧ (osc 0 false).boot.held = true ∧
    (osc 0 false).boot.osc = true ∧ (osc 0 false).boot.qualified = false ∧ (11841 ≤ 11841 ∧ 12573 ≤ 12573) ∧
    (11840 < 11841 ∧ 12573 < 12574) ∧ (osc 1 false).boot.noclk ≠ 0 ∧ (osc 1 true).dev = .boot ∧ (osc 1 true).boot.qualified = true ∧
    (osc 1 true).boot.held = true ∧ (osc 1 true).boot.xoOpen = true ∧ (osc 1 true).boot.xoLatch ≠ some (!false) ∧
    ({ osc 1 true with boot := { (osc 1 true).boot with xoLatch := some true } } : Mach).boot.xoLatch = some (!false) ∧
    ({ osc 1 true with boot := { (osc 1 true).boot with xoLatch := some true, xoOpen := false } } : Mach).boot.xoLatch ≠ some (!true) ∧
    ({ run with boot := { run.boot with straps := 16 } } : Mach).boot.straps.getLsbD 4 = true ∧ run.boot.straps.getLsbD 4 = false := by decide +kernel

theorem witness_BootSteps :
    (boot 1 false).inBoot 1 = true ∧ ({ boot 2 false with boot := { held := false, step := 2, woken := true } } : Mach).inBoot 2 = true ∧
    sfdpCode sfdp = none ∧ ({ boot 2 false with sec := { slots := [(0, { state := 1 })] } } : Mach).keyValid 0 = true ∧
    sfdpCode { sfdp with sig := [] } = some 1 ∧ (boot 2 false).boot.wakes < 2 ∧ sfdpCode { sfdp with major := 2 } = some 2 ∧
    (boot 2 false).inBoot 2 = true ∧ (boot 2 false).boot.woken = false ∧ (boot 3 false).inBoot 3 = true ∧
    (boot 3 false).img.tableRead = false ∧ (boot 3 false).img.staged = [] ∧ headerError (padTo 32 []) = some 0 ∧
    headerError (padTo 32 header) = none ∧ (read false).inBoot 3 = true ∧
    (read false).img.secs[(read false).img.next]? = some ⟨1, 0, false, 32, 4⟩ ∧ crc32c (padTo 4 []) = 0x48674BC7 ∧
    (read false).img.second = false ∧ (read true).img.second = true ∧ crc32c (padTo 4 []) ≠ 0 ∧
    ({ boot 3 false with img := { tableRead := true }, aon := [(0x3040, 256)] } : Mach).epochDone = true ∧
    ({ boot 3 false with img := { tableRead := true }, aon := [(0x3040, 256)] } : Mach).img.secs.length ≤ 0 ∧
    ({ boot 3 false with img := { tableRead := true }, aon := [(0x3040, 256)] } : Mach).todo = [] ∧
    cmac (List.replicate 16 0) [0] = padTo 16 (cmac (List.replicate 16 0) [0]) ∧ cmac (List.replicate 16 0) [0] ≠ padTo 16 [] := by decide +kernel

theorem witness_ConfigAndArming :
    (up .config).dev = .config ∧ (config.imgSeek 66).img.secs[(config.imgSeek 66).img.sec]? = some ⟨1, 0, false, 0, 12⟩ ∧
    ((config.imgSeek 66).imgRecord Mach.settle ⟨1, 0, false, 0, 12⟩ true).isSome = true ∧
    ((config.imgSeek 66).imgRecord Mach.settle ⟨1, 0, false, 4, 8⟩ true).isNone = true ∧
    ((up .config).imgSeek 66).img.secs.length ≤ ((up .config).imgSeek 66).img.sec ∧
    (forN 16 (fun k t => applyIf (!t.present k && t.bankUsed k) (Mach.raise fBankAbsent k (word (t.marked k))) t) ((((up .config).put
      AON_STAT.LOST 0).imgSeek 66).postHeld.capture true)).fb AON_STAT.LOST = false ∧
    (root .arming 1).f ROOT_STAT.APLL = 1 ∧ (root .ochre 1).f ROOT_STAT.APLL = 1 ∧ (root .teasel 1).f ROOT_STAT.APLL = 1 ∧
    (root .ochre 1).test.run.any (fun r => r.1 == 7) = false ∧ (root .run 2).locked = true ∧ (root .ochre 2).locked = true ∧
    (root .arming 2).locked = true ∧
    ((((({ root .run 2 with boot := { (root .run 2).boot with stop := true } } : Mach).rootLost.testAbandon).rootParkAll.haltAll
      csROOT_LOSS).clocksStop).portsIdle 6).boot.stop = true ∧
    (root .run 2).boot.stop = false ∧
    (((((root .run 2).rootLost.testAbandon).rootParkAll.haltAll csROOT_LOSS).clocksStop).portsIdle 6).boot.stop = false ∧
    (((((root .teasel 2).rootLost.testAbandon).rootParkAll.haltAll csROOT_LOSS).clocksStop).portsIdle 6).boot.stop = false ∧
    (root .teasel 2).locked = true ∧
    ({ root .arming 1 with boot := { step := 6 } } : Mach).locked = false ∧
    ({ root .arming 1 with boot := { step := 6 } } : Mach).boot.step = 6 ∧
    ({ root .arming 1 with boot := { step := 8 } } : Mach).boot.step = 8 ∧
    ({ run with boot := { bootPend := true } } : Mach).boot.bootPend = true ∧
    ({ run with boot := { bootPend := true } } : Mach).dev = .run := by decide +kernel

theorem witness_DeviceCodes :
    run.byP0 h0 ∧ (up .arming).byP0 h0 ∧ (up .ochre).byP0 h0 ∧ (up .teasel).byP0 h0 ∧ (up .config).byP0 h0 ∧ run.boot.stop = false ∧
    (up .arming).boot.step ≠ 9 ∧ ({ up .arming with boot := { step := 9 } } : Mach).byP0 h0 ∧ run.goingDown = false ∧
    (up .arming).goingDown = false ∧ (up .ochre).boot.precfg = false ∧ ((up .ochre).begun h0 0x000304).anyL3 = false ∧
    run.boot.restart = none ∧ (run.begun h0 0x000304).pstate 1 ≠ 0 ∧ (run.begun h0 0x000304).pstate 15 = 0 ∧
    ({ run with boot := { stop := true } } : Mach).boot.stop = true := by decide +kernel

theorem witness_RegisterWrites :
    (rowOf 0x000308).any (fun r => decide (run.opens h0 0x000308 r)) = true ∧
    (rowOf 0x010204).any (fun r => decide (run.opens h0 0x010204 r)) = true ∧ State.reset.m.hostUp = false ∧ State.reset.m.todo = [] ∧
    run.hostUp = true ∧ run.todo = [] ∧ (0x000303 % 4 ≠ 0 ∧ 0x0F0001 % 4 ≠ 0) ∧ 0x0EFFFC % 4 = 0 ∧ 0x0EFFFC / 0x10000 ≠ 15 ∧
    rowOf 0x0EFFFC = none := by decide +kernel

theorem witness_UnlockAndMailbox :
    run.bind h0 = .part 0 1 ∧ run.bind h1 = .part 1 2 ∧ run.hostUp = true ∧ run.todo = [] ∧ getF (0x0000C3A5 : Word) 0 16 = 0xC3A5 ∧
    getF (0x0000C3A4 : Word) 0 16 ≠ 0xC3A5 ∧ (run.begun h1 0x000110).fb (WIDE_STAT.BUSY.inst 1) = false ∧
    (wideExists 1 0 = true ∧ wideExists 2 0 = true) ∧ wideExists 255 255 = false ∧
    ((run.setWide 16 { busy := true }).wide (wideLeft + 16)).busy = false ∧ ((run.setWide 16 { busy := true }).wide 16).busy = true ∧
    ((run.setWide 16 { busy := true }).wide 16).wr = false ∧
    ((run.setWide 0 { busy := true, wr := true }).wide (wideLeft + 0)).busy = false ∧
    ((run.setWide 0 { busy := true, wr := true }).wide 0).wr = true ∧
    ((run.setWide (wideLeft + 16) { busy := true, wr := true }).wide (wideLeft + 16)).busy = true ∧ run.fb PPS_CFG.TOD_EN = false ∧
    (run.put PPS_CFG.TOD_EN 1).fb PPS_CFG.TOD_EN = true := by decide +kernel

theorem witness_ConfigurationCrc :
    run.byP0 h0 ∧ run.powered = true ∧ run.boot.held = false ∧ (sweep false false 0 0).crc.capture = false ∧
    (sweep false false 0 0).sweepCrc = 5 ∧ (((sweep false false 0 0).put CFGCRC_CUR.CRC 5).fb CFGCRC_CTL.EN = false) ∧
    ((sweep false false 1 5).put CFGCRC_CUR.CRC 5).f CFGCRC_REF.REF = 5 ∧
    ((sweep false false 1 4).put CFGCRC_CUR.CRC 5).fb CFGCRC_CTL.EN = true ∧
    ((sweep false false 1 4).put CFGCRC_CUR.CRC 5).fb CFGCRC_STAT.STALE = false ∧
    ((sweep false false 1 4).put CFGCRC_CUR.CRC 5).f CFGCRC_REF.REF ≠ 5 ∧ (sweep false false 1 4).sweepCrc = 5 ∧
    (sweep true false 0 0).crc.capture = true ∧ (sweep true false 0 0).crc.fresh = false ∧ (sweep true true 0 0).crc.fresh = true ∧
    (((sweep true true 0 0).put CFGCRC_CUR.CRC 5).crcLoad 5).fb CFGCRC_CTL.EN = false ∧ State.reset.m.powered = false ∧
    (osc 0 false).boot.held = true := by decide +kernel

theorem witness_IndirectWindows :
    run.bind h0 = .part 0 1 ∧ run.hostUp = true ∧ run.todo = [] ∧ (run.win .chan).holder = none ∧ (run.win .aon).holder = none ∧
    ((held .chan 0).win .chan).holder = some 0 ∧ ((held .aon 0x2000).win .aon).holder = some 0 ∧
    (held .chan 0x14).winShut .chan (.part 0 1) = false ∧
    (held .chan 0x14).stageRefusal .chan (.part 0 1) ((held .chan 0x14).f (IND_ADDR.OFF (winBase .chan))) = none ∧
    ((held .chan 0x14).win .chan).staged.length < 16 ∧ (held .aon 0x2000).winShut .aon (.part 0 1) = false ∧
    (held .aon 0x2000).stageRefusal .aon (.part 0 1) ((held .aon 0x2000).f (IND_ADDR.OFF (winBase .aon))) = none ∧
    (staged .chan ⟨0x14, 0, 0⟩).chWin = { holder := some 0, staged := [⟨0x14, 0, 0⟩] } ∧
    (commits ⟨0x14, 0, 0⟩).memberFit (.part 0 1) [⟨0x14, 0, 0⟩] = true ∧ (commits ⟨0x14, 0, 0⟩).memberLock (.part 0 1) 0x14 = none ∧
    ((commits ⟨0x14, 0, 0⟩).tblWrite (.part 0 1) .spi 0 0 5 0).accFlag = false ∧
    (staged .aon ⟨0x2000, 0, 0⟩).aonWin = { holder := some 0, staged := [⟨0x2000, 0, 0⟩] } ∧ aonRw 0x2000 = true ∧
    run.f (IND_LOCK_TO.LIMIT (winBase .aon)) ≠ 0 ∧ (run.put (IND_LOCK_TO.LIMIT (winBase .chan)) 0).f (IND_LOCK_TO.LIMIT (winBase .chan)) = 0 ∧
    run.winShut .chan (.part 0 1) = true ∧ run.winShut .aon (.part 0 1) = true := by decide +kernel

theorem witness_WindowReadsAndPostedWords :
    (held .chan 0x14).winShut .chan (.part 0 1) = false ∧ (held .chan 0x14).f (IND_ADDR.OFF (winBase .chan)) = 0x14 ∧
    winWord .chan 0x14 = true ∧ winWord .aon 0x2000 = true ∧ (held .aon 0x2002).f (IND_ADDR.OFF (winBase .aon)) % 4 ≠ 0 ∧
    (held .aon 0x2002).winShut .aon (.part 0 1) = false ∧ (held .aon 0x2002).bind h0 = .part 0 1 ∧
    ({ run with aonPost := [(0x2000, 0)] } : Mach).aonPost = [(0x2000, 0)] ∧
    ({ run with aonPost := [(0x1000, 0)] } : Mach).aonPost = [(0x1000, 0)] ∧
    ({ run with aonPost := [(0x1804, 0)] } : Mach).aonPost = [(0x1804, 0)] ∧ run.aonPost = [] := by decide +kernel

theorem witness_ServicePath :
    run.byP0 h0 ∧ (up .ochre).byP0 h0 ∧ (run.begun h0 0x000420).fb SVC_STAT.BUSY = false ∧ svcInLimits 1 0 0 = false ∧
    svcInLimits 1 0 256 = true ∧ svcInLimits 2 0 0 = true ∧ svcInLimits 3 0 256 = true ∧ (run.put SVC_STAT.OPEN 1).fb SVC_STAT.OPEN = true ∧
    run.fb SVC_STAT.OPEN = false ∧ ({ run with boot := { erase4k := some 0x20 } } : Mach).boot.erase4k.isSome = true ∧
    run.boot.erase4k = none ∧ (up .config).byP0 h0 ∧ ((up .config).begun h0 0x000420).fb SVC_STAT.BUSY = false ∧
    (run.put SVC_STAT.BUSY 1).fb SVC_STAT.BUSY = true ∧ ({ run with svc := { op := 1 } } : Mach).svc.op = 1 ∧
    ({ run.put SVC_STAT.OPEN 1 with svc := { op := 2 } } : Mach).svc.op = 2 ∧ ({ run with svc := { op := 3 } } : Mach).svc.op = 3 ∧
    ({ run with svc := { op := 4 }, boot := { discovered := true } } : Mach).boot.discovered = true ∧
    ({ run with svc := { op := 4 } } : Mach).boot.discovered = false ∧ (run.put SVC_STAT.OPEN 1).fb SVC_STAT.BUSY = false ∧
    (run.put SVC_STAT.OPEN 1).wf = true ∧ ((run.put SVC_STAT.OPEN 1).put SVC_STAT.WROTE 1).fb SVC_STAT.WROTE = true ∧
    ((run.put SVC_STAT.OPEN 1).put SVC_STAT.WROTE 1).fb SVC_STAT.OPEN = true ∧ ((run.put SVC_STAT.OPEN 1).put SVC_STAT.WROTE 1).wf = true ∧
    (run.put SVC_STAT.OPEN 1).fb SVC_STAT.WROTE = false := by decide +kernel

theorem witness_SourceQualification :
    run.byP0 h0 ∧ ((divided 96).begun h0 0x010000).reg 0x010000 = (divided 96).reg 0x010000 ∧
    ((divided 96).reg 0x010000).getLsbD 0 = false ∧
    (((divided 96).begun h0 0x010000).store 0x010000 (blend ((divided 96).reg 0x010000) ((divided 96).reg 0x010000 ||| 1) 0xF0F)).refOk 0 = true ∧
    (((divided 95).begun h0 0x010000).store 0x010000 (blend ((divided 95).reg 0x010000) ((divided 95).reg 0x010000 ||| 1) 0xF0F)).refOk 0 = false ∧
    (run.put (REF_CFG.EN 9) 1).wf = true ∧ ((run.put (REF_CFG.EN 9) 1).reg 0x010120).getLsbD 0 = true ∧ (source 0 1).measuring = true ∧
    (source 0 1).f (REF_STAT.STATE 0) ≠ 0 ∧ (source 0 1).refLive 0 = true ∧ (source 0 2).f (REF_STAT.STATE 0) ≠ 1 ∧
    (source 0 1).f (REF_STAT.STATE 0) = 1 ∧ ((source 8 3).put PPS_STAT.VALID 1).refLive 8 = true ∧ (source 8 3).refLive 8 = false ∧
    (source 9 3).refLive 9 = false ∧ (source 0 1).refUp 0 = false ∧ (source 7 2).refUp 7 = true ∧ (source 8 3).refUp 8 = true ∧
    ((source 0 2).put (REF_QUAL.PHIT 0) 1).beyondPhit 0 10 = true ∧ ((source 0 2).put (REF_QUAL.PHIT 0) 1).beyondPhit 0 9 = false ∧
    ((source 0 2).put (REF_QUAL.PHIT 0) 0).beyondPhit 0 0x80000000 = false ∧ ((source 0 2).put (REF_QUAL.PHIT 0) 1).refUp 0 = true ∧
    (gated 0 (source 0 2)).f (REF_QUAL.FWIN_ACC 0) = 10 ∧ (gated 0 (source 0 2)).f (REF_QUAL.FWIN_REJ 0) = 12 ∧
    ((signed 32 10000).natAbs ≤ 1000 * 10 ∧ 1000 * 10 < (signed 32 10001).natAbs) ∧
    ((signed 32 12000).natAbs ≤ 1000 * 12 ∧ 1000 * 12 < (signed 32 12001).natAbs) ∧
    cget (fun _ => false) (gated 0 (source 0 2)).root.ripe 0 = false ∧ (gated 0 (source 0 2)).f (REF_STAT.FREQ_OK 0) ≠ 1 ∧
    (gated 0 (source 0 2)).f (REF_STAT.STATE 0) = 2 ∧ (gated 0 (source 0 2)).refUp 0 = true ∧
    cget (fun _ => false) (gated 0 ({ source 0 2 with root := { ripe := [(0, true)] } } : Mach)).root.ripe 0 = true ∧
    (source 0 2).f (REF_STAT.STATE 0) = 2 ∧
    ((((source 0 2).put (REF_STAT.FREQ_OK 0) 1).updRoot (fun r => { r with gates := [(0, 1)] })).advNow 0).fb (REF_STAT.FREQ_OK 0) = true ∧
    cget (fun _ => 0) ((((source 0 2).put (REF_STAT.FREQ_OK 0) 1).updRoot (fun r => { r with gates := [(0, 1)] })).advNow 0).root.gates 0 ≠ 0 ∧
    ((source 0 2).advNow 0).fb (REF_STAT.FREQ_OK 0) = false := by decide +kernel

theorem witness_Selection :
    (armed h0 0x010204 run).byP0 h0 ∧ (armed h0 0x010204 run).isArmed ((armed h0 0x010204 run).bind h0) 0x010204 = true ∧
    waiting.locked = true ∧ waiting.fb SEL_STAT.SWITCHING = false ∧ waiting.f SEL_STAT.PEND ≠ 15 ∧
    (waiting.advNow 200000000).bestSrc = some 0 ∧ (waiting.advNow 200000000).locked = true ∧
    (waiting.advNow 200000000).fb SEL_STAT.SWITCHING = false ∧ (following 0 1 1).src = some 0 ∧
    (following 0 1 1).fb SEL_STAT.SWITCHING = true ∧ (following 0 1 1).measuring = true ∧ (following 0 1 1).root.again = false ∧
    ((following 0 1 1).put SEL_CFG.PBO 1).fb SEL_CFG.PBO = true ∧ ((following 0 1 1).put SEL_CFG.PBO 0).fb SEL_CFG.PBO = false ∧
    (following 9 1 1).src = some 9 := by decide +kernel

theorem witness_RootAndPps :
    (following 0 1 0).src = some 0 ∧ (following 0 1 0).fb SEL_STAT.SWITCHING = false ∧ (following 0 1 0).measuring = true ∧
    ((following 0 1 0).toEdge 0).f ROOT_STAT.DPLL = 1 ∧
    (({ following 0 1 0 with root := { good := 15 } } : Mach).toEdge 0).root.good + 1 = 16 ∧
    ((signed 32 192).natAbs ≤ 192 ∧ (signed 32 0xFFFFFF9C).natAbs ≤ 100) ∧ ((following 0 2 0).toEdge 0).f ROOT_STAT.DPLL = 2 ∧
    (({ following 0 2 0 with root := { far := 3 } } : Mach).toEdge 0).root.far + 1 = 4 ∧ 1920 < (signed 32 1921).natAbs ∧
    (following 0 2 0).f ROOT_STAT.DPLL = 2 ∧ (following 0 2 0).measuring = true ∧ (following 0 3 0).f ROOT_STAT.DPLL = 3 ∧
    ((following 0 3 0).put HOLD_CFG.HMAX 1).f HOLD_CFG.HMAX ≠ 0 ∧ ((following 0 3 0).put HOLD_CFG.HMAX 1).root.holdRaised = false ∧
    ((following 0 3 0).put ROOT_STAT.FSLEWING 1).fb ROOT_STAT.FSLEWING = true ∧ ((following 0 3 0).put ROOT_STAT.FSLEWING 1).locked = true ∧
    ((following 0 3 0).put ROOT_STAT.FSLEWING 1).f ROOT_STAT.DPLL = 3 ∧ (following 0 3 0).root.anchor = none ∧
    ({ following 0 1 0 with root := { anchor := some 0 } } : Mach).root.anchor = some 0 ∧
    2399760000 ≤ ({ following 0 1 0 with root := { anchor := some 0 } } : Mach).ppsLimit ∧
    2400240001 ≤ ({ following 0 1 0 with root := { anchor := some 0 } } : Mach).ppsLimit ∧
    (let m := ({ following 0 1 0 with root := { anchor := some 0 } } : Mach).advPhs (0 + 2399760000 / 2); 2400000000 ≤ 2399760000 + m.ppsTol) ∧
    (let m := ({ following 0 1 0 with root := { anchor := some 0 } } : Mach).advPhs (0 + 2400240000 / 2); 2400240000 ≤ 2400000000 + m.ppsTol) ∧
    (let m := ({ following 0 1 0 with root := { anchor := some 0 } } : Mach).advPhs (0 + 2399759999 / 2); 2399759999 + m.ppsTol < 2400000000) ∧
    (let m := ({ following 0 1 0 with root := { anchor := some 0 } } : Mach).advPhs (0 + 2400240001 / 2); 2400000000 + m.ppsTol < 2400240001) ∧
    (let m := ({ following 0 1 0 with root := { anchor := some 0 } } : Mach); (m.advPhs (0 + m.ppsLimit / 2)).fb PPS_STAT.VALID = false) ∧
    (let m := ({ (following 0 1 0).put PPS_STAT.VALID 1 with root := { anchor := some 0 } } : Mach); (m.advPhs (0 + m.ppsLimit / 2)).fb PPS_STAT.VALID = true) := by decide +kernel

theorem witness_ChannelTriggers :
    run.hostUp = true ∧ (clocked 255).oddDouble 255 = false ∧ (clocked 255).chst 255 = 0 ∧ (clocked 255).tb 255 CH_STAT.PEND = false ∧
    (clocked 255).startVerdict 255 false = none ∧ (clocked 0).startVerdict 255 false = some (rBAD_PARAM, some 1) ∧
    (chan 255 3 0).chst 255 = 3 ∧ (chan 255 3 0).t 255 CH_STAT.CAUSE ≠ csHOST ∧
    ((ending 1025).chst 255 = 3 ∧ (ending 1025).t 255 CH_STAT.CAUSE = csHOST ∧ ((ending 1025).ch 255).nonRes = false) ∧
    (ending 1025).fine + 1024 < ((ending 1025).ch 255).stopEnd ∧ ¬ (ending 1024).fine + 1024 < ((ending 1024).ch 255).stopEnd ∧
    (chan 255 1 0).chst 255 = 1 ∧ (chan 255 2 0).chst 255 = 2 ∧ (chan 255 2 1).t 255 CH_CTL.MODE ≠ 2 ∧ (pulsing 0 none none).chst 0 = 2 ∧
    (pulsing 0 none none).t 0 CH_CTL.MODE = 2 ∧
    (rollShot (((pulsing 0 none none).gateSettle 0).ch 0) (pulsing 0 none none).fine).pulse = none ∧
    (rollShot (((pulsing 0 (some 5) none).gateSettle 0).ch 0) (pulsing 0 (some 5) none).fine).pulse = some 5 ∧
    (rollShot (((pulsing 0 (some 5) none).gateSettle 0).ch 0) (pulsing 0 (some 5) none).fine).trigHeld = none ∧
    (rollShot (((pulsing 0 (some 5) (some 4101)).gateSettle 0).ch 0) (pulsing 0 (some 5) (some 4101)).fine).trigHeld = some 4101 := by decide +kernel

theorem witness_ChannelEdges :
    (chan 0 1 0).oddDouble 0 = false ∧ (chan 0 1 0).chst 0 = 1 ∧ (chan 0 1 0).boot.clocks = true ∧
    ((((chan 0 1 0).advTo 0).setState 0 2).chEvt 0 1).t 0 CH_CTL.MODE ≠ 2 ∧
    ((((chan 0 1 2).advTo 0).setState 0 2).chEvt 0 1).t 0 CH_CTL.MODE = 2 ∧ (chan 0 3 0).chst 0 = 3 ∧
    (chan 0 3 0).t 0 CH_STAT.CAUSE ≠ csWARM ∧ (chan 0 2 1).chst 0 = 2 ∧ (chan 0 2 1).t 0 CH_CTL.MODE = 1 ∧ (chan 0 2 1).boot.clocks = true ∧
    (((bursting 32769).chst 255 = 3 ∧ (bursting 32769).t 255 CH_STAT.CAUSE = csHOST) ∧ (bursting 32769).t 255 CH_CTL.MODE = 1) ∧
    edgeTime ((bursting 32769).ch 255) ((bursting 32769).t 255 CH_BURST.COUNT) < ((bursting 32769).ch 255).stopEnd := by decide +kernel

theorem witness_ChannelUpdates :
    (shadowed 255 256).wf = true ∧ (shadowed 255 256).oddDouble 255 = false ∧ ((shadowed 255 256).ch 255).shadow = true ∧
    (shadowed 255 256).chst 255 = 2 ∧ (shadowed 255 256).boot.clocks = true ∧ (updated (shadowed 255 256)).adoptCheck 255 = none ∧
    ((updated (shadowed 255 256)).ch 255).shadow = true ∧ (updated (shadowed 255 1024)).adoptCheck 255 = some 2 ∧
    ((updated (shadowed 255 1024)).ch 255).regrid = false ∧ (shadowed 255 256).t 255 CH_CTL.MODE ≠ 2 ∧
    (let m := (chan 255 2 0).updCh 255 (fun c => { c with n := 1024, h := 512, regrid := true }); ((updated m).ch 255).shadow = false ∧ ((updated m).ch 255).regrid = true ∧ m.wf = true ∧ m.t 255 CH_CTL.MODE ≠ 2) ∧
    (let m := (chan 255 2 2).updCh 255 (fun c => { c with n := 1024, h := 512, shadow := true }); (m.ch 255).shadow = true ∧ m.t 255 CH_CTL.MODE = 2 ∧ m.wf = true) ∧
    ((chan 0 2 0).tput 0 CH_STAT.SLEWING 1).tb 0 CH_STAT.SLEWING = true ∧ (chan 0 2 0).engineCh 0 = some 0 ∧
    (chan 255 3 0).engineCh 255 = some 255 ∧ (chan 0 2 0).chst (if (chan 0 2 0).doubled 0 then evenOf 0 else 0) = 2 ∧
    (0 : BitVec 16) ≠ 65535 := by decide +kernel

theorem witness_GroupCommands :
    run.bind h0 = .part 0 1 ∧ run.hostUp = true ∧ run.todo = [] ∧ run.ownGrp 31 = 0 ∧ (run.grp 31).holder ≠ some 0 ∧
    ((run.begun h0 0x0303E0).reg 0x0303E0).getLsbD 0 = false ∧
    (((run.put (GRP_PERIOD.N 31) 1024).put (GRP_HIGH.H 31) 512).put (GRP_RSP.DUR 31) 1).grpValid 31 = true ∧ run.grpValid 31 = false ∧
    ((run.put (GRP_CFG.EN 31) 1).reg 0x0303E0).getLsbD 0 = true ∧ (run.put (GRP_CFG.EN 31) 1).grpRuns 31 = false ∧
    ((chan 0 2 0).put (GRP_SLOT.ADMIT 31 0) 1).grpRuns 31 = true ∧ (run.grp 31).holder = none ∧
    ((run.setGrp 31 { holder := some 0 }).grp 31).committed = false ∧ ((group { holder := some 0 }).grp 31).holder = some 0 ∧
    (((group { holder := some 0 }).put (GRP_CFG.EN 31) 1).fb (GRP_CFG.EN 31) && (group { holder := some 0 }).boot.clocks) = true ∧
    ((group { committed := true }).grp 31).committed = true ∧
    ((group { committed := true }).fb (GRP_CFG.EN 31) && (group { committed := true }).boot.clocks) = false ∧
    ((group { vacant := [(0, 5)] }).grp 31).vacant ≠ [] ∧ (group { vacant := [(0, 5)] }).boot.clocks = true ∧
    (group { vacant := [(0, 5)] }).todo = [] ∧ ((group { holder := some 15 }).grp 31).holder = some 15 ∧ run.f GRP_LOCK_TO.LIMIT ≠ 0 ∧
    ((group { holder := some 15 }).put GRP_LOCK_TO.LIMIT 0).f GRP_LOCK_TO.LIMIT = 0 ∧
    ((0x200 : Word).getLsbD 9 = true ∧ (0x100 : Word).getLsbD 8 = true ∧ (1 : Word).getLsbD 9 = false ∧ (1 : Word).getLsbD 8 = false) := by decide +kernel

theorem witness_BankSelect :
    run.byP0 h0 ∧ ((run.begun h0 0x040000).store 0x040000 (blend 0 1 3)).present 0 = false ∧
    ((bank 15 3).begun h0 0x04003C).present 15 = true ∧ (((bank 15 3).setVok 15 true).begun h0 0x04003C).vok 15 = true ∧
    ((((bank 15 3).setVok 15 true).begun h0 0x04003C).store 0x04003C 2).matches' 15 = false ∧
    ((((bank 15 3).setVok 15 true).begun h0 0x04003C).store 0x04003C 3).matches' 15 = true ∧
    (((bank 15 3).begun h0 0x04003C).store 0x04003C 3).vok 15 = false ∧
    (((bank 15 3).begun h0 0x04003C).store 0x04003C 2).matches' 15 = (((bank 15 3).begun h0 0x04003C).store 0x04003C 2).vok 15 := by decide +kernel

theorem witness_PinCommands :
    run.bind h0 = .part 0 1 ∧ run.hostUp = true ∧ run.todo = [] ∧ run.ownCh 254 = 0 ∧ run.ownCh 255 = 0 ∧
    run.memberLock (.part 0 1) (64 * 254 + 56) = none ∧ run.chst 254 = 0 ∧ run.chst 255 = 0 ∧ (run.tw 254 14).getLsbD 5 = false ∧
    getF (run.tw 254 14) 0 2 = 0 ∧ (run.unmarked.cfgChanged.setTw 254 14 (blend (run.tw 254 14) 0x20 0x72F)).t 254 CH_PIN.FUNC = 0 ∧
    (run.unmarked.cfgChanged.setTw 254 14 (blend (run.tw 254 14) 0x20 0x72F)).spareOf 254 = none ∧
    (run.unmarked.cfgChanged.setTw 254 14 (blend (run.tw 254 14) 0x20 0x72F)).spareOf 255 = none ∧
    ((run.tw 254 14 ^^^ (run.tw 254 14 ||| 3)) &&& 0x724 = 0 ∧ getF (run.tw 254 14) 0 2 ≠ getF (run.tw 254 14 ||| 3) 0 2) ∧
    (run.setTw 254 14 (run.tw 254 14 ||| 3)).bonded 254 = false ∧ ((switch 2).ch 255).swStep = 2 ∧ (parked (switch 2)).t 255 CH_PIN.FUNC ≠ 2 ∧
    ((parked ((switch 2).setTw 255 14 2)).t 255 CH_PIN.FUNC = 2 ∧ ((switch 2).setTw 255 14 2).t 255 CH_PIN.FUNC = 2 ∧
      (((switch 2).setTw 255 14 2).ch 255).swStep = 2) ∧ (switch 2).gateOn = false ∧
    ((halted 1 0 1).ch 255).swStep = 2 ∧ (halted 1 0 1).gateOn = true ∧ (halted 1 0 1).haltMode 255 ≠ 0 ∧ (halted 1 0 0).haltMode 255 = 0 ∧
    (halted 1 0 1).t 255 CH_PIN.FUNC ≠ 2 ∧ (parked (halted 1 0 0)).t 255 CH_PIN.FUNC ≠ 2 ∧ (run.ch 255).swStep = 0 ∧
    (((switch 3).ch 255).swStep ≠ 0 ∧ ((switch 3).ch 255).swStep ≠ 2) := by decide +kernel

theorem witness_HaltAndPgpo :
    run.bind h0 = .part 0 1 ∧ run.hostUp = true ∧ run.todo = [] ∧ (run.begun h0 0x04007C).pgpoMask (.part 0 1) 15 = 0xFFFF ∧
    word (getF (0xFFFFFFFF : Word) 16 16) &&& ~~~ (word 0xFFFF) = 0 ∧ run.powered = true ∧ run.boot.held = false ∧
    run.fb HALT_STAT.ASSERTED = false ∧ run.fb HALT_CFG.LATCH = false ∧ (run.put HALT_CFG.LATCH 1).fb HALT_CFG.LATCH = true ∧
    (halted 1 1 1).fb HALT_STAT.ASSERTED = true ∧ ((halted 1 1 1).put HALT_STAT.ASSERTED 0).fb HALT_STAT.LATCHED = true ∧
    ((halted 1 0 1).put HALT_STAT.ASSERTED 0).fb HALT_STAT.LATCHED = false ∧ run.byP0 h0 ∧ (halted 0 1 1).byP0 h0 ∧
    (((halted 0 1 1).begun h0 0x040100).store 0x040100 1).fb HALT_STAT.LATCHED = true ∧
    (((halted 0 1 1).begun h0 0x040100).store 0x040100 1).fb HALT_STAT.ASSERTED = false ∧
    (((halted 1 1 1).begun h0 0x040100).store 0x040100 1).fb HALT_STAT.ASSERTED = true ∧
    ((run.begun h0 0x040100).store 0x040100 1).fb HALT_STAT.LATCHED = false ∧
    (gating.gateOn = true ∧ (gating.ch 255).cleanGate = some 0 ∧ gating.parkTurn 255 0 = some 32768) ∧
    (run.ch 255).cleanGate = none := by decide +kernel

theorem witness_MonitorVisits :
    run.visited 0 = false ∧ (up .woad).powered = false ∧ seen.visited 0 = true ∧ seen.powered = true ∧
    (seen.measurable 0 && (seen.ch 0).winOk && !seen.test.laneBad.getLsbD (0 % 16)) = true ∧
    (seen.measurable 0 && ((seen.updCh 0 (fun c => { c with winOk := false })).ch 0).winOk && !seen.test.laneBad.getLsbD 0) = false ∧
    (seen.updCh 0 (fun c => { c with winOk := false })).visited 0 = true ∧ seen.echoPresent 0 = false ∧
    ((seen.tput 0 CH_MON.ECHO_EN 1).tput 0 CH_MON.ESRC 1).echoPresent 0 = true ∧
    ((seen.tput 0 CH_MON.ECHO_EN 1).tput 0 CH_MON.ESRC 1).visited 0 = true ∧ seen.fb (MR_STAT.VERIFY 0) = false ∧
    (((((seen.keepSeen 0 reading).updCh 0 (fun c => { c with winOk := true })).put (MR_STAT.VALID 0) 1).put (MR_STAT.EABS 0) 0).put (MR_STAT.ECONF 0) 0).checks 0 (seen.seen 0 reading) = [false, false, false, false, false] ∧
    (seen.seen 0 reading).phaseErr = none ∧ (seen.seen 0 reading).dutyErr = none ∧ seen.tb 0 CH_MON.TRIM_EN = false ∧
    run.bind h0 = .part 0 1 ∧ run.hostUp = true ∧ run.todo = [] ∧
    ((0x100 : Word).getLsbD 8 = true ∧ getF (0x1FF : Word) 0 8 = 255 ∧ (0xFF : Word).getLsbD 8 = false) ∧
    ((seen.begun h0 0x050010).store 0x050010 0).ownCh 0 = 0 ∧
    ((seen.begun h0 0x050010).store 0x050010 0).fb (MON_REQ_STAT.BUSY.inst 0) = false ∧
    (((seen.put (MON_REQ_STAT.BUSY.inst 0) 1).begun h0 0x050010).store 0x050010 0).fb (MON_REQ_STAT.BUSY.inst 0) = true ∧
    (((seen.begun h0 0x050010).store 0x050010 0).put (MON_REQ_STAT.CH.inst 0) 0).visited 0 = true ∧
    ((run.begun h0 0x050010).put (MON_REQ_STAT.CH.inst 0) 255).visited 255 = false ∧ (run.put (OWN_CH.P 255) 1).ownCh 255 ≠ 0 := by decide +kernel

theorem witness_FaultCommands :
    ((joined 0).line 0 0 0).joined = some (joined 0).now ∧ ((joined 1).line 0 0 0).joined ≠ some (joined 1).now ∧
    ((joined 1).line 0 0 0).timer = none ∧ (asserted.line 0 0 0).joined ≠ some asserted.now ∧ (asserted.line 0 0 0).timer = some 5 ∧
    (atEnd asserted).escBatch 0 5 = [(0, 0)] ∧ (atEnd asserted).unacked 0 0 0 = true ∧
    (atEnd asserted).lineEl 0 0 0 < (atEnd asserted).lineCap 0 0 ∧ (atEnd (asserted.setReg 0x060000 0)).unacked 0 0 0 = false ∧
    (atEnd (asserted.setReg 0x060000 0)).escBatch 0 5 = [(0, 0)] ∧ (run.line 0 0 0).raws = [] ∧
    (asserted.line 0 0 0).raws.getLast? = some 0 ∧ run.bind h0 = .part 0 1 ∧ run.hostUp = true ∧ run.todo = [] ∧ run.byP0 h0 ∧
    0 < faultCodes 0 ∧ (armed h0 0x060200 run).byP0 h0 ∧ (armed h0 0x060200 run).isArmed ((armed h0 0x060200 run).bind h0) 0x060200 = true ∧
    run.isArmed (run.bind h0) 0x060200 = false ∧ (0xFFFF1FFF ^^^ run.reg 0x060200) &&& 0xFFFF1FFF ≠ 0 ∧ (up .teasel).dev = .teasel ∧
    (up .teasel).bind h0 = .part 0 1 ∧ ((0x80000000 : Word).getLsbD 31 = true ∧ (0 : Word).getLsbD 31 = false) := by decide +kernel

theorem witness_GovernorCommands :
    run.powered = true ∧ run.boot.held = false ∧
    (let m2 := forN 16 Mach.budgetSheds run.showBudget.thermalSheds; let m3 := (m2.put MON_STAT.SI_EFF m2.siEff).slotPass; m3.running && !m3.goingDown && m3.boot.clocks) = true ∧
    (let m2 := forN 16 Mach.budgetSheds (up .ochre).showBudget.thermalSheds; let m3 := (m2.put MON_STAT.SI_EFF m2.siEff).slotPass; m3.running && !m3.goingDown && m3.boot.clocks) = false ∧
    (run.put GOV_BCFG.BTO 1).f GOV_BCFG.BTO ≠ 0 ∧ (run.put GOV_BCFG.BTO 1).fb GOV_STAT.STALE = false ∧ run.byP0 h0 ∧
    (run.tput 255 CH_STAT.PEND 1).tb 255 CH_STAT.PEND = true ∧ ((run.tput 255 CH_STAT.PEND 1).ch 255).waitRaised = false ∧
    run.f GOV_CFG.WAIT_LIM ≠ 0 ∧ (run.put GOV_STAT.DWELLING 1).fb GOV_STAT.DWELLING = true ∧ run.f GOV_CFG.DWELL ≠ 0 ∧
    (run.put GOV_CFG.DWELL 0).f GOV_CFG.DWELL = 0 ∧ run.fb GOV_STAT.DWELLING = false ∧ run.gov.slots.contains .qeng = false ∧
    ({ run with gov := { slots := [.lane 15, .qeng] } } : Mach).gov.slots.count .qeng = 1 ∧
    (({ run with gov := { slots := [.lane 15, .qeng] } } : Mach).gov.want.map Prod.fst).contains .qeng = false := by decide +kernel

theorem witness_PartitionCommands :
    run.byP0 h0 ∧ run.bind h1 = .part 1 2 ∧ run.hostUp = true ∧ run.todo = [] ∧ run.mayOwnKey (run.bind h0) 0x0800B0 = true ∧
    run.mayOwnKey (run.bind h0) 0x080000 = true ∧ run.mayOwnKey (run.bind h0) 0x0800A4 = true ∧
    (0x080000 ≤ 0x080000 ∧ 0x0800A4 < 0x0800A8 ∧ 0x0800A4 % 4 = 0) ∧ (run.put (PART_STAT.STATE 0) 3).pstate 0 = 3 ∧
    (run.put (PART_STAT.STATE 15) 3).pstate 15 = 3 ∧ ((run.put (PART_STAT.STATE 15) 3).reg 0x0800B0).getLsbD 15 = false ∧
    ((run.setReg 0x0800B0 0x8001).reg 0x0800B0).getLsbD 15 = true ∧ run.boot.restart ≠ some 15 ∧
    (((run.put (PART_STAT.STATE 0) 1).put (PART_EVT.RSTDONE 0) 1).event 0 6 0 0 0).boot.restart ≠ some 0 ∧
    ((run.put (PART_STAT.STATE 15) 0).dropBindings 15).boot.restart ≠ some 15 ∧ run.instd 0 = true ∧
    run.f (PART_STAT.TOKENS 0) < run.depth 0 ∧ run.instd 15 = false ∧
    (refilled (run.depth 0 - 1)).depth 0 ≤ (refilled (run.depth 0 - 1)).f (PART_STAT.TOKENS 0) ∧
    (refilled 0).f (PART_STAT.TOKENS 0) < (refilled 0).depth 0 ∧ (refilled 0).since (.token 0) = none := by decide +kernel

theorem witness_AttachCommands :
    run.hostUp = true ∧ run.todo = [] ∧ (up .config).bind nobody = .unbound ∧
    ({ dev := .config, boot := { held := false } } : Mach).bind nobody = .unbound ∧
    ({ dev := .config, boot := { held := false } } : Mach).anyInst = false ∧
    ({ dev := .config, boot := { held := false } } : Mach).hostUp = true ∧ run.bind nobody = .unbound ∧ run.anyInst = true ∧
    (attaching (attachMsg 0 1)).bind h0 ≠ .unbound ∧ (attaching (attachMsg 0 1)).hostUp = true ∧ (attaching (attachMsg 0 1)).todo = [] ∧
    (List.range 8).flatMap (fun k => wordBytes (((attaching (attachMsg 0 1)).begun h0 0x080320).f ((ATT_DATA.DATA k).inst 32))) = attachMsg 0 1 ∧
    (byteAt (attachMsg 0 1) 0 = 0xA7 ∧ byteAt (attachMsg 0 1) 1 < 16 ∧ byteAt (attachMsg 0 1) 2 = portNum .spi ∧ byteAt (attachMsg 0 1) 8 = instNode 32 ∧ fieldAt (attachMsg 0 1) 9 7 = 0) ∧
    byteAt (List.replicate 32 0) 0 ≠ 0xA7 ∧ ((attaching (attachMsg 15 1)).begun h0 0x080320).instd 15 = false ∧
    ((attaching (attachMsg 0 1)).begun h0 0x080320).instd 0 = true ∧
    ((0 < 5 ∧ 5 ≤ 5) ∧ (((attaching (attachMsg 0 5)).begun h0 0x080320).reg 0x080400).getLsbD 5 = true) ∧ ¬ 0 < byteAt (attachMsg 0 0) 3 ∧
    ¬ byteAt (attachMsg 0 6) 3 ≤ 5 ∧
    (((attaching (attachMsg 0 1)).begun h0 0x080320).authCheck 1 1 ((attachMsg 0 1).take 16) ((attachMsg 0 1).drop 16) 0xA7).2 = 0 ∧
    (((attaching (attachMsg 0 5)).begun h0 0x080320).authCheck 5 1 ((attachMsg 0 5).take 16) ((attachMsg 0 5).drop 16) 0xA7).2 = 1 ∧
    (((attaching (attachMsg 0 1)).begun h0 0x080320).authCheck 1 1 ((attachMsg 0 1).take 16) [] 0xA7).2 = 3 := by decide +kernel

theorem witness_SpiCommands :
    run.hostUp = true ∧ run.spi.phase ≠ 1 ∧ ([0x0A, 0x80, 0x04, 0x00, 0x07, 0x00, 0xA4, 0xF9] : List Byte).length = 8 ∧
    fieldAt [0x0A, 0x80, 0x04, 0x00, 0x07, 0x00, 0xA4, 0xF9] 6 2 = crc16 [0x0A, 0x80, 0x04, 0x00, 0x07, 0x00] ∧
    fieldAt [0x0A, 0x80, 0x04, 0x00, 0x07, 0x00, 0xA5, 0xF9] 6 2 ≠ crc16 [0x0A, 0x80, 0x04, 0x00, 0x07, 0x00] ∧
    fieldAt (spiHead [0x4A, 0x80, 0, 0, 0, 0]) 6 2 = crc16 [0x4A, 0x80, 0, 0, 0, 0] ∧
    ((0x4A : Nat) / 64 % 2 = 1 ∧ (0x8A : Nat) / 64 % 2 = 0 ∧ (0x8A : Nat) % 16 = 10 ∧ (0x8A : Nat) / 16 % 4 = 0) ∧
    fieldAt (spiHead [0x0A, 0x80, 0xFC, 0xFF, 0xFF, 0x00]) 2 3 + 4 * 0 ≤ 0xFFFFFC ∧
    0xFFFFFC < fieldAt (spiHead [0x0A, 0x80, 0xFC, 0xFF, 0xFF, 0x01]) 2 3 + 4 * 1 ∧ (framed false 1).spi.phase = 1 ∧
    (framed false 1).spi.rd = false ∧ (framed false 1).spi.segWords = 1 ∧
    (([0x00000018] : List Word).flatMap wordBytes).foldl crc16Byte (framed false 1).spi.crc = 0x9302 ∧ (framed true 256).spi.rd = true ∧
    (256 ≤ 256 ∧ 256 ≤ (framed true 256).spi.len) ∧ ({ run with spi := { phase := 2 } } : Mach).spi.phase = 2 ∧
    run.spi.phase = 0 := by decide +kernel

theorem witness_I2cCommands :
    run.hostUp = true ∧ ((0x30 : Byte).toNat / 16 % 4 ≠ 0 ∧ (0xCF : Byte).toNat / 16 % 4 = 0) ∧ sending.hostUp = true ∧
    sending.i2c.writing = true ∧ run.i2c.writing = false ∧ (run.put HOST_CFG.I2C_TO 0).fb HOST_CFG.I2C_TO = false ∧
    (sending.put HOST_CFG.I2C_TO 1).fb HOST_CFG.I2C_TO = true ∧ (4 < 5 ∧ 5 % 4 ≠ 0 ∧ 65535 ≤ 65535 ∧ 65535 % 4 ≠ 0) := by decide +kernel

theorem witness_QueueAccesses :
    run.bind h0 = .part 0 1 ∧ run.hostUp = true ∧ run.todo = [] ∧
    (((pushing.begun h0 0x090440).store (0x090440 + 1200 * instSpan) 0).enqueue 0 false false { bytes := padTo 64 [1] }).2 = rOK ∧
    (((run.begun h0 0x090440).store (0x090440 + 1200 * instSpan) 0).enqueue 0 false false { bytes := padTo 64 [] }).2 ≠ rOK ∧
    ((3 : Fin 64).val / 4 = 0 ∧ 2 ≤ (3 : Fin 64).val % 4 ∧ (0 : Fin 64).val / 4 = 0 ∧ (1 : Fin 64).val % 4 < 2) := by decide +kernel

theorem witness_CommandDispatch :
    (queued 1 0x11).powered = true ∧ (queued 1 0x11).boot.held = false ∧ (queued 1 0x11).urgent = none ∧
    (queued 1 0x11).nextUrgent = some 0 ∧ ((queued 1 0x11).ready 0 true).isSome = true ∧
    (spent 1).f (PART_STAT.TOKENS 0) < (spent 1).depth 0 ∧ (spent 1).since (.token 0) = none ∧
    ((spent 1).startTimer (.token 0)).since (.token 0) ≠ none ∧ (spent 15).depth 0 ≤ (spent 15).f (PART_STAT.TOKENS 0) ∧
    ((queued 1 0x11).put (PART_STAT.TOKENS 0) 15).nextUrgent = some 0 ∧ (queued 0 1).nextUrgent = none ∧
    (serving (service 1 0 []) run).nextUrgent = none ∧ (serving (service 1 0 []) run).normal = some (service 1 0 []) ∧
    (queued 0 1).normal = none ∧
    (({ queued 0 1 with visiting := true, lastNormal := 0 } : Mach).put (Q_DEF.DEF 0) 1).fits 0 = some (cmd 1 []) ∧
    ({ queued 0 1 with visiting := true, lastNormal := 0 } : Mach).nextUrgent = none ∧ (queued 0 1).visiting = false ∧
    (after (queued 0 1).lastNormal).find? (fun x => ((queued 0 1).ready x false).isSome) = some 0 ∧
    ({ (queued 0 1).put (Q_DEF.DEF 0) ((queued 0 1).deficit 0 + (queued 0 1).weight 0) with lastNormal := 0, visiting := false } : Mach).fits 0
      = some (cmd 1 []) := by decide +kernel

theorem witness_CommandsInService :
    (serving (service 0x01 0 []) run).serves (service 0x01 0 []) ∧ (serving (service 0x10 2 [1]) run).serves (service 0x10 2 [1]) ∧
    (serving (service 0x10 3 [1]) run).serves (service 0x10 3 [1]) ∧
    ((service 0x10 3 [1]).desc.op = 0x10 ∧ (service 0x10 3 [1]).done = 3 ∧ (service 0x10 2 [1]).done ≠ 3 ∧ (service 0x10 0 [1]).done = 0) ∧
    (serving (service 0x10 3 [1]) run).nextUrgent = none ∧ (serving (service 0x10 3 [1]) (queued 1 0x11)).serves (service 0x10 3 [1]) ∧
    (serving (service 0x10 3 [1]) (queued 1 0x11)).nextUrgent ≠ none ∧ (serving (service 0x11 0 [1]) run).serves (service 0x11 0 [1]) ∧
    ((service 0x11 0 []).desc.op = 0x11 ∧ (service 0x12 0 []).desc.op = 0x12 ∧ (service 0x13 0 []).desc.op = 0x13) ∧
    ((service 0x30 0 []).desc.op = 0x30 ∧ (service 0x50 0 []).desc.op = 0x50) := by decide +kernel

theorem witness_SessionsAndReports :
    ((service 0x51 0 []).desc.op = 0x51 ∧ (service 0x60 0 []).desc.op = 0x60 ∧ (service 0x61 0 []).desc.op = 0x61 ∧ (service 0x70 0 []).desc.op
      = 0x70) ∧
    (serving (service 0x60 0 [7]) hired).serves (service 0x60 0 [7]) ∧ ({ hired with tod := 5 } : Mach).hireEndOk 5 = false ∧
    ({ hired with tod := 5 } : Mach).hireEndOk 6 = true ∧ run.hireEndOk 0 = true ∧ run.f HIRE_STAT.STATE = 0 ∧ hired.f HIRE_STAT.STATE ≠ 0 ∧
    (service 0x60 0 [7]).desc.arg 8 4 = hired.f HIRE_SES.SES ∧ (service 0x61 0 [8]).desc.arg 8 4 ≠ hired.f HIRE_SES.SES ∧
    ((service 0x70 0 [0x3E]).desc.arg 8 1 = 0x3E ∧ (service 0x70 0 [0x40]).desc.arg 8 1 = 64 ∧ (service 0x70 0 [1]).desc.arg 8 1 % 2 = 1) ∧
    ((service 0x62 0 []).desc.op = 0x62 ∧ (service 0x63 0 []).desc.op = 0x63) ∧ ctrEnded run.rptCtr = false ∧
    ctrEnded (run.setAw 0x3018 0x00FFFFFF).rptCtr = true ∧ decide (1 ≤ 12 ∧ 12 ≤ 12) = true ∧ run.signer 0 1 = false ∧
    (({ run with sec := { slots := [(1, { state := 1 })] } } : Mach).setReg 0x080400 2).signer 0 1 = true := by decide +kernel

theorem witness_LinkTraining :
    (port .up 1).lstate .up = 1 ∧ ({ port .up 1 with test := { run := some (6, 0) } } : Mach).test.run = some (6, portIdx .up) ∧
    (port .up 1).test.run ≠ some (6, portIdx .up) ∧ (port .up 2).lstate .up = 2 ∧ (port .up 2).lstate .up ≠ 1 ∧
    (port .up 1).lstate .up ≠ 2 ∧ (port .down 3).lstate .down = 3 ∧
    ((1 : Byte).getLsbD 0 = true ∧ (0 : Byte).getLsbD 0 = false ∧ (4 : Byte).getLsbD 2 = true) ∧
    ((port .down 3).put (LNK_PSTAT.MISWIRE 1) 0).enumd = false ∧ (port .up 3).isN0 = false ∧ (anchor (port .up 3)).isN0 = true ∧
    (port .down 4).lstate .down = 4 ∧ (port .down 4).enumd = false ∧ (port .down 0).lstate .down = 0 ∧
    ((1 : Fin 8).val = 1 ∧ (6 : Fin 8).val = 6) := by decide +kernel

theorem witness_HopDelay :
    (port .up 4).isUp .up = true ∧ run.isUp .up = false ∧ (port .down 4).isUp .down = true ∧ run.isUp .down = false ∧
    run.link.dqs.contains (0 : Byte).toNat = false ∧
    ({ port .up 4 with link := { dqs := [0], rtts := List.replicate 1022 0 } } : Mach).link.dqs.contains (0 : Byte).toNat = true ∧
    (((5 : Int) :: List.replicate 1022 0).take 1024).length < 1024 ∧ (((5 : Int) :: List.replicate 1023 0).take 1024).length = 1024 ∧
    (((5 : Int) :: List.replicate 1024 0).take 1024).length = 1024 ∧ run.fb LNK_DLY.DVALID = false ∧
    (run.put LNK_DLY.DVALID 1).fb LNK_DLY.DVALID = true ∧ (tracked 1).link.dOff < signed 24 ((tracked 1).f LNK_DLY.D_UP) ∧
    signed 24 ((tracked 0xFFFFFF).f LNK_DLY.D_UP) < (tracked 0xFFFFFF).link.dOff ∧
    (tracked 0).link.dOff = signed 24 ((tracked 0).f LNK_DLY.D_UP) := by decide +kernel

theorem witness_LinkFrames :
    (port .up 4).isUp .up = true ∧ (port .down 4).isUp .down = true ∧ byteAt (wire [0, 0, 0, 1, 1, 0, 0, 0]) 0 ≤ 64 ∧
    (wire [0, 0, 0, 1, 1, 0, 0, 0]).length = 8 + 4 * byteAt (wire [0, 0, 0, 1, 1, 0, 0, 0]) 0 + 4 ∧
    crc32c ((wire [0, 0, 0, 1, 1, 0, 0, 0]).take 8) = fieldAt (wire [0, 0, 0, 1, 1, 0, 0, 0]) 8 4 ∧
    crc32c [0, 0, 0, 1, 1, 0, 0, 0] ≠ fieldAt [0, 0, 0, 1, 1, 0, 0, 0, 0, 0, 0, 0] 8 4 ∧ byteAt (wire [0, 0, 0, 127, 1, 0, 63, 0]) 3 < 128 ∧
    byteAt (wire [0, 0, 0, 127, 1, 0, 63, 0]) 6 < 64 ∧ byteAt (wire [0, 0, 0, 127, 1, 0, 63, 0]) 2 = ((port .up 4).lp .up).nexp ∧
    byteAt (wire [0, 0, 1, 1, 1, 0, 0, 0]) 2 ≠ ((port .up 4).lp .up).nexp ∧ 64 < byteAt [65] 0 ∧
    ¬ byteAt (wire [0, 0, 0, 128, 1, 0, 0, 0]) 3 < 128 ∧ ((port .up 4).lp .up).unack = [] ∧
    ((port .up 4).lp .up).unack.any (fun e => e.seq == (0 : Byte).toNat) = false ∧
    ((window 1 0).lp .up).unack.any (fun e => e.seq == (0 : Byte).toNat) = true ∧
    ((((window 1 0).setLp .up { (window 1 0).lp .up with unack := [] }).pump .up).lp .up).unack = [] ∧
    (((((window 2 0).setLp .up { (window 2 0).lp .up with unack := ((window 2 0).lp .up).unack.drop 1 }).pump .up).lp .up).unack.length = 1) ∧
    ((window 2 3).lp .up).unack ≠ [] ∧ ((window 2 3).lp .up).retries < 4 ∧ ((window 1 4).lp .up).unack ≠ [] ∧
    4 ≤ ((window 1 4).lp .up).retries ∧
    (({ port .up 4 with link := { up := { busyWait := true } } } : Mach).lp .up).busyWait = true ∧
    ((port .up 4).lp .up).busyWait = false := by decide +kernel

theorem witness_RemoteAccess :
    (ring 0).bind h0 = .part 0 1 ∧ (ring 0).hostUp = true ∧ (ring 0).todo = [] ∧
    (((ring 0).begun h0 0x0A0200).store 0x0A0200 0x100).fb (LRA_STAT.BUSY.inst 0) = false ∧
    ((((ring 0).put (LRA_STAT.BUSY.inst 0) 1).begun h0 0x0A0200).store 0x0A0200 0x100).fb (LRA_STAT.BUSY.inst 0) = true ∧
    ({ ((ring 0).begun h0 0x0A0200).store 0x0A0200 0x100 with link := { gone := [1] } } : Mach).link.gone.contains 1 = true ∧
    ({ ring 0 with link := { gone := [1] } } : Mach).bind h0 = .part 0 1 ∧
    (((ring 0).begun h0 0x0A0200).store 0x0A0200 0x100).link.gone.contains 1 = false ∧
    ((((ring 0).begun h0 0x0A0200).store 0x0A0200 0x100).routeTo 1).isSome = true ∧
    ((run.begun h0 0x0A0200).store 0x0A0200 0).routeTo 63 = none ∧
    (got .up (frame ttRREQ []) (ring 0)).link.inbox.find? (fun e => e.2.typ == ttRREQ) = some (.up, frame ttRREQ []) ∧
    (got .up (frame ttRREQ []) (ring 0)).link.dups.contains (1, 0) = false ∧
    ({ ring 0 with link := { dups := [(1, 0)] } } : Mach).link.dups.contains (1, 0) = true ∧
    (got .up (frame ttRREQ []) (ring 0)).boot.stop = false ∧ (got .up (frame ttRREQ []) (ring 0)).hostUp = true ∧
    (got .up (frame ttRREQ []) (up .boot)).hostUp = false ∧ (byteAt [1] 0 % 2 = 1 ∧ byteAt [0] 0 % 2 = 0) ∧
    (waits (some 0) none (got .up (frame ttRRSP []) (ring 0))).link.inbox.find? (fun e => e.2.typ == ttRRSP) = some (.up, frame ttRRSP []) ∧
    (waits (some 0) none (ring 0)).link.txns.find? (fun y => y.tid == 0 && y.node == 1 && y.lra.isSome) = some ⟨0, 1, 0, some 0, none⟩ ∧
    (ring 0).link.txns.find? (fun y => y.tid == 0 && y.node == 1 && y.lra.isSome) = none ∧
    (waits (some 0) none (ring 0)).link.txns.filter (fun y => y.tid == (0 : Byte).toNat) = [⟨0, 1, 0, some 0, none⟩] ∧
    (waits (some 0) none (ring 0)).f LNK_CFG.TTO ≠ 0 ∧ ((waits (some 0) none (ring 0)).put LNK_CFG.TTO 0).f LNK_CFG.TTO = 0 ∧
    (ring 0).link.txns.any (fun y => y.tid == (0 : Byte).toNat) = false ∧
    (got .up (frame ttCMD []) (ring 0)).link.inbox.find? (fun e => e.2.typ == ttCMD) = some (.up, frame ttCMD []) ∧
    (got .up (frame ttCMD []) (ring 0)).linkBound 1 0 = false ∧
    (((got .up (frame ttCMD []) (ring 0)).setReg 0x0A0040 2)).linkBound 1 0 = true ∧
    ((((ring 0).setReg 0x0A0040 2)).enqueue 0 false false (cmd 1 [])).2 = rOK ∧
    ((((ring 0).setReg 0x0A0040 2)).enqueue 0 false false (cmd 0 [])).2 ≠ rOK ∧
    (waits none (some 0) (ring 0)).link.txns.find? (fun y => y.tid == 0 && y.node == 1 && y.queue.isSome) = some ⟨0, 1, 0, none, some 0⟩ ∧
    (got .up (frame ttCPL []) (ring 0)).link.inbox.find? (fun e => e.2.typ == ttCPL) = some (.up, frame ttCPL []) ∧
    ((((ring 0).setCq 0 { cmds := [cmd 1 []], out := some 0 }).cq 0).cmds = [cmd 1 []] ∧ (((ring 0).setCq 0 { cmds := [cmd 1 []], out := some 0
      }).cq 0).out = some 0) ∧
    ((cmd 1 []).nocpl = false ∧ ({ bytes := [1, 2] } : Desc).nocpl = true ∧ getF (word 0x00420011) 8 8 = rOK) := by decide +kernel

theorem witness_ForwardingAndNotices :
    (got .up (frame ttEVT []) (anchor (ring 0))).link.inbox.find? (fun e => [ttEVT, ttLDG].contains e.2.typ) = some (.up, frame ttEVT []) ∧
    (anchor (ring 0)).isN0 = true ∧ (ring 1).isN0 = false ∧ (anchor (ring 0)).instd 0 = true ∧
    ((fieldAt [0, 0, 0, 0, 0, 0, 0, 0, 0, 0, 0, 0, 0, 0, 0, 0, 0, 0] 16 2 + 65536 - cget (fun _ => 0) (anchor (ring 0)).link.got 1) % 65536 = 0) ∧
    ((fieldAt [0, 0, 0, 0, 0, 0, 0, 0, 0, 0, 0, 0, 0, 0, 0, 0, 0xFF, 0x7F] 16 2 + 65536 - cget (fun _ => 0) (anchor (ring 0)).link.got 1) %
      65536 = 32767) ∧
    ((fieldAt [0, 0, 0, 0, 0, 0, 0, 0, 0, 0, 0, 0, 0, 0, 0, 0, 0x00, 0x80] 16 2 + 65536 - cget (fun _ => 0) (anchor (ring 0)).link.got 1) %
      65536 = 32768) ∧
    ((anchor (ring 0)).post 2 7 129 0 0 (word 32767) 0).instd 0 = true ∧
    (got .up (frame ttAGACK [1]) (ring 1)).link.inbox.find? (fun e => [ttAGACK].contains e.2.typ) = some (.up, frame ttAGACK [1]) ∧
    (byteAt [1] 0 = 1 ∧ byteAt [0] 0 ≠ 1) ∧ (anchor (ring 0)).enumd = true ∧ run.enumd = false ∧
    ((run.link.evs = [] ∧ run.link.lds = []) ∧ ({ run with link := { evs := [(0, ⟨0, 0, 0, 0⟩)] } } : Mach).link.evs ≠ [] ∧
      ({ run with link := { lds := [(65535, ⟨0, 0, 0, 0⟩)] } } : Mach).link.lds ≠ []) ∧
    ((anchor (ring 0)).link.budDue = false ∧ (anchor (ring 0)).f LNK_CFG.BPER ≠ 0 ∧ ((anchor (ring 0)).put LNK_CFG.BPER 0).f LNK_CFG.BPER = 0) ∧
    (let m := ({ anchor (ring 0) with link := { budDue := true } } : Mach); m.link.budDue = true ∧ m.isN0 = true ∧ m.enumd = true) ∧
    (got .up (frame ttBUDGET [0, 2]) (ring 1)).link.inbox.find? (fun e => [ttBUDGET].contains e.2.typ) = some (.up, frame ttBUDGET [0, 2]) ∧
    (byteAt [0, 2] 0 ≤ (ring 1).node ∧ (ring 1).node < byteAt [0, 2] 0 + byteAt [0, 2] 1) ∧
    ¬ ((ring 1).node < byteAt [0, 1] 0 + byteAt [0, 1] 1) ∧
    (got .up (frame ttNOTICE [4]) (ring 1)).link.inbox.find? (fun e => [ttNOTICE].contains e.2.typ) = some (.up, frame ttNOTICE [4]) ∧
    (ring 1).link.gone.contains 0 = false ∧ ({ ring 1 with link := { gone := [0] } } : Mach).link.gone.contains 0 = true := by decide +kernel

theorem witness_EnumerationAndCalibration :
    (got .down (frame ttENUM []) (ring 1)).link.inbox.find? (fun e => e.2.typ == ttENUM) = some (.down, frame ttENUM []) ∧
    (got .up (frame ttENUM [2]) (anchor (ring 0))).link.inbox.find? (fun e => e.2.typ == ttENUM) = some (.up, frame ttENUM [2]) ∧
    ({ anchor (ring 0) with link := { token := some 0 } } : Mach).link.token.isSome = true ∧ (anchor (ring 0)).link.token = none ∧
    (fieldAt [2, 0, 0, 0] 1 3 = (anchor (ring 0)).link.nonce ∧ fieldAt [2, 1, 0, 0] 1 3 ≠ (anchor (ring 0)).link.nonce) ∧
    (byteAt [64, 0, 0, 0] 0 = 64 ∧ byteAt [63, 0, 0, 0] 0 ≠ 64) ∧ ((port .up 4).enumd = false ∧ (ring 1).node = 1) ∧
    (got .up (frame ttENUM_DONE [2, 0, 0, 0]) (ring 1)).link.inbox.find? (fun e => e.2.typ == ttENUM_DONE) = some (.up, frame ttENUM_DONE [2, 0,
      0, 0]) ∧
    ({ ring 1 with link := { token := some 0 } } : Mach).link.token = some (fieldAt [2, 0, 0, 0] 1 3) ∧ (port .up 4).isN0 = false ∧
    (port .up 4).link.token = none ∧ (port .up 4).isUp .up = true ∧ (ring 1).enumd = true ∧
    (got .up (frame ttCAL [1]) (ring 1)).link.inbox.find? (fun e => e.2.typ == ttCAL && [1].contains (byteAt e.2.payload 0)) = some (.up, frame
      ttCAL [1]) ∧
    (anchor run).byP0 h0 ∧ (ring 1).byP0 h0 ∧
    (got .up (frame ttCAL [3, 4]) (ring 1)).link.inbox.find? (fun e => e.2.typ == ttCAL && [2, 3].contains (byteAt e.2.payload 0)) = some (.up,
      frame ttCAL [3, 4]) ∧
    (byteAt [2] 0 = 2 ∧ byteAt [3, 4] 1 = 4 ∧ byteAt [3, 3] 1 ≠ 4) ∧
    ((anchor (ring 0)).put LNK_CSTAT.RUNNING 1).fb LNK_CSTAT.RUNNING = true ∧ (ring 1).fb LNK_CSTAT.RUNNING = false ∧
    (anchor (ring 0)).isUp .up = true ∧ ((1 : Byte).getLsbD 0 = true) ∧ ((anchor (ring 0)).put LNK_DLY.DVALID 1).fb LNK_DLY.DVALID = true ∧
    (anchor (ring 0)).link.open' = false ∧ (ring 1).loadsGrid = false ∧ loading.loadsGrid = true ∧ loading.isN0 = false := by decide +kernel

theorem witness_KeysEpochAndLockout :
    (owner 0x0B0110).byP0 h0 ∧ (owner 0x0B0110).mayOwnKey ((owner 0x0B0110).bind h0) 0x0B0110 = true ∧
    (owner 0x0B0110).isArmed ((owner 0x0B0110).bind h0) 0x0B0110 = true ∧ ((owner 0x0B0110).begun h0 0x0B0110).sec.burning = none ∧
    ({ owner 0x0B0110 with sec := { burning := some (1, []) } } : Mach).sec.burning.isSome = true ∧
    ((((owner 0x0B0110).setReg 0x0B0100 1).begun h0 0x0B0110).store 0x0B0110 2).keyRefusal 2 = none ∧
    (((owner 0x0B0110).begun h0 0x0B0110).store 0x0B0110 7).keyRefusal 7 = some 1 ∧
    (run.setSlot 2 { state := 0, dirty := true }).keyRefusal 2 = some 3 ∧ run.sec.burning = none ∧ (burning 5).sec.burning = some (5, []) ∧
    (epoch 250).dev = .boot ∧ (epoch 250).boot.held = false ∧ (epoch 250).epochDone = false ∧
    (255 - (epoch 250).sec.ones = 5 ∧ 255 - (epoch 255).sec.ones = 0) ∧ run.dev ≠ .off ∧
    getF ((run.setAw 0x3034 0x000A0010).lockWord 5) 16 16 ≠ 0 ∧ getF (run.lockWord 1) 16 16 = 0 ∧
    (let m := (run.setFails 5 (60, [9, 0])).advNow (60 * second); let x := cget (fun _ => (0, [])) m.sec.fails 5
      (x.2.filter (fun t => m.now ≤ t + x.1 * second)).getLast? = some 0) ∧
    (let m := (run.setFails 5 (60, [0])).advNow (60 * second + 1); let x := cget (fun _ => (0, [])) m.sec.fails 5
      x.2.filter (fun t => m.now ≤ t + x.1 * second) = []) := by decide +kernel

theorem witness_MetersAndHire :
    run.bind h0 = .part 0 1 ∧ run.hostUp = true ∧ run.todo = [] ∧ run.ownMtr 31 = 0 ∧
    ((metered 0 0).begun h0 0x0C007C).fb (MTR_CFG.EN 31) = false ∧ ((1 : Word).getLsbD 0 = true ∧ (0 : Word).getLsbD 0 = false) ∧
    (((metered 0 0).begun h0 0x0C007C).reg 0x0C007C).getLsbD 0 = false ∧
    (((metered 0 0).begun h0 0x0C007C).store 0x0C007C 1).f (MTR_STAT.STATE 31) = 0 ∧
    (((metered 2 0).begun h0 0x0C007C).store 0x0C007C 1).f (MTR_STAT.STATE 31) = 2 ∧
    ((metered 1 1).begun h0 0x0C007C).fb (MTR_CFG.EN 31) = true ∧
    (((metered 1 1).reg 0x0C007C ^^^ 0) &&& 0xFF01FF06 = 0 ∧ ((metered 1 1).reg 0x0C007C).getLsbD 0 = true) ∧
    (((metered 1 1).begun h0 0x0C007C).store 0x0C007C 0).f (MTR_STAT.STATE 31) = 1 ∧
    (((metered 2 1).begun h0 0x0C007C).store 0x0C007C 0).f (MTR_STAT.STATE 31) = 2 ∧ ((up .woad).powered = false ∧ run.powered = true) ∧
    run.dev ≠ .off ∧ ({ run with dev := .off } : Mach).dev = .off ∧ (hired.put HIRE_END.TEND 1).f HIRE_STAT.STATE = 1 ∧
    (hired.put HIRE_END.TEND 1).f HIRE_END.TEND ≠ 0 ∧ (hired.put HIRE_END.TEND 1).tod < (hired.put HIRE_END.TEND 1).f HIRE_END.TEND ∧
    (let m := ({ hired.put HIRE_END.TEND 1 with tod := 1 } : Mach); m.f HIRE_END.TEND ≤ m.tod) ∧ hired.f HIRE_END.TEND = 0 ∧
    run.f HIRE_STAT.STATE = 0 := by decide +kernel

theorem witness_MeterTickOfOneGroup :
    (sampled 16 0 true).f (MTR_STAT.STATE 31) = 1 ∧ (sampled 16 0 true).wf = true ∧ 16 ≤ ((sampled 16 0 true).mtr 31).qual ∧
    (sampled 16 0 true).ticks 31 + 1 < 2 ^ 40 ∧ ((sampled 15 16 false).mtr 31).qual < 16 ∧ 16 ≤ ((sampled 15 16 false).mtr 31).run ∧
    (sampled 15 16 false).faultTicks 31 + 1 < 2 ^ 40 ∧ ((sampled 15 15 false).mtr 31).run < 16 ∧ ((sampled 16 0 true).mtr 31).prev = true ∧
    ((sampled 15 16 false).mtr 31).prev = false := by decide +kernel

theorem witness_Sentinel :
    (strobed true 0).dev ≠ .off ∧ ((strobed true 0).aw 0x2008).getLsbD 0 = false ∧ (run.aw 0x2008).getLsbD 3 = true ∧
    Nat.min 2 ((strobed true 0).sent.same.getD 0 0 + 1) = 2 ∧ ((strobed true 0).f SENT_STAT.TLIVE).testBit 0 = false ∧
    ((strobed false 1).f SENT_STAT.TLIVE).testBit 0 = true ∧ (moving true).motionOn = true ∧ (moving false).motionOn = true ∧
    (moving true).sent.hold = true ∧ (moving false).sent.hold = false ∧ ({ run with dev := .off } : Mach).motionOn = false ∧
    (getF ((run.setAw 0x2008 0x10000000).aw 0x2008) 28 4 ≠ 0 ∧ getF ((run.setAw 0x2008 0).aw 0x2008) 28 4 = 0) ∧
    (((run.setAw 0x2008 0x10000000).put SENT_STAT.WAKE 1).fb SENT_STAT.WAKE = true ∧ run.fb SENT_STAT.WAKE = false) ∧ run.byP0 h0 ∧
    ((0x2000000 : Word).getLsbD 25 = true ∧ (0 : Word).getLsbD 25 = false) := by decide +kernel

theorem witness_LedgerCommands :
    run.ldgBuf = [] ∧ (entering 14).ldgBuf ≠ [] ∧ (entering 14).dev ≠ .off ∧
    ((entering 14).nextAon .entry 1).ldgBuf = [⟨word 0x10, none, 0, 0⟩] ∧
    (({ entering 13 with ldgDrop := 1 } : Mach).ldgDrop ≠ 0 ∧ (entering 14).ldgDrop = 0) ∧
    ({ run with ldg := { due := [0] } } : Mach).ldg.due = [0] ∧ run.hostUp = true ∧ run.ldg.due = [] ∧ run.byP0 h0 ∧
    ((2 : Word).getLsbD 1 = true ∧ (0 : Word).getLsbD 1 = false) ∧ (run.put LDG_STAT.CHK 1).f LDG_STAT.CHK = 1 ∧ run.powered = true ∧
    run.f LDG_STAT.CHK ≠ 1 := by decide +kernel

theorem witness_SelfTestCommands :
    (testing .qeng).locked = true ∧ (testing .qeng).dev = .run ∧ (testing .qeng).mayFallDue (.loopback .up) = true ∧
    (testing .qeng).gov.slots.contains .qeng = true ∧ (testing .qeng).gov.slots.contains (.loopback .up) = false ∧
    ((testing .qeng).gov.want.map Prod.fst).contains (.loopback .up) = false ∧ (testing .qeng).mayFallDue (.lane 15) = false ∧
    (testing (.fdcal 16)).actRuns (.fdcal 16) = true ∧ (testing (.fdcal 16)).dev ≠ .teasel ∧
    (0 ≤ lastLine 16 ∧ lastLine 16 = 7 ∧ lastLine 0 = 15) ∧ ((testing (.fdcal 16)).pass 16).next = (0 : Fin 16).val ∧
    ((testing (.fdcal 16)).pass 16).ready = none ∧
    ((testing (.fdcal 15)).engineCh (lineEngine 15 0)).any (fun n => (testing (.fdcal 15)).chst n != 0) = false ∧
    (let m := (testing (.fdcal 15)).tput 240 CH_STAT.STATE 2; m.actRuns (.fdcal 15) = true ∧ (m.pass 15).next = 0 ∧ m.engineCh (lineEngine 15 0) = some 240 ∧ m.chst 240 ≠ 0) ∧
    (((testing (.fdcal 16)).setPass 16 { next := 8 }).pass 16).next = lastLine 16 + 1 ∧
    ((swapping.pass 15).ready = some 0 ∧ swapping.engineCh (lineEngine 15 15) = some 255 ∧ swapping.lowTurn 255 0 = some 32768 ∧ (swapping.pass 15).next = (15 : Fin 16).val) ∧
    ((testing (.lane 15)).updTest (fun t => { t with lane := 15, laneStep := 7 })).laneUnder = some 15 ∧
    ((testing (.lane 15)).updTest (fun t => { t with lane := 15, laneStep := 7 })).test.laneStep + 1 = 8 ∧
    ((testing (.lane 15)).updTest (fun t => { t with lane := 15, laneStep := 6 })).test.laneStep + 1 < 8 ∧
    (testing .qeng).actRuns .qeng = true ∧ ({ testing .qeng with test := { pieces := 15 } } : Mach).test.pieces + 1 = 16 ∧
    ((testing (.scrub 4)).updTest (fun t => { t with scrubMem := 4 })).scrubUnder = some 4 ∧
    (((testing (.scrub 4)).updTest (fun t => { t with scrubMem := 4 })).test.scrubAt + 1 ≠ memWords 4 ∧ memWords 4 - 1 + 1 = memWords 4) ∧
    ({ up .arming with boot := { step := 8 } } : Mach).lstate .down ≤ 1 ∧ ({ up .arming with boot := { step := 8 } } : Mach).boot.step = 8 ∧
    (testing (.loopback .down)).actRuns (.loopback .down) = true ∧ (testing (.loopback .down)).dev ≠ .arming := by decide +kernel

theorem witness_TeaselCommands :
    ({ run with boot := { straps := 16, park := some 3 } } : Mach).boot.straps.getLsbD 4 = true ∧
    ({ run with boot := { straps := 16, park := some 3 } } : Mach).boot.park = some 3 ∧
    ({ run with boot := { straps := 16 } } : Mach).boot.park = none ∧ ({ run with boot := { straps := 16 } } : Mach).boot.stop = false ∧
    run.boot.straps.getLsbD 4 = false ∧ (armed h0 0x0F0010 (up .teasel)).bind h0 = .part 0 1 ∧
    (armed h0 0x0F0010 (up .teasel)).hostUp = true ∧ (armed h0 0x0F0010 (up .teasel)).todo = [] ∧
    (armed h0 0x0F0010 (up .teasel)).dev = .teasel ∧
    (armed h0 0x0F0010 (up .teasel)).isArmed ((armed h0 0x0F0010 (up .teasel)).bind h0) 0x0F0010 = true ∧
    (((armed h0 0x0F0010 (up .teasel)).begun h0 0x0F0010).store 0x0F0010 0).tstRefused 0 0 = true ∧
    ((((armed h0 0x0F0010 (up .teasel)).put ROOT_STAT.APLL 2).begun h0 0x0F0010).store 0x0F0010 7).tstRefused 7 0 = false ∧
    ((((armed h0 0x0F0010 (up .teasel)).put ROOT_STAT.APLL 2).begun h0 0x0F0010).store 0x0F0010 3).tstRefused 3 0 = false ∧
    ({ up .teasel with test := { run := some (7, 0) } } : Mach).test.run = some (7, 0) ∧ (up .teasel).dev = .teasel := by decide +kernel

theorem witness_StepRunsTheFrontCommand :
    ({ m := run, pending := [.nop, .chStop] } : State).pending = .nop :: [.chStop] ∧ State.reset.pending = [] := by decide +kernel

theorem witness_EveryStepKeepsStoresCanonical :
    run.wf = true ∧ State.reset.m.wf = true := by decide +kernel

theorem witness_MisalignedAccess :
    run.hostUp = true ∧ run.todo = [] ∧ ((3 : BitVec 24).toNat % 4 ≠ 0 ∧ (0xFFFFFF : BitVec 24).toNat % 4 ≠ 0) ∧
    run.bind nobody = .unbound ∧ run.bind h1 ≠ .unbound ∧ run.wf = true ∧
    run.fb (ACC_STAT.ACCERR.inst (run.bind h1).inst) = false := by decide +kernel

theorem witness_WideSelRefusals :
    run.hostUp = true ∧ run.todo = [] ∧ run.bind h1 ≠ .unbound ∧ run.wf = true ∧ run.fb (WIDE_STAT.BUSY.inst (run.bind h1).inst) = false ∧
    wideExists 255 0 = false ∧ wideExists 1 255 = false ∧
    (run.put (WIDE_STAT.BUSY.inst 1) 1).fb (WIDE_STAT.BUSY.inst ((run.put (WIDE_STAT.BUSY.inst 1) 1).bind h1).inst) = true ∧
    (run.put (WIDE_STAT.BUSY.inst 1) 1).wf = true := by decide +kernel

theorem witness_ForeignWritesIgnored :
    run.hostUp = true ∧ run.todo = [] ∧ run.bind h1 = .part 1 2 ∧
    (rowOf 0x030000).any (fun r => r.ordinary 0x030000 && decide (0x030000 / 0x10000 ≠ 15) && decide (r.own = 0) && decide ((r.rw ||| r.w1c |||
      r.cfg ||| r.key) ≠ 0) && !run.mayWrite r (.part 1 2) 0x030000) = true := by decide +kernel

theorem witness_NoMessagePassesTwice :
    (authed 1).wf = true ∧ ((authed 1).authCheck 1 1 [1] (cmac (List.replicate 16 0) [1]) 0).2 = 0 ∧
    (1 ≤ 5 ∧ 1 < 2 ^ 32) := by decide +kernel

theorem witness_CounterFloor :
    (burning 5).todo = [] ∧ (burning 5).wf = true ∧ (burning 5).sec.burning = some (5, []) ∧ (owner 0x0B0110).todo = [] ∧
    (owner 0x0B0110).wf = true ∧ (owner 0x0B0110).byP0 h0 ∧ (owner 0x0B0110).mayOwnKey ((owner 0x0B0110).bind h0) 0x0B0110 = true ∧
    (owner 0x0B0110).isArmed ((owner 0x0B0110).bind h0) 0x0B0110 = true := by decide +kernel

theorem witness_TimeOfDayEntries :
    todWrite.todo = [] ∧ (todWrite.wide (wideLeft + 16)).busy = false ∧ (todWrite.wide 16).busy = true ∧ (todWrite.wide 16).wr = true ∧
    todWrite.fb PPS_CFG.TOD_EN = false ∧ todWrite.ldgBuf.length ≤ 13 ∧ (todWrite.wide 16).who ≤ 16 ∧
    (let m := run.setWide (wideLeft + 0) { busy := true, wr := true, cls := 1, lo := 5, who := 0 }; (m.wide (wideLeft + 0)).busy = true ∧ (m.wide (wideLeft + 0)).wr = true ∧ m.todo = [] ∧ m.ldgBuf.length ≤ 13) := by decide +kernel

/-- No queue has a command that may go: the hypothesis of the clause of an idle arbitration. -/
theorem witness_CommandDispatch_idle : run.visiting = false ∧ run.nextUrgent = none ∧ run.normal = none ∧ ∀ p, run.ready p false = none := by
  refine ⟨by decide +kernel, by decide +kernel, by decide +kernel, ?_⟩
  intro p
  unfold Mach.ready
  split
  · rfl
  · rfl

/-- The step that the invariant speaks of answers a next state. -/
theorem witness_EveryStepKeepsStoresCanonical_step :
    step { m := run, pending := [.nop] } = exec .nop { m := run, pending := [] } ∧ (did .nop run).isSome = true := ⟨rfl, by decide +kernel⟩

end Sys2Proof.Tests
end

section
/-! PROOFS. What the register file refuses: the record of a refused access (R29, R33), a misaligned access (R29) and the refused
selections of the wide-value mailbox (R46). -/
namespace Sys2Proof.Machine
open Sys2Proof Sys2Proof.Laws

/-! ## Fields of one bank of the banked registers (R502) -/

/-- Two fields share no bit: they stand in different words, or apart in one. -/
abbrev Fld.apart (x y : Fld) : Prop := y.a ≠ x.a ∨ y.lo + y.len ≤ x.lo ∨ x.lo + x.len ≤ y.lo

@[simp] theorem Fld.inst_a (x : Fld) (i : Nat) : (x.inst i).a = x.a + i * instSpan := by rw [Fld.inst]
@[simp] theorem Fld.inst_lo (x : Fld) (i : Nat) : (x.inst i).lo = x.lo := by rw [Fld.inst]
@[simp] theorem Fld.inst_len (x : Fld) (i : Nat) : (x.inst i).len = x.len := by rw [Fld.inst]

/-- Fields that are apart are apart in every bank. -/
theorem Fld.apart_inst {x y : Fld} (h : x.apart y) (i : Nat) : (x.inst i).apart (y.inst i) := by
  simpa only [Fld.apart, Fld.inst_a, Fld.inst_lo, Fld.inst_len, ne_eq, Nat.add_left_inj] using h

/-- A field of a bank read after a write of it. -/
theorem Mach.f_put_inst_same {m : Mach} (h : m.wf = true) (x : Fld) (i v : Nat) (hx : x.lo + x.len ≤ 32) :
    (m.put (x.inst i) v).f (x.inst i) = v % 2 ^ x.len := by
  rw [Mach.f_put_same h _ _ (by rwa [Fld.inst_lo, Fld.inst_len]), Fld.inst_len]

/-- A field of a bank read after a write of one apart from it. -/
theorem Mach.f_put_inst_ne {m : Mach} (h : m.wf = true) {x y : Fld} (i v : Nat) (hx : x.apart y) :
    (m.put (x.inst i) v).f (y.inst i) = m.f (y.inst i) :=
  Mach.f_put_ne h _ _ v (Fld.apart_inst hx i)

/-- A bit of a bank read after a write of it. -/
theorem Mach.fb_put_inst_same {m : Mach} (h : m.wf = true) (x : Fld) (i v : Nat) (hx : x.lo + x.len ≤ 32) :
    (m.put (x.inst i) v).fb (x.inst i) = (v % 2 ^ x.len == 1) :=
  congrArg (· == 1) (Mach.f_put_inst_same h x i v hx)

/-- A bit of a bank read after a write of a field apart from it. -/
theorem Mach.fb_put_inst_ne {m : Mach} (h : m.wf = true) {x y : Fld} (i v : Nat) (hx : x.apart y) :
    (m.put (x.inst i) v).fb (y.inst i) = m.fb (y.inst i) :=
  congrArg (· == 1) (Mach.f_put_inst_ne h i v hx)

/-- A register word apart from the one a field was written in is as it was. -/
theorem Mach.reg_put_ne {m : Mach} (h : m.wf = true) {x : Fld} {key : Nat} (v : Nat) (hk : key ≠ x.a) : (m.put x v).reg key = m.reg key :=
  Mach.reg_setReg_ne h hk _

/-! What an access marks is no part of any register (R356). -/

@[simp] theorem Mach.reg_accFlag (m : Mach) (b : Bool) (key : Nat) : ({ m with accFlag := b } : Mach).reg key = m.reg key := rfl
@[simp] theorem Mach.f_accFlag (m : Mach) (b : Bool) (x : Fld) : ({ m with accFlag := b } : Mach).f x = m.f x := rfl
@[simp] theorem Mach.fb_accFlag (m : Mach) (b : Bool) (x : Fld) : ({ m with accFlag := b } : Mach).fb x = m.fb x := rfl

/-! ## The record of a refused access (R29, R57) -/

/-- The first error: ACCERR, its cause, its address and its port. -/
def Mach.accFirst (w : Who) (port : Port) (addr cause : Nat) (m : Mach) : Mach :=
  (((m.put (ACC_STAT.ACCERR.inst w.inst) 1).put (ACC_STAT.CAUSE.inst w.inst) cause).put (ACC_ADDR.ADDR.inst w.inst) addr).put
    (ACC_ADDR.PORT.inst w.inst) (portNum port)

/-- A first error is recorded, and the access is marked. -/
theorem Mach.accErr_first {m : Mach} {w : Who} (port : Port) (addr cause : Nat) (hw : w ≠ .unbound)
    (h : m.fb (ACC_STAT.ACCERR.inst w.inst) = false) : m.accErr w port addr cause = { m.accFirst w port addr cause with accFlag := true } := by
  cases w with
  | unbound => exact absurd rfl hw
  | part p k => simp only [Mach.accErr, h, Bool.false_eq_true, if_false]; rfl
  | sec => simp only [Mach.accErr, h, Bool.false_eq_true, if_false]; rfl

/-- A later error sets OVF alone, and the access is marked. -/
theorem Mach.accErr_later {m : Mach} {w : Who} (port : Port) (addr cause : Nat) (hw : w ≠ .unbound)
    (h : m.fb (ACC_STAT.ACCERR.inst w.inst) = true) : m.accErr w port addr cause = { m.put (ACC_STAT.OVF.inst w.inst) 1 with accFlag := true } := by
  cases w with
  | unbound => exact absurd rfl hw
  | part p k => simp only [Mach.accErr, h, if_true]
  | sec => simp only [Mach.accErr, h, if_true]

/-- An unbound access leaves no record (R113). -/
@[simp] theorem Mach.accErr_unbound (m : Mach) (port : Port) (addr cause : Nat) : m.accErr .unbound port addr cause = m := rfl

/-- A refused access changes registers and the mark of the access, and nothing else. -/
theorem Mach.accErr_fields (m : Mach) (w : Who) (port : Port) (addr cause : Nat) : m.accErr w port addr cause =
    { m with regs := (m.accErr w port addr cause).regs, accFlag := (m.accErr w port addr cause).accFlag } := by
  unfold Mach.accErr
  split
  · rfl
  · split <;> rfl

@[simp] theorem Mach.accErr_tbl (m : Mach) (w : Who) (port : Port) (addr cause : Nat) : (m.accErr w port addr cause).tbl = m.tbl := by
  rw [Mach.accErr_fields]

@[simp] theorem Mach.accErr_aon (m : Mach) (w : Who) (port : Port) (addr cause : Nat) : (m.accErr w port addr cause).aon = m.aon := by
  rw [Mach.accErr_fields]

/-- After a refused access of a bound master ACCERR is 1, whether it was the first error or not. -/
theorem Mach.accErr_sets {m : Mach} {w : Who} (port : Port) (addr cause : Nat) (hw : w ≠ .unbound) (h : m.wf = true) :
    (m.accErr w port addr cause).fb (ACC_STAT.ACCERR.inst w.inst) = true := by
  rcases hb : m.fb (ACC_STAT.ACCERR.inst w.inst) with _ | _
  · rw [Mach.accErr_first _ _ _ hw hb, Mach.fb_accFlag]
    unfold Mach.accFirst
    rw [Mach.fb_put_inst_ne (wf_put (wf_put (wf_put h))) _ _ (by decide), Mach.fb_put_inst_ne (wf_put (wf_put h)) _ _ (by decide),
      Mach.fb_put_inst_ne (wf_put h) _ _ (by decide), Mach.fb_put_inst_same h _ _ _ (by decide)]
    rfl
  · rw [Mach.accErr_later _ _ _ hw hb, Mach.fb_accFlag, Mach.fb_put_inst_ne h _ _ (by decide), hb]

/-- A first error leaves its cause, cut to the field. -/
theorem Mach.accErr_cause {m : Mach} {w : Who} (port : Port) (addr cause : Nat) (hw : w ≠ .unbound) (h : m.wf = true)
    (hb : m.fb (ACC_STAT.ACCERR.inst w.inst) = false) : (m.accErr w port addr cause).f (ACC_STAT.CAUSE.inst w.inst) = cause % 2 ^ 4 := by
  rw [Mach.accErr_first _ _ _ hw hb, Mach.f_accFlag]
  unfold Mach.accFirst
  rw [Mach.f_put_inst_ne (wf_put (wf_put (wf_put h))) _ _ (by decide), Mach.f_put_inst_ne (wf_put (wf_put h)) _ _ (by decide),
    Mach.f_put_inst_same (wf_put h) _ _ _ (by decide)]
  rfl

/-- A first error leaves its address, cut to the field. -/
theorem Mach.accErr_addr {m : Mach} {w : Who} (port : Port) (addr cause : Nat) (hw : w ≠ .unbound) (h : m.wf = true)
    (hb : m.fb (ACC_STAT.ACCERR.inst w.inst) = false) : (m.accErr w port addr cause).f (ACC_ADDR.ADDR.inst w.inst) = addr % 2 ^ 24 := by
  rw [Mach.accErr_first _ _ _ hw hb, Mach.f_accFlag]
  unfold Mach.accFirst
  rw [Mach.f_put_inst_ne (wf_put (wf_put (wf_put h))) _ _ (by decide), Mach.f_put_inst_same (wf_put (wf_put h)) _ _ _ (by decide)]
  rfl

/-- A refused access changes no register but the accessor's ACC_STAT and ACC_ADDR. -/
theorem Mach.accErr_reg {m : Mach} (w : Who) (port : Port) (addr cause : Nat) (h : m.wf = true) {key : Nat}
    (hs : key ≠ (ACC_STAT.ACCERR.inst w.inst).a) (ha : key ≠ (ACC_ADDR.ADDR.inst w.inst).a) :
    (m.accErr w port addr cause).reg key = m.reg key := by
  by_cases hw : w = .unbound
  · rw [hw, Mach.accErr_unbound]
  rcases hb : m.fb (ACC_STAT.ACCERR.inst w.inst) with _ | _
  · rw [Mach.accErr_first _ _ _ hw hb, Mach.reg_accFlag]
    unfold Mach.accFirst
    rw [Mach.reg_put_ne (x := ACC_ADDR.PORT.inst w.inst) (wf_put (wf_put (wf_put h))) _ ha, Mach.reg_put_ne (wf_put (wf_put h)) _ ha,
      Mach.reg_put_ne (x := ACC_STAT.CAUSE.inst w.inst) (wf_put h) _ hs, Mach.reg_put_ne h _ hs]
  · rw [Mach.accErr_later _ _ _ hw hb, Mach.reg_accFlag]
    exact Mach.reg_put_ne h _ hs

/-! ## A misaligned access (R29) -/

/-- A write off the word boundary is refused before every other check. -/
theorem Mach.busWrite_misaligned {m : Mach} (a : Acc) {addr : Nat} (d : Word) (hu : m.hostUp = true) (h4 : addr % 4 ≠ 0) :
    m.busWrite a addr d = m.unmarked.accErr (m.bind a) a.port addr cALIGN := by
  have hu' : ¬ (!m.unmarked.hostUp) = true := by simpa using (show m.unmarked.hostUp = true from hu)
  unfold Mach.busWrite
  dsimp only
  rw [if_neg hu', if_pos h4]

/-- A read off the word boundary returns 0 and is refused before every other check. -/
theorem Mach.busRead_misaligned {m : Mach} (a : Acc) {addr : Nat} (hu : m.hostUp = true) (h4 : addr % 4 ≠ 0) :
    m.busRead a addr = (0, m.unmarked.accErr (m.bind a) a.port addr cALIGN) := by
  have hu' : ¬ (!m.unmarked.hostUp) = true := by simpa using (show m.unmarked.hostUp = true from hu)
  unfold Mach.busRead
  dsimp only
  rw [if_neg hu', if_pos h4]

/-- A write that leaves nothing on the agenda is what the bus makes of it. -/
theorem Mach.write_of_busWrite {m n : Mach} {a : Acc} {addr : Nat} {d : Word} (h : m.busWrite a addr d = n) (ht : n.todo = []) :
    m.write a addr d = n := by
  unfold Mach.write
  rw [h, Mach.settleFor_nil 1 ht]

/-- Settles O55: the bus refuses the address before it looks at the register, and the record of a refusal is all that changes. -/
theorem misalignedAccess : Obligations.MisalignedAccess := by
  unfold Obligations.MisalignedAccess
  intro s a addr hu ht h4 w m1
  refine ⟨fun d => ?write, Mach.busRead_misaligned a hu h4, fun hw => ?unbound, fun hw hwf => ?bound⟩
  case write =>
    exact does_act (Mach.write_of_busWrite (Mach.busWrite_misaligned a d hu h4) (by rw [Mach.accErr_todo, Mach.unmarked_todo, ht]))
  case unbound =>
    show s.m.unmarked.accErr w a.port addr.toNat cALIGN = _
    rw [hw, Mach.accErr_unbound]
  case bound =>
    have hwf' : s.m.unmarked.wf = true := wf_unmarked hwf
    refine ⟨Mach.accErr_sets _ _ _ hw hwf', fun hfirst => ⟨?_, ?_⟩, fun key hs ha => Mach.accErr_reg _ _ _ _ hwf' hs ha,
      Mach.accErr_tbl .., Mach.accErr_aon ..⟩
    · exact Mach.accErr_cause _ _ _ hw hwf' hfirst
    · exact (Mach.accErr_addr _ _ _ hw hwf' hfirst).trans (Nat.mod_eq_of_lt addr.isLt)

/-! ## The refused selections of the wide-value mailbox (R46) -/

/-- The row of WIDE_SEL (R495). -/
def wideSelRow : Row := { name := "WIDE_SEL", base := 0x000110, inst := .bank, kept := .part, writer := .each, rw := 0x8000FFFF }

theorem rowOf_wideSel : rowOf 0x000110 = some wideSelRow := by decide

/-- Every bound master may write its own WIDE_SEL. -/
theorem Mach.mayWrite_wideSel (m : Mach) {w : Who} (hw : w ≠ .unbound) : m.mayWrite wideSelRow w 0x000110 = true := by
  unfold Mach.mayWrite
  split
  · rfl
  · cases w with
    | unbound => exact absurd rfl hw
    | part p k => rfl
    | sec => rfl

/-- The start of a write of WIDE_SEL leaves the mailbox's status: it may use up an arm and no more. -/
theorem Mach.begun_fb_wideStat {m : Mach} (a : Acc) (h : m.wf = true) {x : Fld} (hx : x.a = 0x000114) :
    (m.begun a 0x000110).fb (x.inst (m.bind a).inst) = m.fb (x.inst (m.bind a).inst) := by
  unfold Mach.begun Mach.spent
  split
  · exact Mach.fb_put_inst_ne (wf_unmarked h) _ _ (.inl (by rw [hx]; decide))
  · rfl

/-- A write of WIDE_SEL while a transfer runs is ignored, with cause WINDOW. -/
theorem Mach.gatedWrite_wideBusy {m : Mach} {w : Who} (a : Acc) (d : Word) (hw : w ≠ .unbound)
    (hb : (m.spent w 0x000110).fb (WIDE_STAT.BUSY.inst w.inst) = true) :
    m.gatedWrite w a wideSelRow 0x000110 d = (m.spent w 0x000110).accErr w a.port 0x000110 cWINDOW := by
  have hsvc : (m.spent w 0x000110).svcBusy 0x000110 = false := by simp [Mach.svcBusy]
  have hlock : m.lockedGrp wideSelRow w 0x000110 = none := by simp [Mach.lockedGrp, wideSelRow]
  have hmay := m.mayWrite_wideSel hw
  unfold Mach.gatedWrite
  simp [hlock, hmay, hsvc, hb, show wideSelRow.own = 0 from rfl, show wideSelRow.key = 0 from rfl]

/-- While a transfer runs, a bound master's write of WIDE_SEL leaves only the record of its refusal. -/
theorem Mach.write_wideBusy {m : Mach} {a : Acc} (d : Word) (hu : m.hostUp = true) (ht : m.todo = []) (hn : m.bind a ≠ .unbound)
    (hwf : m.wf = true) (hb : m.fb (WIDE_STAT.BUSY.inst (m.bind a).inst) = true) :
    m.write a 0x000110 d = (m.begun a 0x000110).accErr (m.bind a) a.port 0x000110 cWINDOW := by
  have hb' : (m.begun a 0x000110).fb (WIDE_STAT.BUSY.inst (m.bind a).inst) = true := (Mach.begun_fb_wideStat a hwf rfl).trans hb
  refine Mach.write_of_busWrite ?_ (by rw [Mach.accErr_todo, Mach.begun_todo, ht])
  rw [Mach.busWrite_gated d hu (.inl hn) rowOf_wideSel (by decide) (.inl (by decide)) (.inr (.inr (by decide))) rfl (by decide),
    Mach.grpTouch_other _ _ (by decide) rfl]
  exact Mach.gatedWrite_wideBusy a d hn hb'

/-- No check refuses a bound master its WIDE_SEL while no transfer runs. -/
theorem Mach.opens_wideSel {m : Mach} {a : Acc} (hu : m.hostUp = true) (ht : m.todo = []) (hn : m.bind a ≠ .unbound) (hwf : m.wf = true)
    (hb : m.fb (WIDE_STAT.BUSY.inst (m.bind a).inst) = false) : m.opens a 0x000110 wideSelRow := by
  refine ⟨hu, ht, .inl hn, rowOf_wideSel, by decide, .inl (by decide), .inr (.inr (by decide)), m.mayWrite_wideSel hn, .inl rfl,
    .inl (by decide), ?_, .inr ((Mach.begun_fb_wideStat a hwf rfl).trans hb), ?_, ?_, .inl (by decide)⟩
  · simp [Mach.lockedGrp, wideSelRow]
  · simp [Mach.svcBusy]
  · simp [Mach.grpPending]

/-- What a selection leaves of the mailbox's status: the marks of the last transfer are clear, and CLASS shows the class (R46). -/
def Mach.wideShown (i cls : Nat) (m : Mach) : Mach :=
  (((m.put (WIDE_STAT.VALID.inst i) 0).put (WIDE_STAT.BADSEL.inst i) 0).put (WIDE_STAT.REFUSED.inst i) 0).put (WIDE_STAT.CLASS.inst i) cls

/-- The selection of a value that does not exist sets BADSEL, and begins no transfer. -/
theorem Mach.wideHook_missing {w : Who} {d : Word} (m : Mach) (h : wideExists (getF d 0 8) (getF d 8 8) = false) :
    m.wideHook w d = (m.wideShown w.inst (getF d 0 8)).put (WIDE_STAT.BADSEL.inst w.inst) 1 := by
  simp only [Mach.wideHook, h, Bool.not_false, if_true]
  rfl

/-- The effect of an accepted write of WIDE_SEL is its selection. -/
theorem Mach.hook_wideSel (m : Mach) (w : Who) (a : Acc) (d old new : Word) : m.hook w a 0x000110 d old new = m.wideHook w d := rfl

/-- The mailbox after a refused selection (R46). -/
abbrev Mach.wideRefused (i : Nat) (old m : Mach) : Prop :=
  m.fb (WIDE_STAT.BADSEL.inst i) = true ∧ m.fb (WIDE_STAT.VALID.inst i) = false ∧ m.wides = old.wides

theorem Mach.wideHook_refused {w : Who} {d : Word} {m : Mach} (hwf : m.wf = true) (h : wideExists (getF d 0 8) (getF d 8 8) = false) :
    Mach.wideRefused w.inst m (m.wideHook w d) := by
  have h1 : (m.put (WIDE_STAT.VALID.inst w.inst) 0).wf = true := wf_put hwf
  have h4 : (m.wideShown w.inst (getF d 0 8)).wf = true := wf_put (wf_put (wf_put h1))
  rw [Mach.wideHook_missing m h]
  refine ⟨Mach.fb_put_inst_same h4 _ _ _ (by decide), ?_, rfl⟩
  rw [Mach.fb_put_inst_ne h4 _ _ (by decide)]
  unfold Mach.wideShown
  rw [Mach.fb_put_inst_ne (wf_put (wf_put h1)) _ _ (by decide), Mach.fb_put_inst_ne (wf_put h1) _ _ (by decide),
    Mach.fb_put_inst_ne h1 _ _ (by decide), Mach.fb_put_inst_same hwf _ _ _ (by decide)]
  rfl

/-- The writable bits of WIDE_SEL cover a field, so what acts of the word has the field as written. -/
theorem getF_wideSel (d : Word) (lo : Nat) (h : lo + 8 ≤ 16) (v : Nat) :
    getF (setF d 31 1 v &&& (word wideSelRow.rw ||| word wideSelRow.own ||| word wideSelRow.w1c)) lo 8 = getF d lo 8 := by
  rw [getF_and, getF_setF_ne _ _ _ _ _ _ (.inl (by omega))]
  intro i hi
  have : ∀ k, k < 16 → (word wideSelRow.rw ||| word wideSelRow.own ||| word wideSelRow.w1c).getLsbD k = true := by decide
  exact this _ (by omega)

/-- A bound master's selection of a value that does not exist, for a read or for a write, is refused. -/
theorem Mach.write_wideMissing {m : Mach} {a : Acc} (d : Word) (v : Nat) (hu : m.hostUp = true) (ht : m.todo = [])
    (hn : m.bind a ≠ .unbound) (hwf : m.wf = true) (hb : m.fb (WIDE_STAT.BUSY.inst (m.bind a).inst) = false)
    (h : wideExists (getF d 0 8) (getF d 8 8) = false) :
    (m.write a 0x000110 (setF d 31 1 v)).todo = [] ∧ Mach.wideRefused (m.bind a).inst m (m.write a 0x000110 (setF d 31 1 v)) := by
  rw [Mach.write_easy _ (Mach.opens_wideSel hu ht hn hwf hb) rfl rfl rfl (by decide) rfl, Mach.hook_wideSel]
  generalize hd : setF d 31 1 v &&& _ = d'
  generalize hm : (m.begun a 0x000110).store _ _ = n
  have h' : wideExists (getF d' 0 8) (getF d' 8 8) = false := by
    rw [← hd, getF_wideSel d 0 (by decide), getF_wideSel d 8 (by decide), h]
  have hnwf : n.wf = true := hm ▸ wf_store (wf_spent (wf_unmarked hwf))
  have hnt : n.todo = [] := by rw [← hm, Mach.store_todo, Mach.begun_todo, ht]
  have hnw : n.wides = m.wides := by
    rw [← hm, Mach.begun_fields]
    unfold Mach.store
    split <;> rfl
  refine ⟨by rw [Mach.wideHook_missing n h']; exact hnt, ?_⟩
  obtain ⟨hbad, hvalid, hsame⟩ := Mach.wideHook_refused (w := m.bind a) hnwf h'
  exact ⟨hbad, hvalid, hsame.trans hnw⟩

/-- Settles O56: a free mailbox takes the selection and refuses it, a busy one refuses the write itself. -/
theorem wideSelRefusals : Obligations.WideSelRefusals := by
  unfold Obligations.WideSelRefusals
  intro s a d hu ht hn hwf w i
  refine ⟨fun hb hmissing => ?_, fun hb => ?_⟩
  · obtain ⟨hquietRead, hread⟩ := Mach.write_wideMissing d 0 hu ht hn hwf hb hmissing
    obtain ⟨hquietWrite, hwrite⟩ := Mach.write_wideMissing d 1 hu ht hn hwf hb hmissing
    exact ⟨yields_quiet hquietRead hread, yields_quiet hquietWrite hwrite⟩
  · exact ⟨does_act (Mach.write_wideBusy _ hu ht hn hwf hb), does_act (Mach.write_wideBusy _ hu ht hn hwf hb)⟩

end Sys2Proof.Machine
end

section
/-! PROOFS. Key programming and the stored counters (R435, R436): the request reaches KEY_PROG's effect, a burn that ends VALID sets its
own slot's counter to the floor of the epoch, and nothing else of key programming writes the always-on memory. -/
namespace Sys2Proof.Machine
open Sys2Proof Sys2Proof.Laws

/-! ## Key slots (R434) -/

/-- A value other than the default reads back in every store, canonical or not: the read stops where the write stopped. -/
theorem cget_cset_of_ne_default {α : Type} [DecidableEq α] {d : Nat → α} {k : Nat} {v : α} (hv : v ≠ d k) :
    ∀ m : Cells α, cget d (cset d m k v) k = v
  | [] => by simp [cset, cget, hv]
  | (k', v') :: t => by
    rw [cset]
    split
    next => rw [cget, if_pos rfl]
    next hk =>
      split
      next => rw [cget, if_pos rfl]
      next hlt => rw [cget, if_neg hk, if_neg hlt, cget_cset_of_ne_default hv t]

/-- A slot that is not blank reads back after its write. -/
theorem Mach.slot_setSlot_same (m : Mach) (k : Nat) {v : KeySlot} (hv : v ≠ {}) : (m.setSlot k v).slot k = v :=
  cget_cset_of_ne_default hv _

/-- Such a slot is VALID as its state says. -/
theorem Mach.keyValid_setSlot (m : Mach) (k : Nat) {v : KeySlot} (hv : v ≠ {}) : (m.setSlot k v).keyValid k = (v.state == 1) := by
  rw [Mach.keyValid, Mach.slot_setSlot_same m k hv]

/-- Whether a slot is VALID is a matter of the security engine alone. -/
theorem Mach.keyValid_congr {m n : Mach} (h : n.sec = m.sec) (k : Nat) : n.keyValid k = m.keyValid k := by
  unfold Mach.keyValid Mach.slot
  rw [h]

/-! ## Stored counters (R443) -/

/-- The stored counters stand in the always-on memory. -/
theorem Mach.storedCtr_congr {m n : Mach} (h : n.aon = m.aon) (j : Nat) : n.storedCtr j = m.storedCtr j := by
  unfold Mach.storedCtr Mach.aw
  rw [h]

@[simp] theorem Mach.setCtr_sec (m : Mach) (k v : Nat) : (m.setCtr k v).sec = m.sec := rfl
@[simp] theorem Mach.setCtr_todo (m : Mach) (k v : Nat) : (m.setCtr k v).todo = m.todo := rfl

/-- A stored counter is a word. -/
theorem Mach.storedCtr_setCtr_same {m : Mach} (h : m.wf = true) (k v : Nat) : (m.setCtr k v).storedCtr k = v % 2 ^ 32 := by
  unfold Mach.storedCtr Mach.setCtr
  rw [Mach.aw_setAw_same h]
  exact BitVec.toNat_ofNat v 32

theorem Mach.storedCtr_setCtr_ne {m : Mach} (h : m.wf = true) {k j : Nat} (hj : j ≠ k) (v : Nat) :
    (m.setCtr k v).storedCtr j = m.storedCtr j := by
  unfold Mach.storedCtr Mach.setCtr
  rw [Mach.aw_setAw_ne h (by omega)]

/-! ## What key programming leaves (R435, R437) -/

/-- The end of an operation writes registers and the ledger: what depends on neither stays. -/
theorem Mach.keyEnd_keeps {β : Type} (p : Mach → β) (hreg : ∀ key v (t : Mach), p (t.setReg key v) = p t)
    (hldg : ∀ typ a0 a1 (t : Mach), p (t.ledger typ a0 a1) = p t) (m : Mach) (k res : Nat) : p (m.keyEnd k res) = p m := by
  unfold Mach.keyEnd
  dsimp only
  rw [hldg, hldg]
  split
  · rfl
  · rw [forN_keeps p fun _ _ => hreg .., Mach.put, hreg, Mach.put, hreg]

@[simp] theorem Mach.keyEnd_aon (m : Mach) (k res : Nat) : (m.keyEnd k res).aon = m.aon :=
  Mach.keyEnd_keeps Mach.aon (fun _ _ _ => rfl) (fun _ _ _ t => t.ledger_aon ..) m k res

@[simp] theorem Mach.keyEnd_todo (m : Mach) (k res : Nat) : (m.keyEnd k res).todo = m.todo :=
  Mach.keyEnd_keeps Mach.todo (fun _ _ _ => rfl) (fun _ _ _ t => t.ledger_todo ..) m k res

@[simp] theorem Mach.keyEnd_sec (m : Mach) (k res : Nat) : (m.keyEnd k res).sec = m.sec :=
  Mach.keyEnd_keeps Mach.sec (fun _ _ _ => rfl) (fun _ _ _ t => t.ledger_sec ..) m k res

/-- A request, rejected, refused or begun, writes registers, the ledger and the security engine: what depends on none of them stays. -/
theorem Mach.keyProg_keeps {β : Type} (p : Mach → β) (hreg : ∀ key v (t : Mach), p (t.setReg key v) = p t)
    (hldg : ∀ typ a0 a1 (t : Mach), p (t.ledger typ a0 a1) = p t) (hsec : ∀ sec (t : Mach), p { t with sec := sec } = p t) (m : Mach) :
    p m.keyProg = p m := by
  unfold Mach.keyProg
  dsimp only
  split
  next => exact hreg ..
  next =>
    split
    next =>
      rw [Mach.keyEnd_keeps p hreg hldg]
      split
      next => exact hsec ..
      next => rfl
    next => exact hsec ..

@[simp] theorem Mach.keyProg_aon (m : Mach) : m.keyProg.aon = m.aon :=
  Mach.keyProg_keeps Mach.aon (fun _ _ _ => rfl) (fun _ _ _ t => t.ledger_aon ..) (fun _ _ => rfl) m

@[simp] theorem Mach.keyProg_todo (m : Mach) : m.keyProg.todo = m.todo :=
  Mach.keyProg_keeps Mach.todo (fun _ _ _ => rfl) (fun _ _ _ t => t.ledger_todo ..) (fun _ _ => rfl) m

/-! ## The end of a burn (R435, R436) -/

/-- No burn is under way any more. -/
def Mach.burnOver (m : Mach) : Mach := { m with sec := { m.sec with burning := none } }

theorem wf_burnOver {m : Mach} (h : m.wf = true) : m.burnOver.wf = true := wf_of _ h rfl rfl rfl rfl rfl rfl rfl rfl rfl rfl rfl

/-- Every bit verified: the slot is VALID, and its counter starts at the floor. -/
theorem Mach.keyBurnDone_verified {m : Mach} {k : Nat} {key : List Byte} (h : m.sec.burning = some (k, key)) :
    m.keyBurnDone true = ((m.burnOver.setSlot k { state := 1, key := key }).setCtr k m.ctrFloor).keyEnd k 0 := by
  unfold Mach.keyBurnDone
  rw [h]
  rfl

/-- A bit that does not verify: the slot is DAMAGED. -/
theorem Mach.keyBurnDone_failed {m : Mach} {k : Nat} {key : List Byte} (h : m.sec.burning = some (k, key)) :
    m.keyBurnDone false = (m.burnOver.setSlot k { state := 2, key := [], dirty := true }).keyEnd k 4 := by
  unfold Mach.keyBurnDone
  rw [h]
  rfl

/-- R436: the burn that makes a slot VALID starts its counter at the floor of the epoch and moves no other counter. -/
theorem Mach.burnVerified_counters {m : Mach} {k : Nat} {key : List Byte} (hwf : m.wf = true) (h : m.sec.burning = some (k, key)) :
    (m.keyBurnDone true).todo = m.todo ∧ (m.keyBurnDone true).keyValid k = true ∧
      (m.keyBurnDone true).storedCtr k = m.epoch * 2 ^ 24 % 2 ^ 32 ∧ ∀ j, j ≠ k → (m.keyBurnDone true).storedCtr j = m.storedCtr j := by
  rw [Mach.keyBurnDone_verified h]
  have hslot : (m.burnOver.setSlot k { state := 1, key := key }).wf = true := wf_setSlot (wf_burnOver hwf)
  refine ⟨Mach.keyEnd_todo .., ?_, ?_, fun j hj => ?_⟩
  · exact (Mach.keyValid_congr (Mach.keyEnd_sec ..) k).trans (Mach.keyValid_setSlot _ k (by simp))
  · exact (Mach.storedCtr_congr (Mach.keyEnd_aon ..) k).trans (Mach.storedCtr_setCtr_same hslot k m.ctrFloor)
  · exact (Mach.storedCtr_congr (Mach.keyEnd_aon ..) j).trans (Mach.storedCtr_setCtr_ne hslot hj m.ctrFloor)

/-- A burn that fails leaves its slot DAMAGED and every counter as it was. -/
theorem Mach.burnFailed_counters {m : Mach} {k : Nat} {key : List Byte} (h : m.sec.burning = some (k, key)) :
    (m.keyBurnDone false).todo = m.todo ∧ (m.keyBurnDone false).keyValid k = false ∧
      ∀ j, (m.keyBurnDone false).storedCtr j = m.storedCtr j := by
  rw [Mach.keyBurnDone_failed h]
  exact ⟨Mach.keyEnd_todo .., (Mach.keyValid_congr (Mach.keyEnd_sec ..) k).trans (Mach.keyValid_setSlot _ k (by simp)),
    Mach.storedCtr_congr (Mach.keyEnd_aon ..)⟩

/-! ## The request (R33, R435) -/

/-- An armed write of a register with KEY bits and no CFG bits stores its word under the mask of its KEY bits too, and then acts. -/
theorem Mach.write_armed {m : Mach} {a : Acc} {addr : Nat} {r : Row} (d : Word) (h : m.opens a addr r) (hc : r.cfg = 0)
    (hwm : r.wm = false) (harm : m.isArmed (m.bind a) addr = true) (h3 : addr / 0x10000 ≠ 3) (hi : r.inst = .one) {mask : Word}
    (hmask : (m.begun a addr).writeMask (m.bind a) r addr d true true = mask) :
    m.write a addr d = ((m.begun a addr).store addr (writeNew r addr d ((m.begun a addr).reg addr) mask)).hook (m.bind a) a addr
      (d &&& (mask ||| word r.w1c)) ((m.begun a addr).reg addr) (writeNew r addr d ((m.begun a addr).reg addr) mask) := by
  have hw : winOf addr = none := by
    obtain ⟨-, -, -, -, hord, -⟩ := h
    simp only [Row.ordinary, Bool.and_eq_true, beq_iff_eq] at hord
    obtain ⟨⟨⟨⟨⟨⟨-, hw⟩, -⟩, -⟩, -⟩, -⟩, -⟩ := hord
    exact hw
  have hkey : instKey r (m.bind a) a addr = addr := by unfold instKey; rw [hi]
  have hz : ∀ x : Word, (x &&& word 0 ≠ 0) = False := by intro x; simp [word]
  rw [Mach.write_row d h]
  simp only [hkey, harm, hmask, hc, hz, hwm, or_true, if_true, decide_false, Bool.and_false, Bool.false_eq_true, if_false,
    Mach.grpTouch_other _ _ h3 hw]

@[simp] theorem Mach.store_aon (m : Mach) (key : Nat) (new : Word) : (m.store key new).aon = m.aon := by
  unfold Mach.store
  split <;> rfl

/-- Bits outside the mask are not blended in. -/
theorem blend_or_of_and_eq_zero {x mask : Word} (h : x &&& mask = 0) (old d : Word) : blend old (d ||| x) mask = blend old d mask := by
  rw [blend, BitVec.and_comm (d ||| x), BitVec.and_or_distrib_left, BitVec.and_comm mask x, h, BitVec.and_comm mask d]
  simp [blend]

/-- The row of KEY_PROG. -/
def keyProgRow : Row := { name := "KEY_PROG", base := 0x0B0110, writer := .p0key, key := 0x107, trg := 0x100 }

theorem rowOf_keyProg : rowOf 0x0B0110 = some keyProgRow := by decide

/-- No check refuses the owner key's master KEY_PROG. -/
theorem Mach.opens_keyProg {m : Mach} {a : Acc} (h : m.byP0 a) (hk : m.mayOwnKey (m.bind a) 0x0B0110 = true) :
    m.opens a 0x0B0110 keyProgRow := by
  obtain ⟨hup, hp0, ht⟩ := h
  refine ⟨hup, ht, .inl (Who.isP0_bound hp0), rowOf_keyProg, by decide, .inl (by decide), .inr (.inl (by decide)), ?_, .inl rfl, .inr hk,
    ?_, .inl (by decide), ?_, ?_, .inl (by decide)⟩
  · have hr : (m.bind a).rights = some 0 := by simpa [Who.isP0] using hp0
    unfold Mach.mayWrite
    rw [hr]
    split <;> rfl
  · simp [Mach.lockedGrp, keyProgRow]
  · simp [Mach.svcBusy]
  · simp [Mach.grpPending]

/-- KEY_PROG's KEY bits are all that it has: SLOT, and the trigger GO. -/
theorem Mach.writeMask_keyProg (m : Mach) (w : Who) (d : Word) : m.writeMask w keyProgRow 0x0B0110 d true true = 0x107 := by
  simp [Mach.writeMask, keyProgRow, word]

/-- GO clears itself: SLOT is all that the word keeps. -/
theorem writeNew_keyProg (d old : Word) : writeNew keyProgRow 0x0B0110 (d ||| 0x100) old 0x107 = blend old d 7 := by
  calc writeNew keyProgRow 0x0B0110 (d ||| 0x100) old 0x107
      _ = blend old (d ||| 0x100) (0x107 &&& ~~~ word keyProgRow.trg) := by simp [writeNew, show word keyProgRow.w1c = 0 from rfl]
      _ = blend old (d ||| 0x100) 7 := congrArg _ (by decide)
      _ = blend old d 7 := blend_or_of_and_eq_zero (by decide) old d

/-- The write of KEY_PROG with GO = 1 stores SLOT and makes the request. -/
theorem Mach.write_keyProg {m : Mach} {a : Acc} (d : Word) (h : m.byP0 a) (hk : m.mayOwnKey (m.bind a) 0x0B0110 = true)
    (harm : m.isArmed (m.bind a) 0x0B0110 = true) : m.write a 0x0B0110 (d ||| 0x100) =
      ((m.begun a 0x0B0110).store 0x0B0110 (blend ((m.begun a 0x0B0110).reg 0x0B0110) d 7)).keyProg := by
  have hgo : bitAt ((d ||| 0x100) &&& (0x107 ||| word keyProgRow.w1c)) 8 = true := by
    simp [bitAt, keyProgRow, word]
  rw [Mach.write_armed _ (Mach.opens_keyProg h hk) rfl rfl harm (by decide) rfl (Mach.writeMask_keyProg ..), writeNew_keyProg]
  show applyIf (bitAt _ 8) Mach.keyProg _ = _
  rw [hgo]
  rfl

/-- R436: a request moves no counter. -/
theorem Mach.write_keyProg_counters {m : Mach} {a : Acc} (d : Word) (h : m.byP0 a) (hk : m.mayOwnKey (m.bind a) 0x0B0110 = true)
    (harm : m.isArmed (m.bind a) 0x0B0110 = true) :
    (m.write a 0x0B0110 (d ||| 0x100)).todo = m.todo ∧ ∀ j, (m.write a 0x0B0110 (d ||| 0x100)).storedCtr j = m.storedCtr j := by
  rw [Mach.write_keyProg d h hk harm]
  refine ⟨by rw [Mach.keyProg_todo, Mach.store_todo, Mach.begun_todo], Mach.storedCtr_congr ?_⟩
  rw [Mach.keyProg_aon, Mach.store_aon, Mach.begun_fields]

/-- Settles O59: the end of a burn and the request for one, each by what it writes of the always-on memory. -/
theorem counterFloor : Obligations.CounterFloor := by
  unfold Obligations.CounterFloor
  intro s ht hwf
  refine ⟨fun k key hburn _ => ⟨?verified, ?failed⟩, fun a d hp0 hkey harm => ?request⟩
  case verified =>
    obtain ⟨htodo, hvalid, hctr, hother⟩ := Mach.burnVerified_counters hwf hburn
    exact yields_quiet (htodo.trans ht) ⟨hvalid, hctr, fun j _ => hother j⟩
  case failed =>
    obtain ⟨htodo, hvalid, hsame⟩ := Mach.burnFailed_counters hburn
    exact yields_quiet (htodo.trans ht) ⟨hvalid, fun j _ => hsame j⟩
  case request =>
    obtain ⟨htodo, hsame⟩ := Mach.write_keyProg_counters d hp0 hkey harm
    exact yields_quiet (htodo.trans ht) fun j _ => hsame j

end Sys2Proof.Machine
end

section
/-! PROOFS. The ledger entries of a write of time of day (R460): an entry enters the buffer in front of the entries of its cycle that
rank behind it (R476), so what stands there keeps its order, and TOD_TO stays behind TOD_FROM, which arose in its cycle with its rank. -/
namespace Sys2Proof.Machine
open Sys2Proof Sys2Proof.Laws

/-! ## An entry enters the buffer (R476) -/

theorem ledgerInsert_length (e : LdgEntry) : ∀ l : List LdgEntry, (ledgerInsert e l).length = l.length + 1
  | [] => rfl
  | x :: xs => by
    rw [ledgerInsert]
    split
    next => rw [List.length_cons, ledgerInsert_length e xs, List.length_cons]
    next => rfl

/-- What stands in the buffer keeps its order. -/
theorem sublist_ledgerInsert (e : LdgEntry) : ∀ l : List LdgEntry, l.Sublist (ledgerInsert e l)
  | [] => List.nil_sublist _
  | x :: xs => by
    rw [ledgerInsert]
    split
    next => exact (sublist_ledgerInsert e xs).cons_cons x
    next => exact List.sublist_cons_self e _

theorem mem_ledgerInsert (e : LdgEntry) : ∀ l : List LdgEntry, e ∈ ledgerInsert e l
  | [] => List.mem_singleton.mpr rfl
  | x :: xs => by
    rw [ledgerInsert]
    split
    next => exact List.mem_cons_of_mem x (mem_ledgerInsert e xs)
    next => exact List.mem_cons_self

/-- An entry stays behind one that does not rank behind it; the buffer is given newest first. -/
theorem pair_sublist_ledgerInsert {e x : LdgEntry} (h : x.rank ≤ e.rank) :
    ∀ l : List LdgEntry, x ∈ l → [e, x].Sublist (ledgerInsert e l)
  | y :: ys, hx => by
    rw [ledgerInsert]
    split
    next hy =>
      have hxy : x ∈ ys := (List.mem_cons.mp hx).resolve_left fun he => absurd hy.2 (by rw [← he]; omega)
      exact (pair_sublist_ledgerInsert h ys hxy).cons y
    next => exact (List.singleton_sublist.mpr hx).cons_cons e

/-- The entry that arises at the machine's time. -/
def Mach.ledgerEntry (m : Mach) (t : Option Word) (typ a0 a1 : Nat) : LdgEntry :=
  { word := word (typ % 256 + 256 * (a0 % 256) + 65536 * (a1 % 65536)), time := t, cyc := aonCycles m.now, rank := ledgerRank typ a0 }

/-- An entry is a matter of the ledger's buffer and its count of dropped entries. -/
theorem Mach.ledgerAt_keeps {β : Type} (p : Mach → β) (hldg : ∀ buf drop (t : Mach), p { t with ldgBuf := buf, ldgDrop := drop } = p t)
    (m : Mach) (t : Option Word) (typ a0 a1 : Nat) : p (m.ledgerAt t typ a0 a1) = p m := by
  unfold Mach.ledgerAt
  dsimp only
  split <;> exact hldg ..

/-- With a place free, nothing is dropped. -/
theorem Mach.ledgerAt_ldgBuf {m : Mach} (h : m.ldgBuf.length < 16) (t : Option Word) (typ a0 a1 : Nat) :
    (m.ledgerAt t typ a0 a1).ldgBuf = (ledgerInsert (m.ledgerEntry t typ a0 a1) m.ldgBuf.reverse).reverse := by
  unfold Mach.ledgerAt
  dsimp only
  rw [if_pos h]
  rfl

theorem Mach.ledgerAt_ldgBuf_length {m : Mach} (h : m.ldgBuf.length < 16) (t : Option Word) (typ a0 a1 : Nat) :
    (m.ledgerAt t typ a0 a1).ldgBuf.length = m.ldgBuf.length + 1 := by
  rw [Mach.ledgerAt_ldgBuf h, List.length_reverse, ledgerInsert_length, List.length_reverse]

theorem Mach.sublist_ledgerAt {m : Mach} (h : m.ldgBuf.length < 16) (t : Option Word) (typ a0 a1 : Nat) :
    m.ldgBuf.Sublist (m.ledgerAt t typ a0 a1).ldgBuf := by
  rw [Mach.ledgerAt_ldgBuf h, ← List.reverse_sublist, List.reverse_reverse]
  exact sublist_ledgerInsert ..

theorem Mach.mem_ledgerAt {m : Mach} (h : m.ldgBuf.length < 16) (t : Option Word) (typ a0 a1 : Nat) :
    m.ledgerEntry t typ a0 a1 ∈ (m.ledgerAt t typ a0 a1).ldgBuf := by
  rw [Mach.ledgerAt_ldgBuf h, List.mem_reverse]
  exact mem_ledgerInsert ..

/-- An entry follows each in the buffer that does not rank behind it. -/
theorem Mach.pair_sublist_ledgerAt {m : Mach} (h : m.ldgBuf.length < 16) {x : LdgEntry} (hx : x ∈ m.ldgBuf) (t : Option Word)
    {typ a0 : Nat} (hr : x.rank ≤ ledgerRank typ a0) (a1 : Nat) :
    [x, m.ledgerEntry t typ a0 a1].Sublist (m.ledgerAt t typ a0 a1).ldgBuf := by
  rw [Mach.ledgerAt_ldgBuf h, ← List.reverse_sublist, List.reverse_reverse]
  exact pair_sublist_ledgerInsert hr _ (List.mem_reverse.mpr hx)

/-! ## What follows a change of the seconds count (R466, R468) -/

/-- The expiry of a hire writes registers and the ledger: what depends on neither stays. -/
theorem Mach.hireCheck_keeps {β : Type} (p : Mach → β) (hreg : ∀ key v (t : Mach), p (t.setReg key v) = p t)
    (hldg : ∀ typ a0 a1 (t : Mach), p (t.ledger typ a0 a1) = p t) (m : Mach) : p m.hireCheck = p m := by
  unfold Mach.hireCheck
  dsimp only
  split
  · rw [hldg, Mach.put, hreg, Mach.put, hreg]
  · rfl

/-- With a place free for HIRE_EXPIRE, the buffer's entries stay in their order. -/
theorem Mach.sublist_hireCheck {m : Mach} (h : m.ldgBuf.length < 16) : m.ldgBuf.Sublist m.hireCheck.ldgBuf := by
  unfold Mach.hireCheck
  dsimp only
  split
  · exact Mach.sublist_ledgerAt (m := (m.put HIRE_STAT.STATE 0).put HIRE_STAT.G 0) h ..
  · exact .refl _

/-- The end of an immobilisation is noted in the channels alone. -/
theorem Mach.immobRefresh_keeps {β : Type} (p : Mach → β) (hch : ∀ n c (t : Mach), p (t.setCh n c) = p t) (m : Mach) :
    p m.immobRefresh = p m :=
  forN_keeps p (fun n t => by unfold applyIf; split; exacts [hch .., rfl]) 256 m

@[simp] theorem Mach.immobRefresh_tod (m : Mach) : m.immobRefresh.tod = m.tod := Mach.immobRefresh_keeps Mach.tod (fun _ _ _ => rfl) m
@[simp] theorem Mach.immobRefresh_todo (m : Mach) : m.immobRefresh.todo = m.todo := Mach.immobRefresh_keeps Mach.todo (fun _ _ _ => rfl) m
@[simp] theorem Mach.immobRefresh_ldgBuf (m : Mach) : m.immobRefresh.ldgBuf = m.ldgBuf :=
  Mach.immobRefresh_keeps Mach.ldgBuf (fun _ _ _ => rfl) m

/-! ## The write of time of day (R45, R460) -/

/-- The entries of a write of time of day arise in the present cycle. -/
def Mach.todEntry (m : Mach) (setter typ t : Nat) : LdgEntry := m.ledgerEntry (some (word t)) typ setter 0

/-- The machine between the two entries: the time is the new one. -/
def Mach.todSet (setter sec sub : Nat) (m : Mach) : Mach :=
  { m.ledgerAt (some (word m.tod)) 0x10 setter 0 with tod := sec, sub := sub }

theorem Mach.todWrite_eq (m : Mach) (setter sec sub : Nat) : m.todWrite setter sec sub =
    (((m.todSet setter sec sub).ledgerAt (some (word sec)) 0x11 setter 0).put TOD_STAT.UNSET 0).hireCheck.immobRefresh := rfl

/-- R460: TOD_FROM stands before TOD_TO, which arose in its cycle with its rank. -/
theorem Mach.todWrite_entries {m : Mach} (h : m.ldgBuf.length ≤ 13) (setter sec sub : Nat) :
    [m.todEntry setter 0x10 m.tod, m.todEntry setter 0x11 sec].Sublist (m.todWrite setter sec sub).ldgBuf := by
  have hfrom : m.todEntry setter 0x10 m.tod ∈ (m.todSet setter sec sub).ldgBuf := Mach.mem_ledgerAt (by omega) ..
  have hlen : (m.todSet setter sec sub).ldgBuf.length = m.ldgBuf.length + 1 := Mach.ledgerAt_ldgBuf_length (by omega) ..
  have hnow : (m.todSet setter sec sub).now = m.now := Mach.ledgerAt_keeps Mach.now (fun _ _ _ => rfl) ..
  have hto : (m.todSet setter sec sub).ledgerEntry (some (word sec)) 0x11 setter 0 = m.todEntry setter 0x11 sec := by
    rw [Mach.ledgerEntry, hnow]; rfl
  have hrank : ledgerRank 0x10 setter ≤ ledgerRank 0x11 setter := le_refl 2
  have hlen' : ((m.todSet setter sec sub).ledgerAt (some (word sec)) 0x11 setter 0).ldgBuf.length = m.ldgBuf.length + 2 := by
    rw [Mach.ledgerAt_ldgBuf_length (by omega), hlen]
  have hpair : [m.todEntry setter 0x10 m.tod, m.todEntry setter 0x11 sec].Sublist
      ((m.todSet setter sec sub).ledgerAt (some (word sec)) 0x11 setter 0).ldgBuf := by
    rw [← hto]
    exact Mach.pair_sublist_ledgerAt (by omega) hfrom _ hrank 0
  rw [Mach.todWrite_eq, Mach.immobRefresh_ldgBuf]
  refine hpair.trans (Mach.sublist_hireCheck (m := Mach.put TOD_STAT.UNSET 0 _) ?_)
  rw [Mach.put_ldgBuf]
  omega

@[simp] theorem Mach.todWrite_tod (m : Mach) (setter sec sub : Nat) : (m.todWrite setter sec sub).tod = sec := by
  rw [Mach.todWrite_eq, Mach.immobRefresh_tod, Mach.hireCheck_keeps Mach.tod (fun _ _ _ => rfl) (fun _ _ _ t => t.ledger_tod ..),
    Mach.put_tod, Mach.ledgerAt_keeps Mach.tod fun _ _ _ => rfl]
  rfl

@[simp] theorem Mach.todWrite_todo (m : Mach) (setter sec sub : Nat) : (m.todWrite setter sec sub).todo = m.todo := by
  rw [Mach.todWrite_eq, Mach.immobRefresh_todo, Mach.hireCheck_keeps Mach.todo (fun _ _ _ => rfl) (fun _ _ _ t => t.ledger_todo ..),
    Mach.put_todo, Mach.ledgerAt_keeps Mach.todo fun _ _ _ => rfl]
  exact Mach.ledgerAt_keeps Mach.todo (fun _ _ _ => rfl) ..

/-- What an accepted write of time of day by `who` makes of `m`: the agenda is as it was, the time is the new one, and the buffer holds the two
entries in their order. -/
def Mach.TodWritten (m : Mach) (who sec : Nat) (n : Mach) : Prop :=
  n.todo = m.todo ∧ n.tod = sec ∧ [m.todEntry who 0x10 m.tod, m.todEntry who 0x11 sec].Sublist n.ldgBuf

theorem Mach.todWritten_todWrite {m : Mach} (h : m.ldgBuf.length ≤ 13) (who sec sub : Nat) :
    m.TodWritten who sec (m.todWrite who sec sub) :=
  ⟨Mach.todWrite_todo .., Mach.todWrite_tod .., Mach.todWrite_entries h ..⟩

/-- The transfer's place is free again before the write; the two entries do not depend on it. -/
theorem Mach.todWritten_setWide {m : Mach} (h : m.ldgBuf.length ≤ 13) (j who sec sub : Nat) :
    m.TodWritten who sec ((m.setWide j {}).todWrite who sec sub) :=
  Mach.todWritten_todWrite (m := m.setWide j {}) h who sec sub

/-- A write of a register's field, such as the mailbox's, leaves it so. -/
theorem Mach.TodWritten.put {m n : Mach} {who sec : Nat} (h : m.TodWritten who sec n) (x : Fld) (v : Nat) :
    m.TodWritten who sec (n.put x v) := h

/-- A write that the reset of its partition has cut off completes first, and shows nothing in the mailbox (R55). -/
theorem Mach.wideDone_cutWrite {m : Mach} {i : Nat} (hb : (m.wide (wideLeft + i)).busy = true) (hen : m.fb PPS_CFG.TOD_EN = false) :
    m.wideDone i = (m.setWide (wideLeft + i) {}).todWrite (m.wide (wideLeft + i)).who (m.wide (wideLeft + i)).lo.toNat
      (getF (m.wide (wideLeft + i)).hi 0 15) := by
  simp [Mach.wideDone, Mach.wideLate, hb, hen]

/-- A write in its mailbox completes, and the mailbox shows it. -/
theorem Mach.wideDone_write {m : Mach} {i : Nat} (hl : (m.wide (wideLeft + i)).busy = false) (hb : (m.wide i).busy = true)
    (hw : (m.wide i).wr = true) (hen : m.fb PPS_CFG.TOD_EN = false) :
    m.wideDone i = (((m.setWide i {}).todWrite (m.wide i).who (m.wide i).lo.toNat (getF (m.wide i).hi 0 15)).put
      (WIDE_STAT.BUSY.inst i) 0).put (WIDE_STAT.VALID.inst i) 1 := by
  simp [Mach.wideDone, hl, hb, hw, hen]

/-- Cut off or in its mailbox, the transfer is one write of time of day; the mailbox's fields make the difference. -/
theorem Mach.wideDone_todWritten {m : Mach} {i : Nat} {x : Wide}
    (hx : (if (m.wide (wideLeft + i)).busy then m.wide (wideLeft + i) else m.wide i) = x) (hb : x.busy = true) (hw : x.wr = true)
    (hen : m.fb PPS_CFG.TOD_EN = false) (hroom : m.ldgBuf.length ≤ 13) : m.TodWritten x.who x.lo.toNat (m.wideDone i) := by
  split at hx
  next hcut =>
    subst hx
    rw [Mach.wideDone_cutWrite hcut hen]
    exact Mach.todWritten_setWide hroom ..
  next hleft =>
    subst hx
    rw [Mach.wideDone_write (Bool.eq_false_iff.mpr hleft) hb hw hen]
    exact ((Mach.todWritten_setWide hroom ..).put _ 0).put _ 1

/-- The word of an entry that a partition or a link-secure master causes. -/
theorem Mach.todEntry_eq (m : Mach) {who typ : Nat} (hw : who ≤ 16) (ht : typ < 256) (t : Nat) : m.todEntry who typ t =
    { word := word (typ + 256 * who), time := some (word t), cyc := aonCycles m.now, rank := ledgerRank typ who } := by
  simp only [Mach.todEntry, Mach.ledgerEntry, Nat.mod_eq_of_lt ht, Nat.mod_eq_of_lt (by omega : who < 256), Nat.zero_mod, Nat.mul_zero,
    Nat.add_zero]

/-- Settles O60: what the completed transfer writes, with the words of its two entries. -/
theorem timeOfDayEntries : Obligations.TimeOfDayEntries := by
  unfold Obligations.TimeOfDayEntries
  intro s i x ht hb hw hen hroom hwho entry
  obtain ⟨htodo, htod, hentries⟩ := Mach.wideDone_todWritten rfl hb hw hen hroom
  rw [Mach.todEntry_eq s.m hwho (by decide), Mach.todEntry_eq s.m hwho (by decide)] at hentries
  exact yields_quiet (htodo.trans ht) ⟨htod, hentries⟩

end Sys2Proof.Machine
end

section
/-! SUPPORT. The canonical form of the sparse stores through a step: every command's effect keeps it, and so does the passing of time. -/
namespace Sys2Proof.Machine
open Sys2Proof Sys2Proof.Laws

/-- An effect that keeps the stores canonical, with its consequences worked off. -/
theorem wf_of_act {f : Mach → Mach} {s t : State} (e : act f s = .next t) (hf : (f s.m).wf = true) : t.m.wf = true := by
  rw [act_eq] at e
  cases e
  exact wf_settle hf

/-- Every command keeps the stores canonical. -/
theorem wf_exec {i : Instr} {s t : State} (hm : s.m.wf = true) (e : exec i s = .next t) : t.m.wf = true := by
  cases i with
  | vbakRise => exact wf_of_act e (wf_backupRise hm)
  | pgMainTrue => exact wf_of_act e (wf_pgMainTrue hm)
  | pgMainLoss => exact wf_of_act e (wf_mainLoss hm)
  | vbakLoss => exact wf_of_act e (wf_vbakLoss hm)
  | vcoreWarn => exact wf_of_act e (wf_vcoreWarn hm)
  | vlinkBo => exact wf_of_act e (wf_vlinkBo hm)
  | bankStop => exact wf_of_act e (wf_bankStop hm)
  | bankRecovery => exact wf_of_act e (wf_bankRecovery hm)
  | bankClassify => exact wf_of_act e (wf_bankClassify hm)
  | bankPresent => exact wf_of_act e (wf_bankPresent hm)
  | vbakLow => exact wf_of_act e (wf_vbakLowStart hm)
  | chgPrechargeStart => exact wf_of_act e (wf_chgPreStart hm)
  | chgPrechargeEnd => exact wf_of_act e (wf_chgPreEnd hm)
    | chgCtlWrite | gaugeFull | gaugeClrAvg | warm | go | enterOchre | resume | partRestart | registerWrite | unlockWrite | wideRead |
    wideWrite | cfgcrcCapture | indLockReq | indAddrWrite | indDataWrite | indCommit | indDiscard | refCfgWrite | selCtlWrite | grpCfgWrite
    | grpLockReq | grpLockCommit | grpLockDiscard | bankVselWrite | pgpoWrite | haltLatchClear | monRequest | fltAck | fltAckall |
    firstFaultClear | devFirstClear | fltCfgWrite | fltInj | budgetWrite | partEnWrite | attach | attUnbind | cmdPush | evqPop | ldqPop |
    qHiwatClear | lraGo | lnkCalWrite | keyProg | mtrCfgWrite | sentClrWrite | ldgCheck | tstRun => exact wf_of_act e (wf_write hm)
  | chgCvReached => exact wf_of_act e (wf_chgCv hm)
  | chgTerminate => exact wf_of_act e (wf_chgTerminate hm)
  | chgRecharge => exact wf_of_act e (wf_chgRecharge hm)
  | chgPause => exact wf_of_act e (wf_chgPause hm)
  | chgResume => exact wf_of_act e (wf_chgResume hm)
  | chgFault => exact wf_of_act e (wf_chgFault hm)
  | chgVauxLoss => exact wf_of_act e (wf_chgVauxLoss hm)
  | cellPresenceCheck => exact wf_of_act e (wf_cellCheck hm)
  | reserveUpdate => exact wf_of_act e (wf_reserveUpdate hm)
  | resetNAssert => exact wf_of_act e (wf_resetN hm)
  | coreResetRelease => exact wf_of_act e (wf_coreRelease hm)
  | qualifyWindow => exact wf_of_act e (wf_qualifyWindow hm)
  | flashWake => exact wf_of_act e (wf_flashWake hm)
  | sfdpDiscover => exact wf_of_act e (wf_discover hm)
  | sfdpRetry => exact wf_of_act e (wf_sfdpRetry hm)
  | imageHeaderCheck => exact wf_of_act e (wf_headerCheck hm)
  | sectionCrcCheck => exact wf_of_act e (wf_sectionCheck hm)
  | cmacFinalise => exact wf_of_act e (wf_cmacFinalise hm)
  | recordApply => exact wf_of_act e (wf_recordApply (fun _ => wf_settle) hm)
  | configEnd => exact wf_of_act e (wf_configEnd hm)
  | apllLock => exact wf_of_act e (wf_apllLock hm)
  | apllLol => exact wf_of_act e (wf_apllLol hm)
  | rootToExpire => exact wf_of_act e (wf_rootTimeout hm)
  | prepareDone => exact wf_of_act e (wf_prepareDone hm)
  | linkToExpire => exact wf_of_act e (wf_linkTimeout hm)
  | warmStopTimeout => exact wf_of_act e (wf_warmTimeout hm)
  | wideDone => exact wf_of_act e (wf_wideDone hm)
  | cfgcrcSweepEnd => exact wf_of_act e (wf_sweepEnd hm)
  | indDataRead => exact wf_of_act e (wf_readData hm)
  | indLockTimeout => exact wf_of_act e (wf_winTimeout hm)
  | svcRead | svcErase | svcProgram | svcVerify | svcClose => exact wf_of_act e (wf_svcWrite hm)
  | svcOpDone => exact wf_of_act e (wf_svcDone hm)
  | svcSessionTimeout => exact wf_of_act e (wf_svcTimeout hm)
  | refActivity i => exact wf_of_act (f := fun m => if m.refLive i.val then m.refActivity i.val else m) e (wf_ite (wf_refActivity hm) hm)
  | refLos i => exact wf_of_act (f := fun m => if 8 ≤ i.val && m.refLive i.val then m else m.refLos i.val) e (wf_ite hm (wf_refLos hm))
  | refPhit => exact wf_of_act e (wf_refPhit hm)
  | freqGateEnd => exact wf_of_act e (wf_freqGate hm)
  | refQualDone => exact wf_of_act e (wf_refQualDone hm)
  | wtrExpire => exact wf_of_act e (wf_wtrExpire hm)
  | switchEdge => exact wf_of_act e (wf_switchEdge hm)
  | dpllEdge => exact wf_of_act e (wf_dpllEdge hm)
  | histValid => exact wf_of_act e (wf_histValid hm)
  | holdLong => exact wf_of_act e (wf_holdLong hm)
  | ppsEdge => exact wf_of_act e (wf_ppsEdge hm)
  | ppsMiss => exact wf_of_act e (wf_ppsMiss hm)
  | chCtlStart | chCtlStop | chCtlTrig | chCtlResync => exact wf_of_act e (wf_chTrigger hm)
  | chFirstEdge => exact wf_of_act e (wf_firstEdge hm)
  | cleanStopEnd => exact wf_of_act e (wf_cleanStopEnd hm)
  | stopWatchdog => exact wf_of_act e (wf_stopWatchdog hm)
  | burstLastEdge => exact wf_of_act e (wf_burstLast hm)
  | updatePoint => exact wf_of_act e (wf_updatePoint hm)
  | phaseMoveDone => exact wf_of_act e (wf_phaseMoveDone hm)
  | engCheck => exact wf_of_act e (wf_engCheck hm)
  | selfchkRestore => exact wf_of_act e (wf_selfchkRestore hm)
  | groupEpoch => exact wf_of_act e (wf_groupEpoch hm)
  | vacancyHoldExpire => exact wf_of_act e (wf_holdExpire hm)
  | grpLockTimeout => exact wf_of_act e (wf_grpLockTimeout hm)
  | bondWrite a n d | pinFuncSwitch a n d => exact wf_of_act (f := fun m => (m.pinWrite a n.val d).settleFor 1) e (wf_settleFor (wf_pinWrite hm))
  | parkIntervalEnd => exact wf_of_act e (wf_parkIntervalEnd hm)
  | haltAssert => exact wf_of_act e (wf_haltAssert hm)
  | cleanGateEffect => exact wf_of_act e (wf_cleanGateEffect hm)
  | haltRelease => exact wf_of_act e (wf_haltRelease hm)
  | monitorVisit => exact wf_of_act e (wf_monVisit hm)
  | escalationTimer => exact wf_of_act e (wf_escExpire hm)
  | govPass => exact wf_of_act e (wf_govPass hm)
  | tsenseRead => exact wf_of_act e (wf_tsense hm)
  | budgetStale => exact wf_of_act e (wf_budgetStale hm)
  | budgetWait => exact wf_of_act e (wf_budgetWait hm)
  | dwellEnd => exact wf_of_act e (wf_dwellEnd hm)
  | slotEnd => exact wf_of_act e (wf_slotLapse hm)
  | partResetRequest => exact wf_of_act e (wf_askReset hm)
  | partClearDone => exact wf_of_act e (wf_partCleared hm)
  | ownershipWrite a addr d =>
    exact wf_of_act (f := fun m => if 0x080000 ≤ addr.toNat && addr.toNat < 0x0800A8 then m.write a addr.toNat d else m) e (wf_ite (wf_write hm) hm)
  | tokenRefill => exact wf_of_act e (wf_tokenRefill hm)
  | spiHeader => exact wf_of_act e (wf_spiHeader hm)
  | spiSegment => exact wf_of_act e (wf_spiSegment (fun _ => wf_settle) hm)
  | spiReadFrame => exact wf_of_act e (wf_spiRead hm)
  | spiAbort => exact wf_of_act e (wf_spiAbort hm)
  | i2cWriteHeader => exact wf_of_act e (wf_i2cHeader hm)
  | i2cWriteGroup => exact wf_of_act e (wf_i2cGroup (fun _ => wf_settle) hm)
  | i2cReadWord => exact wf_of_act e (wf_i2cRead hm)
  | i2cAbort => exact wf_of_act e (wf_i2cAbort hm)
  | i2cTimeout => exact wf_of_act e (wf_i2cTimeout hm)
  | cmdDispatch => exact wf_of_act e (wf_dispatch hm)
  | nop => exact wf_of_act e (wf_onCommand hm fun _ _ => wf_cmdNop)
  | chStart => exact wf_of_act e (wf_onCommand hm fun _ _ => wf_cmdChStart)
  | chStop => exact wf_of_act e (wf_onCommand hm fun _ _ ht => wf_cmdChannels ht fun _ _ => wf_stop)
  | chResync => exact wf_of_act e (wf_onCommand hm fun _ _ ht => wf_cmdChannels ht fun _ _ => wf_resync)
  | chTrig => exact wf_of_act e (wf_onCommand hm fun _ _ ht => wf_cmdChannels ht fun _ _ => wf_trig)
  | govBudgetSet => exact wf_of_act e (wf_onCommand hm fun _ _ => wf_cmdBudget)
  | svcOpen => exact wf_of_act e (wf_onCommand hm fun _ _ => wf_cmdSvcOpen)
  | retireClear => exact wf_of_act e (wf_onCommand hm fun _ _ => wf_cmdRetireClear)
  | hireOpen => exact wf_of_act e (wf_onCommand hm fun _ _ => wf_cmdHireOpen)
  | hireClose => exact wf_of_act e (wf_onCommand hm fun _ _ => wf_cmdHireClose)
  | meterReport => exact wf_of_act e (wf_onCommand hm fun _ _ => wf_cmdMeterReport)
  | ledgerReport => exact wf_of_act e (wf_onCommand hm fun _ _ => wf_cmdLedgerReport)
  | lockoutClear => exact wf_of_act e (wf_onCommand hm fun _ _ => wf_cmdLockoutClear)
  | linkDetect => exact wf_of_act e (wf_detect hm)
  | linkAlign => exact wf_of_act e (wf_portStep hm)
  | trainingSetRx => exact wf_of_act e (wf_trainSet hm)
  | trainTimeout => exact wf_of_act e (wf_trainTimeout hm)
  | linkDown => exact wf_of_act e (wf_linkDown hm)
  | delayQuery => exact wf_of_act e (wf_delayQuery hm)
  | dqAnswer => exact wf_of_act e (wf_dqAnswer hm)
  | delayResponse => exact wf_of_act e (wf_delayResponse hm)
  | linkFrameRx => exact wf_of_act e (wf_frameRx hm)
  | linkAckRx => exact wf_of_act e (wf_ackRx hm)
  | linkNakRx => exact wf_of_act e (wf_nakRx hm)
  | linkBusyRx => exact wf_of_act e (wf_busyRx hm)
  | linkRetryTimeout => exact wf_of_act e (wf_retryTimeout hm)
  | rreq => exact wf_of_act e (wf_onFrame hm fun _ _ _ => wf_rreq fun _ => wf_settle)
  | rrsp => exact wf_of_act e (wf_onFrame hm fun _ _ _ => wf_rrsp)
  | linkCmd => exact wf_of_act e (wf_onFrame hm fun _ _ _ => wf_linkCmd)
  | linkCpl => exact wf_of_act e (wf_onFrame hm fun _ _ _ => wf_linkCpl)
  | evtForward => exact wf_of_act e (wf_onFrame hm fun _ _ _ => wf_forwardRx)
  | agack => exact wf_of_act e (wf_onFrame hm fun _ _ _ => wf_agack)
  | enum => exact wf_of_act e (wf_onFrame hm fun _ _ _ => wf_enumRx)
  | enumDone => exact wf_of_act e (wf_onFrame hm fun _ _ _ => wf_enumDoneRx)
  | budgetRx => exact wf_of_act e (wf_onFrame hm fun _ _ _ => wf_budgetRx)
  | noticeRx => exact wf_of_act e (wf_onFrame hm fun _ _ _ => wf_noticeRx)
  | transactionTimeout => exact wf_of_act e (wf_txnTimeout hm)
  | enumTimeout => exact wf_of_act e (wf_enumTimeout hm)
  | budgetSend => exact wf_of_act e (wf_budgetSend hm)
  | calStart => exact wf_of_act e (wf_onCal hm fun _ _ => wf_calStartRx)
  | calResult => exact wf_of_act e (wf_onCal hm fun _ _ => wf_calResult)
  | gridRx => exact wf_of_act e (wf_gridRx hm)
  | calTimeout => exact wf_of_act e (wf_calTimeout hm)
  | dupTrack => exact wf_of_act e (wf_dupTrack hm)
  | keyBurnDone => exact wf_of_act e (wf_keyBurnDone hm)
  | epochBurn => exact wf_of_act e (wf_epochStep hm)
  | lockoutExpire => exact wf_of_act e (wf_lockExpire hm)
  | meterSample => exact wf_of_act e (wf_meterSample hm)
  | meterTick => exact wf_of_act e (wf_meterTick hm)
  | hireExpire => exact wf_of_act e (wf_hireExpire hm)
  | tamperStrobe => exact wf_of_act e (wf_tamperStrobe hm)
  | motionEdge => exact wf_of_act e (wf_motionEdge hm)
  | motionHoldEnd => exact wf_of_act e (wf_motionHoldEnd hm)
  | wakeTimeout => exact wf_of_act e (wf_wakeTimeout hm)
  | ledgerWrite => exact wf_of_act e (wf_ledgerWrite hm)
  | ledgerSeal => exact wf_of_act e (wf_ledgerSeal hm)
  | chainCheckDone => exact wf_of_act e (wf_chainDone hm)
  | selftestDue => exact wf_of_act e (wf_testDue hm)
  | fdcalLineDone => exact wf_of_act e (wf_lineDone hm)
  | fdcalSwap => exact wf_of_act e (wf_lineSwap hm)
  | laneTestStep => exact wf_of_act e (wf_laneTest hm)
  | qengPiece => exact wf_of_act e (wf_qengTest hm)
  | scrubWord => exact wf_of_act e (wf_scrubTest hm)
  | linkLoopback => exact wf_of_act e (wf_loopback hm)
  | teaselEntry => exact wf_of_act e (wf_teaselEntry hm)
  | apllTest => exact wf_of_act e (wf_apllTest hm)
  | vlinkRecovery => exact wf_of_act e (wf_vlinkBack hm)
  | vcoreWarnClear => exact wf_of_act e (wf_vcoreWarnEnd hm)
  | vbakLowClear => exact wf_of_act e (wf_vbakLowEnd hm)
  | vddoRise => exact wf_of_act e (wf_vddoRise hm)
  | oscillatorStart => exact wf_of_act e (wf_oscStart hm)
  | tapInstructionUpdate => exact wf_of_act e (wf_tapUpdate hm)
  | aonWriteArrive => exact wf_of_act e (wf_aonArrive hm)
  | forwardResend => exact wf_of_act e (wf_forwardResend hm)
  | busyWaitExpire => exact wf_of_act e (wf_busyExpire hm)
  | tuneSlewDone => exact wf_of_act e (wf_tuneDone hm)
  | keyFailAge => exact wf_of_act e (wf_failAge hm)
  | rawEventAge => exact wf_of_act e (wf_ageRaw hm)

theorem wf_idle {s : State} (h : s.m.wf = true) : (idle s).m.wf = true := wf_settle (wf_advance h)

/-- Settles O54: a step is the command at the front of the queue, or one unit of time. -/
theorem everyStepKeepsStoresCanonical : Obligations.EveryStepKeepsStoresCanonical := by
  unfold Obligations.EveryStepKeepsStoresCanonical
  intro s t h e
  unfold step at e
  split at e
  next =>
    cases e
    exact wf_idle h
  next i rest _ => exact wf_exec (s := { s with pending := rest }) h e

/-- Settles O53: every store is empty before power. -/
theorem resetStoresCanonical : Obligations.ResetStoresCanonical := by
  unfold Obligations.ResetStoresCanonical State.reset Mach.wf
  rfl

/-! ## Every command answers a next state -/

/-- A command changes the machine alone: the queue stands as it stood, and nothing stops the block. -/
theorem exec_next (i : Instr) (s : State) : ∃ m', exec i s = .next { s with m := m' } := by
  cases i <;> exact ⟨_, rfl⟩

/-- Each step takes one command from the queue. -/
theorem run_pending (l : List Instr) (m : Mach) :
    ∃ m', Host.Core.run Sys2Proof.core l.length { m := m, pending := l } = .next ({ m := m', pending := [] } : State) := by
  induction l generalizing m with
  | nil => exact ⟨m, rfl⟩
  | cons i rest ih =>
    obtain ⟨m1, h1⟩ := exec_next i { m := m, pending := rest }
    obtain ⟨m2, h2⟩ := ih m1
    refine ⟨m2, ?_⟩
    have hs : Sys2Proof.core.step ({ m := m, pending := i :: rest } : State) = .next ({ m := m1, pending := rest } : State) := h1
    simp only [List.length_cons, Host.Core.run, hs]
    exact h2

/-- Settles O51, by induction on the queue. -/
theorem waitingCommandsRunDry : Obligations.WaitingCommandsRunDry := by
  unfold Obligations.WaitingCommandsRunDry
  intro s
  exact run_pending s.pending s.m

/-- Settles O50: the branches of `step`; the table gives no row any bits. -/
theorem stepRunsTheFrontCommand : Obligations.StepRunsTheFrontCommand := by
  unfold Obligations.StepRunsTheFrontCommand
  refine ⟨fun s i rest h => ?_, fun s h => ?_, fun s n w => ⟨rfl, rfl⟩⟩
  · rw [step, h]
  · rw [step]; simp only [h, idle]

end Sys2Proof.Machine
end

section
/-! SUPPORT. The supplies (chapter 04): what a core reset clears and keeps, the moves of R85, and the warnings of R92. -/
namespace Sys2Proof.Machine
open Sys2Proof Sys2Proof.Laws

/-! ## The core reset (R56, R293, R371, R489) -/

/-- A precharge that goes on is a matter of registers; else the charger's time stops. -/
theorem Mach.chargeOn_keeps {β : Type} (p : Mach → β) (hreg : ∀ key v (t : Mach), p (t.setReg key v) = p t)
    (hpwr : ∀ t : Mach, p (t.updPwr (fun x => { x with chgAt := none })) = p t) (was : Word) (m : Mach) : p (m.chargeOn was) = p m := by
  unfold Mach.chargeOn
  split
  · rw [Mach.put, hreg, Mach.put, hreg]
  · exact hpwr m

/-- The marks of R293 are bits of the fault entries' registers. -/
theorem Mach.markPre_keeps {β : Type} (p : Mach → β) (hreg : ∀ key v (t : Mach), p (t.setReg key v) = p t) (m : Mach) : p m.markPre = p m := by
  have hmark : ∀ k (t : Mach), p (if (t.reg k).getLsbD 31 then t.setReg (k + 12) (setF (t.reg (k + 12)) 29 1 1) else t) = p t := by
    intro k t
    split
    · exact hreg ..
    · rfl
  unfold Mach.markPre
  rw [hmark, forN_keeps p fun b t => ?_]
  rw [hmark, forN_keeps p fun e u => hmark _ u]

/-- BANK_VOK is one register. -/
theorem Mach.vokAfterReset_keeps {β : Type} (p : Mach → β) (hreg : ∀ key v (t : Mach), p (t.setReg key v) = p t) (m : Mach) :
    p m.vokAfterReset = p m :=
  forN_keeps p (fun _ t => hreg _ _ t) 16 m

@[simp] theorem Mach.vokAfterReset_dev (m : Mach) : m.vokAfterReset.dev = m.dev := Mach.vokAfterReset_keeps Mach.dev (fun _ _ _ => rfl) m
@[simp] theorem Mach.vokAfterReset_tbl (m : Mach) : m.vokAfterReset.tbl = m.tbl := Mach.vokAfterReset_keeps Mach.tbl (fun _ _ _ => rfl) m
@[simp] theorem Mach.vokAfterReset_chans (m : Mach) : m.vokAfterReset.chans = m.chans := Mach.vokAfterReset_keeps Mach.chans (fun _ _ _ => rfl) m
@[simp] theorem Mach.vokAfterReset_ts (m : Mach) : m.vokAfterReset.ts = m.ts := Mach.vokAfterReset_keeps Mach.ts (fun _ _ _ => rfl) m
@[simp] theorem Mach.vokAfterReset_aon (m : Mach) : m.vokAfterReset.aon = m.aon := Mach.vokAfterReset_keeps Mach.aon (fun _ _ _ => rfl) m
@[simp] theorem Mach.vokAfterReset_tod (m : Mach) : m.vokAfterReset.tod = m.tod := Mach.vokAfterReset_keeps Mach.tod (fun _ _ _ => rfl) m
@[simp] theorem Mach.vokAfterReset_sec (m : Mach) : m.vokAfterReset.sec = m.sec := Mach.vokAfterReset_keeps Mach.sec (fun _ _ _ => rfl) m
@[simp] theorem Mach.vokAfterReset_todo (m : Mach) : m.vokAfterReset.todo = m.todo := Mach.vokAfterReset_keeps Mach.todo (fun _ _ _ => rfl) m
@[simp] theorem Mach.vokAfterReset_ldgBuf (m : Mach) : m.vokAfterReset.ldgBuf = m.ldgBuf := Mach.vokAfterReset_keeps Mach.ldgBuf (fun _ _ _ => rfl) m
@[simp] theorem Mach.vokAfterReset_now (m : Mach) : m.vokAfterReset.now = m.now := Mach.vokAfterReset_keeps Mach.now (fun _ _ _ => rfl) m
@[simp] theorem Mach.vokAfterReset_pwr (m : Mach) : m.vokAfterReset.pwr = m.pwr := Mach.vokAfterReset_keeps Mach.pwr (fun _ _ _ => rfl) m
@[simp] theorem Mach.vokAfterReset_boot (m : Mach) : m.vokAfterReset.boot = m.boot := Mach.vokAfterReset_keeps Mach.boot (fun _ _ _ => rfl) m

/-- What the marks of R293, a precharge and the charger's time leave, the core reset keeps of what it does not clear. -/
theorem Mach.markedPre_keeps {β : Type} (p : Mach → β) (hreg : ∀ key v (t : Mach), p (t.setReg key v) = p t) (cut : Bool) (m : Mach) :
    p (if cut then m else m.markPre) = p m := by
  split
  · rfl
  · exact Mach.markPre_keeps p hreg m

section
variable (cut : Bool) (m : Mach)

@[simp] theorem Mach.coreReset_tbl : (m.coreReset cut).tbl = [] := Mach.chargeOn_keeps Mach.tbl (fun _ _ _ => rfl) (fun _ => rfl) ..
@[simp] theorem Mach.coreReset_chans : (m.coreReset cut).chans = [] := Mach.chargeOn_keeps Mach.chans (fun _ _ _ => rfl) (fun _ => rfl) ..
@[simp] theorem Mach.coreReset_todo : (m.coreReset cut).todo = [] := Mach.chargeOn_keeps Mach.todo (fun _ _ _ => rfl) (fun _ => rfl) ..
@[simp] theorem Mach.coreReset_ts : (m.coreReset cut).ts = 0 := Mach.chargeOn_keeps Mach.ts (fun _ _ _ => rfl) (fun _ => rfl) ..

@[simp] theorem Mach.coreReset_cut_aonPost : (m.coreReset true).aonPost = [] :=
  Mach.chargeOn_keeps Mach.aonPost (fun _ _ _ => rfl) (fun _ => rfl) ..

@[simp] theorem Mach.coreReset_held : (m.coreReset cut).boot.held = true :=
  Mach.chargeOn_keeps (fun t => t.boot.held) (fun _ _ _ => rfl) (fun _ => rfl) ..

@[simp] theorem Mach.coreReset_aon : (m.coreReset cut).aon = m.aon :=
  (Mach.chargeOn_keeps Mach.aon (fun _ _ _ => rfl) (fun _ => rfl) ..).trans (Mach.markedPre_keeps Mach.aon (fun _ _ _ => rfl) cut m)

@[simp] theorem Mach.coreReset_tod : (m.coreReset cut).tod = m.tod :=
  (Mach.chargeOn_keeps Mach.tod (fun _ _ _ => rfl) (fun _ => rfl) ..).trans (Mach.markedPre_keeps Mach.tod (fun _ _ _ => rfl) cut m)

@[simp] theorem Mach.coreReset_sec : (m.coreReset cut).sec = m.sec :=
  (Mach.chargeOn_keeps Mach.sec (fun _ _ _ => rfl) (fun _ => rfl) ..).trans (Mach.markedPre_keeps Mach.sec (fun _ _ _ => rfl) cut m)

@[simp] theorem Mach.coreReset_now : (m.coreReset cut).now = m.now :=
  (Mach.chargeOn_keeps Mach.now (fun _ _ _ => rfl) (fun _ => rfl) ..).trans (Mach.markedPre_keeps Mach.now (fun _ _ _ => rfl) cut m)

@[simp] theorem Mach.coreReset_ldgBuf : (m.coreReset cut).ldgBuf = m.ldgBuf :=
  (Mach.chargeOn_keeps Mach.ldgBuf (fun _ _ _ => rfl) (fun _ => rfl) ..).trans (Mach.markedPre_keeps Mach.ldgBuf (fun _ _ _ => rfl) cut m)

@[simp] theorem Mach.coreReset_pgMain : (m.coreReset cut).pwr.pgMain = m.pwr.pgMain :=
  (Mach.chargeOn_keeps (fun t => t.pwr.pgMain) (fun _ _ _ => rfl) (fun _ => rfl) ..).trans
    (Mach.markedPre_keeps (fun t => t.pwr.pgMain) (fun _ _ _ => rfl) cut m)

end

/-! ## What the supplies cut off (R100, R148, R437) -/

/-- The end of a service session is a matter of SVC_STAT and the ledger. -/
theorem Mach.svcClose_keeps {β : Type} (p : Mach → β) (hreg : ∀ key v (t : Mach), p (t.setReg key v) = p t)
    (hldg : ∀ typ a0 a1 (t : Mach), p (t.ledger typ a0 a1) = p t) (m : Mach) : p m.svcClose = p m := by
  unfold Mach.svcClose
  dsimp only
  split
  · rfl
  · rw [Mach.put, hreg, Mach.put, hreg, Mach.put, hreg]
    split
    · exact hldg ..
    · rfl

@[simp] theorem Mach.svcClose_dev (m : Mach) : m.svcClose.dev = m.dev :=
  Mach.svcClose_keeps Mach.dev (fun _ _ _ => rfl) (fun _ _ _ t => t.ledger_dev ..) m

@[simp] theorem Mach.svcClose_tod (m : Mach) : m.svcClose.tod = m.tod :=
  Mach.svcClose_keeps Mach.tod (fun _ _ _ => rfl) (fun _ _ _ t => t.ledger_tod ..) m

/-- A key burn that is cut off is a matter of the security engine. -/
theorem Mach.keyCut_keeps {β : Type} (p : Mach → β) (hsec : ∀ x (t : Mach), p { t with sec := x } = p t) (m : Mach) : p m.keyCut = p m := by
  unfold Mach.keyCut
  split
  · rfl
  · rw [Mach.setSlot, hsec, hsec]

@[simp] theorem Mach.keyCut_dev (m : Mach) : m.keyCut.dev = m.dev := Mach.keyCut_keeps Mach.dev (fun _ _ => rfl) m
@[simp] theorem Mach.keyCut_tod (m : Mach) : m.keyCut.tod = m.tod := Mach.keyCut_keeps Mach.tod (fun _ _ => rfl) m

/-- The cut leaves the device's identity and its epoch. -/
@[simp] theorem Mach.keyCut_uid (m : Mach) : m.keyCut.sec.uid = m.sec.uid := by unfold Mach.keyCut; split <;> rfl
@[simp] theorem Mach.keyCut_ones (m : Mach) : m.keyCut.sec.ones = m.sec.ones := by unfold Mach.keyCut; split <;> rfl

theorem Mach.powered_congr {m n : Mach} (h : n.dev = m.dev) : n.powered = m.powered := by unfold Mach.powered; rw [h]

/-! ## The moves of the supplies (R85, R86) -/

theorem Mach.backupRise_unpowered {m : Mach} (h : m.dev = .off) (hp : m.pwr.pgMain = false) : m.backupRise =
    (({ m with dev := .woad, boot := { m.boot with nextCause := 4 } }).put AON_STAT.LOST 1).ledger 0x01 0 0 := by
  simp [Mach.backupRise, Mach.vbakRise, h, hp]

/-- PG_MAIN in WOAD: the core is at reset, the gauge is shown, and POWER_UP enters the ledger. -/
theorem Mach.pgMainTrue_woad {m : Mach} (h : m.dev = .woad) : m.pgMainTrue =
    let m2 := { m with pwr := { m.pwr with pgMain := true } }.coreReset true
    (({ m2 with dev := .boot, boot := { m2.boot with osc := false, goodWin := 0, noclk := 0, qualified := false } }.vokAfterReset).put GAUGE_Q.Q
      (Nat.min 0xFFFFFF (m.pwr.q.toNat / 100))).ledger 0x02 0 0 := by
  simp [Mach.pgMainTrue, h]

/-- The loss of a main supply while the core is powered. -/
theorem Mach.pgMainLoss_powered {m : Mach} (c : MainSupply) (h : m.powered = true) : m.pgMainLoss c =
    let m1 := ((if c = .vaux then m.setChg 0 else m).coreReset true).ledger 0x03 (downCode c) 0
    { m1 with dev := .woad, pwr := { m1.pwr with pgMain := false, lastDown := downCode c, downAt := some m.now },
              boot := { m1.boot with nextCause := 0, osc := false, qualified := false } } := by
  simp [Mach.pgMainLoss, h]

theorem Mach.mainLoss_powered {m : Mach} (c : MainSupply) (h : m.powered = true) : m.mainLoss c = m.svcClose.keyCut.pgMainLoss c := by
  simp [Mach.mainLoss, h]

/-- After the loss of PG_MAIN: WOAD with its cause, nothing of the core domain, and the always-on domain as it was. -/
theorem Mach.pgMainLoss_leaves {m : Mach} (c : MainSupply) (h : m.powered = true) :
    let n := m.pgMainLoss c
    n.dev = .woad ∧ n.pwr.pgMain = false ∧ n.pwr.lastDown = downCode c ∧ n.tbl = [] ∧ n.chans = [] ∧ n.aonPost = [] ∧ n.todo = [] ∧
      n.aon = m.aon ∧ n.tod = m.tod := by
  rw [Mach.pgMainLoss_powered c h]
  have haon : (if c = .vaux then m.setChg 0 else m).aon = m.aon := by split <;> rfl
  have htod : (if c = .vaux then m.setChg 0 else m).tod = m.tod := by split <;> rfl
  simp [haon, htod]

/-- The first reset of the core domain, with what R85 says it keeps. -/
theorem Mach.pgMainTrue_leaves {m : Mach} (h : m.dev = .woad) :
    let n := m.pgMainTrue
    n.dev = .boot ∧ n.pwr.pgMain = true ∧ n.tbl = [] ∧ n.chans = [] ∧ n.ts = 0 ∧ n.aon = m.aon ∧ n.tod = m.tod ∧ n.sec = m.sec ∧ n.todo = [] ∧
      n.ldgBuf = (m.ledger 0x02 0 0).ldgBuf := by
  rw [Mach.pgMainTrue_woad h]
  refine ⟨?_, ?_, ?_, ?_, ?_, ?_, ?_, ?_, ?_, Mach.ledger_ldgBuf_congr ?_ ?_ ..⟩ <;> simp

/-- Nothing but OTP, time and the supplies' presence outlives the backup. -/
theorem Mach.vbakLoss_leaves (m : Mach) :
    let n := m.vbakLoss
    n.dev = .off ∧ n.regs = [] ∧ n.tbl = [] ∧ n.aon = [] ∧ n.ldgBuf = [] ∧ n.tod = 0 ∧ n.pwr.pgMain = m.pwr.pgMain ∧
      n.sec.uid = m.sec.uid ∧ n.sec.ones = m.sec.ones := by
  have huid : (if m.powered then m.keyCut else m).sec.uid = m.sec.uid := by split <;> simp
  have hones : (if m.powered then m.keyCut else m).sec.ones = m.sec.ones := by split <;> simp
  exact ⟨rfl, rfl, rfl, rfl, rfl, rfl, rfl, huid, hones⟩

/-- Settles O1: the equations of the four moves, and what each leaves. -/
theorem supplyMoves : Obligations.SupplyMoves := by
  unfold Obligations.SupplyMoves
  intro s
  refine ⟨fun h hp => does_act (Mach.backupRise_unpowered h hp), fun h => ?_, fun c h => ?_, yields_quiet rfl s.m.vbakLoss_leaves⟩
  · obtain ⟨hdev, hpg, htbl, hch, hts, haon, htod, hsec, htodo, hldg⟩ := Mach.pgMainTrue_leaves h
    exact yields_quiet htodo ⟨hdev, hpg, htbl, hch, hts, haon, htod, hsec, hldg⟩
  · have hp : s.m.svcClose.keyCut.powered = true := by rw [Mach.powered_congr (by simp : _ = s.m.dev), h]
    obtain ⟨hdev, hpg, hdown, htbl, hch, hpost, htodo, haon, htod⟩ := Mach.pgMainLoss_leaves c hp
    rw [← Mach.mainLoss_powered c h] at *
    exact yields_quiet htodo ⟨hdev, hpg, hdown, htbl, hch, hpost, htodo, haon, by rw [htod]; simp⟩

end Sys2Proof.Machine
end

section
/-! SUPPORT. Supply warnings, bank supplies, the charger and the gauge (chapter 04). -/
namespace Sys2Proof.Machine
open Sys2Proof Sys2Proof.Laws

/-! ## Warnings (R92, R96, R109, R400, R402) -/

theorem Mach.vcoreWarn_again {m : Mach} (h : m.pwr.coreWarn = true) : m.vcoreWarn = m := if_pos h

theorem Mach.vcoreWarn_powered {m : Mach} (h : m.pwr.coreWarn = false) (hp : m.powered = true) : m.vcoreWarn =
    let m1 := { m with pwr := { m.pwr with coreWarn := true } }
    (m1.put PWR_EVT.CORE_WARN 1).raise fVcoreWarn 0 (word m1.pwrStat) :=
  (if_neg (by simp [h])).trans (if_neg (by simp [hp]))

theorem Mach.vcoreWarn_unpowered {m : Mach} (h : m.pwr.coreWarn = false) (hp : m.powered = false) : m.vcoreWarn =
    { m with pwr := { m.pwr with coreWarn := true } } :=
  (if_neg (by simp [h])).trans (if_pos (by simp [hp]))

theorem Mach.vbakLowStart_none {m : Mach} (h : m.dev = .off ∨ m.pwr.vbakLow = true) : m.vbakLowStart = m :=
  if_pos (by simpa using h)

/-- A low backup outside OFF: the ledger entry and the wake, and the event with its fault while the core is powered. -/
theorem Mach.vbakLowStart_first {m : Mach} (h : m.dev ≠ .off) (hl : m.pwr.vbakLow = false) : m.vbakLowStart =
    let th := getF (m.aw 0x2004) 0 6
    let m1 := (({ m with pwr := { m.pwr with vbakLow := true } }).ledger 0x04 th 0).wakeBy 3
    if m.powered then (m1.put PWR_EVT.VBAK_LOW 1).raise fVbakLow 0 (word (th + 65536 * m.f RESERVE.DAYS)) else m1 :=
  if_neg (by simp [h, hl])

theorem Mach.powered_woad {m : Mach} (h : m.dev = .woad) : m.powered = false := by rw [Mach.powered, h]

theorem Mach.powered_of_ne {m : Mach} (h : m.dev ≠ .off) (hw : m.dev ≠ .woad) : m.powered = true := by
  unfold Mach.powered
  split <;> simp_all

/-- A second brown-out, or one without the core, changes the condition alone. -/
theorem Mach.vlinkBo_quiet {m : Mach} (h : m.powered = false ∨ m.pwr.vlinkOk = false) : m.vlinkBo =
    { m with pwr := { m.pwr with vlinkOk := false } } :=
  if_pos (by simpa using h)

theorem Mach.vlinkBo_first {m : Mach} (hp : m.powered = true) (h : m.pwr.vlinkOk = true) : m.vlinkBo =
    let m1 := { m with pwr := { m.pwr with vlinkOk := false } }
    ((m1.put PWR_EVT.VLINK_BO 1).raise fVlinkBo 0 (word m1.pwrStat)).portsIdle 5 :=
  if_neg (by simp [h, hp])

theorem Mach.vlinkBack_runs {m : Mach} (h : m.running = true ∨ m.dev = .ochre) : m.vlinkBack =
    { m with pwr := { m.pwr with vlinkOk := true } }.portsStart :=
  if_pos (by simpa [Mach.running, Mach.updPwr] using h)

theorem Mach.vlinkBack_stands {m : Mach} (h : m.running = false) (ho : m.dev ≠ .ochre) : m.vlinkBack =
    { m with pwr := { m.pwr with vlinkOk := true } } :=
  if_neg (by simpa [Mach.running, Mach.updPwr, ho] using h)

/-- Settles O2: an equation for each condition's begin and end. -/
theorem supplyWarnings : Obligations.SupplyWarnings := by
  unfold Obligations.SupplyWarnings
  intro s
  refine ⟨fun h => does_act (Mach.vcoreWarn_again h), fun h => ⟨fun hp => does_act (Mach.vcoreWarn_powered h hp),
    fun hp => does_act (Mach.vcoreWarn_unpowered h hp)⟩, rfl, fun h => does_act (Mach.vbakLowStart_none h), fun h hl => ⟨fun hw => ?_, fun hw => ?_⟩,
    rfl, fun h => does_act (Mach.vlinkBo_quiet h), fun hp h => does_act (Mach.vlinkBo_first hp h), fun h => does_act (Mach.vlinkBack_runs h),
    fun h ho => does_act (Mach.vlinkBack_stands h ho)⟩
  · exact does_act ((Mach.vbakLowStart_first h hl).trans (if_neg (by simp [Mach.powered_woad hw])))
  · exact does_act ((Mach.vbakLowStart_first h hl).trans (if_pos (Mach.powered_of_ne h hw)))

/-! ## Bank supplies (R93, R94, R98, R556) -/

/-- A bank stopped as 1.8 V reads class absent from the stop on (R98). -/
def Mach.bankGone (k : Nat) (m : Mach) : Mach :=
  let m0 := m.updPwr (fun x => { x with
      pres := setBit16 x.pres k false, stopped := setBit16 x.stopped k true,
      classDue := setBit16 x.classDue k false, presDue := setBit16 x.presDue k false })
  if m.bankClass k = 1 then m0.setClass k 0 else m0

theorem Mach.bankStop_absent {m : Mach} {k : Nat} (h : m.present k = false) : m.bankStop k = m.bankGone k :=
  if_pos (by simp [h])

theorem Mach.bankStop_unpowered {m : Mach} {k : Nat} (h : m.present k = true) (hp : m.powered = false) :
    m.bankStop k = (m.bankGone k).setVok k false :=
  (if_neg (by simp [h])).trans (if_pos (by simp [hp]))

theorem Mach.bankStop_powered {m : Mach} {k : Nat} (h : m.present k = true) (hp : m.powered = true) : m.bankStop k =
    ((((((m.bankGone k).put BANK_BO.BO (m.f BANK_BO.BO ||| 2 ^ k)).setVok k false).bankHalt k).trimHold).raise fBankBo k
      (word (countIf (fun q => m.chst (16 * k + q) ≠ 0) (List.range 16) + 256 * m.bankClass k))) :=
  (if_neg (by simp [h])).trans (if_neg (by simp [hp]))

/-- Settles O3: the branches of the four rows of a bank's supply. -/
theorem bankSupplies : Obligations.BankSupplies := by
  unfold Obligations.BankSupplies
  intro s k
  refine ⟨⟨fun h => does_act (Mach.bankStop_absent h), fun h hp => does_act (Mach.bankStop_unpowered h hp),
    fun h hp => does_act (Mach.bankStop_powered h hp)⟩, fun h => does_act (if_pos h), fun h => does_act (if_neg (Bool.eq_false_iff.mp h)),
    fun h => does_act (if_neg (Bool.eq_false_iff.mp h)), fun mv h => does_act (if_neg (by simp [h])), fun h hc => ⟨fun hw => ?_, fun hp hh => ?_⟩⟩
  · exact does_act ((if_neg (by rw [h, hc]; decide)).trans (if_neg (by simp [Mach.powered_woad hw])))
  · exact does_act ((if_neg (by rw [h, hc]; decide)).trans (if_pos (by simp [hp, hh])))

/-! ## The charger (R100) -/

/-- The charger's clock draws no free value. -/
@[simp] theorem Mach.chgClock_free (m : Mach) (k : Nat) : (m.chgClock k).free = m.free := by
  unfold Mach.chgClock
  dsimp only
  split
  · rfl
  · split <;> rfl

/-- In CV the charger sources what the element takes: a free value. -/
theorem Mach.setChg_cv (m : Mach) : m.setChg 3 =
    ({ (m.chgClock 3).put CHG_STAT.STATE 3 with free := m.free + 1 }).put CHG_STAT.IOUT (getF (Config.freeWord m.free) 0 8) := by
  have h : ((m.chgClock 3).put CHG_STAT.STATE 3).free = m.free := m.chgClock_free 3
  simp only [Mach.setChg, Mach.draw, h]

theorem Mach.tmax_any {m : Mach} {t : Int} {p : Int → Bool} (h : m.tmax = some t) (hp : p t = true) : m.tmax.any p = true := by
  rw [h]; exact hp

/-- CC or CV, as the rows ask for it. -/
theorem Mach.chg_charging {m : Mach} (h : m.f CHG_STAT.STATE = 2 ∨ m.f CHG_STAT.STATE = 3) : (m.chg = 2 || m.chg = 3 : Bool) = true := by
  rcases h with h | h <;> simp [show m.chg = _ from h]

theorem Mach.chgFault_charging {m : Mach} (h : m.f CHG_STAT.STATE = 2 ∨ m.f CHG_STAT.STATE = 3) (hx : m.f CHG_CFG.TMAX ≠ 0) : m.chgFault =
    let m0 := m.advNow (m.now + (3600 * second * m.f CHG_CFG.TMAX - m.chgTime))
    let m1 := (((m0.chgClock 6).put CHG_STAT.STATE 6).put CHG_STAT.IOUT 0).put PWR_EVT.CHG_FAULT 1
    m1.raise fChgFault 0 (m1.reg 0x000228) :=
  if_pos (by simp [Mach.chg_charging h, hx])

/-- Settles O4: each row's condition, and the entry to its state. -/
theorem chargerStates : Obligations.ChargerStates := by
  unfold Obligations.ChargerStates
  intro s
  refine ⟨fun h => does_act (if_pos h), fun h he => does_act (if_pos ?_), fun h => does_act ((if_pos h).trans s.m.setChg_cv),
    fun h hc hi => does_act (if_pos ?_), fun h => does_act (if_pos h), fun t h ht hlt => does_act (if_pos ?_),
    fun t h ht hlt => does_act (if_pos ?_), fun h hx => does_act (Mach.chgFault_charging h hx), rfl⟩
  · simp [Mach.chg, Mach.fb, h, he]
  · simp [Mach.chg, h, hc, hi]
  · simp [Mach.chg_charging h, Mach.tmax_any ht, hlt]
  · simp [Mach.chg, h, Mach.tmax_any ht, hlt]

end Sys2Proof.Machine
end

section
/-! SUPPORT. The word that an accepted write leaves, and the writes of the charger and the gauge (R33, R100 to R107). -/
namespace Sys2Proof.Machine
open Sys2Proof Sys2Proof.Laws

/-! ## Words under a mask (R33) -/

@[simp] theorem blend_zero (old d : Word) : blend old d 0 = old := by simp [blend]

theorem blend_getLsbD (old d mask : Word) {i : Nat} (hi : i < 32) :
    (blend old d mask).getLsbD i = if mask.getLsbD i then d.getLsbD i else old.getLsbD i := by
  rw [blend, BitVec.getLsbD_or, BitVec.getLsbD_and, BitVec.getLsbD_and, BitVec.getLsbD_not]
  cases mask.getLsbD i <;> simp [hi]

/-- Without W1C bits, and away from the three registers with a rule of their own, the open bits that do not clear themselves take
the written value. -/
theorem writeNew_blend {r : Row} {addr : Nat} (h : r.w1c = 0) (ha : addr ≠ 0x000120 ∧ addr ≠ 0x080400 ∧ addr ≠ 0x000240) (d old mask : Word) :
    writeNew r addr d old mask = blend old d (mask &&& ~~~ word r.trg) := by
  obtain ⟨h1, h2, h3⟩ := ha
  simp [writeNew, h, h1, h2, h3]

/-! ## CHG_CTL (R100, R101) -/

/-- The row of CHG_CTL. -/
def chgCtlRow : Row := { name := "CHG_CTL", base := 0x000220, writer := .p0, img := .y, rw := 1 }

/-- A write of CHG_CTL stores EN and acts on its change. -/
theorem Mach.write_chgCtl {m : Mach} {a : Acc} (d : Word) (h : m.byP0 a) : m.write a 0x000220 d =
    ((m.begun a 0x000220).store 0x000220 (blend ((m.begun a 0x000220).reg 0x000220) d 1)).chgCtlHook
      ((m.begun a 0x000220).reg 0x000220) (blend ((m.begun a 0x000220).reg 0x000220) d 1) := by
  rw [Mach.write_plain (r := chgCtlRow) d h (by decide) (by decide), writeNew_blend rfl (by decide)]
  rfl

theorem Mach.chgCtlHook_start {m : Mach} {old new : Word} (hn : new.getLsbD 0 = true) (ho : old.getLsbD 0 = false) (hv : m.chgValid = true)
    (hs : m.f CHG_STAT.STATE ≤ 1) : m.chgCtlHook old new = m.setChg 2 :=
  (((if_pos hn).trans (if_neg (Bool.eq_false_iff.mp ho))).trans (if_pos hv)).trans (if_pos hs)

theorem Mach.chgCtlHook_invalid {m : Mach} {old new : Word} (hn : new.getLsbD 0 = true) (ho : old.getLsbD 0 = false)
    (hv : m.chgValid = false) : m.chgCtlHook old new = (m.setChg 0).put CHG_STAT.CFGERR 1 :=
  ((if_pos hn).trans (if_neg (Bool.eq_false_iff.mp ho))).trans (if_neg (Bool.eq_false_iff.mp hv))

theorem Mach.chgCtlHook_clear {m : Mach} {old new : Word} (hn : new.getLsbD 0 = false) (ho : old.getLsbD 0 = true) :
    m.chgCtlHook old new = (m.setChg 0).put CHG_STAT.CFGERR 0 :=
  (if_neg (Bool.eq_false_iff.mp hn)).trans (if_pos ho)

/-- A write that leaves EN as it was does nothing more. -/
theorem Mach.chgCtlHook_same {m : Mach} {old new : Word} (h : new.getLsbD 0 = old.getLsbD 0) : m.chgCtlHook old new = m := by
  unfold Mach.chgCtlHook bitAt
  rw [h]
  split <;> rfl

/-! ## GAUGE_CTL (R104, R105) -/

/-- The row of GAUGE_CTL. -/
def gaugeCtlRow : Row := { name := "GAUGE_CTL", base := 0x000234, kept := .aon, writer := .p0, rw := 3, trg := 3 }

/-- GAUGE_CTL keeps nothing: both its bits are triggers. -/
theorem Mach.write_gaugeCtl {m : Mach} {a : Acc} (d : Word) (h : m.byP0 a) :
    m.write a 0x000234 d = (m.begun a 0x000234).gaugeHook (d &&& 3) := by
  rw [Mach.write_plain (r := gaugeCtlRow) d h (by decide) (by decide), writeNew_blend rfl (by decide),
    show (word gaugeCtlRow.rw ||| word gaugeCtlRow.own) &&& ~~~ word gaugeCtlRow.trg = 0 by decide, blend_zero, Mach.store_same]
  rfl

/-- FULL for a cell that the gauge cannot see full: the estimate is the capacity. -/
def Mach.gaugeFull (m : Mach) : Mach := { m with pwr := { m.pwr with q := 100 * (getF (m.aw 0x2000) 0 24 : Int) } }

/-- CLR_AVG: the history of the WOAD draw starts anew. -/
def Mach.avgFresh (m : Mach) : Mach := m.updPwr (fun x => { x with woad := [] })

theorem Mach.gaugeHook_eq (m : Mach) (d : Word) : m.gaugeHook d =
    let m1 := if d.getLsbD 0 && m.f CHG_CFG.CELL_TYPE = 0 then m.gaugeFull else m
    if d.getLsbD 1 then m1.avgFresh else m1 := rfl

/-- GAUGE_FULL acts with FULL, whatever the word's other bits. -/
theorem Mach.write_gaugeFull {m : Mach} {a : Acc} {d : Word} (h : m.byP0 a) (hd : d.getLsbD 1 = false) :
    m.write a 0x000234 (d ||| 1) =
      let m1 := m.begun a 0x000234
      if m1.f CHG_CFG.CELL_TYPE = 0 then m1.gaugeFull else m1 := by
  rw [Mach.write_gaugeCtl _ h, Mach.gaugeHook_eq]
  simp at hd
  simp [hd]

/-- GAUGE_CLR_AVG acts with CLR_AVG, and with FULL where the word has it. -/
theorem Mach.write_gaugeClrAvg {m : Mach} {a : Acc} (d : Word) (h : m.byP0 a) : m.write a 0x000234 (d ||| 2) =
    let m1 := m.begun a 0x000234
    (if d.getLsbD 0 && m1.f CHG_CFG.CELL_TYPE = 0 then m1.gaugeFull else m1).avgFresh := by
  rw [Mach.write_gaugeCtl _ h, Mach.gaugeHook_eq]
  simp

/-! ## The presence check (R102) -/

theorem Mach.cellCheck_ticks {m : Mach} (fell : Bool) (h : m.f CHG_STAT.STATE = 2 ∨ m.f CHG_STAT.STATE = 3 ∨ m.f CHG_STAT.STATE = 4) :
    m.cellCheck fell = ((m.reach .cell (60 * second)).startTimer .cell).cellFound fell := by
  refine if_neg ?_
  rcases h with h | h | h <;> simp [show m.chg = _ from h]

/-- Settles O5: the writes by their change of EN or their triggers, and the two rows of the cell. -/
theorem cellAndGauge : Obligations.CellAndGauge := by
  unfold Obligations.CellAndGauge
  intro s a d
  refine ⟨fun hp0 => ?chgCtl, fun hp0 => ?gaugeCtl, fun hst => ?presence, fun mv net h => does_act (if_neg (by simp [h]))⟩
  case chgCtl =>
    have hbit : (blend ((s.m.begun a 0x000220).reg 0x000220) d 1).getLsbD 0 = d.getLsbD 0 := blend_getLsbD _ _ _ (by decide)
    refine ⟨fun hn ho hv hs => does_act ((Mach.write_chgCtl d hp0).trans ?_), fun hn ho hv => does_act ((Mach.write_chgCtl d hp0).trans ?_),
      fun hn ho => does_act ((Mach.write_chgCtl d hp0).trans ?_), fun h => does_act ((Mach.write_chgCtl d hp0).trans ?_)⟩
    · exact Mach.chgCtlHook_start (hbit.trans hn) ho hv hs
    · exact Mach.chgCtlHook_invalid (hbit.trans hn) ho hv
    · exact Mach.chgCtlHook_clear (hbit.trans hn) ho
    · exact Mach.chgCtlHook_same (hbit.trans h)
  case gaugeCtl =>
    refine ⟨fun hc hd => does_act ((Mach.write_gaugeFull hp0 hd).trans (if_pos hc)), fun hc hd => does_act ((Mach.write_gaugeFull hp0 hd).trans (if_neg hc)),
      fun hd => does_act ((Mach.write_gaugeClrAvg d hp0).trans (congrArg Mach.avgFresh (if_neg ?_))),
      fun hc hd => does_act ((Mach.write_gaugeClrAvg d hp0).trans (congrArg Mach.avgFresh (if_pos ?_)))⟩
    · simp at hd
      simp [hd]
    · simp at hd
      simp [hc, hd]
  case presence =>
    exact ⟨fun h => does_act ((Mach.cellCheck_ticks false hst).trans (if_pos h)),
      fun h => does_act ((Mach.cellCheck_ticks false hst).trans (if_neg (Bool.eq_false_iff.mp h))), does_act (Mach.cellCheck_ticks true hst)⟩

end Sys2Proof.Machine
end

section
/-! SUPPORT. Clock, reset and the steps of BOOT (chapters 03 and 05). -/
namespace Sys2Proof.Machine
open Sys2Proof Sys2Proof.Laws

/-! ## Clock and reset (R68, R70, R73, R111) -/

/-- RESET_N holds the core at reset; the cause of a reset that finds the core running is RESET_N's. -/
theorem Mach.resetN_leaves {m : Mach} (h : m.powered = true) :
    let n := m.resetN
    n.dev = .boot ∧ n.boot.resetN = true ∧ n.boot.held = true ∧ n.tbl = [] ∧ n.chans = [] ∧ n.todo = [] ∧ n.tod = m.tod ∧ n.boot.xoOpen = true ∧
      (m.boot.held = false → n.boot.nextCause = if m.dev = .teasel then 5 else 1) := by
  have heq : m.resetN = _ := if_neg (by simp [h])
  rw [heq]
  simp only [Mach.vokAfterReset_dev, Mach.vokAfterReset_boot, Mach.vokAfterReset_tbl, Mach.vokAfterReset_chans, Mach.vokAfterReset_todo,
    Mach.vokAfterReset_tod, Mach.coreReset_held, Mach.coreReset_tbl, Mach.coreReset_chans, Mach.coreReset_todo, Mach.coreReset_tod,
    Mach.svcClose_tod, true_and]
  intro hh
  simp [hh]

theorem Mach.qualifyWindow_asks {m : Mach} (h : m.dev = .boot) (hh : m.boot.held = true) (ho : m.boot.osc = true)
    (hq : m.boot.qualified = false) : ¬ (m.dev != .boot || !m.boot.held || !m.boot.osc || m.boot.qualified) = true := by
  simp [h, hh, ho, hq]

theorem Mach.coreRelease_asks {m : Mach} (h : m.dev = .boot) (hh : m.boot.held = true) (hq : m.boot.qualified = true) :
    ¬ (m.dev != .boot || !m.boot.held || !m.boot.qualified) = true := by
  simp [h, hh, hq]

/-- The instruction that the TAP takes, by the TEST_MODE strap (R73). -/
def tapTaken (i : TapInstr) (test : Bool) : TapInstr :=
  if (match i with
    | .bypass | .idcode | .sample => true
    | .extest | .clamp | .highz => test
    | .other => false) then i else .bypass

theorem Mach.tapUpdate_powered {m : Mach} {i : TapInstr} {b : Bool} (h : m.powered = true) (ht : m.boot.straps.getLsbD 4 = b) :
    m.tapUpdate i = if tapTaken i b == .sample || tapTaken i b == .extest then { m with tap := tapTaken i b }.scanLoad
      else { m with tap := tapTaken i b } := by
  subst ht
  exact if_neg (by simp [h])

/-- Settles O6: the branches of each row of the clock, the reset and the TAP. -/
theorem clockAndReset : Obligations.ClockAndReset := by
  unfold Obligations.ClockAndReset
  intro s
  refine ⟨fun h => ?_, fun h hh => does_act (if_pos (by simp [h, hh])), fun n h hh ho hq => ⟨fun h1 h2 => ?_, fun hn hc => ?_⟩,
    fun s1 s2 s3 xo h hh hq => ⟨fun hx => ?_, fun hx => ?_⟩, fun h ht => ?_, fun h ht => ?_, fun h => ?_⟩
  · obtain ⟨hdev, hrst, hheld, htbl, hch, htodo, htod, hxo, hcause⟩ := Mach.resetN_leaves h
    exact yields_quiet htodo ⟨hdev, hrst, hheld, htbl, hch, htodo, htod, hxo, hcause⟩
  · exact does_act ((if_neg (Mach.qualifyWindow_asks h hh ho hq)).trans (if_pos (by simp [h1, h2])))
  · have hout : ¬ (11841 ≤ n && n ≤ 12573 : Bool) = true := by simp; omega
    exact does_act ((if_neg (Mach.qualifyWindow_asks h hh ho hq)).trans ((if_neg hout).trans (if_neg hc)))
  · exact does_act ((if_neg (Mach.coreRelease_asks h hh hq)).trans (if_pos hx))
  · exact does_act ((if_neg (Mach.coreRelease_asks h hh hq)).trans (if_neg hx))
  · exact ⟨does_act ((Mach.tapUpdate_powered h ht).trans (if_pos rfl)),
      does_act ((Mach.tapUpdate_powered h ht).trans (if_neg Bool.false_ne_true))⟩
  · exact ⟨does_act ((Mach.tapUpdate_powered h ht).trans (if_neg Bool.false_ne_true)),
      does_act ((Mach.tapUpdate_powered h ht).trans (if_neg Bool.false_ne_true))⟩
  · exact does_act ((Mach.tapUpdate_powered h rfl).trans (if_pos rfl))

end Sys2Proof.Machine
end

section
/-! SUPPORT. The steps of BOOT at the flash (chapter 05). -/
namespace Sys2Proof.Machine
open Sys2Proof Sys2Proof.Laws

theorem Mach.discover_asks {m : Mach} (h : m.inBoot 2 = true) (hw : m.boot.woken = true) : ¬ (!m.inBoot 2 || !m.boot.woken) = true := by
  simp [h, hw]

theorem Mach.discover_reads {m : Mach} {t : Sfdp} (h : m.inBoot 2 = true) (hw : m.boot.woken = true) (hc : sfdpCode t = none)
    (hk : m.keyValid 0 = true) :
    m.discover t = ((m.updBoot (fun b => { b with step := 3, discovered := true, erase4k := t.erase4k, quad := sfdpQuad t })).flashSend
      (discoverCmds t ++ [readCmd (sfdpQuad t)])).put BOOT_STAT.QUAD (b2n (sfdpQuad t)) := by
  unfold Mach.discover
  rw [if_neg (Mach.discover_asks h hw), hc]
  exact if_pos hk

theorem Mach.discover_retries {m : Mach} {t : Sfdp} (h : m.inBoot 2 = true) (hw : m.boot.woken = true) (hc : sfdpCode t = some 1)
    (hn : m.boot.wakes < 2) :
    m.discover t = ((m.flashSend (discoverCmds t)).updBoot (fun b => { b with woken := false, wakes := b.wakes + 1 })).startTimer .sfdp := by
  unfold Mach.discover
  rw [if_neg (Mach.discover_asks h hw), hc]
  exact if_neg (show ¬ m.boot.wakes + 1 = 3 by omega)

theorem Mach.discover_fails {m : Mach} {t : Sfdp} (h : m.inBoot 2 = true) (hw : m.boot.woken = true) (hc : sfdpCode t = some 2) :
    m.discover t = (m.flashSend (discoverCmds t)).bootFail 2 0 0 := by
  unfold Mach.discover
  rw [if_neg (Mach.discover_asks h hw), hc]
  rfl

theorem Mach.headerCheck_reads {m : Mach} {bytes : List Byte} (h : m.inBoot 3 = true) (ht : m.img.tableRead = false)
    (hs : m.img.staged = []) :
    m.headerCheck bytes = match headerError (padTo 32 bytes) with
      | some o => m.bootFail 3 0 o
      | none => m.updImg (fun x => { x with staged := padTo 32 bytes }) := by
  refine (if_neg (by simp [h, ht])).trans ((if_pos (by simp [hs])).trans ?_)
  rfl

theorem Mach.sectionCheck_reads {m : Mach} {pl : List Byte} {crc : Word} {x : Section} (h : m.inBoot 3 = true)
    (ht : m.img.tableRead = true) (hx : m.img.secs[m.img.next]? = some x) :
    m.sectionCheck pl crc =
      if crc32c (padTo x.len pl) = crc.toNat then
        { m with img := { m.img with staged := m.img.staged ++ padTo x.len pl ++ wordBytes crc, next := m.img.next + 1 } }
      else if m.img.second then m.bootFail 4 m.img.next (x.off + x.len)
      else ((((m.put BOOT_STAT.RETRY 1).put BOOT_STAT.RETRY_SEC m.img.next).put BOOT_STAT.QUAD 0).flashSend [readCmd false]).updImg
        (fun _ => { second := true }) := by
  unfold Mach.sectionCheck
  rw [if_neg (by simp [h, ht]), hx]
  rfl

theorem Mach.setBytes_keeps {β : Type} (p : Mach → β) (hreg : ∀ k v t, p (Mach.setReg k v t) = p t) (key : Nat) (bs : List Byte) (m : Mach) :
    p (m.setBytes key bs) = p m :=
  forN_keeps p (fun _ _ => hreg _ _ _) _ _

theorem Mach.imgShow_keeps {β : Type} (p : Mach → β) (hreg : ∀ k v t, p (Mach.setReg k v t) = p t) (tag : List Byte) (m : Mach) :
    p (m.imgShow tag) = p m := by
  refine (Mach.setBytes_keeps p hreg _ _ _).trans ?_
  simp only [Mach.put, hreg]

theorem Mach.cmacFinalise_asks {m : Mach} (h : m.inBoot 3 = true) (ht : m.img.tableRead = true) (hn : m.img.secs.length ≤ m.img.next)
    (he : m.epochDone = true) : ¬ (!m.inBoot 3 || !m.img.tableRead || m.img.next < m.img.secs.length || !m.epochDone) = true := by
  simp [h, ht, he]
  exact hn

/-- Settles O7: each step of BOOT where it is in progress, by the branch that its outcome takes. -/
theorem bootSteps : Obligations.BootSteps := by
  unfold Obligations.BootSteps
  intro s
  refine ⟨fun h => does_act (if_pos h), fun t h hw hc hk => does_act (Mach.discover_reads h hw hc hk),
    fun t h hw hc hn => does_act (Mach.discover_retries h hw hc hn), fun t h hw hc => does_act (Mach.discover_fails h hw hc),
    fun h hw => does_act (if_pos (by simp [h, hw])), fun bytes h ht hs => ⟨fun hh => ?_, fun o hh => ?_⟩,
    fun pl crc x h ht hx => ⟨fun hc => ?_, fun hc h2 => ?_, fun hc h2 => ?_⟩, fun tag h ht hn he => ⟨fun hc htodo => ?_, fun hc => ?_⟩⟩
  · exact does_act ((Mach.headerCheck_reads h ht hs).trans (by rw [hh]; rfl))
  · exact does_act ((Mach.headerCheck_reads h ht hs).trans (by rw [hh]))
  · exact does_act ((Mach.sectionCheck_reads h ht hx).trans (if_pos hc))
  · exact does_act ((Mach.sectionCheck_reads h ht hx).trans ((if_neg hc).trans (if_neg (by simp [h2]))))
  · exact does_act ((Mach.sectionCheck_reads h ht hx).trans ((if_neg hc).trans (if_pos h2)))
  · have heq : s.m.cmacFinalise tag = _ := (if_neg (Mach.cmacFinalise_asks h ht hn he)).trans (if_neg (not_not_intro hc))
    have hk : ∀ {β : Type} (p : Mach → β), (∀ k v t, p (Mach.setReg k v t) = p t) → p ((s.m.updBoot (fun b =>
        { b with step := 4 })).imgShow (padTo 16 tag)) = p (s.m.updBoot (fun b => { b with step := 4 })) :=
      fun p hp => Mach.imgShow_keeps p hp _ _
    refine yields_quiet (f := Mach.cmacFinalise tag) ?_ ?_ <;> rw [heq]
    · exact (hk Mach.todo (fun _ _ _ => rfl)).trans htodo
    · exact ⟨rfl, rfl, rfl, rfl, rfl, congrArg (fun l => l ++ padTo 16 tag) (hk (fun t => t.img.staged) (fun _ _ _ => rfl))⟩
  · exact does_act ((if_neg (Mach.cmacFinalise_asks h ht hn he)).trans (if_pos hc))

end Sys2Proof.Machine
end

section
/-! SUPPORT. CONFIG, ARMING and the root's lock (chapter 05). -/
namespace Sys2Proof.Machine
open Sys2Proof Sys2Proof.Laws

theorem Mach.recordApply_config {run : Mach → Mach} {m : Mach} {x : Section} (h : m.dev = .config)
    (hx : (m.imgSeek 66).img.secs[(m.imgSeek 66).img.sec]? = some x) :
    m.recordApply run = match (m.imgSeek 66).imgRecord run x true with
      | some t => t
      | none => ((run (m.imgSeek 66).rollBack).bootRecord 7 (m.imgSeek 66).img.sec (x.off + (m.imgSeek 66).img.pos) 0 0).preOchre := by
  refine (if_pos (by simp [h])).trans ?_
  dsimp only
  generalize (m.imgSeek 66).img.secs[(m.imgSeek 66).img.sec]? = o at hx ⊢
  subst hx
  rfl

/-- A lock of the APLL is looked at where it is awaited and no root PLL test runs. -/
theorem Mach.apllLock_asks {m : Mach} (hp : m.powered = true) (ha : m.f ROOT_STAT.APLL = 1) (ht : m.test.run.any (fun r => r.1 == 7) = false) :
    ¬ (!m.powered || m.f ROOT_STAT.APLL ≠ 1 || m.test.run.any (fun r => r.1 == 7)) = true := by
  simp only [hp, ha, ht]; decide

theorem Mach.apllLock_powered {m : Mach} (hp : m.powered = true) (ha : m.f ROOT_STAT.APLL = 1)
    (ht : m.test.run.any (fun r => r.1 == 7) = false) :
    m.apllLock = if m.dev == .arming then (m.rootLocked true).lockEnd
      else if m.dev == .ochre || m.dev == .teasel then ((m.rootLocked false).familyStart).portsStart else m :=
  if_neg (Mach.apllLock_asks hp ha ht)

theorem Mach.apllLol_locked {m : Mach} (hp : m.powered = true) (hl : m.locked = true) :
    m.apllLol = match m.dev with
      | .run =>
        let m2 := ((m.rootLost.testAbandon.rootParkAll.haltAll csROOT_LOSS).clocksStop).portsIdle 6
        if m2.boot.stop then m2.push .phaseCheck else (m2.updBoot (fun b => { b with restart := none })).parkEnds 4
      | .teasel => ((m.rootLost.testAbandon.rootParkAll.haltAll csROOT_LOSS).clocksStop).portsIdle 6
      | .arming => m.rootLost.testAbandon.armingLost
      | _ => (m.rootLost.testAbandon.clocksStop).portsIdle 6 :=
  if_neg (by simp [hp, hl])

/-- Settles O8: each row of CONFIG and ARMING by the branch of its guard. -/
theorem configAndArming : Obligations.ConfigAndArming := by
  unfold Obligations.ConfigAndArming
  intro s
  refine ⟨fun h x hx => ⟨fun t ht => ?_, fun ht => ?_⟩, fun h hn => ?_, fun ha ht => ⟨fun h => ?_, fun h => ?_⟩,
    fun hl => ⟨fun h hs => ?_, fun h hs => ?_, fun h => ?_, fun h => ?_, fun h => ?_⟩, fun h hs hl => ?_, fun lines stamps h hs => ?_,
    fun h hb => ?_⟩
  · exact does_act ((Mach.recordApply_config h hx).trans (by rw [ht]))
  · exact does_act ((Mach.recordApply_config h hx).trans (by rw [ht]))
  · exact does_act (if_neg (by simp [h]; omega))
  · exact does_act ((Mach.apllLock_powered (Mach.powered_of_ne (by simp [h]) (by simp [h])) ha ht).trans (if_pos (by simp [h])))
  · have hp : s.m.powered = true := by rcases h with h | h <;> exact Mach.powered_of_ne (by simp [h]) (by simp [h])
    have hdev : ¬ (s.m.dev == .arming) = true := by rcases h with h | h <;> simp [h]
    exact does_act ((Mach.apllLock_powered hp ha ht).trans ((if_neg hdev).trans (if_pos (by simpa using h))))
  · exact does_act ((Mach.apllLol_locked (Mach.powered_of_ne (by simp [h]) (by simp [h])) hl).trans (by rw [h]; exact if_neg (by simp [hs])))
  · exact does_act ((Mach.apllLol_locked (Mach.powered_of_ne (by simp [h]) (by simp [h])) hl).trans (by rw [h]; exact if_pos hs))
  · exact does_act ((Mach.apllLol_locked (Mach.powered_of_ne (by simp [h]) (by simp [h])) hl).trans (by rw [h]))
  · exact does_act ((Mach.apllLol_locked (Mach.powered_of_ne (by simp [h]) (by simp [h])) hl).trans (by rw [h]))
  · exact does_act ((Mach.apllLol_locked (Mach.powered_of_ne (by simp [h]) (by simp [h])) hl).trans (by rw [h]; rfl))
  · exact does_act (if_pos (by simp [h, hs, hl]))
  · exact does_act (if_neg (by simp [h, hs]))
  · exact does_act (if_pos (by simp [h, hb]))

end Sys2Proof.Machine
end

section
/-! SUPPORT. The codes of DEV_CTL (chapter 05). -/
namespace Sys2Proof.Machine
open Sys2Proof Sys2Proof.Laws

@[simp] theorem Mach.begun_boot (m : Mach) (a : Acc) (addr : Nat) : (m.begun a addr).boot = m.boot := by
  rw [Mach.begun_fields]

/-- The row of DEV_CTL. -/
def devCtlRow : Row := { name := "DEV_CTL", base := 0x000304, writer := .p0, own := 0xFFF, trg := 0xFFF }

theorem Mach.seesOwn_p0 {m : Mach} {w : Who} {addr : Nat} (h : w.isP0 = true) : m.seesOwn w addr = true := by
  unfold Mach.seesOwn
  simp [h]

/-- DEV_CTL keeps nothing: its word is a code. -/
theorem Mach.write_devCtl {m : Mach} {a : Acc} (d : Word) (h : m.byP0 a) :
    m.write a 0x000304 d = (m.begun a 0x000304).devCtl (d &&& 0xFFF) := by
  rw [Mach.write_plain (r := devCtlRow) d h (by decide) (by decide), writeNew_blend rfl (by decide),
    show (word devCtlRow.rw ||| word devCtlRow.own) &&& ~~~ word devCtlRow.trg = 0 by decide, blend_zero, Mach.store_same]
  exact if_pos (Mach.seesOwn_p0 h.2.1)

theorem partRestart_code : ∀ p : Part, getF (word (0x69 + 256 * p.val) &&& 0xFFF) 0 8 = 0x69 ∧ getF (word (0x69 + 256 * p.val) &&& 0xFFF) 8 4 = p.val := by
  decide

theorem Mach.devCtl_warm (m : Mach) : m.devCtl (0xA5 &&& 0xFFF) =
    if (m.dev == .run || m.dev == .arming || m.dev == .ochre || m.dev == .teasel) && !m.boot.stop then m.warm else m.codeRej := rfl

theorem Mach.devCtl_go (m : Mach) : m.devCtl (0x5A &&& 0xFFF) =
    if m.dev == .arming && !m.boot.stop then
      (if m.boot.step = 9 then (m.updBoot (fun b => { b with go := true })).gate else m.updBoot (fun b => { b with go := true }))
    else m.codeRej := rfl

theorem Mach.devCtl_enterOchre (m : Mach) : m.devCtl (0x3C &&& 0xFFF) =
    if (m.dev == .run || m.dev == .arming) && !m.goingDown then m.parkBegins 3 else m.codeRej := rfl

theorem Mach.devCtl_resume (m : Mach) : m.devCtl (0xC3 &&& 0xFFF) =
    if m.dev == .ochre && !m.boot.precfg && !m.anyL3 && !m.boot.stop then m.resume else m.codeRej := rfl

theorem Mach.devCtl_partRestart (m : Mach) (p : Part) : m.devCtl (word (0x69 + 256 * p.val) &&& 0xFFF) =
    if m.dev == .run && !m.goingDown && m.boot.restart.isNone then m.partRestart p.val else m.codeRej := by
  obtain ⟨hc, hp⟩ := partRestart_code p
  unfold Mach.devCtl
  rw [hc, hp]
  rfl

/-- GO at the Gate opens it. -/
theorem Mach.gate_go (m : Mach) : (m.updBoot (fun b => { b with go := true })).gate = (m.updBoot (fun b => { b with go := true })).enterRun :=
  if_pos (Bool.or_true _)

/-- Settles O9: each code by the state that accepts it. -/
theorem deviceCodes : Obligations.DeviceCodes := by
  unfold Obligations.DeviceCodes
  intro s a hp0
  have hboot := s.m.begun_boot a 0x000304
  have hdev := s.m.begun_dev a 0x000304
  have hdown : (s.m.begun a 0x000304).goingDown = s.m.goingDown := by unfold Mach.goingDown; rw [hboot]
  dsimp only
  generalize hm1 : s.m.begun a 0x000304 = m1 at *
  have hw : ∀ d, s.m.write a 0x000304 d = m1.devCtl (d &&& 0xFFF) := fun d => hm1 ▸ Mach.write_devCtl d hp0
  refine ⟨fun h hs => does_act ((hw _).trans (m1.devCtl_warm.trans (if_pos ?_))), fun h hs hg => does_act ((hw _).trans (m1.devCtl_go.trans ?_)),
    fun h hs hg => does_act ((hw _).trans (m1.devCtl_go.trans ?_)), fun h hd => does_act ((hw _).trans (m1.devCtl_enterOchre.trans ?_)),
    fun h hp hl hs => does_act ((hw _).trans (m1.devCtl_resume.trans (if_pos ?_))), fun p h hd hr hp => ?_, fun p h hd hr hp => ?_,
    fun hs => does_act (if_pos hs), fun h => ⟨does_act ((hw _).trans (m1.devCtl_warm.trans (if_neg ?_))),
      does_act ((hw _).trans (m1.devCtl_go.trans (if_neg ?_))), does_act ((hw _).trans (m1.devCtl_enterOchre.trans (if_neg ?_))),
      does_act ((hw _).trans (m1.devCtl_resume.trans (if_neg ?_)))⟩⟩
  · rw [hboot, hdev, hs]
    rcases h with h | h | h | h <;> simp [h]
  · exact (if_pos (by simp [hdev, hboot, h, hs])).trans (if_neg (by rwa [hboot]))
  · exact (if_pos (by simp [hdev, hboot, h, hs])).trans ((if_pos (by rwa [hboot])).trans m1.gate_go)
  · have hup : (m1.dev == .run || m1.dev == .arming) = true := by rw [hdev]; rcases h with h | h <;> simp [h]
    exact (if_pos (by simp [hup, hdown, hd])).trans (if_neg (by simp [hup, hdown, hd]))
  · simp [hdev, hboot, h, hp, hl, hs]
  · exact does_act ((hw _).trans ((m1.devCtl_partRestart p).trans ((if_pos (by simp [hdev, hdown, hboot, h, hd, hr])).trans (if_neg hp))))
  · exact does_act ((hw _).trans ((m1.devCtl_partRestart p).trans ((if_pos (by simp [hdev, hdown, hboot, h, hd, hr])).trans (if_pos hp))))
  all_goals simp [hdev, h]

end Sys2Proof.Machine
end

section
/-! SUPPORT. Register writes, UNLOCK, the wide-value mailbox and the configuration CRC (chapter 02). -/
namespace Sys2Proof.Machine
open Sys2Proof Sys2Proof.Laws

/-! ## Register writes (R33) -/

theorem Mach.busWrite_down {m : Mach} (a : Acc) (addr : Nat) (d : Word) (hu : m.hostUp = false) : m.busWrite a addr d = m.unmarked :=
  if_pos (show (!m.hostUp) = true by rw [hu]; rfl)

theorem Mach.busWrite_unmapped {m : Mach} (a : Acc) {addr : Nat} (d : Word) (hu : m.hostUp = true) (h4 : addr % 4 = 0)
    (h15 : addr / 0x10000 ≠ 15) (hr : rowOf addr = none) : m.busWrite a addr d = m.unmarked.accErr (m.bind a) a.port addr cUNMAPPED := by
  unfold Mach.busWrite
  have hu' : ¬ (!m.unmarked.hostUp) = true := by rw [show m.unmarked.hostUp = m.hostUp from rfl, hu]; decide
  dsimp only
  rw [if_neg hu', if_neg (not_not_intro h4), if_neg (by simp [h15]), hr]

/-- Settles O10: an ordinary write by the gates of R33, and the three refusals of the bus before them. -/
theorem registerWrites : Obligations.RegisterWrites := by
  unfold Obligations.RegisterWrites
  intro s a addr d
  refine ⟨fun r h => does_act (Mach.write_row d h), fun hu ht => does_act (Mach.write_of_busWrite (Mach.busWrite_down a _ d hu) ht),
    fun hu ht h4 => does_act (Mach.write_of_busWrite (Mach.busWrite_misaligned a d hu h4) ?_),
    fun hu ht h4 h15 hr => does_act (Mach.write_of_busWrite (Mach.busWrite_unmapped a d hu h4 h15 hr) ?_)⟩
  all_goals rw [Mach.accErr_todo, Mach.unmarked_todo, ht]

/-! ## UNLOCK (R37) -/

theorem unlock_address : ∀ blk : Fin 16, blk.val ≤ 12 → (rowOf (0x10000 * blk.val + 0xFFF0)).isSome = true ∧
    winOf (0x10000 * blk.val + 0xFFF0) = none ∧ blockBase (0x10000 * blk.val + 0xFFF0) = 0x10000 * blk.val := by
  decide

/-- A partition's write of UNLOCK reaches the arm of the block. -/
theorem Mach.busWrite_unlock {m : Mach} {a : Acc} {p k : Nat} {blk : Fin 16} (d : Word) (hb : m.bind a = .part p k) (hu : m.hostUp = true)
    (hblk : blk.val ≤ 12) :
    m.busWrite a (0x10000 * blk.val + 0xFFF0) d = m.unmarked.writeUnlock (.part p k) a (0x10000 * blk.val + 0xFFF0) d := by
  obtain ⟨hr, hw, -⟩ := unlock_address blk hblk
  obtain ⟨r, hr⟩ := Option.isSome_iff_exists.mp hr
  have hu' : ¬ (!m.unmarked.hostUp) = true := by rw [show m.unmarked.hostUp = m.hostUp from rfl, hu]; decide
  have h15 : ¬ (decide ((0x10000 * blk.val + 0xFFF0) / 0x10000 = 15) && m.unmarked.dev != .teasel) = true := by
    rw [decide_eq_false (by omega : ¬ (0x10000 * blk.val + 0xFFF0) / 0x10000 = 15), Bool.false_and]
    decide
  unfold Mach.busWrite
  dsimp only
  rw [if_neg hu', if_neg (by omega), if_neg h15, hr, hb]
  dsimp only
  rw [if_neg (by simp), if_neg (by simp), hw]
  exact if_pos (by omega)

theorem Mach.writeUnlock_arms {m : Mach} {p k : Nat} {a : Acc} {blk : Fin 16} {d : Word} (hblk : blk.val ≤ 12) (hd : getF d 0 16 = 0xC3A5) :
    m.writeUnlock (.part p k) a (0x10000 * blk.val + 0xFFF0) d = m.put ((UNLOCK.ARMED (0x10000 * blk.val)).inst p) 1 := by
  refine (if_pos hd).trans ?_
  unfold Mach.setArm
  rw [(unlock_address blk hblk).2.2]
  rfl

theorem Mach.writeUnlock_disarms {m : Mach} {p k : Nat} {a : Acc} {blk : Fin 16} {d : Word} (hblk : blk.val ≤ 12)
    (hd : getF d 0 16 ≠ 0xC3A5) : m.writeUnlock (.part p k) a (0x10000 * blk.val + 0xFFF0) d =
      (m.put ((UNLOCK.ARMED (0x10000 * blk.val)).inst p) 0).accErr (.part p k) a.port (0x10000 * blk.val + 0xFFF0) cKEY := by
  refine (if_neg hd).trans ?_
  unfold Mach.setArm
  rw [(unlock_address blk hblk).2.2]
  rfl

/-! ## The wide-value mailbox (R44 to R47, R55) -/

/-- No check refuses a partition its WIDE_SEL while WIDE_STAT.BUSY reads 0 when the write begins. -/
theorem Mach.opens_mailbox {m : Mach} {a : Acc} {p k : Nat} (hb : m.bind a = .part p k) (hu : m.hostUp = true) (ht : m.todo = [])
    (hbusy : (m.begun a 0x000110).fb (WIDE_STAT.BUSY.inst p) = false) : m.opens a 0x000110 wideSelRow := by
  have hn : m.bind a ≠ .unbound := by simp [hb]
  refine ⟨hu, ht, .inl hn, rowOf_wideSel, by decide, .inl (by decide), .inr (.inr (by decide)), m.mayWrite_wideSel hn, .inl rfl,
    .inl (by decide), ?_, .inr ?_, ?_, ?_, .inl (by decide)⟩
  · simp [Mach.lockedGrp, wideSelRow]
  · rw [hb]; exact hbusy
  · simp [Mach.svcBusy]
  · simp [Mach.grpPending]

/-- A selection by class, index and direction. -/
theorem Mach.wideHook_selects {m : Mach} {w : Who} {d : Word} {cls idx : Nat} {wr : Bool} (hc : getF d 0 8 = cls) (hi : getF d 8 8 = idx)
    (hw : bitAt d 31 = wr) : m.wideHook w d =
      if !wideExists cls idx then (m.wideShown w.inst cls).put (WIDE_STAT.BADSEL.inst w.inst) 1
      else if wr && (cls != 1 || !w.isP0) then (m.wideShown w.inst cls).wideRefuse w.inst
      else if cls = 2 then (m.wideShown w.inst cls).wideDeliver w.inst cls idx
      else ((m.wideShown w.inst cls).put (WIDE_STAT.BUSY.inst w.inst) 1).setWide w.inst
        { busy := true, wr := wr, cls := cls, idx := idx, lo := m.reg (0x000118 + w.inst * instSpan), hi := m.reg (0x00011C + w.inst * instSpan),
          who := w.inst } := by
  subst hc hi hw
  rfl

/-- The direction survives the mask of WIDE_SEL. -/
theorem bitAt_wideSel (d : Word) (wr : Bool) :
    bitAt (setF d 31 1 (b2n wr) &&& (word wideSelRow.rw ||| word wideSelRow.own ||| word wideSelRow.w1c)) 31 = wr := by
  have hm : (word wideSelRow.rw ||| word wideSelRow.own ||| word wideSelRow.w1c).getLsbD 31 = true := by decide
  unfold bitAt
  rw [BitVec.getLsbD_and, hm, setF_getLsbD _ _ _ _ _ (by decide)]
  cases wr <;> simp [b2n]

/-- A partition's selection stores its word and acts on the class, the index and the direction. -/
theorem Mach.write_wideSel {m : Mach} {a : Acc} {p k : Nat} (d : Word) (wr : Bool) (hb : m.bind a = .part p k) (hu : m.hostUp = true)
    (ht : m.todo = []) (hbusy : (m.begun a 0x000110).fb (WIDE_STAT.BUSY.inst p) = false) :
    m.write a 0x000110 (setF d 31 1 (b2n wr)) =
      let m1 := m.begun a 0x000110
      ((m1.store (0x000110 + p * instSpan) (blend (m1.reg (0x000110 + p * instSpan)) (setF d 31 1 (b2n wr)) 0x8000FFFF)).wideHook (.part p k)
        (setF d 31 1 (b2n wr) &&& (word wideSelRow.rw ||| word wideSelRow.own ||| word wideSelRow.w1c))) := by
  have hkey : instKey wideSelRow (m.bind a) a 0x000110 = 0x000110 + p * instSpan := by rw [hb]; rfl
  rw [Mach.write_easy _ (Mach.opens_mailbox hb hu ht hbusy) rfl rfl rfl (by decide) hkey, Mach.hook_wideSel,
    writeNew_blend rfl (by decide), hb]
  rfl

/-- Settles O11: the arm by the key word, the selection by its class, its direction and its writer, and the completion by what it finds. -/
theorem unlockAndMailbox : Obligations.UnlockAndMailbox := by
  unfold Obligations.UnlockAndMailbox
  intro s a p k d hb hu ht
  refine ⟨fun blk hblk => ⟨fun hd => does_act ?_, fun hd => does_act ?_⟩, fun hbusy => ?select,
    fun i hl hi => ⟨fun hw => does_act ?_, fun hw hp => does_act ?_, fun hw hp => does_act ?_⟩, fun i hi => ⟨fun hp => does_act ?_, fun hp => does_act ?_⟩⟩
  case select =>
    have hc : ∀ wr, getF (setF d 31 1 wr &&& (word wideSelRow.rw ||| word wideSelRow.own ||| word wideSelRow.w1c)) 0 8 = getF d 0 8 :=
      getF_wideSel d 0 (by decide)
    have hx : ∀ wr, getF (setF d 31 1 wr &&& (word wideSelRow.rw ||| word wideSelRow.own ||| word wideSelRow.w1c)) 8 8 = getF d 8 8 :=
      getF_wideSel d 8 (by decide)
    have hact : ∀ wr, s.m.write a 0x000110 (setF d 31 1 (b2n wr)) = _ := fun wr =>
      (Mach.write_wideSel d wr hb hu ht hbusy).trans (Mach.wideHook_selects (hc _) (hx _) (bitAt_wideSel d wr))
    refine ⟨fun hm => ⟨does_act ((hact false).trans (if_pos (by simp [hm]))), does_act ((hact true).trans (if_pos (by simp [hm])))⟩, fun hm =>
      ⟨fun h2 => does_act ((hact false).trans ((if_neg (by simp [hm])).trans ((if_neg (by simp)).trans ((if_pos h2).trans ?_)))),
        fun h2 => does_act ((hact false).trans ((if_neg (by simp [hm])).trans ((if_neg (by simp)).trans (if_neg h2)))),
        fun h1 hp => does_act ((hact true).trans ((if_neg (by simp [hm])).trans ((if_neg ?_).trans (if_neg (by omega))))),
        fun h => does_act ((hact true).trans ((if_neg (by simp [hm])).trans (if_pos ?_)))⟩⟩
    · rw [h2]; rfl
    · simp [h1, Who.isP0, Who.rights, hp]
    · simpa [Who.isP0, Who.rights] using h
  · rw [Mach.write_of_busWrite ((Mach.busWrite_unlock d hb hu hblk).trans (Mach.writeUnlock_arms hblk hd)) ht]
  · rw [Mach.write_of_busWrite ((Mach.busWrite_unlock d hb hu hblk).trans (Mach.writeUnlock_disarms hblk hd)) ((Mach.accErr_todo ..).trans ht)]
  · exact (if_neg (Bool.eq_false_iff.mp hl)).trans ((if_neg (by simp [hi])).trans (if_pos (by simp [hw])))
  · exact (if_neg (Bool.eq_false_iff.mp hl)).trans ((if_neg (by simp [hi])).trans ((if_neg (by simp [hw])).trans (if_pos hp)))
  · exact (if_neg (Bool.eq_false_iff.mp hl)).trans ((if_neg (by simp [hi])).trans ((if_neg (by simp [hw])).trans (if_neg (Bool.eq_false_iff.mp hp))))
  · exact (if_pos hi).trans ((if_neg (by simp [hi])).trans (if_pos hp))
  · exact (if_pos hi).trans ((if_neg (by simp [hi])).trans (if_neg (Bool.eq_false_iff.mp hp)))

/-! ## The configuration CRC (R40 to R43) -/

/-- The row of CFGCRC_CTL. -/
def cfgcrcCtlRow : Row := { name := "CFGCRC_CTL", base := 0x000120, writer := .p0, own := 3 }

/-- CAPTURE stays 1 until its sweep ends, and launches a capture. -/
theorem Mach.write_capture {m : Mach} {a : Acc} (d : Word) (h : m.byP0 a) : m.write a 0x000120 (d ||| 2) =
    let m1 := m.begun a 0x000120
    (m1.store 0x000120 (blend (m1.reg 0x000120) (d ||| 2) 3 ||| (m1.reg 0x000120 &&& 2))).capture false := by
  have hnew : ∀ old : Word, writeNew cfgcrcCtlRow 0x000120 (d ||| 2) old (word cfgcrcCtlRow.rw ||| word cfgcrcCtlRow.own) =
      blend old (d ||| 2) 3 ||| (old &&& 2) := by
    intro old
    simp [writeNew, cfgcrcCtlRow, word]
  rw [Mach.write_plain (r := cfgcrcCtlRow) (d ||| 2) h (by decide) (by decide), hnew]
  refine if_pos ?_
  unfold bitAt
  simp [cfgcrcCtlRow]
  decide

/-- The comparison of R42. -/
def Mach.crcJudged (r : Nat) (m : Mach) : Mach :=
  if m.fb CFGCRC_CTL.EN && !m.fb CFGCRC_STAT.STALE && m.f CFGCRC_REF.REF ≠ r then (m.put CFGCRC_STAT.MISMATCH 1).raise fCfgDrift 0 (word r) else m

theorem Mach.crcJudged_passes {m : Mach} {r : Nat} (h : m.fb CFGCRC_CTL.EN = false ∨ m.fb CFGCRC_STAT.STALE = true ∨ m.f CFGCRC_REF.REF = r) :
    m.crcJudged r = m :=
  if_neg (by rcases h with h | h | h <;> simp [h])

/-- The sweep has ended with its CRC. -/
def Mach.crcSwept (m : Mach) : Mach := ({ m with crc := { m.crc with pos := 0, run := 0xFFFFFFFF } }).put CFGCRC_CUR.CRC m.sweepCrc

/-- A capture that this sweep does not cover awaits the next. -/
def Mach.crcFresh (m : Mach) : Mach := { m with crc := { m.crc with fresh := true } }

/-- The end of a sweep while the core runs: the result, the capture that it covers, and the comparison. -/
theorem Mach.sweepEnd_runs {m : Mach} (hp : m.powered = true) (hh : m.boot.held = false) : m.sweepEnd =
    (if !m.crc.capture then m.crcSwept else if m.crc.fresh then m.crcSwept.crcLoad m.sweepCrc else m.crcSwept.crcFresh).crcJudged m.sweepCrc :=
  if_neg (by simp [hp, hh])

/-- Settles O12: CAPTURE, and the end of a sweep by the capture it covers and the state of the check. -/
theorem configurationCrc : Obligations.ConfigurationCrc := by
  unfold Obligations.ConfigurationCrc
  intro s
  refine ⟨fun a d h => does_act (Mach.write_capture d h), fun hp hh => ?sweep, fun h => does_act (if_pos (by rcases h with h | h <;> simp [h]))⟩
  have hends : ∀ x, _ = x → Does .cfgcrcSweepEnd s x := fun x h => does_act ((Mach.sweepEnd_runs hp hh).trans h)
  refine ⟨fun hc h => hends _ ?_, fun hc he hs hr => hends _ ?_, fun hc hf h => hends _ ?_, fun hc hf h => hends _ ?_⟩
  · exact (congrArg _ (if_pos (by simp [hc]))).trans (Mach.crcJudged_passes h)
  · exact (congrArg _ (if_pos (by simp [hc]))).trans (if_pos (by simp [Mach.crcSwept, he, hs, hr]))
  · exact (congrArg _ ((if_neg (by simp [hc])).trans (if_neg (by simp [hf])))).trans (Mach.crcJudged_passes (h.imp id .inl))
  · exact (congrArg _ ((if_neg (by simp [hc])).trans (if_pos hf))).trans (Mach.crcJudged_passes (h.imp id .inr))

end Sys2Proof.Machine
end

section
/-! SUPPORT. The indirect windows and the posted always-on words (chapter 02). -/
namespace Sys2Proof.Machine
open Sys2Proof Sys2Proof.Laws

/-! ## The registers of a window (R48 to R54) -/

/-- The address is one of a register of the window. -/
def winReg (w : Win) (addr : Nat) : Prop :=
  addr % 4 = 0 ∧ addr / 0x10000 ≠ 15 ∧ winOf addr = some w ∧ (rowOf addr).isSome = true

theorem winReg_base (w : Win) : ∀ o, o = 0 ∨ o = 4 ∨ o = 8 ∨ o = 0xC → winReg w (winBase w + o) := by
  unfold winReg
  cases w <;> rintro o (rfl | rfl | rfl | rfl) <;> decide

theorem rowOf_isSome {addr : Nat} {r : Row} (h : r ∈ rowsAt addr) (hits : r.hits addr = true) : (rowOf addr).isSome = true := by
  unfold rowOf
  rw [List.find?_isSome]
  exact ⟨r, h, hits⟩

/-- The row of the second address of IND_DATA. -/
def indAliasRow (w : Win) : Row := { name := "IND_DATA_S", base := winBase w + 0x400, count := 256, writer := .holder }

theorem winReg_alias (w : Win) (i : Fin 256) : winReg w (winBase w + 0x400 + 4 * i.val) := by
  have hi := i.isLt
  have hits : (indAliasRow w).hits (winBase w + 0x400 + 4 * i.val) = true := by
    cases w <;> simp [Row.hits, indAliasRow, winBase]
  cases w
  case chan =>
    have hrows : rowsAt (0x02E000 + 0x400 + 4 * i.val) = rowsChannel := by
      unfold rowsAt
      rw [show (0x02E000 + 0x400 + 4 * i.val) / 0x10000 = 2 by omega]
      rfl
    refine ⟨by dsimp only [winBase]; omega, by dsimp only [winBase]; omega, ?_, rowOf_isSome (r := indAliasRow .chan) (hrows ▸ by decide) hits⟩
    unfold winOf winBase
    rw [if_pos (by simp; omega)]
  case aon =>
    have hrows : rowsAt (0x0CE000 + 0x400 + 4 * i.val) = rowsAon := by
      unfold rowsAt
      rw [show (0x0CE000 + 0x400 + 4 * i.val) / 0x10000 = 12 by omega]
      rfl
    refine ⟨by dsimp only [winBase]; omega, by dsimp only [winBase]; omega, ?_, rowOf_isSome (r := indAliasRow .aon) (hrows ▸ by decide) hits⟩
    unfold winOf winBase
    rw [if_neg (by simp; omega), if_pos (by simp; omega)]

theorem winReg_data (w : Win) (alias_ : Option (Fin 256)) : winReg w (dataAddr w alias_) := by
  cases alias_ with
  | none => exact winReg_base w 4 (by decide)
  | some i => exact winReg_alias w i

theorem blockBase_window {addr : Nat} {w : Win} (h : winOf addr = some w) : blockBase addr = blockBase (winBase w) := by
  unfold winOf at h
  split at h
  · next hr => cases h; simp only [Bool.and_eq_true, decide_eq_true_eq] at hr; dsimp only [blockBase, winBase]; omega
  · split at h
    · next hr => cases h; simp only [Bool.and_eq_true, decide_eq_true_eq] at hr; dsimp only [blockBase, winBase]; omega
    · cases h

/-- Every register of a window reaches the same group locks (R224). -/
theorem Mach.grpTouch_window {m : Mach} {who : Who} {addr : Nat} {w : Win} (h : winReg w addr) :
    m.grpTouch who addr = m.grpTouch who (winBase w) := by
  obtain ⟨-, -, hw, -⟩ := h
  have hb : winOf (winBase w) = some w := by cases w <;> decide
  unfold Mach.grpTouch
  rw [hw, hb]
  cases w with
  | chan => simp [reachesGrp, hw, hb]
  | aon =>
    have h12 : addr / 0x10000 = 12 := by
      have := blockBase_window hw
      dsimp only [blockBase, winBase] at this
      omega
    rw [if_neg (by rw [h12]; decide), if_neg (by decide)]

/-! ## The accesses of a window as the bus makes them -/

/-- An access of partition p's master k has reached the window: the idle counts that it holds start afresh (R53, R224). -/
def Mach.winSeen (w : Win) (who : Who) (m : Mach) : Mach := (m.winTouch w who).grpTouch who (winBase w)

theorem Mach.winTouch_keeps {β : Type} (q : Mach → β) (hwin : ∀ x v t, q (Mach.setWin x v t) = q t) (w : Win) (who : Who) (m : Mach) :
    q (m.winTouch w who) = q m := by
  unfold Mach.winTouch
  split
  · exact hwin _ _ _
  · rfl

theorem Mach.grpTouch_keeps {β : Type} (q : Mach → β) (hgrp : ∀ g v t, q (Mach.setGrp g v t) = q t) (who : Who) (addr : Nat) (m : Mach) :
    q (m.grpTouch who addr) = q m := by
  unfold Mach.grpTouch
  split
  · refine forN_keeps q (fun i t => ?_) 32 m
    unfold applyIf
    split
    · exact hgrp _ _ _
    · rfl
  · rfl

theorem Mach.winSeen_keeps {β : Type} (q : Mach → β) (hwin : ∀ x v t, q (Mach.setWin x v t) = q t) (hgrp : ∀ g v t, q (Mach.setGrp g v t) = q t)
    (w : Win) (who : Who) (m : Mach) : q (m.winSeen w who) = q m :=
  (Mach.grpTouch_keeps q hgrp who _ _).trans (Mach.winTouch_keeps q hwin w who m)

theorem Mach.winSeen_todo (w : Win) (who : Who) (m : Mach) : (m.winSeen w who).todo = m.todo :=
  Mach.winSeen_keeps Mach.todo (fun x _ _ => by cases x <;> rfl) (fun _ _ _ => rfl) w who m

theorem Mach.winSeen_accFlag (w : Win) (who : Who) (m : Mach) : (m.winSeen w who).accFlag = m.accFlag :=
  Mach.winSeen_keeps Mach.accFlag (fun x _ _ => by cases x <;> rfl) (fun _ _ _ => rfl) w who m

/-- A partition's write of a window register: the window answers it, and an accepted one uses up the arm. -/
theorem Mach.busWrite_window {m : Mach} {a : Acc} {p k addr : Nat} {w : Win} (d : Word) (hb : m.bind a = .part p k) (hu : m.hostUp = true)
    (h : winReg w addr) : m.busWrite a addr d =
      let m1 := (m.unmarked.winWrite w (.part p k) a addr d).winSeen w (.part p k)
      if m1.accFlag && addr ≠ winBase w + 0x14 then m1 else m1.setArm (.part p k) addr 0 := by
  have htouch := fun t : Mach => Mach.grpTouch_window (m := t) (who := .part p k) h
  obtain ⟨h4, h15, hw, hr⟩ := h
  obtain ⟨r, hr⟩ := Option.isSome_iff_exists.mp hr
  have hu' : ¬ (!m.unmarked.hostUp) = true := by rw [show m.unmarked.hostUp = m.hostUp from rfl, hu]; decide
  unfold Mach.busWrite
  dsimp only
  rw [if_neg hu', if_neg (not_not_intro h4), if_neg (by simp [h15]), hr, hb]
  dsimp only
  rw [if_neg (by simp), if_neg (by simp), hw]
  dsimp only
  rw [htouch]
  rfl

/-- An accepted access uses up the accessor's arm of the block. -/
def Mach.winUsed (w : Win) (who : Who) (m : Mach) : Mach := (m.winSeen w who).setArm who (winBase w) 0

theorem Mach.busWrite_winAccepted {m n : Mach} {a : Acc} {p k addr : Nat} {w : Win} {d : Word} (hb : m.bind a = .part p k) (hu : m.hostUp = true)
    (h : winReg w addr) (hn : m.unmarked.winWrite w (.part p k) a addr d = n) (hf : n.accFlag = false) :
    m.busWrite a addr d = n.winUsed w (.part p k) := by
  rw [Mach.busWrite_window d hb hu h, hn]
  dsimp only
  rw [if_neg (by simp [Mach.winSeen_accFlag, hf])]
  unfold Mach.winUsed Mach.setArm
  rw [blockBase_window h.2.2.1]

/-- An accepted write of a window register that leaves nothing on the agenda. -/
theorem Mach.write_winAccepted {m n : Mach} {a : Acc} {p k addr : Nat} {w : Win} {d : Word} (hb : m.bind a = .part p k) (hu : m.hostUp = true)
    (h : winReg w addr) (hn : m.unmarked.winWrite w (.part p k) a addr d = n) (hf : n.accFlag = false) (ht : n.todo = []) :
    m.write a addr d = n.winUsed w (.part p k) :=
  Mach.write_of_busWrite (Mach.busWrite_winAccepted hb hu h hn hf) ((Mach.winSeen_todo ..).trans ht)

/-- A refused write of a window register keeps the arm. -/
theorem Mach.write_winRefused {m n : Mach} {a : Acc} {p k addr : Nat} {w : Win} {d : Word} (hb : m.bind a = .part p k) (hu : m.hostUp = true)
    (h : winReg w addr) (ho : addr ≠ winBase w + 0x14) (hn : m.unmarked.winWrite w (.part p k) a addr d = n) (hf : n.accFlag = true)
    (ht : n.todo = []) : m.write a addr d = n.winSeen w (.part p k) := by
  refine Mach.write_of_busWrite ?_ ((Mach.winSeen_todo ..).trans ht)
  rw [Mach.busWrite_window d hb hu h, hn]
  dsimp only
  rw [if_pos (by simp [Mach.winSeen_accFlag, hf, ho])]

/-! ## What the window does with each register -/

theorem Mach.winWrite_lock (w : Win) (who : Who) (a : Acc) (d : Word) (m : Mach) : m.winWrite w who a (winBase w + 0xC) d = m.winLock w who d := by
  cases w <;> rfl

theorem Mach.winWrite_data (w : Win) (who : Who) (a : Acc) (alias_ : Option (Fin 256)) (d : Word) (m : Mach) :
    m.winWrite w who a (dataAddr w alias_) d = m.winStage w who a (dataAddr w alias_) d := by
  cases alias_ with
  | none => cases w <;> rfl
  | some i =>
    have ho : dataAddr w (some i) - winBase w = 0x400 + 4 * i.val := by dsimp only [dataAddr]; omega
    unfold Mach.winWrite
    dsimp only
    rw [ho, if_neg (by omega), if_neg (by omega), if_neg (by omega), if_pos (by simp)]

theorem Mach.winWrite_addr {w : Win} {who : Who} (a : Acc) (d : Word) {m : Mach} (h : m.holds w who = true) :
    m.winWrite w who a (winBase w) d = (m.put (IND_ADDR.OFF (winBase w)) (getF d 0 16)).put (IND_STAT.END (winBase w)) 0 := by
  have hn : ¬ (!m.holds w who) = true := by simp [h]
  cases w <;> exact if_neg hn

theorem Mach.winWrite_ctl {w : Win} {who : Who} (a : Acc) (d : Word) {m : Mach} (h : m.holds w who = true) :
    m.winWrite w who a (winBase w + 8) d =
      let m1 := m.put (IND_CTL.AINC (winBase w)) (getF d 0 1)
      let m2 := if bitAt d 8 then m1.winCommit w who a (winBase w + 8) else m1
      if bitAt d 9 then m2.setWin w { m2.win w with staged := [] } else m2 := by
  have hn : ¬ (!m.holds w who) = true := by simp [h]
  cases w <;> exact if_neg hn

theorem Mach.holds_part {m : Mach} {w : Win} {p k : Nat} (h : (m.win w).holder = some p) : m.holds w (.part p k) = true := by
  unfold Mach.holds
  rw [h]
  simp [Who.holder]

theorem bitAt_or (d mask : Word) (i : Nat) : bitAt (d ||| mask) i = (d.getLsbD i || mask.getLsbD i) := BitVec.getLsbD_or

theorem getF_or_above (d : Word) {mask : Word} (hm : mask.getLsbD 0 = false) : getF (d ||| mask) 0 1 = getF d 0 1 := by
  apply Nat.eq_of_testBit_eq
  intro i
  rw [getF_testBit, getF_testBit]
  by_cases hi : i < 1
  · have h0 : i = 0 := by omega
    rw [h0, Nat.zero_add, BitVec.getLsbD_or, hm, Bool.or_false]
  · simp [hi]

/-- COMMIT without DISCARD stores AINC and commits. -/
theorem Mach.winWrite_commit {w : Win} {who : Who} (a : Acc) {d : Word} {m : Mach} (h : m.holds w who = true) (hd : d.getLsbD 9 = false) :
    m.winWrite w who a (winBase w + 8) (d ||| 0x100) =
      (m.put (IND_CTL.AINC (winBase w)) (getF d 0 1)).winCommit w who a (winBase w + 8) := by
  have h8 : bitAt (d ||| 0x100) 8 = true := by rw [bitAt_or, show (0x100 : Word).getLsbD 8 = true by decide, Bool.or_true]
  have h9 : bitAt (d ||| 0x100) 9 = false := by rw [bitAt_or, hd]; decide
  rw [Mach.winWrite_ctl a _ h, h8, h9, getF_or_above d (by decide)]
  exact (if_neg Bool.false_ne_true).trans (if_pos rfl)

/-- DISCARD without COMMIT stores AINC and empties the buffer. -/
theorem Mach.winWrite_discard {w : Win} {who : Who} (a : Acc) {d : Word} {m : Mach} (h : m.holds w who = true) (hd : d.getLsbD 8 = false) :
    m.winWrite w who a (winBase w + 8) (d ||| 0x200) =
      let m1 := m.put (IND_CTL.AINC (winBase w)) (getF d 0 1)
      m1.setWin w { m1.win w with staged := [] } := by
  have h8 : bitAt (d ||| 0x200) 8 = false := by rw [bitAt_or, hd]; decide
  have h9 : bitAt (d ||| 0x200) 9 = true := by rw [bitAt_or, show (0x200 : Word).getLsbD 9 = true by decide, Bool.or_true]
  rw [Mach.winWrite_ctl a _ h, h8, h9, getF_or_above d (by decide)]
  exact if_pos rfl

theorem Mach.setWin_todo (w : Win) (v : Window) (m : Mach) : (m.setWin w v).todo = m.todo := by cases w <;> rfl
theorem Mach.setWin_accFlag (w : Win) (v : Window) (m : Mach) : (m.setWin w v).accFlag = m.accFlag := by cases w <;> rfl
theorem Mach.winStep_keeps {β : Type} (q : Mach → β) (hreg : ∀ k v t, q (Mach.setReg k v t) = q t) (w : Win) (m : Mach) :
    q (m.winStep w) = q m := by
  unfold Mach.winStep
  dsimp only
  split
  · rfl
  · split <;> exact hreg _ _ _

theorem Mach.winStage_takes {m : Mach} {w : Win} {p k : Nat} (a : Acc) (addr : Nat) (d : Word) (hs : m.winShut w (.part p k) = false)
    (hr : m.stageRefusal w (.part p k) (m.f (IND_ADDR.OFF (winBase w))) = none)
    (hl : ((m.win w).staged.filter (fun e => e.at' ≠ m.f (IND_ADDR.OFF (winBase w)))).length < 16) :
    m.winStage w (.part p k) a addr d = (m.setWin w { m.win w with
      staged := (m.win w).staged.filter (fun e => e.at' ≠ m.f (IND_ADDR.OFF (winBase w))) ++ [⟨m.f (IND_ADDR.OFF (winBase w)), d, addr⟩] }).winStep w := by
  refine (if_neg (Bool.eq_false_iff.mp hs)).trans ?_
  dsimp only
  rw [hr]
  exact if_pos hl

theorem Mach.memberLock_congr {m n : Mach} (ht : n.tbl = m.tbl) (hg : n.grps = m.grps) (who : Who) (off : Nat) :
    n.memberLock who off = m.memberLock who off := by
  unfold Mach.memberLock Mach.tb Mach.t Mach.tw
  rw [ht, hg]

theorem Mach.memberFit_congr {m n : Mach} (ht : n.tbl = m.tbl) (hg : n.grps = m.grps) (who : Who) (ws : List Staged) :
    n.memberFit who ws = m.memberFit who ws := by
  unfold Mach.memberFit
  simp only [Mach.memberLock_congr ht hg, hg]

/-- The buffer of the channel window is handed on. -/
def Mach.chanTaken (m : Mach) (who : Who) : Mach :=
  (m.setWin .chan { m.win .chan with staged := [] }).setArm who (winBase .chan + 8) 0

/-- The commit of one word of the channel window, by its own block. -/
theorem Mach.winCommit_chan {m : Mach} {p k : Nat} (a : Acc) {e : Staged} (he : (m.win .chan).staged = [e])
    (hfit : (m.chanTaken (.part p k)).memberFit (.part p k) [e] = true) (hlock : (m.chanTaken (.part p k)).memberLock (.part p k) e.at' = none) :
    m.winCommit .chan (.part p k) a (winBase .chan + 8) =
      (m.chanTaken (.part p k)).tblWrite (.part p k) a.port e.bus (e.at' / 64) (e.at' % 64 / 4) e.d := by
  rw [Mach.memberFit_congr (show (m.chanTaken (.part p k)).tbl = m.tbl from rfl) rfl] at hfit
  rw [Mach.memberLock_congr (show (m.chanTaken (.part p k)).tbl = m.tbl from rfl) rfl] at hlock
  unfold Mach.winCommit
  dsimp only
  rw [he, hfit, if_neg (by decide)]
  simp only [List.foldl_cons, List.foldl_nil, hlock]
  rfl

theorem Mach.winCommit_aon {m : Mach} {p k : Nat} (a : Acc) {e : Staged} (he : (m.win .aon).staged = [e]) (hrw : aonRw e.at' = true) :
    let m1 := (m.setWin .aon { m.win .aon with staged := [] }).setArm (.part p k) (winBase .aon + 8) 0
    m.winCommit .aon (.part p k) a (winBase .aon + 8) = m1.postAon e.at' (blend (m1.aw e.at') e.d (word (aonMask e.at'))) := by
  unfold Mach.winCommit
  dsimp only
  rw [he, if_neg (by simp)]
  simp only [List.foldl_cons, List.foldl_nil, hrw, if_true]

theorem Mach.accErr_accFlag (m : Mach) (p k : Nat) (port : Port) (addr cause : Nat) : (m.accErr (.part p k) port addr cause).accFlag = true := by
  unfold Mach.accErr
  split
  · next h => cases h
  · split <;> rfl

theorem Mach.Later.win {m n : Mach} (h : m.Later n) (w : Win) : n.win w = m.win w := by
  cases w <;> unfold Mach.win <;> rw [h.1]

/-- Settles O13: each access of a window by what the window does with its register, and the time-out by its limit. -/
theorem indirectWindows : Obligations.IndirectWindows := by
  unfold Obligations.IndirectWindows
  intro s a p k w d hb hu ht
  have ht0 : s.m.unmarked.todo = [] := ht
  have hholds : (s.m.win w).holder = some p.val → s.m.unmarked.holds w (.part p.val k) = true := Mach.holds_part
  refine ⟨fun hh hd => ?take, fun hh hd => ?release, fun hh => ⟨?address, fun alias_ hs hr hl => ?stage, fun hd => ?discard⟩,
    fun e hh he hd => ⟨fun hw hfit hlock hf => ?commitChan, fun hw hrw => ?commitAon⟩, fun hs hh => ?refused,
    fun h hh => ⟨fun hl => does_act (if_pos (by simp [hl])), fun hl => ?timeout⟩⟩
  case take =>
    refine does_act (Mach.write_winAccepted hb hu (winReg_base w 0xC (by decide)) ((Mach.winWrite_lock ..).trans ((if_pos hd).trans (if_pos ?_))) ?_ ?_)
    · show (s.m.win w).holder.isNone = true
      rw [hh]; rfl
    · exact Mach.setWin_accFlag ..
    · exact (Mach.setWin_todo ..).trans ht0
  case release =>
    refine does_act (Mach.write_winAccepted hb hu (winReg_base w 0xC (by decide))
      ((Mach.winWrite_lock ..).trans ((if_neg (Bool.eq_false_iff.mp hd)).trans (if_pos (hholds hh)))) ?_ ?_)
    · exact Mach.setWin_accFlag ..
    · exact (Mach.setWin_todo ..).trans ht0
  case address => exact does_act (Mach.write_winAccepted hb hu (winReg_base w 0 (by decide)) (Mach.winWrite_addr a d (hholds hh)) rfl ht0)
  case stage =>
    refine does_act (Mach.write_winAccepted hb hu (winReg_data w alias_) ((Mach.winWrite_data ..).trans (Mach.winStage_takes a _ d hs hr hl)) ?_ ?_)
    · exact (Mach.winStep_keeps Mach.accFlag (fun _ _ _ => rfl) ..).trans (Mach.setWin_accFlag ..)
    · exact ((Mach.winStep_keeps Mach.todo (fun _ _ _ => rfl) ..).trans (Mach.setWin_todo ..)).trans ht0
  case discard =>
    exact does_act (Mach.write_winAccepted hb hu (winReg_base w 8 (by decide)) (Mach.winWrite_discard a (hholds hh) hd)
      (Mach.setWin_accFlag ..) ((Mach.setWin_todo ..).trans ht0))
  case commitChan =>
    subst hw
    exact does_act (congrArg (Mach.settleFor 1) (Mach.busWrite_winAccepted hb hu (winReg_base .chan 8 (by decide))
      ((Mach.winWrite_commit a (hholds hh) hd).trans (Mach.winCommit_chan a he hfit hlock)) hf))
  case commitAon =>
    subst hw
    exact does_act (Mach.write_winAccepted hb hu (winReg_base .aon 8 (by decide))
      ((Mach.winWrite_commit a (hholds hh) hd).trans (Mach.winCommit_aon a he hrw)) rfl ht0)
  case refused =>
    exact does_act (Mach.write_winRefused hb hu (winReg_data w none) (by cases w <;> decide) ((Mach.winWrite_data w _ a none d _).trans (if_pos hs))
      (Mach.accErr_accFlag ..) ((Mach.accErr_todo ..).trans ht0))
  case timeout =>
    refine does_act ((if_neg (by simp [hh, hl])).trans ?_)
    unfold Mach.winFree
    rw [(Mach.advReg_later _ _).win w, hh]
    rfl

/-! ## Reads through a window, and posted words -/

/-- A partition's read of IND_DATA, at either address. -/
theorem Mach.busRead_window {m : Mach} {a : Acc} {p k : Nat} {w : Win} {alias_ : Option (Fin 256)} (hb : m.bind a = .part p k)
    (hu : m.hostUp = true) : m.busRead a (dataAddr w alias_) =
      let e := m.unmarked.winRead w (.part p k) a.port (dataAddr w alias_)
      (e.1, e.2.winSeen w (.part p k)) := by
  have htouch := fun t : Mach => Mach.grpTouch_window (m := t) (who := .part p k) (winReg_data w alias_)
  obtain ⟨h4, h15, hw, hr⟩ := winReg_data w alias_
  obtain ⟨r, hr⟩ := Option.isSome_iff_exists.mp hr
  have hu' : ¬ (!m.unmarked.hostUp) = true := by rw [show m.unmarked.hostUp = m.hostUp from rfl, hu]; decide
  have ho : (decide (dataAddr w alias_ - winBase w = 4) || decide (0x400 ≤ dataAddr w alias_ - winBase w)) = true := by
    cases alias_ <;> simp [dataAddr, Nat.add_assoc]
  unfold Mach.busRead
  dsimp only
  rw [if_neg hu', if_neg (not_not_intro h4), if_neg (by simp [h15]), hr, hb]
  dsimp only
  rw [if_neg (by simp), hw]
  dsimp only
  rw [if_pos ho, htouch]
  rfl

theorem Mach.winRead_misaligned {m : Mach} {w : Win} {who : Who} {port : Port} {addr : Nat} (hs : m.winShut w who = false)
    (h4 : m.f (IND_ADDR.OFF (winBase w)) % 4 ≠ 0) : m.winRead w who port addr = (0, (m.accErr who port addr cALIGN).winStep w) :=
  (if_neg (Bool.eq_false_iff.mp hs)).trans (if_pos h4)

/-- The word of a window at an offset. -/
def Mach.winValue (m : Mach) (w : Win) (off : Nat) : Word :=
  match w with
  | .chan => m.tblRead (off / 64) (off % 64 / 4)
  | .aon => m.aonRead off

theorem Mach.winRead_word {m : Mach} {w : Win} {who : Who} {port : Port} {addr : Nat} (hs : m.winShut w who = false)
    (h4 : m.f (IND_ADDR.OFF (winBase w)) % 4 = 0) (hw : winWord w (m.f (IND_ADDR.OFF (winBase w))) = true) :
    m.winRead w who port addr = (m.winValue w (m.f (IND_ADDR.OFF (winBase w))), m.winStep w) := by
  have hw' : ¬ (!winWord w (m.f (IND_ADDR.OFF (winBase w)))) = true := by simp [hw]
  exact (if_neg (Bool.eq_false_iff.mp hs)).trans ((if_neg (not_not_intro h4)).trans (if_neg hw'))

theorem Mach.aonArrive_word {m : Mach} {off : Nat} {v : Word} {t : List (Nat × Word)} (h : m.aonPost = (off, v) :: t) : m.aonArrive =
    let m1 := ({ m with aonPost := t }).setAw off v
    if off = 0x2000 then m1.updPwr (fun x => { x with cellWritten := true })
    else if 0x1000 ≤ off && off ≤ 0x1800 then m1.listArrive off (m.aw off) v else m1 := by
  unfold Mach.aonArrive
  rw [h]

/-- Settles O14: a read by what stands at its address, and an arrival by the offset of its word. -/
theorem windowReadsAndPostedWords : Obligations.WindowReadsAndPostedWords := by
  unfold Obligations.WindowReadsAndPostedWords
  intro s
  refine ⟨fun a p k w alias_ hb hu ht hs => ⟨fun h4 hw => does_act ?_, fun h4 => does_act ?_⟩,
    fun off v t h => ⟨fun ho => does_act ((Mach.aonArrive_word h).trans (if_pos ho)), fun h1 h2 => does_act ((Mach.aonArrive_word h).trans ?_),
      fun ho hr => does_act ((Mach.aonArrive_word h).trans ((if_neg ho).trans (if_neg ?_)))⟩, fun h => does_act ?_⟩
  · unfold Mach.readData
    rw [Mach.busRead_window hb hu, Mach.winRead_word (m := s.m.unmarked) hs h4 hw]
    rfl
  · unfold Mach.readData
    rw [Mach.busRead_window hb hu, Mach.winRead_misaligned (m := s.m.unmarked) hs h4]
    rfl
  · exact (if_neg (by omega)).trans (if_pos (by simp [h1, h2]))
  · simp; omega
  · unfold Mach.aonArrive
    rw [h]

end Sys2Proof.Machine
end

section
/-! SUPPORT. The service path to the flash (chapter 06). -/
namespace Sys2Proof.Machine
open Sys2Proof Sys2Proof.Laws

/-! ## The service path (R146 to R149, R151) -/

/-- The row of SVC_CTL. -/
def svcCtlRow : Row := { name := "SVC_CTL", base := 0x000420, writer := .p0, own := 0xF }

theorem Mach.opens_svcCtl {m : Mach} {a : Acc} (h : m.byP0 a) (hb : (m.begun a 0x000420).fb SVC_STAT.BUSY = false) :
    m.opens a 0x000420 svcCtlRow := by
  obtain ⟨hu, hp, ht⟩ := h
  refine ⟨hu, ht, .inl (Who.isP0_bound hp), by decide, by decide, .inl (by decide), .inr (.inr (by decide)), ?_, .inr hp, .inl (by decide), ?_,
    .inl (by decide), ?_, ?_, .inl (by decide)⟩
  · unfold Who.isP0 at hp
    rw [beq_iff_eq] at hp
    unfold Mach.mayWrite
    rw [hp]
    split <;> rfl
  · simp [Mach.lockedGrp, svcCtlRow]
  · simp [Mach.svcBusy, hb]
  · simp [Mach.grpPending]

/-- SVC_CTL while no operation runs: the code is stored and acts. -/
theorem Mach.svcWrite_idle {m : Mach} {a : Acc} (op : Nat) (h : m.byP0 a) (hb : (m.begun a 0x000420).fb SVC_STAT.BUSY = false) :
    m.svcWrite a op = ((m.begun a 0x000420).store 0x000420 (blend ((m.begun a 0x000420).reg 0x000420) (word op) 0xF)).svcHook (word op &&& 0xF) := by
  unfold Mach.svcWrite
  rw [Mach.write_easy _ (Mach.opens_svcCtl h hb) rfl rfl rfl (by decide) rfl, writeNew_blend rfl (by decide)]
  exact if_pos (Mach.seesOwn_p0 h.2.1)

theorem Mach.store_keeps {β : Type} (q : Mach → β) (hreg : ∀ k v t, q (Mach.setReg k v t) = q t) (key : Nat) (new : Word) (m : Mach) :
    q (m.store key new) = q m := by
  unfold Mach.store
  split
  · rfl
  · exact hreg _ _ _

@[simp] theorem Mach.store_dev (m : Mach) (key : Nat) (new : Word) : (m.store key new).dev = m.dev :=
  Mach.store_keeps Mach.dev (fun _ _ _ => rfl) key new m

@[simp] theorem Mach.store_boot (m : Mach) (key : Nat) (new : Word) : (m.store key new).boot = m.boot :=
  Mach.store_keeps Mach.boot (fun _ _ _ => rfl) key new m

/-- An operation that passes its checks starts. -/
def Mach.svcStarts (op : Nat) (m0 m : Mach) : Mach :=
  ({ m.put SVC_STAT.BUSY 1 with svc := { op := op, addr := m0.f SVC_ADDR.ADDR, len := m0.f SVC_LEN.LEN } }.flashSend
    (m0.svcCmds op (m0.f SVC_ADDR.ADDR) (m0.f SVC_LEN.LEN))).startTimer .svcOp

theorem Mach.svcHook_op {m : Mach} {d : Word} {op : Nat} (h : getF d 0 4 = op) : m.svcHook d =
    if m.dev != .run && m.dev != .ochre then m.svcEnd 5
    else if !svcInLimits op (m.f SVC_ADDR.ADDR) (m.f SVC_LEN.LEN) then m.svcEnd 1
    else if (op = 2 || op = 3) && !m.fb SVC_STAT.OPEN then m.svcEnd 2
    else if op = 2 && m.boot.erase4k.isNone then m.svcEnd 4
    else if op = 15 then m.svcClose.svcEnd 0
    else Mach.svcStarts op m (if op = 2 || op = 3 then m.put SVC_STAT.WROTE 1 else m) := by
  subst h
  rfl

/-- An operation of a kind completes. -/
def Mach.svcEnds (op : Nat) (bytes : List Byte) (sfdp : Option Sfdp) (m : Mach) : Mach :=
  match op with
  | 1 => (m.setBytes 0x000500 (padTo m.svc.len bytes)).svcEnd 0
  | 2 => (if m.fb SVC_STAT.OPEN then m.put SVC_STAT.ERASED (satInc 255 (m.f SVC_STAT.ERASED)) else m).svcEnd 0
  | 4 => (m.svcVerified bytes sfdp).svcEnd 0
  | _ => m.svcEnd 0

theorem Mach.svcDone_op {m : Mach} {bytes : List Byte} {sfdp : Option Sfdp} {op : Nat} (hb : m.fb SVC_STAT.BUSY = true) (h : m.svc.op = op) :
    m.svcDone false bytes sfdp = m.svcEnds op bytes sfdp := by
  subst h
  exact (if_neg (by simp [hb])).trans (if_neg Bool.false_ne_true)

theorem Mach.svcVerified_undiscovered {m : Mach} (bytes : List Byte) (h : m.boot.discovered = false) :
    m.svcVerified bytes none = m.svcVerdict (1, 0, 0) false :=
  if_neg (Bool.eq_false_iff.mp h)

/-- Settles O15: the checks of SVC_CTL in their order, the end of an operation by its kind, and the end of the session. -/
theorem servicePath : Obligations.ServicePath := by
  unfold Obligations.ServicePath
  intro s
  refine ⟨fun a hp0 => ?start, fun timeout bytes sfdp hb => ⟨fun ht => does_act ((if_neg (by simp [hb])).trans (if_pos ht)),
    fun ht => ?done⟩, fun hwf hb ho => ?session⟩
  case start =>
    intro m1 m2 starts fits hb
    have hdev : ∀ op, (m2 op).dev = s.m.dev := fun op => (Mach.store_dev ..).trans (Mach.begun_dev ..)
    have hboot : ∀ op, (m2 op).boot = s.m.boot := fun op => (Mach.store_boot ..).trans (Mach.begun_boot ..)
    have hw : ∀ op, getF (word op &&& 0xF) 0 4 = op → s.m.svcWrite a op = _ := fun op ho =>
      (Mach.svcWrite_idle op hp0 hb).trans (Mach.svcHook_op (m := m2 op) ho)
    refine ⟨fun h => ?_, fun h => does_act ((hw 1 (by decide)).trans (if_pos ?_))⟩
    · have hup : ∀ op, ¬ ((m2 op).dev != .run && (m2 op).dev != .ochre) = true := fun op => by
        rw [hdev]; rcases h with h | h <;> simp [h]
      refine ⟨fun hf => ?_, fun hf => ?_, fun hf ho he => ?_, fun hf ho he => ?_, fun hf ho => ?_, fun hf ho => ?_, fun hf ho => ?_, ?_, ?_⟩
      · exact does_act ((hw 1 (by decide)).trans ((if_neg (hup 1)).trans ((if_neg (by simp [show svcInLimits 1 _ _ = true from hf])).trans
          ((if_neg (by simp)).trans ((if_neg (by simp)).trans (if_neg (by decide)))))))
      · exact does_act ((hw 1 (by decide)).trans ((if_neg (hup 1)).trans (if_pos (by simp [show svcInLimits 1 _ _ = false from hf]))))
      · exact does_act ((hw 2 (by decide)).trans ((if_neg (hup 2)).trans ((if_neg (by simp [show svcInLimits 2 _ _ = true from hf])).trans
          ((if_neg (by simp [ho])).trans ((if_neg (by simp [hboot, Option.isSome_iff_ne_none.mp he])).trans (if_neg (by decide)))))))
      · exact does_act ((hw 2 (by decide)).trans ((if_neg (hup 2)).trans ((if_neg (by simp [show svcInLimits 2 _ _ = true from hf])).trans
          ((if_neg (by simp [ho])).trans (if_pos (by simp [hboot, he]))))))
      · exact does_act ((hw 2 (by decide)).trans ((if_neg (hup 2)).trans ((if_neg (by simp [show svcInLimits 2 _ _ = true from hf])).trans
          (if_pos (by simp [ho])))))
      · exact does_act ((hw 3 (by decide)).trans ((if_neg (hup 3)).trans ((if_neg (by simp [show svcInLimits 3 _ _ = true from hf])).trans
          ((if_neg (by simp [ho])).trans ((if_neg (by simp)).trans (if_neg (by decide)))))))
      · exact does_act ((hw 3 (by decide)).trans ((if_neg (hup 3)).trans ((if_neg (by simp [show svcInLimits 3 _ _ = true from hf])).trans
          (if_pos (by simp [ho])))))
      · exact does_act ((hw 4 (by decide)).trans ((if_neg (hup 4)).trans ((if_neg (by simp [svcInLimits])).trans
          ((if_neg (by simp)).trans ((if_neg (by simp)).trans (if_neg (by decide)))))))
      · exact does_act ((hw 15 (by decide)).trans ((if_neg (hup 15)).trans ((if_neg (by simp [svcInLimits])).trans
          ((if_neg (by simp)).trans ((if_neg (by simp)).trans (if_pos rfl))))))
    · rw [hdev]
      rcases h with h | h | h <;> rw [h] <;> rfl
  case done =>
    subst ht
    refine ⟨fun ho => does_act (Mach.svcDone_op hb ho), fun ho hs => does_act ((Mach.svcDone_op hb ho).trans ?_), fun ho => does_act (Mach.svcDone_op hb ho),
      fun ho hd => does_act ((Mach.svcDone_op hb ho).trans ?_), fun ho hd hn => does_act ((Mach.svcDone_op hb ho).trans ?_)⟩
    · exact congrArg (Mach.svcEnd 0) (if_pos hs)
    · exact congrArg (Mach.svcEnd 0) (if_pos hd)
    · subst hn
      exact congrArg (Mach.svcEnd 0) (Mach.svcVerified_undiscovered bytes hd)
  case session =>
    intro closes m0
    have hl : s.m.Later m0 := Mach.reach_later ..
    have hf : ∀ x : Fld, x.a ∉ timeRegs → m0.fb x = s.m.fb x := fun x hx => by unfold Mach.fb; rw [hl.f hwf hx]
    have heq : s.m.svcTimeout = _ := (if_neg (by simp [hb, ho])).trans (if_neg (by rw [hf _ (by decide), ho]; decide))
    refine ⟨fun hw => does_act (heq.trans (congrArg closes (if_neg (by rw [hf _ (by decide), hw]; decide)))),
      fun hw => does_act (heq.trans (congrArg closes ((if_pos ((hf _ (by decide)).trans hw)).trans ?_)))⟩
    rw [hl.f hwf (by decide), hl.f hwf (by decide), hf _ (by decide)]

end Sys2Proof.Machine
end

section
/-! SUPPORT. The references: configuration, qualification and the checks of a source (chapter 07). -/
namespace Sys2Proof.Machine
open Sys2Proof Sys2Proof.Laws

/-! ## The configuration of a source (R155) -/

/-- A one-bit field is its bit. -/
theorem Mach.fb_bit (m : Mach) (x : Fld) (h : x.len = 1) : m.fb x = (m.reg x.a).getLsbD x.lo := by
  have ht := getF_testBit (m.reg x.a) x.lo 1 0
  have hlt := getF_lt (m.reg x.a) x.lo 1
  unfold Mach.fb Mach.f
  rw [h]
  rw [Nat.add_zero] at ht
  cases hb : (m.reg x.a).getLsbD x.lo
  · rw [hb] at ht
    have h0 : getF (m.reg x.a) x.lo 1 = 0 := by
      rcases Nat.lt_succ_iff_lt_or_eq.mp hlt with h | h
      · omega
      · rw [h] at ht; exact absurd ht (by decide)
    rw [h0]
    rfl
  · rw [hb] at ht
    have h1 : getF (m.reg x.a) x.lo 1 = 1 := by
      rcases Nat.lt_succ_iff_lt_or_eq.mp hlt with h | h
      · rw [show getF (m.reg x.a) x.lo 1 = 0 by omega] at ht; exact absurd ht (by decide)
      · exact h
    rw [h1]
    rfl

/-- The CFG bits of REF_CFG_i: those of an input. -/
def refCfgBits (i : Nat) : Nat := if i < 8 then 0xE else 0

/-- The row of REF_CFG_i. -/
def refCfgRow (i : Nat) : Row :=
  if i < 8 then { name := "REF_CFG", base := 0x010000, stride := 0x20, count := 8, writer := .p0, img := .y, rw := 0xF01, cfg := 0xE }
  else { name := "REF_CFG_8_9", base := 0x010100, stride := 0x20, count := 2, writer := .p0, img := .y, rw := 0xF01 }

theorem refCfgRow_fields (i : Nat) : (refCfgRow i).key = 0 ∧ (refCfgRow i).rw = 0xF01 ∧ (refCfgRow i).cfg = refCfgBits i ∧ (refCfgRow i).own = 0 ∧
    (refCfgRow i).trg = 0 ∧ (refCfgRow i).w1c = 0 ∧ (refCfgRow i).wm = false ∧ (refCfgRow i).inst = .one ∧ (refCfgRow i).writer = .p0 := by
  unfold refCfgRow refCfgBits
  split <;> decide

theorem refCfg_address : ∀ i : Fin 10, rowOf (0x010000 + 0x20 * i.val) = some (refCfgRow i.val) ∧
    (refCfgRow i.val).ordinary (0x010000 + 0x20 * i.val) = true ∧ winOf (0x010000 + 0x20 * i.val) = none := by
  decide

theorem Mach.hook_refCfg (m : Mach) (w : Who) (a : Acc) (i : Fin 10) (d old new : Word) :
    m.hook w a (0x010000 + 0x20 * i.val) d old new = m.refCfgHook i.val old new := by
  have hi := i.isLt
  unfold Mach.hook
  rw [show (0x010000 + 0x20 * i.val) / 0x10000 = 1 by omega]
  refine (if_pos (by omega)).trans ((if_pos (by omega)).trans ?_)
  rw [show (0x010000 + 0x20 * i.val - 0x010000) / 0x20 = i.val by omega]

theorem Mach.cfgOpen_refCfg (m : Mach) (i : Fin 10) :
    m.cfgOpen (0x010000 + 0x20 * i.val) = !(m.reg (0x010000 + 0x20 * i.val)).getLsbD 0 := by
  have hi := i.isLt
  unfold Mach.cfgOpen
  rw [show (0x010000 + 0x20 * i.val) / 0x10000 = 1 by omega]
  refine (if_pos (by omega)).trans ?_
  rw [show (0x010000 + 0x20 * i.val - 0x010000) / 0x20 = i.val by omega, Mach.fb_bit _ _ rfl]
  rfl

/-- The bits of a register without KEY fields that a write may change: its CFG bits only where their gate is open. -/
def Mach.openBits (m : Mach) (r : Row) (addr : Nat) : Word := word r.rw ||| if m.cfgOpen addr then word r.cfg else 0

/-- A write of a register without KEY, OWN and WM bits: the open bits take the written value, a closed CFG field that differs leaves its
mark, an access of a group lock's holder restarts the idle count, and the word acts. -/
theorem Mach.write_keyless {m : Mach} {a : Acc} {addr : Nat} {r : Row} (d : Word) (h : m.opens a addr r) (hk : r.key = 0) (ho : r.own = 0)
    (hwm : r.wm = false) {key : Nat} (hkey : instKey r (m.bind a) a addr = key) :
    let m1 := m.begun a addr
    let m3 := if !m1.cfgOpen addr && (d ^^^ m1.reg key) &&& word r.cfg ≠ 0 then m1.cfgIgn (m.bind a) else m1
    let new := writeNew r addr d (m1.reg key) (m1.openBits r addr)
    m.write a addr d = (((if (m3.reg key ^^^ new) &&& word r.cfg ≠ 0 then m3.cfgChanged else m3).store key new).grpTouch (m.bind a) addr).hook
      (m.bind a) a addr (d &&& (m1.openBits r addr ||| word r.w1c)) (m3.reg key) new := by
  have hord := h.2.2.2.2.1
  simp only [Row.ordinary, Bool.and_eq_true, bne_iff_ne, ne_eq] at hord
  obtain ⟨⟨-, hpg⟩, -⟩ := hord
  have hpg' : (r.writer == Writer.pgpo) = false := by simp [hpg]
  have hmask : ∀ (t : Mach) (b : Bool), t.writeMask (m.bind a) r addr d true b = t.openBits r addr := by
    intro t b
    unfold Mach.writeMask Mach.openBits
    rw [hwm, hpg', hk, ho]
    simp [word]
  rw [Mach.write_row d h]
  simp only [hkey, hk, true_or, if_true, hmask, hwm, Bool.false_eq_true, if_false]

/-- Outside the groups, of a register without W1C and trigger bits: the open bits take the written value. -/
theorem Mach.write_cfg {m : Mach} {a : Acc} {addr : Nat} {r : Row} (d : Word) (h : m.opens a addr r) (hk : r.key = 0) (ho : r.own = 0)
    (hwm : r.wm = false) (hw1c : r.w1c = 0) (htrg : r.trg = 0) (h3 : addr / 0x10000 ≠ 3)
    (hsp : addr ≠ 0x000120 ∧ addr ≠ 0x080400 ∧ addr ≠ 0x000240) {key : Nat} (hkey : instKey r (m.bind a) a addr = key) :
    let m1 := m.begun a addr
    let m3 := if !m1.cfgOpen addr && (d ^^^ m1.reg key) &&& word r.cfg ≠ 0 then m1.cfgIgn (m.bind a) else m1
    let new := blend (m1.reg key) d (m1.openBits r addr)
    m.write a addr d = ((if (m3.reg key ^^^ new) &&& word r.cfg ≠ 0 then m3.cfgChanged else m3).store key new).hook (m.bind a) a addr
      (d &&& m1.openBits r addr) (m3.reg key) new := by
  have hord := h.2.2.2.2.1
  simp only [Row.ordinary, Bool.and_eq_true, beq_iff_eq] at hord
  obtain ⟨⟨⟨⟨⟨⟨-, hwin⟩, -⟩, -⟩, -⟩, -⟩, -⟩ := hord
  have hnew : ∀ (old mask : Word), writeNew r addr d old mask = blend old d mask := by
    intro old mask
    rw [writeNew_blend hw1c hsp, htrg]
    simp [word]
  rw [Mach.write_keyless d h hk ho hwm hkey]
  simp only [hnew, hw1c, Mach.grpTouch_other _ _ h3 hwin]
  simp [word]

/-- Bits outside the mask stay. -/
theorem blend_outside (old d : Word) {mask x : Word} (h : mask &&& x = 0) : (old ^^^ blend old d mask) &&& x = 0 := by
  apply BitVec.eq_of_getLsbD_eq
  intro i hi
  have hbit : (mask.getLsbD i && x.getLsbD i) = false := by rw [← BitVec.getLsbD_and, h]; exact BitVec.getLsbD_zero
  rw [BitVec.getLsbD_and, BitVec.getLsbD_xor, blend_getLsbD _ _ _ hi]
  refine Eq.trans ?_ BitVec.getLsbD_zero.symm
  cases hm : mask.getLsbD i
  · simp
  · rw [hm, Bool.true_and] at hbit
    rw [hbit, Bool.and_false]

/-- CFG_IGN is a mark of the accessor alone. -/
theorem Mach.cfgIgn_reg {m : Mach} (w : Who) (h : m.wf = true) {key : Nat} (hk : key ≠ (ACC_STAT.CFG_IGN.inst w.inst).a) :
    (m.cfgIgn w).reg key = m.reg key := by
  cases w with
  | unbound => rfl
  | part p k => exact Mach.reg_put_ne h _ hk
  | sec => exact Mach.reg_put_ne h _ hk

theorem Mach.opens_refCfg {m : Mach} {a : Acc} (i : Fin 10) (h : m.byP0 a) : m.opens a (0x010000 + 0x20 * i.val) (refCfgRow i.val) := by
  have hi := i.isLt
  obtain ⟨hrow, hord, -⟩ := refCfg_address i
  obtain ⟨-, -, -, -, -, -, -, hinst, hwr⟩ := refCfgRow_fields i.val
  exact Mach.opens_p0 h hrow hord (by omega) hwr hinst (by omega) (by omega) (by omega)

theorem Mach.write_refCfg {m : Mach} {a : Acc} (i : Fin 10) (d : Word) (h : m.byP0 a) :
    let addr := 0x010000 + 0x20 * i.val
    let m1 := m.begun a addr
    let m3 := if !m1.cfgOpen addr && (d ^^^ m1.reg addr) &&& word (refCfgBits i.val) ≠ 0 then m1.cfgIgn (m.bind a) else m1
    let new := blend (m1.reg addr) d (m1.openBits (refCfgRow i.val) addr)
    m.write a addr d = ((if (m3.reg addr ^^^ new) &&& word (refCfgBits i.val) ≠ 0 then m3.cfgChanged else m3).store addr new).refCfgHook i.val
      (m3.reg addr) new := by
  have hi := i.isLt
  obtain ⟨hk, hrw, hc, ho, htrg, hw1c, hwm, hinst, hwr⟩ := refCfgRow_fields i.val
  intro addr m1 m3 new
  have hkey : instKey (refCfgRow i.val) (m.bind a) a addr = addr := by
    unfold instKey
    rw [hinst]
  rw [Mach.write_cfg d (Mach.opens_refCfg i h) hk ho hwm hw1c htrg (by omega) (by omega) hkey, Mach.hook_refCfg, hc]

/-- While the source is disabled its configuration is open. -/
theorem Mach.write_refCfg_open {m : Mach} {a : Acc} (i : Fin 10) (d : Word) (h : m.byP0 a)
    (hold : ((m.begun a (0x010000 + 0x20 * i.val)).reg (0x010000 + 0x20 * i.val)).getLsbD 0 = false) :
    let addr := 0x010000 + 0x20 * i.val
    let m1 := m.begun a addr
    let new := blend (m1.reg addr) d (word (0xF01 + refCfgBits i.val))
    m.write a addr d = ((if (m1.reg addr ^^^ new) &&& word (refCfgBits i.val) ≠ 0 then m1.cfgChanged else m1).store addr new).refCfgHook i.val
      (m1.reg addr) new := by
  obtain ⟨-, hrw, hc, -⟩ := refCfgRow_fields i.val
  have hopen : (m.begun a (0x010000 + 0x20 * i.val)).cfgOpen (0x010000 + 0x20 * i.val) = true := by rw [Mach.cfgOpen_refCfg, hold]; rfl
  have hbits : (m.begun a (0x010000 + 0x20 * i.val)).openBits (refCfgRow i.val) (0x010000 + 0x20 * i.val) = word (0xF01 + refCfgBits i.val) := by
    unfold Mach.openBits
    rw [if_pos hopen, hrw, hc]
    unfold refCfgBits
    split <;> decide
  intro addr m1 new
  have hw := Mach.write_refCfg i d h
  dsimp only at hw
  rw [hw, hbits, hopen]
  simp only [Bool.not_true, Bool.false_and, Bool.false_eq_true, if_false]
  rfl

/-- While the source is enabled a CFG field that differs leaves its mark and keeps its bits. -/
theorem Mach.write_refCfg_shut {m : Mach} {a : Acc} (i : Fin 10) (d : Word) (h : m.byP0 a) (hwf : m.wf = true)
    (hold : ((m.begun a (0x010000 + 0x20 * i.val)).reg (0x010000 + 0x20 * i.val)).getLsbD 0 = true) :
    let addr := 0x010000 + 0x20 * i.val
    let m1 := m.begun a addr
    let new := blend (m1.reg addr) d 0xF01
    m.write a addr d = ((if (d ^^^ m1.reg addr) &&& word (refCfgBits i.val) ≠ 0 then m1.cfgIgn (m.bind a) else m1).store addr new).refCfgHook i.val
      (m1.reg addr) new := by
  obtain ⟨-, hrw, hc, -⟩ := refCfgRow_fields i.val
  have hopen : (m.begun a (0x010000 + 0x20 * i.val)).cfgOpen (0x010000 + 0x20 * i.val) = false := by rw [Mach.cfgOpen_refCfg, hold]; rfl
  have hbits : (m.begun a (0x010000 + 0x20 * i.val)).openBits (refCfgRow i.val) (0x010000 + 0x20 * i.val) = 0xF01 := by
    unfold Mach.openBits
    rw [if_neg (Bool.eq_false_iff.mp hopen), hrw]
    rfl
  intro addr m1 new
  have hwf1 : m1.wf = true := wf_spent (wf_unmarked hwf)
  have hw := Mach.write_refCfg i d h
  dsimp only at hw
  rw [hw, hbits, hopen]
  simp only [Bool.not_false, Bool.true_and, decide_eq_true_eq]
  generalize hm3 : (if (d ^^^ m1.reg addr) &&& word (refCfgBits i.val) ≠ 0 then m1.cfgIgn (m.bind a) else m1) = m3
  have hreg : m3.reg addr = m1.reg addr := by
    rw [← hm3]
    split
    · exact Mach.cfgIgn_reg _ hwf1 (by rw [Fld.inst_a]; unfold instSpan; simp [ACC_STAT.CFG_IGN]; omega)
    · rfl
  have hout : (m1.reg addr ^^^ blend (m1.reg addr) d 0xF01) &&& word (refCfgBits i.val) = 0 := by
    refine blend_outside _ _ ?_
    unfold refCfgBits
    split <;> decide
  rw [hreg, if_neg (not_not_intro hout)]

theorem refCfg_enable (i : Nat) (old d : Word) : (blend old d (word (0xF01 + refCfgBits i))).getLsbD 0 = d.getLsbD 0 := by
  rw [blend_getLsbD _ _ _ (by decide), show (word (0xF01 + refCfgBits i)).getLsbD 0 = true by unfold refCfgBits; split <;> decide]
  rfl

theorem Mach.refCfgHook_enables {m : Mach} {i : Nat} {old new : Word} (ho : old.getLsbD 0 = false) (hn : new.getLsbD 0 = true) :
    m.refCfgHook i old new = if m.refOk i then ((m.put (REF_STAT.CFGERR i) 0).gateStart i).setRef i 1 else m.put (REF_STAT.CFGERR i) 1 :=
  if_pos (by unfold bitAt; rw [ho, hn]; rfl)

theorem Mach.refCfgHook_disables {m : Mach} {i : Nat} {old new : Word} (ho : old.getLsbD 0 = true) (hn : new.getLsbD 0 = false) :
    m.refCfgHook i old new =
      ((((m.put (REF_STAT.CFGERR i) 0).put (REF_STAT.ACT i) 0).put (REF_STAT.QUAL_LEFT i) 0).stopTimer (.gate i)).setRef i 0 :=
  (if_neg (by unfold bitAt; rw [ho, hn]; decide)).trans (if_pos (by unfold bitAt; rw [ho, hn]; rfl))

/-! ## Qualification (R156 to R158) -/

/-- The next gate of source i begins where its present one ends. -/
def Mach.gateNext (i : Nat) (s : Mach) : Mach := (s.reach (.gate i) (s.gateLen i)).gateStart i

/-- The accept and the reject limit as they act, in ppb. -/
def Mach.fwinAcc (m : Mach) (i : Nat) : Nat := Nat.max 1 (m.f (REF_QUAL.FWIN_ACC i))
def Mach.fwinRej (m : Mach) (i : Nat) : Nat := Nat.max (m.fwinAcc i) (m.f (REF_QUAL.FWIN_REJ i))

/-- A gate has measured an offset, with the verdict `ok`. -/
def Mach.gateSeen (i : Nat) (ppb : Word) (ok : Nat) (m : Mach) : Mach :=
  ((m.put (REF_MEAS.OFFSET i) ppb.toNat).put (REF_STAT.FREQ_OK i) ok).updRoot (fun r => { r with
    gates := cset (fun _ => 0) r.gates i (Nat.min 1 (cget (fun _ => 0) r.gates i + 1)) })

/-- A gate of an enabled source ends while measurement runs. -/
theorem Mach.freqGate_runs {s : Mach} {i : Nat} (ppb : Word) (hm : s.measuring = true) (hs : s.f (REF_STAT.STATE i) ≠ 0) {ok : Nat}
    (hok : (if (signed 32 ppb.toNat).natAbs ≤ 1000 * (s.gateNext i).fwinAcc i then 1
      else if 1000 * (s.gateNext i).fwinRej i < (signed 32 ppb.toNat).natAbs then 0 else (s.gateNext i).f (REF_STAT.FREQ_OK i)) = ok) :
    let m := s.gateNext i
    s.freqGate i ppb = if m.refUp i && 1000 * m.fwinRej i < (signed 32 ppb.toNat).natAbs then
        (m.gateSeen i ppb ok).refFail i (REF_EVT.FREQ i) fRefFreq ppb
      else if m.f (REF_STAT.STATE i) = 2 && ok = 1 && cget (fun _ => false) m.root.ripe i then (m.gateSeen i ppb ok).refQualify i
      else m.gateSeen i ppb ok := by
  subst hok
  exact if_neg (by simp [hm, hs])

theorem Mach.fwinAcc_le (m : Mach) (i : Nat) : m.fwinAcc i ≤ m.fwinRej i := Nat.le_max_left _ _

/-- Settles O16: each row of a source by the branch that its state and its check take. -/
theorem sourceQualification : Obligations.SourceQualification := by
  unfold Obligations.SourceQualification
  intro s i
  refine ⟨fun a d hp0 => ⟨fun ho hn => ?enable, fun hwf ho hn => ?disable⟩, fun hm hst => ?checks, fun hm hst => ?qualDone⟩
  case enable =>
    have hnew := (refCfg_enable i.val ((s.m.begun a (0x010000 + 0x20 * i.val)).reg (0x010000 + 0x20 * i.val)) d).trans hn
    have hw := (Mach.write_refCfg_open i d hp0 ho).trans (Mach.refCfgHook_enables ho hnew)
    exact ⟨fun hr => does_act (hw.trans (if_pos hr)), fun hr => does_act (hw.trans (if_neg (Bool.eq_false_iff.mp hr)))⟩
  case disable =>
    refine does_act ((Mach.write_refCfg_shut i d hp0 hwf ho).trans (Mach.refCfgHook_disables ho ?_))
    rw [blend_getLsbD _ _ _ (by decide), hn]
    rfl
  case checks =>
    have hrun : ¬ (!s.m.measuring || s.m.f (REF_STAT.STATE i.val) = 0) = true := by simp [hm, hst]
    have hlos : ¬ (s.m.f (REF_STAT.STATE i.val) = 0 || (!s.m.measuring && i.val < 8)) = true := by simp [hm, hst]
    have hact : s.m.refLive i.val = true → (if s.m.refLive i.val then s.m.refActivity i.val else s.m) = _ := fun hl => (if_pos hl).trans (if_neg hrun)
    have hlost : (i.val < 8 ∨ s.m.refLive i.val = false) → (if 8 ≤ i.val && s.m.refLive i.val then s.m else s.m.refLos i.val) = _ := fun h =>
      (if_neg (by rcases h with h | h <;> simp [h])).trans (if_neg hlos)
    refine ⟨fun hl h1 => does_act (f := fun m => if m.refLive i.val then m.refActivity i.val else m) ((hact hl).trans (if_pos h1)),
      fun hl h1 => does_act (f := fun m => if m.refLive i.val then m.refActivity i.val else m) ((hact hl).trans (if_neg (not_not_intro h1))),
      fun h8 hl => does_act (f := fun m => if 8 ≤ i.val && m.refLive i.val then m else m.refLos i.val) (if_pos (by simp [h8, hl])),
      fun h hu => does_act (f := fun m => if 8 ≤ i.val && m.refLive i.val then m else m.refLos i.val) ((hlost h).trans (if_pos (by simp [hu]))),
      fun h hu => does_act (f := fun m => if 8 ≤ i.val && m.refLive i.val then m else m.refLos i.val) ((hlost h).trans (if_neg (by simp [hu, hm]))),
      fun dev hu hb => does_act (if_pos (by simp [hm, hu, hb])), fun dev hb => does_act (if_neg (by simp [hb])), fun ppb => ?gate⟩
    have hle := (s.m.gateNext i.val).fwinAcc_le i.val
    refine ⟨fun ho h => ?_, fun ho hr h => ?_, fun ho hu => ?_, fun ho h2 hr => ?_⟩
    · have hin : (signed 32 ppb.toNat).natAbs ≤ 1000 * (s.m.gateNext i.val).fwinAcc i.val := ho
      have hcond : ¬ ((s.m.gateNext i.val).f (REF_STAT.STATE i.val) = 2 && (1 : Nat) = 1 &&
          cget (fun _ => false) (s.m.gateNext i.val).root.ripe i.val) = true := by
        rcases h with h | h
        · simp [show (s.m.gateNext i.val).f (REF_STAT.STATE i.val) ≠ 2 from h]
        · simp [show cget (fun _ => false) (s.m.gateNext i.val).root.ripe i.val = false from h]
      exact does_act ((Mach.freqGate_runs ppb hm hst (if_pos hin)).trans ((if_neg (by simp; omega)).trans (if_neg hcond)))
    · have hout : ¬ (signed 32 ppb.toNat).natAbs ≤ 1000 * (s.m.gateNext i.val).fwinAcc i.val := Nat.not_le.mpr ho
      have hin : ¬ 1000 * (s.m.gateNext i.val).fwinRej i.val < (signed 32 ppb.toNat).natAbs := Nat.not_lt.mpr hr
      have hcond : ¬ ((s.m.gateNext i.val).f (REF_STAT.STATE i.val) = 2 && (s.m.gateNext i.val).f (REF_STAT.FREQ_OK i.val) = 1 &&
          cget (fun _ => false) (s.m.gateNext i.val).root.ripe i.val) = true := by
        rcases h with h | h
        · simp [show (s.m.gateNext i.val).f (REF_STAT.FREQ_OK i.val) ≠ 1 from h]
        · simp [show (s.m.gateNext i.val).f (REF_STAT.STATE i.val) ≠ 2 from h]
      exact does_act ((Mach.freqGate_runs ppb hm hst ((if_neg hout).trans (if_neg hin))).trans ((if_neg (by simp [hin])).trans (if_neg hcond)))
    · have hrej : 1000 * (s.m.gateNext i.val).fwinRej i.val < (signed 32 ppb.toNat).natAbs := ho
      have hup : (s.m.gateNext i.val).refUp i.val = true := hu
      exact does_act ((Mach.freqGate_runs ppb hm hst ((if_neg (by omega)).trans (if_pos hrej))).trans (if_pos (by simp [hup, hrej])))
    · have hin : (signed 32 ppb.toNat).natAbs ≤ 1000 * (s.m.gateNext i.val).fwinAcc i.val := ho
      have hcond : ((s.m.gateNext i.val).f (REF_STAT.STATE i.val) = 2 && (1 : Nat) = 1 &&
          cget (fun _ => false) (s.m.gateNext i.val).root.ripe i.val) = true := by
        simp [show (s.m.gateNext i.val).f (REF_STAT.STATE i.val) = 2 from h2,
          show cget (fun _ => false) (s.m.gateNext i.val).root.ripe i.val = true from hr]
      exact does_act ((Mach.freqGate_runs ppb hm hst (if_pos hin)).trans ((if_neg (by simp; omega)).trans (if_pos hcond)))
  case qualDone =>
    have hrun : ¬ (!s.m.measuring || s.m.f (REF_STAT.STATE i.val) ≠ 2) = true := by simp [hm, hst]
    exact ⟨fun hg hf => does_act ((if_neg hrun).trans (if_pos (by simp [hg, hf]))),
      fun h => does_act ((if_neg hrun).trans (if_neg (by rcases h with h | h <;> simp [h])))⟩

end Sys2Proof.Machine
end

section
/-! SUPPORT. The selector, the DPLL and the 1 pps input (chapter 07). -/
namespace Sys2Proof.Machine
open Sys2Proof Sys2Proof.Laws

/-! ## The selector (R160 to R163) -/

theorem Mach.wtrExpire_pend {s : Mach} (hb : s.f SEL_STAT.PEND ≠ 15) :
    let b := s.f SEL_STAT.PEND
    let m := s.advNow (s.root.wtrAt + 200000000 * s.f SEL_STAT.WTR_LEFT)
    s.wtrExpire = if !m.locked || m.fb SEL_STAT.SWITCHING then s else if m.bestSrc = some b then m.switchTo b else m.noPend.selEval := by
  unfold Mach.wtrExpire
  simp only [hb, if_false, decide_false, Bool.false_or]

/-- The first divided edge of the new source, where no change of the selection waits for it. -/
theorem Mach.switchEdge_first {m : Mach} {i : Nat} (err : Word) (hi : m.src = some i) (hs : m.fb SEL_STAT.SWITCHING = true)
    (hm : m.measuring = true) (ha : m.root.again = false) :
    let built := m.fb SEL_CFG.PBO && i ≠ 9
    let m1 := (((m.put SEL_STAT.SWITCHING 0).put SEL_EVT.SWITCH 1).put SEL_STAT.SWITCHES (satInc 255 (m.f SEL_STAT.SWITCHES))).put
      PHASE_ERR.ERR (if built then 0 else err.toNat)
    m.switchEdge err = ((m1.put ROOT_STAT.PSLEWING (b2n (!built && err ≠ 0))).updRoot (fun r => { r with edgeAt := some m.now })).raise
      fSrcSwitch i (word (m.root.prev + 16 * i)) := by
  unfold Mach.switchEdge
  rw [hi]
  exact (if_neg (by simp [hs, hm])).trans (if_neg (by rw [Mach.raise_root]; exact Bool.eq_false_iff.mp ha))

/-- The row of SEL_CTL. -/
def selCtlRow : Row := { name := "SEL_CTL", base := 0x010204, writer := .p0, img := .y, key := 0xF3 }

theorem Mach.write_selCtl {m : Mach} {a : Acc} (d : Word) (h : m.byP0 a) (harm : m.isArmed (m.bind a) 0x010204 = true) :
    m.write a 0x010204 d = ((m.begun a 0x010204).store 0x010204 (blend ((m.begun a 0x010204).reg 0x010204) d 0xF3)).selEval := by
  have hopen : m.opens a 0x010204 selCtlRow :=
    Mach.opens_p0 h (by decide) (by decide) (by decide) rfl rfl (by decide) (by decide) (by decide)
  have hmask : (m.begun a 0x010204).writeMask (m.bind a) selCtlRow 0x010204 d true true = 0xF3 := by
    unfold Mach.writeMask
    simp [selCtlRow]
  rw [Mach.write_armed d hopen rfl rfl harm (by decide) rfl hmask, writeNew_blend rfl (by decide)]
  rfl

/-- Settles O17: the armed write, the end of the timer at the pending source, and the first edge by PBO and the source. -/
theorem selection : Obligations.Selection := by
  unfold Obligations.Selection
  intro s
  refine ⟨fun a d h harm => does_act (Mach.write_selCtl d h harm),
    fun hl hs hp hl1 hs1 hb => does_act ((Mach.wtrExpire_pend hp).trans ((if_neg (by simp [hl1, hs1])).trans (if_pos hb))),
    fun err i hi hs hm ha => ⟨fun hp h9 => does_act ((Mach.switchEdge_first err hi hs hm ha).trans ?_),
      fun h => does_act ((Mach.switchEdge_first err hi hs hm ha).trans ?_)⟩⟩
  · have hbuilt : (s.m.fb SEL_CFG.PBO && decide (i ≠ 9)) = true := by simp [hp, h9]
    rw [hbuilt]
    rfl
  · have hbuilt : (s.m.fb SEL_CFG.PBO && decide (i ≠ 9)) = false := by rcases h with h | h <;> simp [h]
    rw [hbuilt]
    simp

/-! ## Guards of two parts -/

theorem and_decide {b : Bool} {p : Prop} [Decidable p] (hb : b = true) (hp : p) : (b && decide p) = true :=
  Bool.and_eq_true_iff.mpr ⟨hb, decide_eq_true hp⟩

theorem not_and_decide {b : Bool} {p : Prop} [Decidable p] (hp : ¬ p) : ¬ (b && decide p) = true := fun h =>
  hp (of_decide_eq_true (Bool.and_eq_true_iff.mp h).2)

/-! ## The DPLL and the 1 pps input (R165 to R169, R173 to R175) -/

/-- The edges in a row within 10 ns and 100 ppb, and those beyond 100 ns, with one more. -/
def Mach.goodEdges (m : Mach) (err fdiff : Word) : Nat :=
  if (signed 32 err.toNat).natAbs ≤ 192 ∧ (signed 32 fdiff.toNat).natAbs ≤ 100 then m.root.good + 1 else 0
def Mach.farEdges (m : Mach) (err : Word) : Nat := if 1920 < (signed 32 err.toNat).natAbs then m.root.far + 1 else 0

/-- The DPLL has taken an edge of its source. -/
def Mach.edgeTaken (err fdiff demand : Word) (m : Mach) : Mach :=
  (((m.put PHASE_ERR.ERR err.toNat).put ROOT_STAT.PSLEWING (b2n (m.fb ROOT_STAT.PSLEWING && err ≠ 0))).steer
    (m.pslewHold (signed 32 fdiff.toNat) (signed 32 demand.toNat))).updRoot (fun r => { r with
      good := m.goodEdges err fdiff, far := m.farEdges err, edgeAt := some m.now })

/-- The DPLL in ACQUIRE (1) or TRACK (2) takes the next divided edge of its source. -/
theorem Mach.dpllEdge_follows {s : Mach} {raw fdiff demand : Word} {i st : Nat} (hi : s.src = some i) (hs : s.fb SEL_STAT.SWITCHING = false)
    (hm : s.measuring = true) (hst : (s.toEdge i).f ROOT_STAT.DPLL = st) (h12 : st = 1 ∨ st = 2) :
    let m := s.toEdge i
    let err := word (unsign 32 (m.carried i (signed 32 raw.toNat)))
    let m1 := m.edgeTaken err fdiff demand
    s.dpllEdge raw fdiff demand =
      if st = 1 && 16 ≤ m.goodEdges err fdiff then ((m1.put ROOT_STAT.DPLL 2).put ROOT_EVT.TRACK 1).updRoot (fun r => { r with good := 0, far := 0 })
      else if st = 2 && 4 ≤ m.farEdges err then (m1.put ROOT_STAT.DPLL 1).updRoot (fun r => { r with good := 0, far := 0 })
      else m1 := by
  subst hst
  unfold Mach.dpllEdge
  rw [hi]
  refine (if_neg (by rcases h12 with h | h <;> simp [h, hs, hm])).trans ?_
  simp only [Bool.and_eq_true, decide_eq_true_eq]
  rfl

theorem Mach.rootAdvance_anchor (k : Nat) (m : Mach) : (m.rootAdvance k).root.anchor = m.root.anchor := by
  unfold Mach.rootAdvance
  dsimp only
  split
  · rfl
  · split <;> rfl

theorem Mach.todAdvance_anchor (c : Nat) (m : Mach) : (m.todAdvance c).root.anchor = m.root.anchor := by
  have hstep : ∀ (n : Nat) (t : Mach), (t.todStep n).root.anchor = t.root.anchor := by
    intro n t
    unfold Mach.todStep
    dsimp only
    split <;> rfl
  unfold Mach.todAdvance
  split
  · exact hstep _ _
  · exact hstep _ _

/-- Time that passes leaves the anchor of the 1 pps input. -/
theorem Mach.advPhs_anchor (p : Nat) (m : Mach) : (m.advPhs p).root.anchor = m.root.anchor := by
  have hadv : ∀ (k : Nat) (t : Mach), (t.advance k).root.anchor = t.root.anchor := by
    intro k t
    have hh := fun u : Mach => Mach.hireCheck_keeps (fun x => x.root.anchor) (fun _ _ _ => rfl) (fun _ _ _ v => by rw [Mach.ledger_root]) u
    unfold Mach.advance
    dsimp only
    split
    · exact Mach.rootAdvance_anchor k t
    · exact (hh _).trans ((Mach.todAdvance_anchor _ _).trans (Mach.rootAdvance_anchor k t))
  unfold Mach.advPhs
  split
  · refine forN_keeps (fun x => x.root.anchor) (fun _ t => ?_) 16 m
    split
    · exact hadv _ _
    · rfl
  · rfl

/-- An edge within the interval of the anchor. -/
theorem Mach.ppsEdge_anchored {m : Mach} {a n : Nat} (levels : Bool) (hm : m.measuring = true) (ha : m.root.anchor = some a)
    (hn : n ≤ m.ppsLimit) : m.ppsEdge levels n = (m.advPhs (a + n / 2)).ppsJudge levels n := by
  unfold Mach.ppsEdge
  rw [if_neg (by simp [hm]), ha]
  dsimp only
  rw [if_neg (Nat.not_lt.mpr hn)]

theorem Mach.ppsMiss_anchored {s : Mach} {a : Nat} (hm : s.measuring = true) (ha : s.root.anchor = some a) :
    let m := s.advPhs (a + s.ppsLimit / 2)
    let m1 := m.updRoot (fun r => { r with anchor := none, run := 0 })
    let m2 := m1.put PPS_STAT.VALID 0
    s.ppsMiss = if !m.fb PPS_STAT.VALID then m1 else (m2.raise fPpsLost 8 (m2.reg 0x010404)).refLos 8 := by
  unfold Mach.ppsMiss
  rw [ha]
  exact if_neg (by simp [hm])

/-- Settles O18: the edge of the DPLL by its state and its counts, the rows of the history and of holdover, and the 1 pps input. -/
theorem rootAndPps : Obligations.RootAndPps := by
  unfold Obligations.RootAndPps
  intro s
  refine ⟨fun raw fdiff demand i hi hs hm => ⟨fun h hg => ?_, fun h hg => ?_, fun h hf => ?_, fun h hf => ?_⟩,
    fun h hm avg => does_act (if_pos (by simp [h, hm])), fun h hx hr => does_act (if_neg (by simp [h, hx, hr])),
    fun hf hd hl => does_act (if_pos (by rcases hd with h | h <;> simp [hf, h, hl])),
    fun hm => ⟨fun ha n => ?_, fun ha n => ?_, fun a n ha hn => ⟨fun h1 h2 => ?_, fun h => ?_, ?_⟩, fun a ha => ⟨fun hv => ?_, fun hv => ?_⟩⟩⟩
  · exact does_act ((Mach.dpllEdge_follows hi hs hm h (.inl rfl)).trans (if_pos (and_decide rfl hg)))
  · exact does_act ((Mach.dpllEdge_follows hi hs hm h (.inl rfl)).trans ((if_neg (not_and_decide (Nat.not_le.mpr hg))).trans (if_neg (by simp))))
  · exact does_act ((Mach.dpllEdge_follows hi hs hm h (.inr rfl)).trans ((if_neg (by simp)).trans (if_pos (and_decide rfl hf))))
  · exact does_act ((Mach.dpllEdge_follows hi hs hm h (.inr rfl)).trans ((if_neg (by simp)).trans (if_neg (not_and_decide (Nat.not_le.mpr hf)))))
  · exact does_act ((if_neg (by simp [hm])).trans (by rw [ha]; exact if_pos (by simp [ha])))
  · exact does_act ((if_neg (by simp [hm])).trans (by rw [ha]; exact if_neg (by simp)))
  · exact does_act ((Mach.ppsEdge_anchored true hm ha hn).trans (if_pos (by simp [h1, h2])))
  · refine does_act ((Mach.ppsEdge_anchored true hm ha hn).trans (if_neg ?_))
    have hsome := (Mach.advPhs_anchor (a + n / 2) s.m).trans ha
    simp only [hsome, Option.isNone_some, Bool.false_or, Bool.true_and, Bool.and_eq_true, decide_eq_true_eq]
    omega
  · exact does_act ((Mach.ppsEdge_anchored false hm ha hn).trans (if_neg (by simp)))
  · exact does_act ((Mach.ppsMiss_anchored hm ha).trans (if_pos (by simp [hv])))
  · exact does_act ((Mach.ppsMiss_anchored hm ha).trans (if_neg (by simp [hv])))

end Sys2Proof.Machine
end

section
/-! SUPPORT. Channel engines: triggers, edges and update points (chapter 08). -/
namespace Sys2Proof.Machine
open Sys2Proof Sys2Proof.Laws

/-! ## Triggers (R183 to R189, R200, R201) -/

theorem Mach.submit_stopped {m : Mach} {n : Nat} (ho : m.oddDouble n = false) (hs : m.chst n = 0) (hp : m.tb n CH_STAT.PEND = false) :
    m.submit n .host = match m.startVerdict n false with
      | some v => ((m.startRej n v).tput n CH_GOV.SHEDPEND 0, v.1)
      | none =>
        let m1 := (m.tput n CH_STAT.PEND 1).updCh n (fun c =>
          { c with ord := m.nextOrd, waitAt := m.now, prio := m.listState n = 1, unchecked := false, waitRaised := false })
        ((({ m1 with nextOrd := m.nextOrd + 1 }).showCost n).showWaiting (m.ownCh n), rOK) := by
  unfold Mach.submit
  rw [if_neg (Bool.eq_false_iff.mp ho), hs]
  exact if_neg (Bool.eq_false_iff.mp hp)

theorem Mach.submit_stopping {m : Mach} {n : Nat} (ho : m.oddDouble n = false) (hs : m.chst n = 3) :
    m.submit n .host = if m.t n CH_STAT.CAUSE = csHOST && !(m.ch n).nonRes && m.fine + 1024 < (m.ch n).stopEnd
      then (((m.setState n 2).updCh n (fun c => { c with
        shadowAt := if c.shadow || c.regrid then Nat.max c.shadowAt m.fine else c.shadowAt })).chEvt n 4, rOK)
      else (m.tput n CH_STAT.HELD 1, rOK) := by
  unfold Mach.submit
  rw [if_neg (Bool.eq_false_iff.mp ho), hs]
  rfl

theorem Mach.stop_stopped {m : Mach} {n : Nat} (cause : Nat) (nonRes : Bool) (ho : m.oddDouble n = false) (hs : m.chst n = 0) :
    m.stop n cause nonRes = m.withdraw n := by
  unfold Mach.stop
  rw [if_neg (Bool.eq_false_iff.mp ho), hs]
  rfl

theorem Mach.stop_starting {m : Mach} {n : Nat} (cause : Nat) (nonRes : Bool) (ho : m.oddDouble n = false) (hs : m.chst n = 1) :
    m.stop n cause nonRes = (m.tput n CH_STAT.CAUSE cause).enterStopped n 0 := by
  unfold Mach.stop
  rw [if_neg (Bool.eq_false_iff.mp ho), hs]
  rfl

/-- The engine's window is dropped with the gate settled, and its hidden part written back. -/
def Mach.stopFrom (n : Nat) (m : Mach) : Mach :=
  let mg := (m.gateSettle n).updCh n (fun c => { c with winOk := false })
  mg.setCh n (mg.ch n)

theorem Mach.stop_running {m : Mach} {n : Nat} (cause : Nat) (nonRes : Bool) (ho : m.oddDouble n = false) (hs : m.chst n = 2)
    (hm : m.t n CH_CTL.MODE ≠ 2) : m.stop n cause nonRes = (((m.stopFrom n).tput n CH_STAT.CAUSE cause).setState n 3).setCh n
      { (m.stopFrom n).ch n with nonRes := nonRes, stopAt := m.grid, stopEnd := (m.stopFrom n).finalLow n m.fine } := by
  unfold Mach.stop
  rw [if_neg (Bool.eq_false_iff.mp ho), hs]
  dsimp only
  rw [if_neg hm, if_neg hm]
  rfl

theorem Mach.stop_stopping {m : Mach} {n : Nat} (ho : m.oddDouble n = false) (hs : m.chst n = 3) : m.stop n csHOST false = m := by
  unfold Mach.stop
  rw [if_neg (Bool.eq_false_iff.mp ho), hs]
  rfl

/-- The pulses of a one-shot channel as they stand now. -/
def Mach.rolled (m : Mach) (n : Nat) : Chan := rollShot ((m.gateSettle n).ch n) m.fine

theorem Mach.trig_runs {m : Mach} {n : Nat} (ho : m.oddDouble n = false) (hs : m.chst n = 2) (hm : m.t n CH_CTL.MODE = 2) :
    m.trig n = match (m.rolled n).pulse, (m.rolled n).trigHeld with
      | none, _ => ((m.gateSettle n).setCh n { m.rolled n with pulse := some (idealFrom (m.rolled n) (m.fine + 4096)), trigAt := m.fine + 4096 }).tput n
          CH_STAT.ARMED 0
      | some _, none => (m.gateSettle n).setCh n { m.rolled n with trigHeld := some (m.fine + 4096) }
      | some _, some _ => ((m.gateSettle n).setCh n (m.rolled n)).chEvt n 0x200 :=
  (if_neg (Bool.eq_false_iff.mp ho)).trans (if_neg (by simp [hs, hm]))

/-- The engine of a channel whose echo pairing, where it was lost, begins anew (R262). -/
def Mach.paired (m : Mach) (n : Nat) : Chan :=
  if ((m.gateSettle n).ch n).pairLost then { (m.gateSettle n).ch n with pairLost := false, pads := 0, echoes := 0 } else (m.gateSettle n).ch n

theorem Mach.resync_runs {m : Mach} {n : Nat} (ho : m.oddDouble n = false) (hs : m.chst n = 2) (hm : m.t n CH_CTL.MODE ≠ 2) :
    let f := idealFrom (m.paired n) (m.fine + 4096)
    m.resync n = ((((m.gateSettle n).setCh n { m.paired n with
      t0 := f, e0 := m.edges n + 1, phi := f % (64 * Nat.max 1 (m.paired n).n), rem := 0, step := 0, regrid := false, spRef := m.edges n + 1,
      highTo := m.highEnd (m.paired n), winOk := false }).tput n CH_STAT.SLEWING 0).chEvt n 0x80).moverDone n 0 := by
  unfold Mach.resync
  rw [if_neg (Bool.eq_false_iff.mp ho), if_neg (not_not_intro hs)]
  dsimp only
  rw [if_neg hm]
  rfl

theorem Mach.chTrigger_start {m : Mach} (n : Nat) (hu : m.hostUp = true) : m.chTrigger n 1 = (m.submit n .host).1 := if_pos hu

theorem Mach.chTrigger_stop {m : Mach} {n : Nat} (hu : m.hostUp = true) (ho : m.oddDouble n = false) : m.chTrigger n 2 = m.stop n csHOST false :=
  (if_pos hu).trans (if_neg (Bool.eq_false_iff.mp ho))

theorem Mach.chTrigger_trig {m : Mach} (n : Nat) (hu : m.hostUp = true) : m.chTrigger n 4 = m.trig n := if_pos hu

theorem Mach.chTrigger_resync {m : Mach} (n : Nat) (hu : m.hostUp = true) : m.chTrigger n 8 = m.resync n := if_pos hu

/-- Settles O19: each trigger by the state of the channel that it finds. -/
theorem channelTriggers : Obligations.ChannelTriggers := by
  unfold Obligations.ChannelTriggers
  intro s n hu ho
  have hstart := Mach.chTrigger_start (m := s.m) n.val hu
  have hstop := Mach.chTrigger_stop (m := s.m) hu ho
  refine ⟨fun hs hp => ⟨fun hv => ?_, fun v hv => ?_⟩, fun hs => ⟨fun hr => ?_, fun hr => ?_⟩,
    fun hs => does_act (hstop.trans (Mach.stop_stopped _ _ ho hs)), fun hs => does_act (hstop.trans (Mach.stop_starting _ _ ho hs)),
    fun hs hm => does_act (hstop.trans (Mach.stop_running _ _ ho hs hm)), fun hs => does_act (hstop.trans (Mach.stop_stopping ho hs)),
    fun hs hm => ⟨fun hp => ?_, fun x hp ht => ?_, fun x y hp ht => ?_⟩,
    fun hs hm => does_act ((Mach.chTrigger_resync _ hu).trans (Mach.resync_runs ho hs hm))⟩
  · exact does_act (hstart.trans (congrArg Prod.fst ((Mach.submit_stopped ho hs hp).trans (by rw [hv]))))
  · exact does_act (hstart.trans (congrArg Prod.fst ((Mach.submit_stopped ho hs hp).trans (by rw [hv]))))
  · refine does_act (hstart.trans (congrArg Prod.fst ((Mach.submit_stopping ho hs).trans (if_neg ?_))))
    intro c
    simp only [Bool.and_eq_true, decide_eq_true_eq, Bool.not_eq_true'] at c
    exact hr ⟨c.1.1, c.1.2, c.2⟩
  · obtain ⟨hc, hn, hf⟩ := hr
    exact does_act (hstart.trans (congrArg Prod.fst ((Mach.submit_stopping ho hs).trans (if_pos (by simp [hc, hn, hf])))))
  · exact does_act ((Mach.chTrigger_trig _ hu).trans ((Mach.trig_runs ho hs hm).trans (by rw [show (s.m.rolled n.val).pulse = none from hp]; rfl)))
  · exact does_act ((Mach.chTrigger_trig _ hu).trans ((Mach.trig_runs ho hs hm).trans
      (by rw [show (s.m.rolled n.val).pulse = some x from hp, show (s.m.rolled n.val).trigHeld = none from ht]; rfl)))
  · exact does_act ((Mach.chTrigger_trig _ hu).trans ((Mach.trig_runs ho hs hm).trans
      (by rw [show (s.m.rolled n.val).pulse = some x from hp, show (s.m.rolled n.val).trigHeld = some y from ht]; rfl)))

/-! ## Edges and time-outs (R183, R185, R186, R190, R199) -/

theorem Mach.Later.t {m n : Mach} (h : m.Later n) (k : Nat) (x : TFld) : n.t k x = m.t k x := by
  unfold Mach.t Mach.tw
  rw [h.tbl]

theorem Mach.Later.tb {m n : Mach} (h : m.Later n) (k : Nat) (x : TFld) : n.tb k x = m.tb k x := by
  unfold Mach.tb
  rw [h.t]

theorem Mach.Later.chst {m n : Mach} (h : m.Later n) (k : Nat) : n.chst k = m.chst k := h.t k _

theorem Mach.Later.oddDouble {m n : Mach} (h : m.Later n) (k : Nat) : n.oddDouble k = m.oddDouble k := by
  unfold Mach.oddDouble Mach.doubled
  rw [h.tb]

/-- A stop that has not ended at its limit is forced, with the cause that it had. -/
theorem Mach.stopWatchdog_forces {m : Mach} {n : Nat} (ho : m.oddDouble n = false) (hs : m.chst n = 3) (hw : m.t n CH_STAT.CAUSE ≠ csWARM) :
    m.stopWatchdog n = ((m.advTo ((m.ch n).stopAt + 2 * (m.ch n).n + 64)).raise fStopForced n (word (m.t n CH_STAT.CAUSE))).parkNow n csFORCED 16 := by
  have hl : m.Later (m.advTo ((m.ch n).stopAt + 2 * (m.ch n).n + 64)) := Mach.advTo_later _ m
  refine (if_neg (by simp [hs, hw, ho])).trans ((if_neg ?_).trans ?_)
  · simp [hl.chst, hl.oddDouble, hs, ho]
  · rw [hl.t]

/-- Settles O20: each row by the state of the channel, and the burst's last edge by what it finds. -/
theorem channelEdges : Obligations.ChannelEdges := by
  unfold Obligations.ChannelEdges
  intro s n ho
  refine ⟨fun hs hc => ⟨fun hm => does_act ((if_neg (by simp [hs, hc, ho])).trans (if_neg hm)),
      fun hm => does_act ((if_neg (by simp [hs, hc, ho])).trans (if_pos hm))⟩,
    fun hs => does_act (if_neg (by simp [hs, ho])), fun hs hw => does_act (Mach.stopWatchdog_forces ho hs hw),
    fun hm hc => ⟨fun hs => does_act ((if_neg (by simp [hm, hc, ho])).trans (if_pos hs)), fun hs hh he => does_act ?_⟩⟩
  exact (if_neg (by simp [hm, hc, ho])).trans ((if_neg (by simp [hs])).trans (if_pos (by simp [hs, hh, he])))

/-! ## Update points (R192 to R196) -/

theorem Mach.ch_setCh_same {m : Mach} (h : m.wf = true) (n : Nat) (c : Chan) : (m.setCh n c).ch n = c :=
  cget_cset_same _ (wf_parts.1 h).2.2.2.2.2.2.2.2.1

theorem Mach.Later.ch {m n : Mach} (h : m.Later n) (k : Nat) : n.ch k = m.ch k := by
  unfold Mach.ch
  rw [h.chans]

/-! The reference edge moves on without a change of the period in force. -/

theorem crawl_n (k : Nat) (go : Chan → Bool) (c : Chan) : (crawl k go c).n = c.n := by
  induction k generalizing c with
  | zero => rfl
  | succ k ih =>
    unfold crawl
    split
    · exact ih (tightPeriod c)
    · rfl

theorem rebaseEven_n (c : Chan) (t : Nat) : (rebaseEven c t).n = c.n := by
  unfold rebaseEven
  dsimp only
  split
  · rfl
  · split <;> rfl

theorem rebase_n (c : Chan) (t : Nat) : (rebase c t).n = c.n := by
  unfold rebase
  dsimp only
  split
  · exact crawl_n ..
  · exact (rebaseEven_n ..).trans (crawl_n ..)

theorem walkTo_n (k : Nat) (c : Chan) (t : Nat) : (walkTo k c t).n = c.n := by
  induction k generalizing c with
  | zero => rfl
  | succ k ih =>
    unfold walkTo
    split
    · rfl
    · exact (ih _).trans (rebase_n ..)

theorem edgeFrom'_n (c : Chan) (t : Nat) : (edgeFrom' c t).n = c.n := (walkTo_n ..).trans (rebase_n ..)

/-- What is judged at an update point is the table against the period in force. -/
theorem Mach.adoptCheck_setCh {m : Mach} (h : m.wf = true) {n : Nat} {c : Chan} (hc : c.n = (m.ch n).n) :
    (m.setCh n c).adoptCheck n = m.adoptCheck n := by
  unfold Mach.adoptCheck
  rw [Mach.ch_setCh_same h, hc]
  rfl

/-- Settling the gate leaves the shadow and the grid load that wait. -/
theorem Mach.gateSettle_waits {m : Mach} (h : m.wf = true) (n : Nat) :
    ((m.gateSettle n).ch n).shadow = (m.ch n).shadow ∧ ((m.gateSettle n).ch n).regrid = (m.ch n).regrid := by
  have hch : ∀ v, (m.tput n CH_PIN.GATED v).ch n = m.ch n := fun _ => rfl
  unfold Mach.gateSettle Mach.gateNow Mach.updCh
  split
  · rw [Mach.ch_setCh_same (wf_tput h), hch]
    exact ⟨rfl, rfl⟩
  · split
    · rw [Mach.ch_setCh_same (wf_tput h), hch]
      exact ⟨rfl, rfl⟩
    · exact ⟨rfl, rfl⟩

/-- Settling the gate leaves the state of the channel. -/
theorem Mach.gateSettle_chst {m : Mach} (h : m.wf = true) (n : Nat) : (m.gateSettle n).chst n = m.chst n := by
  have hput : ∀ v, (m.tput n CH_PIN.GATED v).t n CH_STAT.STATE = m.t n CH_STAT.STATE := fun v => Mach.t_tput_ne h n _ _ v (.inl (by decide))
  unfold Mach.gateSettle Mach.gateNow
  split
  · exact hput 1
  · split
    · exact hput 0
    · rfl

/-- The update point of a running channel with something to adopt. -/
theorem Mach.updatePoint_runs {m : Mach} {n : Nat} (ho : m.oddDouble n = false) (hs : m.chst n = 2) (hc : m.boot.clocks = true)
    (hw : (m.ch n).shadow = true ∨ (m.ch n).regrid = true) :
    let m1 := (m.advTo ((m.updateAt n + 63) / 64)).gateSettle n
    m.updatePoint n = if m.t n CH_CTL.MODE = 2 then m1.shotUpdate n (m.updateAt n) else m1.edgeUpdate n (m.updateAt n) :=
  if_neg (by rcases hw with h | h <;> simp [ho, hs, hc, h])

/-- The reference edge of an update point. -/
def updateEdge (c : Chan) : Chan := { edgeFrom' c c.shadowAt with regrid := false }

theorem updateEdge_n (c : Chan) : (updateEdge c).n = c.n := edgeFrom'_n ..

/-- A set that fails is read back, and with no grid load to follow nothing moves. -/
theorem Mach.edgeUpdate_rejects {m : Mach} {n x : Nat} (t : Nat) (h : m.wf = true) (hsh : (m.ch n).shadow = true) (hr : (m.ch n).regrid = false)
    (hx : m.adoptCheck n = some x) : m.edgeUpdate n t = (m.setCh n (updateEdge (m.ch n))).liveReject n x := by
  have hadopt : (m.setCh n (updateEdge (m.ch n))).adoptSet n = (m.setCh n (updateEdge (m.ch n))).liveReject n x := by
    unfold Mach.adoptSet
    rw [Mach.adoptCheck_setCh h (updateEdge_n _), hx]
  unfold Mach.edgeUpdate
  simp only [hsh, hx, hr, Option.isSome_some, Bool.and_self, Bool.not_true, Bool.and_false, Bool.false_eq_true, if_false, if_true, Bool.true_or,
    Bool.not_false]
  exact hadopt

/-- The end of an update point: a move that has begun goes on, and one that has not ends the mover's wait. -/
def Mach.moveOn (n : Nat) (m : Mach) : Mach := if m.tb n CH_STAT.SLEWING then m else m.moverDone n 0

/-- The engine at the update point with another period: its phase counts anew. -/
def updateMoved (c : Chan) (per t : Nat) : Chan :=
  if per = c.n then updateEdge c else { updateEdge c with phi := t % (64 * Nat.max 1 per), rem := 0, step := 0 }

/-- A set that passes is adopted whole, and the move to its phase begins. -/
theorem Mach.edgeUpdate_adopts {m : Mach} {n : Nat} (t : Nat) (h : m.wf = true) (hs : m.chst n ≠ 3) (hsh : (m.ch n).shadow = true)
    (hx : m.adoptCheck n = none) :
    let per := m.t n CH_PERIOD.N
    let m2 := (m.setCh n (updateMoved (m.ch n) per t)).loadActive n
    m.edgeUpdate n t = ((if per = (m.ch n).n then m2 else m2.recharge n).beginMove n (m.ch n).byEval).moveOn n := by
  have hsame : m.t n CH_PERIOD.N = (m.ch n).n → (m.setCh n (updateEdge (m.ch n))).adoptSet n = (m.setCh n (updateEdge (m.ch n))).loadActive n := by
    intro hp
    unfold Mach.adoptSet
    rw [Mach.adoptCheck_setCh h (updateEdge_n _), hx]
    refine if_pos ?_
    rw [Mach.ch_setCh_same h, updateEdge_n, ← hp]
    rfl
  unfold Mach.edgeUpdate updateMoved
  by_cases hp : m.t n CH_PERIOD.N = (m.ch n).n
  · simp only [hsh, hx, hp, hs, Option.isSome_none, Bool.and_false, Bool.not_false, Bool.and_true, Bool.not_true, Bool.false_and,
      Bool.false_eq_true, if_false, if_true, Bool.false_or, decide_true]
    rw [show ({ edgeFrom' (m.ch n) (m.ch n).shadowAt with regrid := false } : Chan) = updateEdge (m.ch n) from rfl, hsame hp]
    rfl
  · simp only [hsh, hx, hp, hs, Option.isSome_none, Bool.and_false, Bool.not_false, Bool.and_true, Bool.not_true, Bool.false_and,
      Bool.false_eq_true, if_false, if_true, Bool.false_or, decide_false]
    rfl

/-- A grid load alone moves the engine to its phase on the new grid. -/
theorem Mach.edgeUpdate_moves {m : Mach} {n : Nat} (t : Nat) (hs : m.chst n ≠ 3) (hsh : (m.ch n).shadow = false) :
    m.edgeUpdate n t = ((m.setCh n (updateEdge (m.ch n))).beginMove n (m.ch n).byEval).moveOn n := by
  unfold Mach.edgeUpdate
  simp only [hsh, hs, Bool.false_and, Bool.not_false, Bool.false_eq_true, if_false, if_true]
  rfl

/-- Settles O21: the update point by what waits and what the check says, the end of a move, and the engine check. -/
theorem channelUpdates : Obligations.ChannelUpdates := by
  unfold Obligations.ChannelUpdates
  intro s
  refine ⟨fun n hwf ho hs hc => ?update, fun n hs hc => does_act (if_neg (by simp [hs, hc])), fun e n he => ⟨fun c1 c2 hne hst => ?_, fun hst => ?_⟩⟩
  case update =>
    have hl : s.m.Later (s.m.advTo ((s.m.updateAt n.val + 63) / 64)) := Mach.advTo_later ..
    have hwl : (s.m.advTo ((s.m.updateAt n.val + 63) / 64)).wf = true := wf_advTo hwf
    obtain ⟨hsh1, hrg1⟩ := Mach.gateSettle_waits hwl n.val
    have hst1 := (Mach.gateSettle_chst hwl n.val).trans (hl.chst _)
    have hwf1 : ((s.m.advTo ((s.m.updateAt n.val + 63) / 64)).gateSettle n.val).wf = true := wf_gateSettle hwl
    rw [hl.ch] at hsh1 hrg1
    have hne3 : ((s.m.advTo ((s.m.updateAt n.val + 63) / 64)).gateSettle n.val).chst n.val ≠ 3 := by rw [hst1, hs]; decide
    have hruns := fun hw => Mach.updatePoint_runs ho hs hc hw
    refine ⟨fun hm hsh hr x hx => ?_, fun hm hsh hx => ?_, fun hm hsh hr => ?_, fun hm hw => ?_⟩
    · exact does_act ((hruns (.inl (hsh1 ▸ hsh))).trans ((if_neg hm).trans (Mach.edgeUpdate_rejects _ hwf1 hsh hr hx)))
    · exact does_act ((hruns (.inl (hsh1 ▸ hsh))).trans ((if_neg hm).trans (Mach.edgeUpdate_adopts _ hwf1 hne3 hsh hx)))
    · exact does_act ((hruns (.inr (hrg1 ▸ hr))).trans ((if_neg hm).trans (Mach.edgeUpdate_moves _ hne3 hsh)))
    · exact does_act ((hruns hw).trans (if_pos hm))
  · have hne : c1.toNat ≠ c2.toNat := fun h => hne (BitVec.eq_of_toNat_eq h)
    refine does_act (f := fun m => m.engCheck e.val c1.toNat c2.toNat) ?_
    unfold Mach.engCheck
    rw [he]
    exact if_neg (by rcases hst with h | h <;> simp [h, hne])
  · refine does_act (f := fun m => m.selfchkRestore e.val) ?_
    unfold Mach.selfchkRestore
    rw [he]
    exact if_pos (by rcases hst with h | h <;> simp [h])

end Sys2Proof.Machine
end

section
/-! SUPPORT. Interleave groups: the enable, the epoch, the holds and the lock (chapter 09). -/
namespace Sys2Proof.Machine
open Sys2Proof Sys2Proof.Laws

/-! ## GRP_CFG and GRP_LOCK as the bus writes them -/

/-- The rows of GRP_CFG and of GRP_LOCK. -/
def grpCfgRow : Row := { name := "GRP_CFG", base := 0x030000, stride := 0x20, count := 32, writer := .grp, img := .y, rw := 0x3F01, cfg := 2 }
def grpLockRow : Row := { name := "GRP_LOCK", base := 0x030400, count := 32, writer := .grp, rw := 0x301, trg := 0x301, w1c := 0x3000, live := true }

theorem grpCfg_address : ∀ g : Fin 32, rowOf (0x030000 + 0x20 * g.val) = some grpCfgRow ∧ grpCfgRow.ordinary (0x030000 + 0x20 * g.val) = true ∧
    grpCfgRow.idx (0x030000 + 0x20 * g.val) = g.val ∧ grpOf (0x030000 + 0x20 * g.val) = g.val := by
  decide

theorem grpLock_address : ∀ g : Fin 32, rowOf (0x030400 + 4 * g.val) = some grpLockRow ∧ grpLockRow.ordinary (0x030400 + 4 * g.val) = true ∧
    grpLockRow.idx (0x030400 + 4 * g.val) = g.val := by
  decide

theorem Mach.mayWrite_grp {m : Mach} {r : Row} {p k addr g : Nat} (hr : r.writer = .grp) (hi : r.idx addr = g) (ho : m.ownGrp g = p) :
    m.mayWrite r (.part p k) addr = true := by
  unfold Mach.mayWrite
  split
  · rfl
  · simp [hr, Who.rights, hi, ho]

/-- No check refuses the owner of a group its GRP_CFG while the group's lock is not its own. -/
theorem Mach.opens_grpCfg {m : Mach} {a : Acc} {p k : Nat} (g : Fin 32) (hb : m.bind a = .part p k) (hu : m.hostUp = true) (ht : m.todo = [])
    (ho : m.ownGrp g.val = p) (hh : (m.grp g.val).holder ≠ some p) : m.opens a (0x030000 + 0x20 * g.val) grpCfgRow := by
  have hg := g.isLt
  obtain ⟨hrow, hord, hidx, -⟩ := grpCfg_address g
  refine ⟨hu, ht, .inl (by simp [hb]), hrow, hord, .inl (by omega), .inl (by simp [hb]), ?_, .inl rfl, .inl (by decide), ?_, .inl (by omega), ?_, ?_,
    .inl ?_⟩
  · rw [hb]
    exact Mach.mayWrite_grp rfl hidx ho
  · have hne : ((cget (fun _ => ({} : Grp)) m.grps g.val).holder == some p) = false := by
      rw [beq_eq_false_iff_ne]
      exact hh
    unfold Mach.lockedGrp
    simp [hb, hidx, Who.rights, hne]
  · simp only [Mach.svcBusy, Bool.and_eq_false_iff, Bool.or_eq_false_iff, decide_eq_false_iff_not]
    right; omega
  · simp only [Mach.grpPending, Bool.and_eq_false_iff, Bool.or_eq_false_iff, decide_eq_false_iff_not, beq_eq_false_iff_ne]
    left; left; omega
  · simp only [grpLimited, Bool.and_eq_false_iff, Bool.or_eq_false_iff, decide_eq_false_iff_not, beq_eq_false_iff_ne]
    omega

/-- No check refuses the owner of a group its GRP_LOCK. -/
theorem Mach.opens_grpLock {m : Mach} {a : Acc} {p k : Nat} (g : Fin 32) (hb : m.bind a = .part p k) (hu : m.hostUp = true) (ht : m.todo = [])
    (ho : m.ownGrp g.val = p) : m.opens a (0x030400 + 4 * g.val) grpLockRow := by
  have hg := g.isLt
  obtain ⟨hrow, hord, hidx⟩ := grpLock_address g
  refine ⟨hu, ht, .inl (by simp [hb]), hrow, hord, .inl (by omega), .inl (by simp [hb]), ?_, .inl rfl, .inl (by decide), ?_, .inl (by omega), ?_, ?_,
    .inl ?_⟩
  · rw [hb]
    exact Mach.mayWrite_grp rfl hidx ho
  · have hin : (decide (0x030400 ≤ 0x030400 + 4 * g.val) && decide (0x030400 + 4 * g.val < 0x030480)) = true := by simp; omega
    unfold Mach.lockedGrp
    rw [hin]
    simp
  · simp only [Mach.svcBusy, Bool.and_eq_false_iff, Bool.or_eq_false_iff, decide_eq_false_iff_not]
    right; omega
  · simp only [Mach.grpPending, Bool.and_eq_false_iff, Bool.or_eq_false_iff, decide_eq_false_iff_not, beq_eq_false_iff_ne]
    left; left; omega
  · simp only [grpLimited, Bool.and_eq_false_iff, Bool.or_eq_false_iff, decide_eq_false_iff_not, beq_eq_false_iff_ne]
    omega

theorem Mach.hook_grpCfg (m : Mach) (w : Who) (a : Acc) (g : Fin 32) (d old new : Word) :
    m.hook w a (0x030000 + 0x20 * g.val) d old new = m.grpCfgHook g.val old new := by
  have hg := g.isLt
  obtain ⟨-, -, -, hof⟩ := grpCfg_address g
  unfold Mach.hook
  rw [show (0x030000 + 0x20 * g.val) / 0x10000 = 3 by omega]
  refine (if_pos (by omega)).trans ?_
  rw [show (0x030000 + 0x20 * g.val) % 0x20 = 0 by omega, hof]
  rfl

theorem Mach.hook_grpLock (m : Mach) (w : Who) (a : Acc) (g : Fin 32) (d old new : Word) :
    m.hook w a (0x030400 + 4 * g.val) d old new = m.grpLockHook w a g.val d := by
  have hg := g.isLt
  unfold Mach.hook
  rw [show (0x030400 + 4 * g.val) / 0x10000 = 3 by omega]
  refine (if_neg (by omega)).trans ((if_pos (by omega)).trans ?_)
  rw [show (0x030400 + 4 * g.val - 0x030400) / 4 = g.val by omega]

theorem Mach.cfgOpen_grpCfg (m : Mach) (g : Fin 32) : m.cfgOpen (0x030000 + 0x20 * g.val) = !(m.reg (0x030000 + 0x20 * g.val)).getLsbD 0 := by
  have hg := g.isLt
  unfold Mach.cfgOpen
  rw [show (0x030000 + 0x20 * g.val) / 0x10000 = 3 by omega]
  refine Eq.trans (b := !m.fb (GRP_CFG.EN ((0x030000 + 0x20 * g.val - 0x030000) / 0x20))) rfl ?_
  rw [show (0x030000 + 0x20 * g.val - 0x030000) / 0x20 = g.val by omega, Mach.fb_bit m (GRP_CFG.EN g.val) rfl]
  rfl

/-- GRP_CFG of a group that is not enabled: every bit is open. -/
theorem Mach.write_grpCfg_open {m : Mach} {a : Acc} {p k : Nat} (g : Fin 32) (d : Word) (hb : m.bind a = .part p k)
    (h : m.opens a (0x030000 + 0x20 * g.val) grpCfgRow)
    (hold : ((m.begun a (0x030000 + 0x20 * g.val)).reg (0x030000 + 0x20 * g.val)).getLsbD 0 = false) :
    let addr := 0x030000 + 0x20 * g.val
    let m1 := m.begun a addr
    let new := blend (m1.reg addr) d 0x3F03
    m.write a addr d = (((if (m1.reg addr ^^^ new) &&& 2 ≠ 0 then m1.cfgChanged else m1).store addr new).grpTouch (.part p k) addr).grpCfgHook g.val
      (m1.reg addr) new := by
  have hg := g.isLt
  have hopen : (m.begun a (0x030000 + 0x20 * g.val)).cfgOpen (0x030000 + 0x20 * g.val) = true := by rw [Mach.cfgOpen_grpCfg, hold]; rfl
  have hbits : (m.begun a (0x030000 + 0x20 * g.val)).openBits grpCfgRow (0x030000 + 0x20 * g.val) = 0x3F03 := by
    unfold Mach.openBits
    rw [if_pos hopen]
    decide
  intro addr m1 new
  rw [Mach.write_keyless d h rfl rfl rfl (key := addr) rfl, hb]
  simp only [hopen, hbits, Bool.not_true, Bool.false_and, Bool.false_eq_true, if_false]
  rw [Mach.hook_grpCfg, writeNew_blend rfl (by omega), show (0x3F03 : Word) &&& ~~~ word grpCfgRow.trg = 0x3F03 by decide]
  rfl

/-- GRP_CFG of an enabled group, with MODE as it is. -/
theorem Mach.write_grpCfg_shut {m : Mach} {a : Acc} {p k : Nat} (g : Fin 32) (d : Word) (hb : m.bind a = .part p k)
    (h : m.opens a (0x030000 + 0x20 * g.val) grpCfgRow)
    (hold : ((m.begun a (0x030000 + 0x20 * g.val)).reg (0x030000 + 0x20 * g.val)).getLsbD 0 = true)
    (hmode : d.getLsbD 1 = ((m.begun a (0x030000 + 0x20 * g.val)).reg (0x030000 + 0x20 * g.val)).getLsbD 1) :
    let addr := 0x030000 + 0x20 * g.val
    let m1 := m.begun a addr
    let new := blend (m1.reg addr) d 0x3F01
    m.write a addr d = ((m1.store addr new).grpTouch (.part p k) addr).grpCfgHook g.val (m1.reg addr) new := by
  have hg := g.isLt
  have hopen : (m.begun a (0x030000 + 0x20 * g.val)).cfgOpen (0x030000 + 0x20 * g.val) = false := by rw [Mach.cfgOpen_grpCfg, hold]; rfl
  have hbits : (m.begun a (0x030000 + 0x20 * g.val)).openBits grpCfgRow (0x030000 + 0x20 * g.val) = 0x3F01 := by
    unfold Mach.openBits
    rw [if_neg (Bool.eq_false_iff.mp hopen)]
    decide
  intro addr m1 new
  have hsame : (d ^^^ m1.reg addr) &&& word grpCfgRow.cfg = 0 := by
    apply BitVec.eq_of_getLsbD_eq
    intro i hi
    refine Eq.trans ?_ BitVec.getLsbD_zero.symm
    rw [BitVec.getLsbD_and, BitVec.getLsbD_xor]
    by_cases h1 : i = 1
    · rw [h1, hmode, Bool.xor_self, Bool.false_and]
    · have hcfg : ∀ j : Fin 32, j.val ≠ 1 → (word grpCfgRow.cfg).getLsbD j.val = false := by decide
      rw [hcfg ⟨i, hi⟩ h1, Bool.and_false]
  have hkept : (m1.reg addr ^^^ new) &&& word grpCfgRow.cfg = 0 := blend_outside _ _ (by decide)
  rw [Mach.write_keyless d h rfl rfl rfl (key := addr) rfl, hb]
  simp only [hbits]
  rw [writeNew_blend rfl (by omega), show (0x3F01 : Word) &&& ~~~ word grpCfgRow.trg = 0x3F01 by decide,
    if_neg (not_and_decide (not_not_intro hsame)), if_neg (not_not_intro hkept), Mach.hook_grpCfg]

/-- GRP_LOCK keeps its state: its triggers act, and a 1 clears the marks of a lock that was lost. -/
theorem Mach.write_grpLock {m : Mach} {a : Acc} {p k : Nat} (g : Fin 32) (d : Word) (hb : m.bind a = .part p k)
    (h : m.opens a (0x030400 + 4 * g.val) grpLockRow) :
    let addr := 0x030400 + 4 * g.val
    let m1 := m.begun a addr
    m.write a addr d = ((m1.store addr (m1.reg addr &&& ~~~ (d &&& 0x3000))).grpTouch (.part p k) addr).grpLockHook (.part p k) a g.val (d &&& 0x3301) := by
  have hg := g.isLt
  have hbits : (m.begun a (0x030400 + 4 * g.val)).openBits grpLockRow (0x030400 + 4 * g.val) = 0x301 := by
    unfold Mach.openBits
    split <;> decide
  intro addr m1
  have hnew : ∀ old : Word, writeNew grpLockRow addr d old 0x301 = old &&& ~~~ (d &&& 0x3000) := by
    intro old
    unfold writeNew
    rw [if_neg (by omega), if_neg (by omega), if_neg (by omega), show (0x301 : Word) &&& ~~~ word grpLockRow.trg = 0 by decide, blend_zero]
    rfl
  have hz : ∀ x : Word, ¬ (x &&& word grpLockRow.cfg ≠ 0) := by
    intro x
    rw [show word grpLockRow.cfg = 0 from rfl]
    simp
  rw [Mach.write_keyless d h rfl rfl rfl (key := addr) rfl, hb]
  simp only [hbits]
  rw [if_neg (not_and_decide (hz _)), if_neg (hz _), hnew, Mach.hook_grpLock]
  rfl

/-! ## What the lock does with its bits (R222, R223) -/

theorem Mach.grpLockHook_takes {m : Mach} {p k g : Nat} {a : Acc} {d : Word} (hh : (m.grp g).holder = none) (h0 : bitAt d 0 = true)
    (hc : ((m.setGrp g { m.grp g with holder := some p, staged := [], touched := m.rclk }).grp g).committed = false) :
    m.grpLockHook (.part p k) a g d = m.setGrp g { m.grp g with holder := some p, staged := [], touched := m.rclk } := by
  unfold Mach.grpLockHook
  simp only [hh, h0, Option.isSome_none, Option.isNone_none, Bool.false_and, Bool.false_eq_true, if_false, if_true]
  exact if_neg (by rw [show (Who.part p k).rights = some p from rfl, hc]; simp)

/-- The staged words of the holder become a commit. -/
def Mach.lockCommits (g : Nat) (a : Acc) (who : Who) (m : Mach) : Mach :=
  m.setGrp g { m.grp g with lockWords := (m.grp g).lockWords ++ (m.grp g).staged, staged := [], committed := true, commitBy := some (a, who),
                            commitAt := if (m.grp g).committed then (m.grp g).commitAt else m.grid }

theorem Mach.grpLockHook_commits {m : Mach} {p k g : Nat} {a : Acc} {d : Word} (hh : (m.grp g).holder = some p) (h0 : bitAt d 0 = true)
    (h8 : bitAt d 8 = true) (h9 : bitAt d 9 = false)
    (hc : ((m.lockCommits g a (.part p k)).fb (GRP_CFG.EN g) && (m.lockCommits g a (.part p k)).boot.clocks) = true) :
    m.grpLockHook (.part p k) a g d = m.lockCommits g a (.part p k) := by
  unfold Mach.grpLockHook
  simp only [hh, h0, h8, h9, Option.isSome_some, Option.isNone_some, Bool.and_false, Bool.false_eq_true, if_false, if_true, Who.rights, beq_self_eq_true,
    Bool.true_and]
  have hneg : ¬ (((m.lockCommits g a (.part p k)).grp g).committed &&
      !((m.lockCommits g a (.part p k)).fb (GRP_CFG.EN g) && (m.lockCommits g a (.part p k)).boot.clocks)) = true := by simp [hc]
  simp only [Mach.lockCommits, hh] at hneg ⊢
  exact if_neg hneg

theorem Mach.grpLockHook_discards {m : Mach} {p k g : Nat} {a : Acc} {d : Word} (hh : (m.grp g).holder = some p) (h0 : bitAt d 0 = true)
    (h8 : bitAt d 8 = false) (h9 : bitAt d 9 = true) (hc : ((m.setGrp g { m.grp g with staged := [] }).grp g).committed = false) :
    m.grpLockHook (.part p k) a g d = m.setGrp g { m.grp g with staged := [] } := by
  unfold Mach.grpLockHook
  simp only [hh, h0, h8, h9, Option.isSome_some, Option.isNone_some, Bool.and_false, Bool.false_eq_true, if_false, if_true, Who.rights, beq_self_eq_true,
    Bool.and_self]
  have hneg : ∀ b : Bool, ¬ (((m.setGrp g { m.grp g with staged := [] }).grp g).committed && b) = true := by simp [hc]
  simp only [hh] at hneg ⊢
  exact if_neg (hneg _)

/-! ## The enable (R220) -/

theorem Mach.grpCfgHook_enables {m : Mach} {g : Nat} {old new : Word} (ho : old.getLsbD 0 = false) (hn : new.getLsbD 0 = true) :
    m.grpCfgHook g old new = if (m.put (GRP_STAT.CFGERR g) 0).grpValid g then (m.put (GRP_STAT.CFGERR g) 0).push (.grpEval g)
      else ((m.put (GRP_STAT.CFGERR g) 0).put (GRP_CFG.EN g) 0).put (GRP_STAT.CFGERR g) 1 := by
  unfold Mach.grpCfgHook bitAt
  rw [ho, hn]

theorem Mach.grpCfgHook_stays {m : Mach} {g : Nat} {old new : Word} (ho : old.getLsbD 0 = true) (hn : new.getLsbD 0 = true) :
    m.grpCfgHook g old new = (m.put (GRP_STAT.CFGERR g) 0).basefHook g old new := by
  unfold Mach.grpCfgHook bitAt
  rw [ho, hn]

theorem Mach.grpCfgHook_clears {m : Mach} {g : Nat} {old new : Word} (ho : old.getLsbD 0 = true) (hn : new.getLsbD 0 = false) :
    m.grpCfgHook g old new = if (m.put (GRP_STAT.CFGERR g) 0).grpRuns g
      then (((m.put (GRP_STAT.CFGERR g) 0).put (GRP_CFG.EN g) 1).put (GRP_STAT.CFGERR g) 1).basefHook g old (setF new 0 1 1)
      else (m.put (GRP_STAT.CFGERR g) 0).grpDisable g := by
  unfold Mach.grpCfgHook bitAt
  rw [ho, hn]

/-! ## The end of the last hold (R214) -/

theorem Mach.pushOnce_new {m : Mach} {w : Work} (h : m.todo = []) : m.pushOnce w = m.push w := if_neg (by rw [h]; simp)

theorem Mach.holdExpire_holding {m : Mach} {g : Nat} (hv : (m.grp g).vacant ≠ []) (hc : m.boot.clocks = true) (ht : m.todo = []) :
    let m0 := m.advTo ((m.grp g).vacant.foldl (fun x y => Nat.max x y.2) 0)
    m.holdExpire g = ((m0.setGrp g { m0.grp g with vacant := [] }).put (GRP_STAT.HOLDING g) 0).push (.grpEval g) := by
  have hneg : ¬ ((m.grp g).vacant.isEmpty || !m.boot.clocks) = true := by simp [hc, hv]
  refine (if_neg hneg).trans (Mach.pushOnce_new ?_)
  exact (Mach.advTo_later ..).todo.trans ht

/-! ## O22 -/

theorem lockBits_commit (d : Word) : (d ||| 0x100) &&& 0x3000 = d &&& 0x3000 := by
  rw [BitVec.and_or_distrib_right, show (0x100 : Word) &&& 0x3000 = 0 by decide]; exact BitVec.or_zero

theorem lockBits_discard (d : Word) : (d ||| 0x200) &&& 0x3000 = d &&& 0x3000 := by
  rw [BitVec.and_or_distrib_right, show (0x200 : Word) &&& 0x3000 = 0 by decide]; exact BitVec.or_zero

/-- Settles O22: the enable, the commit at the epoch, the last hold and the lock of a group. -/
theorem groupCommands : Obligations.GroupCommands := by
  unfold Obligations.GroupCommands
  intro s g
  refine ⟨fun a p k d hb hu ht ho => ⟨fun hh => ⟨fun h0 h1 hv => ?enable, fun h0 h1 hv => ?refused, fun h0 h1 hm => ?stays, fun h0 h1 hm hr => ?keeps,
      fun h0 h1 hm hr => ?disable⟩, fun hh h0 hc => ?takes, fun hh h0 h9 hc => ?commits, fun hh h0 h8 hc => ?discards⟩,
    fun hc => ⟨fun hon => does_act ?epoch, fun hoff => does_act ?atOnce⟩, fun hv hc ht => does_act (Mach.holdExpire_holding hv hc ht),
    fun h hh hl => ?timeout, fun h hh hl => ?noLimit⟩
  case enable =>
    have hopen := Mach.opens_grpCfg g hb hu ht ho hh
    have hbit := (blend_getLsbD ((s.m.begun a (0x030000 + 0x20 * g.val)).reg (0x030000 + 0x20 * g.val)) d 0x3F03 (i := 0) (by decide)).trans h1
    exact does_act ((Mach.write_grpCfg_open g d hb hopen h0).trans ((Mach.grpCfgHook_enables h0 hbit).trans (if_pos hv)))
  case refused =>
    have hopen := Mach.opens_grpCfg g hb hu ht ho hh
    have hbit := (blend_getLsbD ((s.m.begun a (0x030000 + 0x20 * g.val)).reg (0x030000 + 0x20 * g.val)) d 0x3F03 (i := 0) (by decide)).trans h1
    exact does_act ((Mach.write_grpCfg_open g d hb hopen h0).trans ((Mach.grpCfgHook_enables h0 hbit).trans (if_neg (Bool.eq_false_iff.mp hv))))
  case stays =>
    have hopen := Mach.opens_grpCfg g hb hu ht ho hh
    have hbit := (blend_getLsbD ((s.m.begun a (0x030000 + 0x20 * g.val)).reg (0x030000 + 0x20 * g.val)) d 0x3F01 (i := 0) (by decide)).trans h1
    exact does_act ((Mach.write_grpCfg_shut g d hb hopen h0 hm).trans (Mach.grpCfgHook_stays h0 hbit))
  case keeps =>
    have hopen := Mach.opens_grpCfg g hb hu ht ho hh
    have hbit := (blend_getLsbD ((s.m.begun a (0x030000 + 0x20 * g.val)).reg (0x030000 + 0x20 * g.val)) d 0x3F01 (i := 0) (by decide)).trans h1
    exact does_act ((Mach.write_grpCfg_shut g d hb hopen h0 hm).trans ((Mach.grpCfgHook_clears h0 hbit).trans (if_pos hr)))
  case disable =>
    have hopen := Mach.opens_grpCfg g hb hu ht ho hh
    have hbit := (blend_getLsbD ((s.m.begun a (0x030000 + 0x20 * g.val)).reg (0x030000 + 0x20 * g.val)) d 0x3F01 (i := 0) (by decide)).trans h1
    exact does_act ((Mach.write_grpCfg_shut g d hb hopen h0 hm).trans ((Mach.grpCfgHook_clears h0 hbit).trans (if_neg (Bool.eq_false_iff.mp hr))))
  case takes =>
    have hbit : bitAt (d &&& 0x3301) 0 = true := by rw [bitAt, BitVec.getLsbD_and, h0]; decide
    exact does_act ((Mach.write_grpLock g d hb (Mach.opens_grpLock g hb hu ht ho)).trans (Mach.grpLockHook_takes hh hbit hc))
  case commits =>
    have hbit : bitAt ((d ||| 0x100) &&& 0x3301) 0 = true := by rw [bitAt, BitVec.getLsbD_and, BitVec.getLsbD_or, h0]; decide
    have hbit8 : bitAt ((d ||| 0x100) &&& 0x3301) 8 = true := by
      rw [bitAt, BitVec.getLsbD_and, BitVec.getLsbD_or, show (0x100 : Word).getLsbD 8 = true by decide, Bool.or_true]; decide
    have hbit9 : bitAt ((d ||| 0x100) &&& 0x3301) 9 = false := by rw [bitAt, BitVec.getLsbD_and, BitVec.getLsbD_or, h9]; decide
    have hw := Mach.write_grpLock g (d ||| 0x100) hb (Mach.opens_grpLock g hb hu ht ho)
    dsimp only at hw
    rw [lockBits_commit] at hw
    exact does_act (hw.trans (Mach.grpLockHook_commits hh hbit hbit8 hbit9 hc))
  case discards =>
    have hbit : bitAt ((d ||| 0x200) &&& 0x3301) 0 = true := by rw [bitAt, BitVec.getLsbD_and, BitVec.getLsbD_or, h0]; decide
    have hbit8 : bitAt ((d ||| 0x200) &&& 0x3301) 8 = false := by rw [bitAt, BitVec.getLsbD_and, BitVec.getLsbD_or, h8]; decide
    have hbit9 : bitAt ((d ||| 0x200) &&& 0x3301) 9 = true := by
      rw [bitAt, BitVec.getLsbD_and, BitVec.getLsbD_or, show (0x200 : Word).getLsbD 9 = true by decide, Bool.or_true]; decide
    have hw := Mach.write_grpLock g (d ||| 0x200) hb (Mach.opens_grpLock g hb hu ht ho)
    dsimp only at hw
    rw [lockBits_discard] at hw
    exact does_act (hw.trans (Mach.grpLockHook_discards hh hbit hbit8 hbit9 hc))
  case epoch => exact (if_neg (by simp [hc])).trans (congrArg (Mach.takeCommit g.val) (if_pos hon))
  case atOnce => exact (if_neg (by simp [hc])).trans (congrArg (Mach.takeCommit g.val) (if_neg (Bool.eq_false_iff.mp hoff)))
  case timeout =>
    refine does_act ?_
    unfold Mach.grpLockTimeout
    rw [hh]
    exact if_neg hl
  case noLimit =>
    refine does_act ?_
    unfold Mach.grpLockTimeout
    rw [hh]
    exact if_pos hl

end Sys2Proof.Machine
end

section
/-! SUPPORT. A refused write by the holder of a group's lock (R32, R224). -/
namespace Sys2Proof.Machine
open Sys2Proof Sys2Proof.Laws

/-- Partition 1 is bound over SPI and holds the lock of group 0, which is partition 0's; the REG clock stands one cycle after the latest access
of the lock. -/
def foreignHolder : Mach :=
  ((({ dev := .run, boot := { held := false, clocks := true }, pwr := { pgMain := true }, rclk := 1 } : Mach).put (PART_STAT.STATE 1) 1).setReg
    (0x080328 + 32 * instSpan) 2).setGrp 0 { holder := some 1 }

/-- An access of partition 1 over SPI. -/
def foreignAcc : Acc := ⟨.spi, true, 1, 0, 0, false⟩

/-- When the lock of group 0 was last touched, in the state that a command answers. -/
def lockTouched : Host.Outcome State Fault Refusal → Option Nat
  | .next s => some (s.m.grp 0).touched
  | _ => none

/-- The holder's refused write of GRP_CFG_0 restarts the idle count of its lock. -/
theorem foreignHolder_touches : lockTouched (exec (.registerWrite foreignAcc 0x030000 0) { m := foreignHolder, pending := [] }) = some 1 := by
  decide +kernel

/-- Refutes O57: where the writer holds the lock of another partition's group, its refused write of the group's GRP_CFG restarts the idle count
of that lock (R224), which is more than the writer's own record. -/
theorem not_foreignWritesIgnored : ¬ Obligations.ForeignWritesIgnored := by
  unfold Obligations.ForeignWritesIgnored
  intro h
  obtain ⟨hdoes, -⟩ := h { m := foreignHolder, pending := [] } foreignAcc 1 0 0x030000 0 grpCfgRow (by decide +kernel) rfl (by decide +kernel)
    (by decide) (by decide) (by decide) rfl (by decide) (by decide +kernel)
  have hkept := congrArg lockTouched hdoes
  exact absurd (foreignHolder_touches.symm.trans hkept) (by decide +kernel)

end Sys2Proof.Machine
end

section
/-! SUPPORT. A meter tick of one group (R464, R465), and the check of an authenticated message (R442, R443). -/
namespace Sys2Proof.Machine
open Sys2Proof Sys2Proof.Laws

/-! ## The counts of a meter group -/

theorem Mach.ticks_congr {m n : Mach} (h : n.aon = m.aon) (i : Nat) : n.ticks i = m.ticks i := by
  unfold Mach.ticks Mach.aw
  rw [h]

theorem Mach.faultTicks_congr {m n : Mach} (h : n.aon = m.aon) (i : Nat) : n.faultTicks i = m.faultTicks i := by
  unfold Mach.faultTicks Mach.aw
  rw [h]

theorem Mach.starts_congr {m n : Mach} (h : n.aon = m.aon) (i : Nat) : n.starts i = m.starts i := by
  unfold Mach.starts Mach.aw
  rw [h]

/-- A 40-bit count in two words: the low word, and 8 bits of the word above it. -/
theorem count40 {v : Nat} (hv : v < 2 ^ 40) (w : Word) (lo : Nat) (hlo : lo + 8 ≤ 32) :
    (word v).toNat + 2 ^ 32 * getF (setF w lo 8 (v / 2 ^ 32)) lo 8 = v := by
  rw [getF_setF_same _ _ _ _ hlo, show (word v).toNat = v % 2 ^ 32 from BitVec.toNat_ofNat ..]
  omega

/-- The two words of a count of group i: its low word at `off`, its high byte in the word 16 i + 4 from bit `lo` on. -/
def Mach.setCount (i off lo v : Nat) (m : Mach) : Mach := (m.setAw (16 * i + off) (word v)).setAw (16 * i + 4) (setF (m.aw (16 * i + 4)) lo 8 (v / 2 ^ 32))

theorem Mach.setCount_low {m : Mach} (h : m.wf = true) {i off : Nat} (lo v : Nat) (ho : off ≠ 4) :
    (m.setCount i off lo v).aw (16 * i + off) = word v := by
  unfold Mach.setCount
  rw [Mach.aw_setAw_ne (wf_setAw h) (by omega), Mach.aw_setAw_same h]

theorem Mach.setCount_high {m : Mach} (h : m.wf = true) (i off lo v : Nat) :
    (m.setCount i off lo v).aw (16 * i + 4) = setF (m.aw (16 * i + 4)) lo 8 (v / 2 ^ 32) :=
  Mach.aw_setAw_same (wf_setAw h) _ _

theorem Mach.setCount_other {m : Mach} (h : m.wf = true) {i off k : Nat} (lo v : Nat) (hk : k ≠ off) (h4 : k ≠ 4) :
    (m.setCount i off lo v).aw (16 * i + k) = m.aw (16 * i + k) := by
  unfold Mach.setCount
  rw [Mach.aw_setAw_ne (wf_setAw h) (by omega), Mach.aw_setAw_ne h (by omega)]

theorem Mach.countTick_aon {m : Mach} {i : Nat} (hk : m.ticks i + 1 < 2 ^ 40) : (m.countTick i).aon = (m.setCount i 0 0 (m.ticks i + 1)).aon := by
  unfold Mach.countTick
  dsimp only
  rw [if_neg (by omega)]
  split
  · rw [Mach.ledger_aon]; rfl
  · rfl

theorem Mach.countFault_aon {m : Mach} {i : Nat} (hk : m.faultTicks i + 1 < 2 ^ 40) :
    (m.countFault i).aon = (m.setCount i 8 8 (m.faultTicks i + 1)).aon := by
  unfold Mach.countFault
  dsimp only
  rw [if_neg (by omega)]
  rfl

theorem Mach.countTick_counts {m : Mach} (h : m.wf = true) {i : Nat} (hk : m.ticks i + 1 < 2 ^ 40) :
    (m.countTick i).ticks i = m.ticks i + 1 ∧ (m.countTick i).faultTicks i = m.faultTicks i := by
  have haon := Mach.countTick_aon hk
  rw [Mach.ticks_congr haon, Mach.faultTicks_congr haon]
  constructor
  · unfold Mach.ticks
    rw [Mach.setCount_high h, show 16 * i = 16 * i + 0 from rfl, Mach.setCount_low h _ _ (by decide)]
    exact count40 hk _ 0 (by decide)
  · unfold Mach.faultTicks
    rw [Mach.setCount_high h, Mach.setCount_other h _ _ (by decide) (by decide), getF_setF_ne _ _ _ _ _ _ (.inr (by decide))]

theorem Mach.countFault_counts {m : Mach} (h : m.wf = true) {i : Nat} (hk : m.faultTicks i + 1 < 2 ^ 40) :
    (m.countFault i).ticks i = m.ticks i ∧ (m.countFault i).faultTicks i = m.faultTicks i + 1 := by
  have haon := Mach.countFault_aon hk
  rw [Mach.ticks_congr haon, Mach.faultTicks_congr haon]
  constructor
  · unfold Mach.ticks
    rw [Mach.setCount_high h, show 16 * i = 16 * i + 0 from rfl, Mach.setCount_other h _ _ (by decide) (by decide),
      getF_setF_ne _ _ _ _ _ _ (.inl (by decide))]
  · unfold Mach.faultTicks
    rw [Mach.setCount_high h, Mach.setCount_low h _ _ (by decide)]
    exact count40 hk _ 8 (by decide)

theorem Mach.countTick_starts {m : Mach} (h : m.wf = true) (i : Nat) : (m.countTick i).starts i = m.starts i := by
  by_cases hk : m.ticks i + 1 < 2 ^ 40
  · rw [Mach.starts_congr (Mach.countTick_aon hk)]
    exact congrArg BitVec.toNat (Mach.setCount_other h _ _ (by decide) (by decide))
  · rw [show m.countTick i = m from if_pos (by omega)]

theorem Mach.countFault_starts {m : Mach} (h : m.wf = true) (i : Nat) : (m.countFault i).starts i = m.starts i := by
  by_cases hk : m.faultTicks i + 1 < 2 ^ 40
  · rw [Mach.starts_congr (Mach.countFault_aon hk)]
    exact congrArg BitVec.toNat (Mach.setCount_other h _ _ (by decide) (by decide))
  · rw [show m.countFault i = m from if_pos (by omega)]

theorem Mach.countTick_mtrs (m : Mach) (i : Nat) : (m.countTick i).mtrs = m.mtrs := by
  unfold Mach.countTick
  dsimp only
  split
  · rfl
  · split
    · rw [Mach.ledger_mtrs]; rfl
    · rfl

theorem Mach.countFault_mtrs (m : Mach) (i : Nat) : (m.countFault i).mtrs = m.mtrs := by
  unfold Mach.countFault
  dsimp only
  split <;> rfl

/-! ## The tick of an ACTIVE group -/

/-- What the samples of the tick count. -/
def Mach.mtrCount (i : Nat) (m : Mach) : Mach := if 16 ≤ (m.mtr i).qual then m.countTick i else if 16 ≤ (m.mtr i).run then m.countFault i else m

/-- The start of a run is counted. -/
def Mach.mtrStart (i : Nat) (x : Meter) (m : Mach) : Mach :=
  if x.runTick && !x.prev then m.setAw (16 * i + 12) (word (satInc 0xFFFFFFFF (m.starts i))) else m

/-- The samples start afresh. -/
def Meter.afresh (x : Meter) : Meter := { x with run := 0, qual := 0, wait := false, prev := x.runTick }

theorem Mach.mtrTick_active {m : Mach} {i : Nat} (hs : m.f (MTR_STAT.STATE i) = 1) :
    m.mtrTick i = ((m.mtrCount i).mtrStart i (m.mtr i)).setMtr i (m.mtr i).afresh := by
  unfold Mach.mtrTick
  dsimp only
  rw [hs]
  rfl

theorem wf_mtrCount {m : Mach} (h : m.wf = true) (i : Nat) : (m.mtrCount i).wf = true := by
  unfold Mach.mtrCount
  split
  · exact wf_countTick h
  · split
    · exact wf_countFault h
    · exact h

theorem Mach.mtrCount_mtrs (m : Mach) (i : Nat) : (m.mtrCount i).mtrs = m.mtrs := by
  unfold Mach.mtrCount
  split
  · exact Mach.countTick_mtrs m i
  · split
    · exact Mach.countFault_mtrs m i
    · rfl

theorem Mach.mtrCount_starts {m : Mach} (h : m.wf = true) (i : Nat) : (m.mtrCount i).starts i = m.starts i := by
  unfold Mach.mtrCount
  split
  · exact Mach.countTick_starts h i
  · split
    · exact Mach.countFault_starts h i
    · rfl

theorem Mach.mtrStart_mtrs (m : Mach) (i : Nat) (x : Meter) : (m.mtrStart i x).mtrs = m.mtrs := by
  unfold Mach.mtrStart
  split <;> rfl

theorem Mach.mtrStart_counts {m : Mach} (h : m.wf = true) (i : Nat) (x : Meter) :
    (m.mtrStart i x).ticks i = m.ticks i ∧ (m.mtrStart i x).faultTicks i = m.faultTicks i := by
  unfold Mach.mtrStart
  split
  · unfold Mach.ticks Mach.faultTicks
    rw [Mach.aw_setAw_ne h (by omega), Mach.aw_setAw_ne h (by omega), Mach.aw_setAw_ne h (by omega)]
    exact ⟨rfl, rfl⟩
  · exact ⟨rfl, rfl⟩

theorem Mach.mtrStart_starts {m : Mach} (h : m.wf = true) {i : Nat} {x : Meter} (hr : x.runTick = true) (hp : x.prev = false) :
    (m.mtrStart i x).starts i = Nat.min 0xFFFFFFFF (m.starts i + 1) := by
  have hlt : m.starts i < 2 ^ 32 := (m.aw (16 * i + 12)).isLt
  unfold Mach.mtrStart
  rw [if_pos (by simp [hr, hp])]
  unfold Mach.starts at *
  rw [Mach.aw_setAw_same h, show ∀ v, (word v).toNat = v % 2 ^ 32 from fun v => BitVec.toNat_ofNat ..]
  unfold satInc
  simp only [Nat.min_def]
  split <;> split <;> omega

theorem wf_mtrStart {m : Mach} (h : m.wf = true) (i : Nat) (x : Meter) : (m.mtrStart i x).wf = true := by
  unfold Mach.mtrStart
  split
  · exact wf_setAw h
  · exact h

theorem wf_stores_mtrs {m : Mach} (h : m.wf = true) : cwf (fun _ => {}) m.mtrs = true := by
  obtain ⟨-, -, -, -, -, -, -, -, -, hmtrs, -⟩ := wf_parts.1 h
  exact hmtrs

theorem Mach.mtr_setMtr_same {m : Mach} (h : m.wf = true) (i : Nat) (x : Meter) : (m.setMtr i x).mtr i = x := cget_cset_same _ (wf_stores_mtrs h)

theorem Mach.mtr_setMtr_ne {m : Mach} (h : m.wf = true) {i j : Nat} (hj : j ≠ i) (x : Meter) : (m.setMtr i x).mtr j = m.mtr j :=
  cget_cset_ne hj _ (wf_stores_mtrs h)

/-- Settles O45: the tick of an ACTIVE group is what its samples count, the start of a run, and fresh samples. -/
theorem meterTickOfOneGroup : Obligations.MeterTickOfOneGroup := by
  unfold Obligations.MeterTickOfOneGroup
  intro m i _ hs h
  have hcount := wf_mtrCount h i
  have hwf := wf_mtrStart hcount i (m.mtr i)
  obtain ⟨hticks, hfaults⟩ := Mach.mtrStart_counts hcount i (m.mtr i)
  have hmtrs : ((m.mtrCount i).mtrStart i (m.mtr i)).mtrs = m.mtrs := (Mach.mtrStart_mtrs ..).trans (Mach.mtrCount_mtrs m i)
  have hrun : (16 ≤ (m.mtr i).qual ∨ 16 ≤ (m.mtr i).run) → (m.mtr i).runTick = true := fun hx => by simp [Meter.runTick, hx]
  have hfix : ∀ v, (((m.mtrCount i).mtrStart i (m.mtr i)).setMtr i v).ticks i = (m.mtrCount i).ticks i ∧
      (((m.mtrCount i).mtrStart i (m.mtr i)).setMtr i v).faultTicks i = (m.mtrCount i).faultTicks i := fun v =>
    ⟨(Mach.ticks_congr (by rfl) i).trans hticks, (Mach.faultTicks_congr (by rfl) i).trans hfaults⟩
  have hkept : ∀ v, ((m.mtr i).runTick && !(m.mtr i).prev) = false → (((m.mtrCount i).mtrStart i (m.mtr i)).setMtr i v).starts i = m.starts i :=
    fun v hr => (congrArg (fun t : Mach => (t.setMtr i v).starts i) (if_neg (Bool.eq_false_iff.mp hr))).trans (Mach.mtrCount_starts h i)
  dsimp only
  rw [Mach.mtrTick_active hs]
  refine ⟨?_, fun hq hk => ?_, fun hq hr hk => ?_, fun hq hr => ?_, fun hx hp => hkept _ (by simp [hp]), fun hx hp => ?_, fun j hj => ?_⟩
  · rw [Mach.mtr_setMtr_same hwf]
    simp [Meter.afresh, Meter.runTick]
  · rw [(hfix _).1, (hfix _).2, show m.mtrCount i = m.countTick i from if_pos hq]
    exact Mach.countTick_counts h hk
  · rw [(hfix _).1, (hfix _).2, show m.mtrCount i = m.countFault i from (if_neg (by omega)).trans (if_pos hr)]
    exact Mach.countFault_counts h hk
  · have hnone : m.mtrCount i = m := (if_neg (by omega)).trans (if_neg (by omega))
    refine ⟨(hfix _).1.trans (congrArg (·.ticks i) hnone), (hfix _).2.trans (congrArg (·.faultTicks i) hnone), hkept _ ?_⟩
    simp [Meter.runTick, hq, hr]
  · rw [show (((m.mtrCount i).mtrStart i (m.mtr i)).setMtr i (m.mtr i).afresh).starts i = ((m.mtrCount i).mtrStart i (m.mtr i)).starts i from rfl,
      Mach.mtrStart_starts hcount (hrun hx) hp, Mach.mtrCount_starts h]
  · exact (Mach.mtr_setMtr_ne hwf hj _).trans (congrArg (fun x => cget (fun _ => ({} : Meter)) x j) hmtrs)

/-! ## The check of a message (R442) -/

/-- A message passes only with a counter above the stored one, which then stands at it. -/
theorem Mach.authCheck_passes {m : Mach} {k ctr : Nat} {msg tag : List Byte} {pay : Nat} (hp : (m.authCheck k ctr msg tag pay).2 = 0) :
    m.storedCtr k < ctr ∧ (m.authCheck k ctr msg tag pay).1.aon = ((m.setCtr k ctr).lockClear k).aon := by
  unfold Mach.authCheck at hp ⊢
  dsimp only at hp ⊢
  split at hp
  · cases hp
  next hv =>
    split at hp
    · cases hp
    next hl =>
      split at hp
      · cases hp
      next ht =>
        split at hp
        · cases hp
        next hr =>
          rw [if_neg hv, if_neg hl, if_neg ht, if_neg hr]
          refine ⟨?_, ?_⟩
          · simp only [Bool.or_eq_true, decide_eq_true_eq, not_or] at hr
            omega
          · dsimp only
            split
            · exact Mach.raise_aon ..
            · rfl

theorem Mach.lockClear_storedCtr {m : Mach} (h : m.wf = true) {k j : Nat} (hj : j ≤ 5) : (m.lockClear k).storedCtr j = m.storedCtr j :=
  congrArg BitVec.toNat (Mach.aw_setAw_ne h (by omega) 0)

/-- Settles O58: a message that passes raises the stored counter of its slot to its own, and none passes that is not above it. -/
theorem noMessagePassesTwice : Obligations.NoMessagePassesTwice := by
  unfold Obligations.NoMessagePassesTwice
  intro m k ctr msg tag pay h hk hc hp
  obtain ⟨habove, haon⟩ := Mach.authCheck_passes hp
  have hwf : (m.setCtr k ctr).wf = true := wf_setAw h
  have hctr : ∀ j, j ≤ 5 → (m.authCheck k ctr msg tag pay).1.storedCtr j = (m.setCtr k ctr).storedCtr j := fun j hj =>
    (Mach.storedCtr_congr haon j).trans (Mach.lockClear_storedCtr hwf hj)
  have hset : (m.authCheck k ctr msg tag pay).1.storedCtr k = ctr := by
    rw [hctr k hk, Mach.storedCtr_setCtr_same h]
    omega
  refine ⟨habove, hset, fun j hj hne => (hctr j hj).trans (Mach.storedCtr_setCtr_ne h hne ctr), fun ctr' msg' tag' pay' hle hp' => ?_⟩
  have hagain := (Mach.authCheck_passes hp').1
  omega

end Sys2Proof.Machine
end

section
/-! SUPPORT. The output stage: the bank match, bonds and function switches of pins, PGPO and HALT_N (chapter 10). -/
namespace Sys2Proof.Machine
open Sys2Proof Sys2Proof.Laws

/-! ## VSEL and the bank match (R229, R230) -/

/-- The row of BANK_CFG. -/
def bankCfgRow : Row := { name := "BANK_CFG", base := 0x040000, count := 16, writer := .p0, img := .y, rw := 3 }

theorem bankCfg_address : ∀ k : Bank, rowOf (0x040000 + 4 * k.val) = some bankCfgRow ∧ plainAt (0x040000 + 4 * k.val) bankCfgRow = true := by
  decide

theorem Mach.hook_bankCfg (m : Mach) (w : Who) (a : Acc) (k : Bank) (d old new : Word) :
    m.hook w a (0x040000 + 4 * k.val) d old new = m.checkVok k.val false := by
  have hk := k.isLt
  unfold Mach.hook
  rw [show (0x040000 + 4 * k.val) / 0x10000 = 4 by omega]
  refine (if_pos (by omega)).trans ?_
  rw [show (0x040000 + 4 * k.val - 0x040000) / 4 = k.val by omega]

theorem Mach.write_bankCfg {m : Mach} {a : Acc} (k : Bank) (d : Word) (h : m.byP0 a) :
    let addr := 0x040000 + 4 * k.val
    let m1 := m.begun a addr
    m.write a addr d = (m1.store addr (blend (m1.reg addr) d 3)).checkVok k.val false := by
  have hk := k.isLt
  obtain ⟨hrow, hplain⟩ := bankCfg_address k
  intro addr m1
  rw [Mach.write_plain d h hrow hplain, Mach.hook_bankCfg, writeNew_blend rfl (by omega)]
  rfl

theorem Mach.checkVok_absent {m : Mach} {k : Nat} (hp : m.present k = false) : m.checkVok k false = (m.setVok k (m.matches' k)).trimHold := by
  have hm : m.matches' k = false := by simp [Mach.matches', hp]
  unfold Mach.checkVok
  simp [hm, hp]

theorem Mach.checkVok_present {m : Mach} {k : Nat} (hp : m.present k = true) :
    m.checkVok k false =
      if m.matches' k then (if m.vok k then m.setVok k (m.matches' k) else (m.setVok k (m.matches' k)).bankRestart k)
      else if m.vok k then (((m.setVok k (m.matches' k)).trimHold.bankHalt k).raise fBankVmis k (word (m.f (BANK_CFG.VSEL k) + 256 * m.bankClass k)))
      else (m.setVok k (m.matches' k)).trimHold := by
  unfold Mach.checkVok
  cases hm : m.matches' k <;> cases hv : m.vok k <;> simp [hp]

/-- Settles O23: a write of VSEL compares it with the detected class. -/
theorem bankSelect : Obligations.BankSelect := by
  unfold Obligations.BankSelect
  intro s a k d h
  have hw := Mach.write_bankCfg k d h
  refine ⟨fun hp => does_act (hw.trans (Mach.checkVok_absent hp)), fun hp hm hv => does_act (hw.trans ((Mach.checkVok_present hp).trans ?_)),
    fun hp hm hv => does_act (hw.trans ((Mach.checkVok_present hp).trans ?_)),
    fun hp hm hv => does_act (hw.trans ((Mach.checkVok_present hp).trans ?_)),
    fun hp hm hv => does_act (hw.trans ((Mach.checkVok_present hp).trans ?_))⟩
  · exact (if_neg (Bool.eq_false_iff.mp hm)).trans (if_pos hv)
  · exact (if_neg (Bool.eq_false_iff.mp hm)).trans (if_neg (Bool.eq_false_iff.mp hv))
  · exact (if_pos hm).trans (if_neg (Bool.eq_false_iff.mp hv))
  · exact (if_pos hm).trans (if_pos hv)

/-! ## Words of CH_PIN (R232 to R237) -/

theorem getF_of_bits {w v : Word} {lo len : Nat} (h : ∀ i, i < len → w.getLsbD (lo + i) = v.getLsbD (lo + i)) : getF w lo len = getF v lo len := by
  apply Nat.eq_of_testBit_eq
  intro i
  rw [getF_testBit, getF_testBit]
  by_cases hi : i < len
  · rw [h i hi]
  · simp [hi]

/-- Where the written word agrees with the held one, open bits change nothing. -/
theorem blend_agrees {old d mask x y : Word} (h : (d ^^^ old) &&& x = 0) (hy : y &&& x = y) : blend old d (mask ||| y) = blend old d mask := by
  apply BitVec.eq_of_getLsbD_eq
  intro i hi
  rw [blend_getLsbD _ _ _ hi, blend_getLsbD _ _ _ hi, BitVec.getLsbD_or]
  have hbit : ((d.getLsbD i ^^ old.getLsbD i) && x.getLsbD i) = false := by
    rw [← BitVec.getLsbD_xor, ← BitVec.getLsbD_and, h]
    exact BitVec.getLsbD_zero
  have hyx : (y.getLsbD i && x.getLsbD i) = y.getLsbD i := by rw [← BitVec.getLsbD_and, hy]
  cases hm : mask.getLsbD i
  · cases hyi : y.getLsbD i
    · rfl
    · rw [hyi, Bool.true_and] at hyx
      rw [hyx, Bool.and_true] at hbit
      simpa using hbit
  · rfl

/-- The word that a write of CH_PIN leaves under a mask; a 1 clears SWDONE and SWREJ. -/
def pinWord (old d mask : Word) : Word := blend old d mask &&& ~~~ (d &&& 0x300000)

theorem pinWord_getLsbD (old d mask : Word) {i : Nat} (hi : i < 20) :
    (pinWord old d mask).getLsbD i = if mask.getLsbD i then d.getLsbD i else old.getLsbD i := by
  have hclr : ∀ j : Fin 20, (0x300000 : Word).getLsbD j.val = false := by decide
  unfold pinWord
  rw [BitVec.getLsbD_and, BitVec.getLsbD_not, BitVec.getLsbD_and, hclr ⟨i, hi⟩, Bool.and_false, blend_getLsbD _ _ _ (by omega)]
  simp
  omega

theorem pinWord_func (old d mask : Word) (hm : ∀ i : Fin 2, mask.getLsbD i.val = true) : getF (pinWord old d mask) 0 2 = getF d 0 2 := by
  apply getF_of_bits
  intro i hi
  rw [Nat.zero_add, pinWord_getLsbD _ _ _ (by omega), hm ⟨i, hi⟩]
  rfl

theorem tblCfg_pin (n : Nat) : tblCfg n 14 = 0x724 ∨ tblCfg n 14 = 0x704 := by
  unfold tblCfg
  split
  · next h => simp at h
  · split
    · exact .inr rfl
    · exact .inl rfl

theorem Mach.groupWord_pin (m : Mach) (n : Nat) : m.groupWord n 14 = false := by simp [Mach.groupWord]

/-- A word of CH_PIN with a bond of two stopped channels of one owner. -/
theorem Mach.tblWrite_bond {m : Mach} {w : Who} {port : Port} {b n : Nat} {d : Word} (he : n % 2 = 0) (ho : m.ownCh n = m.ownCh (n + 1))
    (hn : m.chst n = 0) (hn1 : m.chst (n + 1) = 0) (hold : (m.tw n 14).getLsbD 5 = false) (hd : d.getLsbD 5 = true) :
    let new := pinWord (m.tw n 14) d 0x72F
    m.tblWrite w port b n 14 d = (m.cfgChanged.setTw n 14 new).push (.tblHook n 14 (d &&& 0x30072F) (m.tw n 14) new) := by
  have hcfg : tblCfg n 14 = 0x724 := by simp [tblCfg, he, tblRow]
  have hpair : n / 2 * 2 + 1 = n + 1 := by omega
  have hopen : m.tblCfgOpen n 14 = ~~~ (word 0) := by
    unfold Mach.tblCfgOpen
    rw [if_neg (by simp [hn]), hpair, if_neg (by simp [hn1])]
  have hforeign : (decide ((14 : Nat) = 14) && decide (n % 2 = 0) && bitAt d 5 && !bitAt (m.tw n 14) 5 && bitAt (~~~ (word 0)) 5 &&
      decide (m.ownCh n ≠ m.ownCh (n + 1))) = false := by simp [ho]
  have hshut : ((d ^^^ m.tw n 14) &&& word 0x724 &&& ~~~ ~~~ (word 0)) = 0 := by
    rw [show ~~~ ~~~ (word 0) = (0 : Word) by decide]
    exact BitVec.and_zero
  have hmask : (word 0xB ||| (word 0x724 &&& ~~~ (word 0))) &&& ~~~ (word 0) = 0x72F := by decide
  have hnew : (m.tw n 14 ^^^ pinWord (m.tw n 14) d 0x72F) &&& word 0x724 ≠ 0 := by
    intro hz
    have hbit : (((m.tw n 14 ^^^ pinWord (m.tw n 14) d 0x72F) &&& word 0x724).getLsbD 5) = (0 : Word).getLsbD 5 := by rw [hz]
    rw [BitVec.getLsbD_and, BitVec.getLsbD_xor, pinWord_getLsbD _ _ _ (by decide), hold, hd] at hbit
    exact absurd hbit (by decide)
  intro new
  unfold Mach.tblWrite
  dsimp only
  rw [if_neg (Bool.eq_false_iff.mp (m.groupWord_pin n)), hcfg, hopen, hforeign]
  simp only [Bool.false_eq_true, if_false, Bool.false_and]
  rw [show (tblRow 14).rw = 0xB from rfl, show (tblRow 14).cfg = 0x724 from rfl, show (tblRow 14).trg = 0 from rfl,
    show (tblRow 14).w1c = 0x300000 from rfl, hopen, hmask, if_neg (not_not_intro hshut)]
  rw [show word 0x300000 = (0x300000 : Word) from rfl,
    show blend (m.tw n 14) d 0x72F &&& ~~~ (d &&& 0x300000) = pinWord (m.tw n 14) d 0x72F from rfl, if_pos hnew]
  rfl

/-- A word of CH_PIN that changes none of its CFG bits. -/
theorem Mach.tblWrite_pin {m : Mach} {w : Who} {port : Port} {b n : Nat} {d : Word} (h : (d ^^^ m.tw n 14) &&& 0x724 = 0) :
    let new := pinWord (m.tw n 14) d 0xB
    ∃ d', m.tblWrite w port b n 14 d = (m.setTw n 14 new).push (.tblHook n 14 d' (m.tw n 14) new) := by
  have hsub : word (tblCfg n 14) &&& 0x724 = word (tblCfg n 14) := by rcases tblCfg_pin n with hc | hc <;> rw [hc] <;> decide
  have hbond : (bitAt d 5 && !bitAt (m.tw n 14) 5) = false := by
    have hbit : (((d ^^^ m.tw n 14) &&& 0x724).getLsbD 5) = (0 : Word).getLsbD 5 := by rw [h]
    rw [BitVec.getLsbD_and, BitVec.getLsbD_xor, show (0x724 : Word).getLsbD 5 = true by decide, Bool.and_true] at hbit
    unfold bitAt
    cases hd : d.getLsbD 5 <;> cases ho : (m.tw n 14).getLsbD 5 <;> simp_all
  have hforeign : (decide ((14 : Nat) = 14) && decide (n % 2 = 0) && bitAt d 5 && !bitAt (m.tw n 14) 5 && bitAt (m.tblCfgOpen n 14) 5 &&
      decide (m.ownCh n ≠ m.ownCh (n + 1))) = false := by
    rw [Bool.and_assoc (_ && _) (bitAt d 5), hbond]
    simp
  have hshut : ((d ^^^ m.tw n 14) &&& word (tblCfg n 14) &&& ~~~ (m.tblCfgOpen n 14)) = 0 := by
    rw [← hsub, BitVec.and_comm (word (tblCfg n 14)), ← BitVec.and_assoc, h]
    exact (congrArg (· &&& _) BitVec.zero_and).trans BitVec.zero_and
  have hmask : blend (m.tw n 14) d ((word 0xB ||| (word (tblCfg n 14) &&& m.tblCfgOpen n 14)) &&& ~~~ (word 0)) = blend (m.tw n 14) d 0xB := by
    rw [show ~~~ (word 0) = BitVec.allOnes 32 by decide, BitVec.and_allOnes]
    refine blend_agrees h ?_
    rw [BitVec.and_assoc, BitVec.and_comm (m.tblCfgOpen n 14), ← BitVec.and_assoc, hsub]
  have hkept : (m.tw n 14 ^^^ pinWord (m.tw n 14) d 0xB) &&& word 0x724 = 0 := by
    apply BitVec.eq_of_getLsbD_eq
    intro i hi
    refine Eq.trans ?_ BitVec.getLsbD_zero.symm
    rw [BitVec.getLsbD_and, BitVec.getLsbD_xor]
    by_cases h20 : i < 20
    · have hz : ∀ j : Fin 20, ((0xB : Word).getLsbD j.val && (word 0x724).getLsbD j.val) = false := by decide
      rw [pinWord_getLsbD _ _ _ h20]
      cases hx : (word 0x724).getLsbD i
      · simp
      · have hbi := hz ⟨i, h20⟩
        simp only [hx, Bool.and_true] at hbi
        rw [hbi]
        simp
    · have hz : ∀ j : Fin 32, ¬ j.val < 20 → (word 0x724).getLsbD j.val = false := by decide
      rw [hz ⟨i, hi⟩ h20, Bool.and_false]
  refine ⟨d &&& (word 0xB ||| (word (tblCfg n 14) &&& m.tblCfgOpen n 14) ||| word 0x300000), ?_⟩
  unfold Mach.tblWrite
  dsimp only
  rw [if_neg (Bool.eq_false_iff.mp (m.groupWord_pin n)), hforeign]
  simp only [Bool.false_eq_true, if_false, Bool.false_and]
  rw [show (tblRow 14).rw = 0xB from rfl, show (tblRow 14).cfg = 0x724 from rfl, show (tblRow 14).trg = 0 from rfl,
    show (tblRow 14).w1c = 0x300000 from rfl, hmask, if_neg (not_not_intro hshut)]
  rw [show word 0x300000 = (0x300000 : Word) from rfl,
    show blend (m.tw n 14) d 0xB &&& ~~~ (d &&& 0x300000) = pinWord (m.tw n 14) d 0xB from rfl, if_neg (not_not_intro hkept)]

theorem Mach.chPinHook_bonds {m : Mach} {n : Nat} {d old new : Word} (he : n % 2 = 0) (ho : getF old 5 1 = 0) (hf : getF old 0 2 = 0)
    (hn : getF new 0 2 = 0) (hd : getF d 0 2 = 0) (hunfit : m.bondUnfit n 0 = false) (hfunc : m.t n CH_PIN.FUNC = 0) :
    m.chPinHook n d old new = m.updCh n (fun c => { c with resetPark := c.resetPark && m.resetting (m.ownCh n) }) := by
  have hev : evenOf n = n := by unfold evenOf; omega
  unfold Mach.chPinHook
  simp only [hev, hf, hn, ho, hd, hunfit, Bool.and_false, Bool.false_eq_true, if_false, if_true, decide_true, decide_false, ne_eq, not_true_eq_false,
    Nat.zero_ne_one, Bool.false_and]
  exact if_pos (by rw [show ((m.updCh n _).t n CH_PIN.FUNC) = m.t n CH_PIN.FUNC from rfl, hfunc]; rfl)

theorem Mach.chPinHook_switches {m : Mach} {n : Nat} {d old new : Word} (h5 : getF new 5 1 = getF old 5 1) (hf : getF old 0 2 ≠ getF new 0 2)
    (hb : (m.updCh n (fun c => { c with resetPark := c.resetPark && m.resetting (m.ownCh n) })).bonded n = false) :
    m.chPinHook n d old new =
      (m.updCh n (fun c => { c with resetPark := c.resetPark && m.resetting (m.ownCh n) })).switchFunc n (getF old 0 2) := by
  have hset : (decide (getF old 5 1 = 0) && decide (getF old 5 1 = 1)) = false := by
    by_cases h0 : getF old 5 1 = 0 <;> simp [h0]
  have hclr : (decide (getF old 5 1 = 1) && decide (getF old 5 1 = 0)) = false := by rw [Bool.and_comm, hset]
  unfold Mach.chPinHook
  dsimp only
  rw [h5, Bool.and_assoc (decide (n = evenOf n)), Bool.and_assoc (decide (n = evenOf n)), hset, hclr]
  simp only [Bool.and_false, Bool.false_and, Bool.false_eq_true, if_false]
  rw [if_neg hf, hb]
  rfl

/-- A committed word of CH_PIN by the owner of the channel. -/
theorem Mach.pinWrite_own {m : Mach} {a : Acc} {p k n : Nat} (d : Word) (hb : m.bind a = .part p k) (hu : m.hostUp = true) (ho : m.ownCh n = p)
    (hl : m.memberLock (.part p k) (64 * n + 56) = none) : m.pinWrite a n d = m.unmarked.tblWrite (.part p k) a.port 0x02E004 n 14 d := by
  unfold Mach.pinWrite
  dsimp only
  rw [hb, hl, if_neg (by simp [hu]), if_neg (by simp [Who.rights, ho])]

theorem Mach.work_tblHook_pin (m : Mach) (n : Nat) (d old new : Word) : m.work (.tblHook n 14 d old new) = m.chPinHook n d old new := rfl

theorem Mach.parkIntervalEnd_ends {m : Mach} {n : Nat} (hs : (m.ch n).swStep = 2)
    (hg : m.gateOn = false ∨ m.haltMode n = 0 ∨ m.t n CH_PIN.FUNC = 2) : m.parkIntervalEnd n = (m.advTo (m.ch n).parkEnd).switchEnd n :=
  (if_neg (by simp [hs])).trans (if_neg (by rcases hg with h | h | h <;> simp [h]))

/-- Settles O24: the committed words of CH_PIN, and the end of a park interval. -/
theorem pinCommands : Obligations.PinCommands := by
  unfold Obligations.PinCommands
  intro s n
  refine ⟨fun a p k d hb hu ht ho hl => ⟨fun he ho1 hn hn1 h5 hd5 hf hfd hfunc hfunc1 hsp hsp1 => ?bond, fun hcfg hf hnb => ?switch⟩,
    fun hs hg hf => ?level, fun hs hf hf2 => ?echo, fun hs hg hh hf => ?gate, fun hs => does_act ((if_pos (by simp [hs])).trans (if_pos hs)),
    fun h0 h2 => does_act ((if_pos h2).trans (if_neg h0))⟩
  case bond =>
    refine does_act (f := fun m => (m.pinWrite a n.val d).settleFor 1) ?_
    dsimp only
    rw [Mach.pinWrite_own d hb hu ho hl, Mach.tblWrite_bond (m := s.m.unmarked) he (ho.trans ho1.symm) hn hn1 h5 hd5,
      Mach.settleFor_push _ (show (Mach.setTw n.val 14 _ s.m.unmarked.cfgChanged).todo = [] from (Mach.cfgChanged_todo _).trans ht), Mach.work_tblHook_pin]
    have hbit : getF (s.m.tw n.val 14) 5 1 = 0 := by
      have hzero : getF (s.m.tw n.val 14) 5 1 = getF 0 5 1 := getF_of_bits fun i hi => by
        rw [show 5 + i = 5 by omega, h5]; rfl
      rw [hzero]
      rfl
    have hd : getF (d &&& 0x30072F) 0 2 = 0 := by
      rw [getF_and _ _ _ _ (fun i hi => ?_), hfd]
      have hm : ∀ j : Fin 2, (0x30072F : Word).getLsbD (0 + j.val) = true := by decide
      exact hm ⟨i, hi⟩
    refine Mach.chPinHook_bonds he hbit hf ((pinWord_func _ _ _ (by decide)).trans hfd) hd ?_ hfunc
    simp only [Mach.bondUnfit, Bool.or_eq_false_iff, decide_eq_false_iff_not, not_not]
    exact ⟨⟨⟨trivial, hfunc1⟩, Option.isSome_eq_false_iff.mpr (Option.isNone_iff_eq_none.mpr hsp)⟩,
      Option.isSome_eq_false_iff.mpr (Option.isNone_iff_eq_none.mpr hsp1)⟩
  case switch =>
    obtain ⟨d', hw⟩ := Mach.tblWrite_pin (m := s.m.unmarked) (w := .part p.val k) (port := a.port) (b := 0x02E004) hcfg
    refine does_act (f := fun m => (m.pinWrite a n.val d).settleFor 1) ?_
    dsimp only
    rw [Mach.pinWrite_own d hb hu ho hl, hw, Mach.settleFor_push _ (show (Mach.setTw n.val 14 _ s.m.unmarked).todo = [] from ht), Mach.work_tblHook_pin]
    refine Mach.chPinHook_switches (getF_of_bits fun i hi => ?_) ?_ hnb
    · rw [show 5 + i = 5 by omega, pinWord_getLsbD _ _ _ (by decide)]
      rfl
    · rw [pinWord_func _ _ _ (by decide)]
      exact hf
  case level =>
    refine does_act ((Mach.parkIntervalEnd_ends hs (hg.elim .inl (fun h => .inr (.inl h)))).trans (if_neg hf))
  case echo => exact does_act ((Mach.parkIntervalEnd_ends hs (.inr (.inr hf))).trans (if_pos hf2))
  case gate => exact does_act ((if_neg (by simp [hs])).trans (if_pos (by simp [hg, hh, hf])))

end Sys2Proof.Machine
end

section
/-! SUPPORT. PGPO and the HALT_N pin (R234, R239, R243 to R248). -/
namespace Sys2Proof.Machine
open Sys2Proof Sys2Proof.Laws

/-! ## PGPO under the mask half and the writer's channels -/

/-- The row of PGPO. -/
def pgpoRow : Row := { name := "PGPO", base := 0x040040, count := 16, writer := .pgpo, rw := 0xFFFF, wm := true }

theorem pgpo_address : ∀ b : Bank, rowOf (0x040040 + 4 * b.val) = some pgpoRow ∧ pgpoRow.idx (0x040040 + 4 * b.val) = b.val ∧
    winOf (0x040040 + 4 * b.val) = none ∧ aonAlias (0x040040 + 4 * b.val) = none := by
  decide

theorem Mach.hook_pgpo (m : Mach) (w : Who) (a : Acc) (b : Bank) (d old new : Word) :
    m.hook w a (0x040040 + 4 * b.val) d old new = m.pgpoHook b.val w d old := by
  have hb := b.isLt
  unfold Mach.hook
  rw [show (0x040040 + 4 * b.val) / 0x10000 = 4 by omega]
  refine (if_neg (by omega)).trans ((if_pos (by omega)).trans ?_)
  rw [show (0x040040 + 4 * b.val - 0x040040) / 4 = b.val by omega]

/-- The bits of PGPO_k that a write opens. -/
theorem Mach.writeMask_pgpo (m : Mach) (w : Who) (b : Bank) (d : Word) (x y : Bool) :
    m.writeMask w pgpoRow (0x040040 + 4 * b.val) d x y = 0xFFFF &&& word (getF d 16 16) &&& word (m.pgpoMask w b.val) := by
  obtain ⟨-, hidx, -, -⟩ := pgpo_address b
  unfold Mach.writeMask
  rw [hidx]
  simp [pgpoRow, word]

/-- PGPO_k written by a partition within the bits of its channels. -/
theorem Mach.fieldUpdate_pgpo {m : Mach} {a : Acc} {w : Who} (b : Bank) (d : Word) (x y : Bool)
    (hmine : word (getF d 16 16) &&& ~~~ (word (m.pgpoMask w b.val)) = 0) :
    let addr := 0x040040 + 4 * b.val
    let new := blend (m.reg addr) d (0xFFFF &&& word (getF d 16 16) &&& word (m.pgpoMask w b.val))
    m.fieldUpdate w a pgpoRow addr addr d x y = (m.store addr new).push (.hook w a addr d (m.reg addr) new) := by
  have hb := b.isLt
  obtain ⟨hrow, hidx, -, hal⟩ := pgpo_address b
  have hheld : m.heldWord (0x040040 + 4 * b.val) (0x040040 + 4 * b.val) = m.reg (0x040040 + 4 * b.val) := by unfold Mach.heldWord; rw [hal]
  have hz : ∀ v : Word, ¬ (v &&& word pgpoRow.cfg ≠ 0) := by
    intro v
    rw [show word pgpoRow.cfg = 0 from rfl]
    simp
  have hpend : m.grpPending (0x040040 + 4 * b.val) = false := by
    simp only [Mach.grpPending, Bool.and_eq_false_iff, Bool.or_eq_false_iff, decide_eq_false_iff_not]
    omega
  have hbreaks : ∀ v, m.grpBreaks (0x040040 + 4 * b.val) v = false := by
    intro v
    simp only [Mach.grpBreaks, Bool.and_eq_false_iff, decide_eq_false_iff_not]
    omega
  intro addr new
  unfold Mach.fieldUpdate
  dsimp only
  rw [hheld, Mach.writeMask_pgpo, writeNew_blend rfl (by omega), hidx, if_neg (not_and_decide (hz _)),
    if_neg (not_and_decide (not_not_intro hmine)), Mach.storeWord_plain _ _ hal (by omega) hpend (hbreaks _), if_neg (hz _)]
  rw [show ∀ v : Word, v &&& ~~~ (word pgpoRow.trg) = v from fun v => BitVec.and_allOnes]
  rfl

theorem Mach.write_pgpo {m : Mach} {a : Acc} {p k : Nat} (b : Bank) (d : Word) (hb : m.bind a = .part p k) (hu : m.hostUp = true) (ht : m.todo = [])
    (hmine : word (getF d 16 16) &&& ~~~ (word ((m.begun a (0x040040 + 4 * b.val)).pgpoMask (.part p k) b.val)) = 0) :
    let addr := 0x040040 + 4 * b.val
    let m1 := m.begun a addr
    m.write a addr d = (m1.store addr (blend (m1.reg addr) d (0xFFFF &&& word (getF d 16 16) &&& word (m1.pgpoMask (.part p k) b.val)))).pgpoHook
      b.val (.part p k) d (m1.reg addr) := by
  have hbk := b.isLt
  obtain ⟨hrow, -, hwin, -⟩ := pgpo_address b
  have hmay : m.unmarked.mayWrite pgpoRow (.part p k) (0x040040 + 4 * b.val) = true := by
    unfold Mach.mayWrite
    split <;> rfl
  have hbusy : (m.unmarked.spent (.part p k) (0x040040 + 4 * b.val)).svcBusy (0x040040 + 4 * b.val) = false := by
    simp only [Mach.svcBusy, Bool.and_eq_false_iff, Bool.or_eq_false_iff, decide_eq_false_iff_not]
    omega
  have hbegun : m.unmarked.spent (.part p k) (0x040040 + 4 * b.val) = m.begun a (0x040040 + 4 * b.val) := by unfold Mach.begun; rw [hb]
  intro addr m1
  unfold Mach.write
  rw [Mach.busWrite_gated d hu (.inl (by rw [hb]; simp)) hrow (by omega) (.inl (by omega)) (.inl (by rw [hb]; simp)) hwin (by omega), hb,
    Mach.gatedWrite_update d hmay (.inl rfl) rfl (.inl rfl) rfl hbusy (by omega), hbegun, show instKey pgpoRow (.part p k) a addr = addr from rfl,
    Mach.fieldUpdate_pgpo b d _ _ hmine, Mach.grpTouch_push, Mach.grpTouch_other _ _ (by omega) hwin,
    Mach.settleFor_push _ (by rw [Mach.store_todo, Mach.begun_todo, ht])]
  exact Mach.hook_pgpo ..

/-! ## HALT_N -/

theorem Mach.haltAssert_asserts {m : Mach} (hp : m.powered = true) (hh : m.boot.held = false) (ha : m.fb HALT_STAT.ASSERTED = false) :
    let m1 := ((m.put HALT_STAT.ASSERTED 1).put HALT_STAT.COUNT (satInc 255 (m.f HALT_STAT.COUNT))).put HALT_STAT.EVT_ASSERT 1
    m.haltAssert = forN 256 Mach.gatePin ((if m1.fb HALT_CFG.LATCH then m1.put HALT_STAT.LATCHED 1 else m1).raise fHaltAssert 0
      (word (m.f HALT_CFG.FILT + 256 * m1.f HALT_STAT.COUNT))) :=
  if_neg (by simp [hp, hh, ha])

/-- The row of HALT_CFG. -/
def haltCfgRow : Row := { name := "HALT_CFG", base := 0x040100, writer := .p0, img := .t, rw := 0x3FF, trg := 0x200 }

/-- Bits outside the mask do not enter a blend. -/
theorem blend_or_outside (old d : Word) {x mask : Word} (h : x &&& mask = 0) : blend old (d ||| x) mask = blend old d mask := by
  unfold blend
  rw [BitVec.and_or_distrib_right, h]
  exact congrArg (_ ||| ·) BitVec.or_zero

theorem Mach.write_haltClear {m : Mach} {a : Acc} (d : Word) (h : m.byP0 a) :
    let m1 := m.begun a 0x040100
    m.write a 0x040100 (d ||| 0x200) = (m1.store 0x040100 (blend (m1.reg 0x040100) d 0x1FF)).haltClear := by
  intro m1
  have hclr : bitAt ((d ||| 0x200) &&& (word haltCfgRow.rw ||| word haltCfgRow.own ||| word haltCfgRow.w1c)) 9 = true := by
    rw [bitAt, BitVec.getLsbD_and, BitVec.getLsbD_or, show (0x200 : Word).getLsbD 9 = true by decide, Bool.or_true]
    decide
  rw [Mach.write_plain _ h (show rowOf 0x040100 = some haltCfgRow by decide) (by decide), writeNew_blend rfl (by decide),
    show (word haltCfgRow.rw ||| word haltCfgRow.own) &&& ~~~ (word haltCfgRow.trg) = 0x1FF by decide, blend_or_outside _ _ (by decide)]
  unfold Mach.hook
  rw [show (0x040100 : Nat) / 0x10000 = 4 by decide]
  exact (if_neg (by decide)).trans ((if_neg (by decide)).trans ((if_pos rfl).trans (if_pos hclr)))

theorem Mach.cleanGateEffect_none {m : Mach} {n : Nat} (h : (m.ch n).cleanGate = none) : m.cleanGateEffect n = m := by
  unfold Mach.cleanGateEffect
  rw [h]
  rfl

theorem Mach.cleanGateEffect_turn {m : Mach} {n g t : Nat} (h : (m.ch n).cleanGate = some g) (ht : m.parkTurn n g = some t) (hg : m.gateOn = true) :
    m.cleanGateEffect n = (m.advTo ((t + 63) / 64)).gateNow n := by
  unfold Mach.cleanGateEffect
  rw [h, show (some g).bind (m.parkTurn n) = some t from ht]
  exact if_pos hg

/-- Settles O25: PGPO, the assertion and release of HALT_N, the clearing of its latch, and a clean gate's effect. -/
theorem haltAndPgpo : Obligations.HaltAndPgpo := by
  unfold Obligations.HaltAndPgpo
  intro s
  refine ⟨fun a p k b d hb hu ht hmine => does_act (Mach.write_pgpo b d hb hu ht hmine),
    fun hp hh ha => ⟨fun hl => does_act ?unlatched, fun hl => does_act ?latched⟩,
    fun ha => ⟨fun hl => does_act ((if_neg (by simp [ha])).trans (if_pos hl)),
      fun hl => does_act ((if_neg (by simp [ha])).trans (if_neg (Bool.eq_false_iff.mp hl)))⟩,
    fun a d h => ⟨fun hl ha => does_act ?clears, fun hl => does_act ?stays⟩,
    fun n => ⟨fun g t hc ht hg => does_act (Mach.cleanGateEffect_turn hc ht hg), fun hc => does_act (Mach.cleanGateEffect_none hc)⟩⟩
  case unlatched =>
    have hif := (Mach.haltAssert_asserts hp hh ha)
    dsimp only at hif
    rw [if_neg (Bool.eq_false_iff.mp hl)] at hif
    exact hif
  case latched =>
    have hif := (Mach.haltAssert_asserts hp hh ha)
    dsimp only at hif
    rw [if_pos hl] at hif
    exact hif
  case clears => exact (Mach.write_haltClear d h).trans (if_pos (by rw [hl, ha]; rfl))
  case stays => exact (Mach.write_haltClear d h).trans (if_neg (by rcases hl with hl | hl <;> rw [hl] <;> simp))

end Sys2Proof.Machine
end

section
/-! SUPPORT. A request for a monitor visit over a register store that is not in its canonical form (R256). -/
namespace Sys2Proof.Machine
open Sys2Proof Sys2Proof.Laws

/-- Channel 0 runs and is monitored, and partition 0 is bound over SPI. The register store is not in its canonical form: the word of MON_CTL, with
EN 0, stands behind the word of a higher address, MON_REQ_STAT, so that MON_CTL reads as its reset value, with EN 1, until that word is gone. -/
def unsortedMonitor : Mach :=
  (({ dev := .run, boot := { held := false, clocks := true }, pwr := { pgMain := true },
      regs := [(0x050014, 0x500), (0x050000, 0), (0x08040C, 1), (0x080328 + 32 * instSpan, 1)] } : Mach).tput 0 CH_STAT.STATE 2).tput 0 CH_MON.MEN 1

/-- An access of partition 0 over SPI. -/
def ownerAcc : Acc := ⟨.spi, true, 0, 0, 0, false⟩

/-- MON_REQ_STAT.REJ of partition 0, in the state that a command answers. -/
def monRejected : Host.Outcome State Fault Refusal → Option Bool
  | .next s => some (s.m.fb (MON_REQ_STAT.REJ.inst 0))
  | _ => none

/-- The request for channel 0 is judged before its number is kept, and taken. -/
theorem unsortedMonitor_takes : monRejected (exec (.monRequest ownerAcc 0x100) { m := unsortedMonitor, pending := [] }) = some false := by
  decide +kernel

/-- Refutes O26: the statement judges the channel's visit after MON_REQ_STAT.CH is written, the model before. The two differ where the register
store is not in its canonical form, which the statement does not ask: writing CH = 0 removes the word that hid MON_CTL.EN = 0. -/
theorem not_monitorVisits : ¬ Obligations.MonitorVisits := by
  unfold Obligations.MonitorVisits
  intro h
  obtain ⟨-, hreq⟩ := h { m := unsortedMonitor, pending := [] }
  obtain ⟨-, -, -, -, hrej⟩ := hreq ownerAcc 0 0 0x100 (by decide +kernel) (by decide +kernel) rfl
  have hdoes := hrej (by decide) (by decide +kernel) (by decide +kernel) (by decide +kernel)
  have hrejected := congrArg monRejected hdoes
  exact absurd (unsortedMonitor_takes.symm.trans hrejected) (by decide +kernel)

end Sys2Proof.Machine
end

section
/-! SUPPORT. The commands of the fault block: timers, acknowledgement, configuration and injection (chapter 12). -/
namespace Sys2Proof.Machine
open Sys2Proof Sys2Proof.Laws

/-! ## The escalation timer and the ageing of raw events (R282, R290) -/

theorem Mach.escExpire_joined {m : Mach} {b c p : Nat} (h : (m.line b c p).joined = some m.now) :
    m.escExpire b c p = m.setLine b c p { m.line b c p with joined := none } :=
  if_pos (by rw [h, beq_self_eq_true])

theorem Mach.escExpire_idle {m : Mach} {b c p : Nat} (h : (m.line b c p).joined ≠ some m.now) (ht : (m.line b c p).timer = none) :
    m.escExpire b c p = m := by
  unfold Mach.escExpire
  dsimp only
  rw [if_neg (by rw [beq_iff_eq]; exact h), ht]

/-- One line of a batch: it escalates, and the end of a line that was not asked for has then been taken. -/
def Mach.escTake (b c p : Nat) (m : Mach) (x : Nat × Nat) : Mach :=
  let m1 := m.escOne b x.1 x.2
  if x == (c, p) then m1 else m1.setLine b x.1 x.2 { m1.line b x.1 x.2 with joined := some m1.now }

theorem Mach.escExpire_due {m : Mach} {b c p d : Nat} (h : (m.line b c p).joined ≠ some m.now) (ht : (m.line b c p).timer = some d) :
    m.escExpire b c p = ((m.advNow d).escBatch b d).foldl (Mach.escTake b c p) (m.advNow d) := by
  unfold Mach.escExpire
  dsimp only
  rw [if_neg (by rw [beq_iff_eq]; exact h), ht]
  rfl

theorem Mach.escExpire_alone {m : Mach} {b c p d : Nat} (h : (m.line b c p).joined ≠ some m.now) (ht : (m.line b c p).timer = some d)
    (hone : (m.advNow d).escBatch b d = [(c, p)]) : m.escExpire b c p = (m.advNow d).escOne b c p := by
  rw [Mach.escExpire_due h ht, hone]
  exact if_pos (beq_self_eq_true _)

theorem Mach.ageRaw_none {m : Mach} {b c p : Nat} (h : (m.line b c p).raws = []) : m.ageRaw b c p = m := by
  unfold Mach.ageRaw
  rw [h]
  rfl

theorem Mach.ageRaw_oldest {m : Mach} {b c p t : Nat} (h : (m.line b c p).raws.getLast? = some t) :
    m.ageRaw b c p = (m.advNow (t + m.lineWin b c + 1)).setRaws b c p ((m.advNow (t + m.lineWin b c + 1)).rawsIn b c p) := by
  unfold Mach.ageRaw
  rw [h]

/-! ## Acknowledgement (R283, R285, R288) -/

/-- The rows of FLT_STAT_b, FLT_CTL_b, DEV_FLT_CTL and FLT_INJ. -/
def fltStatRow (b : Nat) : Row :=
  { name := "FLT_STAT", base := 0x060000 + 0x400 * b, inst := .bank, kept := .part, writer := .each, w1c := 0xFFFFFFFF }
def fltCtlRow (b : Nat) : Row := { name := "FLT_CTL", base := 0x06000C + 0x400 * b, writer := .p0, own := 3, trg := 3 }
def devFltCtlRow : Row := { name := "DEV_FLT_CTL", base := 0x06F020, writer := .p0, own := 1, trg := 1 }
def fltInjRow : Row := { name := "FLT_INJ", base := 0x0F0600, writer := .each, rw := 0x801FFF1F, trg := 0x80000000 }

theorem fltStat_address : ∀ b : Blk, rowOf (0x060000 + 0x400 * b.val) = some (fltStatRow b.val) ∧
    (fltStatRow b.val).ordinary (0x060000 + 0x400 * b.val) = true := by
  decide

theorem fltCtl_address : ∀ b : Blk, rowOf (0x06000C + 0x400 * b.val) = some (fltCtlRow b.val) ∧
    plainAt (0x06000C + 0x400 * b.val) (fltCtlRow b.val) = true := by
  decide

/-- The words of a block of faults act by their place in it. -/
theorem Mach.hook_fault (m : Mach) (w : Who) (a : Acc) (b : Blk) {o : Nat} (ho : o < 0x400) (d old new : Word) :
    m.hook w a (0x060000 + 0x400 * b.val + o) d old new =
      if o = 0 then m.ackBits b.val w.inst (d &&& old)
      else if o = 0xC then applyIf (bitAt d 1) (Mach.firstClear b.val) (applyIf (bitAt d 0) (Mach.ackAll b.val) m)
      else if 0x200 ≤ o && o < 0x280 then m.fltCfgChanged b.val ((o - 0x200) / 4) old new else m := by
  have hb := b.isLt
  unfold Mach.hook
  rw [show (0x060000 + 0x400 * b.val + o) / 0x10000 = 6 by omega]
  refine (if_neg (by omega)).trans ((if_neg (by omega)).trans ?_)
  rw [show (0x060000 + 0x400 * b.val + o - 0x060000) / 0x400 = b.val by omega, show (0x060000 + 0x400 * b.val + o) % 0x400 = o by omega]

theorem Mach.write_fltStat {m : Mach} {a : Acc} {p k : Nat} (b : Blk) (d : Word) (hb : m.bind a = .part p k) (hu : m.hostUp = true) (ht : m.todo = []) :
    let addr := 0x060000 + 0x400 * b.val
    let key := addr + p * instSpan
    let m1 := m.begun a addr
    m.write a addr d = (m1.store key (m1.reg key &&& ~~~ d)).ackBits b.val p (d &&& m1.reg key) := by
  have hbk := b.isLt
  obtain ⟨hrow, hord⟩ := fltStat_address b
  have hmay : m.mayWrite (fltStatRow b.val) (.part p k) (0x060000 + 0x400 * b.val) = true := by
    unfold Mach.mayWrite
    split <;> rfl
  have hopen : m.opens a (0x060000 + 0x400 * b.val) (fltStatRow b.val) :=
    Mach.opens_part hb hu ht hrow hord (by omega) hmay (by simp [fltStatRow]) rfl (by simp [fltStatRow]) (by omega) (by omega) (by omega)
  have hones : ∀ x : Word, x &&& 0xFFFFFFFF = x := fun x => BitVec.and_allOnes
  have hnew : ∀ old : Word, writeNew (fltStatRow b.val) (0x060000 + 0x400 * b.val) d old (word (fltStatRow b.val).rw ||| word (fltStatRow b.val).own) =
      old &&& ~~~ d := by
    intro old
    unfold writeNew
    rw [if_neg (by omega), if_neg (by omega), if_neg (by omega)]
    rw [show (word (fltStatRow b.val).rw ||| word (fltStatRow b.val).own) &&& ~~~ (word (fltStatRow b.val).trg) = 0 from by
        show (word 0 ||| word 0) &&& ~~~ (word 0) = 0; decide, blend_zero, show word (fltStatRow b.val).w1c = 0xFFFFFFFF from rfl, hones]
  have hmask : d &&& (word (fltStatRow b.val).rw ||| word (fltStatRow b.val).own ||| word (fltStatRow b.val).w1c) = d := by
    rw [show (word (fltStatRow b.val).rw ||| word (fltStatRow b.val).own ||| word (fltStatRow b.val).w1c) = 0xFFFFFFFF from by
      show word 0 ||| word 0 ||| word 0xFFFFFFFF = 0xFFFFFFFF; decide, hones]
  intro addr key m1
  rw [Mach.write_easy d hopen rfl rfl rfl (by omega) (key := key) (by rw [hb]; rfl), hnew, hmask, hb]
  exact (Mach.hook_fault _ _ a b (o := 0) (by decide) ..).trans (if_pos rfl)

/-- FLT_CTL_b holds no bits: its triggers act on the machine as the write found it. -/
theorem Mach.write_fltCtl {m : Mach} {a : Acc} (b : Blk) (d : Word) (h : m.byP0 a) :
    m.write a (0x06000C + 0x400 * b.val) d =
      applyIf (bitAt (d &&& 3) 1) (Mach.firstClear b.val) (applyIf (bitAt (d &&& 3) 0) (Mach.ackAll b.val) (m.begun a (0x06000C + 0x400 * b.val))) := by
  have hbk := b.isLt
  obtain ⟨hrow, hplain⟩ := fltCtl_address b
  rw [Mach.write_plain d h hrow hplain, writeNew_blend rfl (by omega),
    show (word (fltCtlRow b.val).rw ||| word (fltCtlRow b.val).own) &&& ~~~ (word (fltCtlRow b.val).trg) = 0 from by
      show (word 0 ||| word 3) &&& ~~~ (word 3) = 0; decide, blend_zero, Mach.store_same,
    show word (fltCtlRow b.val).rw ||| word (fltCtlRow b.val).own ||| word (fltCtlRow b.val).w1c = 3 from by
      show word 0 ||| word 3 ||| word 0 = 3; decide]
  have hplace : 0x06000C + 0x400 * b.val = 0x060000 + 0x400 * b.val + 0xC := by omega
  rw [hplace]
  exact (Mach.hook_fault _ _ a b (o := 0xC) (by decide) ..).trans (if_neg (by decide) |>.trans (if_pos rfl))

theorem Mach.write_devFltCtl {m : Mach} {a : Acc} (h : m.byP0 a) : m.write a 0x06F020 1 = (m.begun a 0x06F020).devFirstClear := by
  rw [Mach.write_plain 1 h (show rowOf 0x06F020 = some devFltCtlRow by decide) (by decide), writeNew_blend rfl (by decide),
    show (word devFltCtlRow.rw ||| word devFltCtlRow.own) &&& ~~~ (word devFltCtlRow.trg) = 0 by decide, blend_zero, Mach.store_same]
  unfold Mach.hook
  rw [show (0x06F020 : Nat) / 0x10000 = 6 by decide]
  exact (if_pos rfl).trans (if_pos (by decide))

/-! ## FLT_CFG under its KEY (R291) -/

/-- A register that P0 configures under a KEY, with nothing else in it. -/
def keyedAt (key addr : Nat) (r : Row) : Bool :=
  r.ordinary addr && r.writer == .p0 && r.inst == .one && r.key == key && r.rw == 0 && r.own == 0 && r.cfg == 0 && r.trg == 0 && r.w1c == 0 && !r.wm

theorem fltCfg_address : ∀ (b : Blk) (c : Fin 32), c.val < faultCodes b.val →
    (rowOf (0x060200 + 0x400 * b.val + 4 * c.val)).any (keyedAt 0xFFFF1FFF (0x060200 + 0x400 * b.val + 4 * c.val)) = true := by
  decide +kernel

theorem Mach.hook_fltCfg (m : Mach) (w : Who) (a : Acc) (b : Blk) (c : Fin 32) (d old new : Word) :
    m.hook w a (0x060200 + 0x400 * b.val + 4 * c.val) d old new = m.fltCfgChanged b.val c.val old new := by
  have hc := c.isLt
  rw [show 0x060200 + 0x400 * b.val + 4 * c.val = 0x060000 + 0x400 * b.val + (0x200 + 4 * c.val) by omega, Mach.hook_fault m w a b (by omega),
    if_neg (by omega), if_neg (by omega), show (0x200 + 4 * c.val - 0x200) / 4 = c.val by omega]
  exact if_pos (by simp; omega)

theorem Mach.fltCfgChanged_same (m : Mach) (b c : Nat) (w : Word) : m.fltCfgChanged b c w w = m := if_pos rfl

theorem Mach.write_fltCfg {m : Mach} {a : Acc} (b : Blk) (c : Fin 32) (d : Word) (h : m.byP0 a) (hc : c.val < faultCodes b.val) :
    let addr := 0x060200 + 0x400 * b.val + 4 * c.val
    let m1 := m.begun a addr
    let new := blend (m1.reg addr) d 0xFFFF1FFF
    (m.isArmed (m.bind a) addr = true → m.write a addr d = (m1.store addr new).fltCfgChanged b.val c.val (m1.reg addr) new) ∧
    (m.isArmed (m.bind a) addr = false → (d ^^^ m.reg addr) &&& 0xFFFF1FFF ≠ 0 → m.write a addr d = m1.accErr (m.bind a) a.port addr cKEY) := by
  have hbk := b.isLt
  have hck := c.isLt
  intro addr m1 new
  obtain ⟨r, hrow, hkeyed⟩ := (Option.any_eq_true _ _).mp (fltCfg_address b c hc)
  simp only [keyedAt, Bool.and_eq_true, beq_iff_eq, Bool.not_eq_true'] at hkeyed
  obtain ⟨⟨⟨⟨⟨⟨⟨⟨⟨hord, hwr⟩, hi⟩, hkey⟩, hrw⟩, hown⟩, hcfg⟩, htrg⟩, hw1c⟩, hwm⟩ := hkeyed
  have hopen : m.opens a addr r := Mach.opens_p0 h hrow hord (by omega) hwr hi (by omega) (by omega) (by omega)
  have hmask : ∀ (t : Mach) (w : Who) (x : Bool), t.writeMask w r addr d true x = if x then 0xFFFF1FFF else 0 := by
    intro t w x
    unfold Mach.writeMask
    cases x <;> simp [hwr, hwm, hkey, hrw, hown, hcfg, word]
  have hwin : winOf addr = none := by
    simp only [Row.ordinary, Bool.and_eq_true, beq_iff_eq] at hord
    obtain ⟨⟨⟨⟨⟨⟨-, hw⟩, -⟩, -⟩, -⟩, -⟩, -⟩ := hord
    exact hw
  refine ⟨fun harm => ?_, fun harm hd => ?_⟩
  · rw [Mach.write_armed d hopen hcfg hwm harm (by omega) hi (hmask m1 (m.bind a) true), writeNew_blend hw1c (by omega), htrg]
    exact Mach.hook_fltCfg ..
  · have hz : ∀ v : Word, ¬ (v &&& word r.cfg ≠ 0) := by
      intro v
      rw [hcfg]
      simp [word]
    have hno : ¬ (r.key = 0 ∨ (d ^^^ m.reg addr) &&& word r.key = 0 ∨ m.isArmed (m.bind a) addr = true) := by
      rw [hkey, harm]
      simp only [Bool.false_eq_true, or_false, not_or]
      exact ⟨by decide, hd⟩
    have hik : instKey r (m.bind a) a addr = addr := by unfold instKey; rw [hi]
    rw [Mach.write_row d hopen]
    dsimp only
    rw [hik, if_neg hno, if_neg (not_and_decide (hz _)), if_neg (hz _), harm, hmask, writeNew_blend hw1c (by omega)]
    rw [show (if false = true then (0xFFFF1FFF : Word) else 0) &&& ~~~ (word r.trg) = 0 from BitVec.zero_and, blend_zero, Mach.store_same,
      Mach.grpTouch_other _ _ (by omega) hwin]
    exact (Mach.hook_fltCfg ..).trans (Mach.fltCfgChanged_same ..)

/-! ## Injection in TEASEL (R295) -/

theorem Mach.write_fltInj {m : Mach} {a : Acc} {p k : Nat} (d : Word) (hdev : m.dev = .teasel) (hb : m.bind a = .part p k) (ht : m.todo = []) :
    let m1 := m.begun a 0x0F0600
    m.write a 0x0F0600 d = applyIf (d.getLsbD 31) Mach.inject (m1.store 0x0F0600 (blend (m1.reg 0x0F0600) d 0x001FFF1F)) := by
  have hmay : m.mayWrite fltInjRow (.part p k) 0x0F0600 = true := if_pos (by simp [Mach.teaselOpen, hdev])
  have hopen : m.opens a 0x0F0600 fltInjRow := by
    refine ⟨by unfold Mach.hostUp; rw [hdev], ht, .inl (by simp [hb]), by decide, by decide, .inr hdev, .inl (by simp [hb]), by rw [hb]; exact hmay,
      .inl rfl, .inl (by decide), ?_, .inl (by decide), ?_, ?_, .inl (by decide)⟩
    · rfl
    · simp [Mach.svcBusy]
    · simp [Mach.grpPending]
  have hbit : bitAt (d &&& (word fltInjRow.rw ||| word fltInjRow.own ||| word fltInjRow.w1c)) 31 = d.getLsbD 31 := by
    rw [bitAt, BitVec.getLsbD_and, show (word fltInjRow.rw ||| word fltInjRow.own ||| word fltInjRow.w1c).getLsbD 31 = true by decide, Bool.and_true]
  intro m1
  rw [Mach.write_easy d hopen rfl rfl rfl (by decide) (key := 0x0F0600) rfl, writeNew_blend rfl (by decide),
    show (word fltInjRow.rw ||| word fltInjRow.own) &&& ~~~ (word fltInjRow.trg) = 0x001FFF1F by decide]
  unfold Mach.hook
  rw [show (0x0F0600 : Nat) / 0x10000 = 15 by decide]
  refine (if_neg (by decide)).trans ((if_pos rfl).trans ?_)
  rw [hbit]

/-- Settles O27: the timers of a line, acknowledgement, the classifier's configuration and an injected fault. -/
theorem faultCommands : Obligations.FaultCommands := by
  unfold Obligations.FaultCommands
  intro s
  refine ⟨fun b c p => ⟨fun h => does_act (Mach.escExpire_joined h), fun h ht => does_act (Mach.escExpire_idle h ht),
      fun d h ht => ⟨does_act (Mach.escExpire_due h ht), fun hone => ⟨fun hu hl => ?escalates, fun hno => ?stops⟩⟩,
      fun h => does_act (Mach.ageRaw_none h), fun t h => does_act (Mach.ageRaw_oldest h)⟩,
    fun a p k b d hb hu ht => does_act (Mach.write_fltStat b d hb hu ht),
    fun a h => ⟨fun b => ⟨does_act (Mach.write_fltCtl b 1 h), does_act (Mach.write_fltCtl b 2 h)⟩, does_act (Mach.write_devFltCtl h),
      fun b c d hc => ⟨fun harm => does_act ((Mach.write_fltCfg b c d h hc).1 harm), fun harm hd => does_act ((Mach.write_fltCfg b c d h hc).2 harm hd)⟩⟩,
    fun a p k d hdev hb ht => ⟨fun hd => does_act ((Mach.write_fltInj d hdev hb ht).trans (if_pos hd)),
      fun hd => does_act ((Mach.write_fltInj d hdev hb ht).trans (if_neg (Bool.eq_false_iff.mp hd)))⟩⟩
  case escalates =>
    exact does_act ((Mach.escExpire_alone h ht hone).trans (if_pos (by simp [Mach.escalates, hu, hl])))
  case stops =>
    refine does_act ((Mach.escExpire_alone h ht hone).trans (if_neg ?_))
    rcases hno with hno | hno
    · simp [Mach.escalates, hno]
    · simp [Mach.escalates, Nat.not_lt.mpr hno]

end Sys2Proof.Machine
end

section
/-! SUPPORT. The commands of the governor (chapter 13). -/
namespace Sys2Proof.Machine
open Sys2Proof Sys2Proof.Laws

/-- The row of GOV_BUDGET. -/
def govBudgetRow : Row := { name := "GOV_BUDGET", base := 0x070004, reset := 0xFFFF, writer := .p0, img := .y, rw := 0xFFFF }

theorem Mach.write_govBudget {m : Mach} {a : Acc} (d : Word) (h : m.byP0 a) :
    let m1 := m.begun a 0x070004
    m.write a 0x070004 d = (m1.store 0x070004 (blend (m1.reg 0x070004) d 0xFFFF)).refreshBudget := by
  intro m1
  rw [Mach.write_plain d h (show rowOf 0x070004 = some govBudgetRow by decide) (by decide), writeNew_blend rfl (by decide),
    show (word govBudgetRow.rw ||| word govBudgetRow.own) &&& ~~~ (word govBudgetRow.trg) = 0xFFFF by decide]
  rfl

theorem Mach.govPass_powered {m : Mach} (hp : m.powered = true) (hh : m.boot.held = false) :
    let m2 := forN 16 Mach.budgetSheds m.showBudget.thermalSheds
    let m3 := (m2.put MON_STAT.SI_EFF m2.siEff).slotPass
    m.govPass = if m3.running && !m3.goingDown && m3.boot.clocks then forN 16 Mach.serve m3 else m3 :=
  if_neg (by simp [hp, hh])

theorem Mach.dwellEnd_after {m : Mach} (h : m.fb GOV_STAT.DWELLING = true) {k : Nat} (hk : Nat.max 1 (m.f GOV_CFG.DWELL) = k) :
    m.dwellEnd = (m.reach .dwell (k * 10 * msec)).put GOV_STAT.DWELLING 0 := by
  unfold Mach.dwellEnd
  rw [if_pos h, hk]

theorem Mach.Later.gov {m n : Mach} (h : m.Later n) : n.gov = m.gov := by rw [h.1]

theorem erase_contains_of_count {x : Activity} {l : List Activity} (h : l.count x = 1) : (l.erase x).contains x = false := by
  have hnone : (l.erase x).count x = 0 := by rw [List.count_erase_self, h]
  rw [List.contains_eq_mem, decide_eq_false_iff_not]
  exact List.count_eq_zero.mp hnone

/-- A test that holds one slot and asks for none loses it, and asks again. -/
theorem Mach.slotLapse_held {m : Mach} {x : Activity} (h : m.gov.slots.count x = 1) (hw : (m.gov.want.map Prod.fst).contains x = false) :
    m.slotLapse x =
      let m0 := m.reach (.slot (actIdx x)) (Nat.max 1 (m.f GOV_STRES.SLOT) * msec)
      let m2 := ({ m0 with gov := { m0.gov with slots := m0.gov.slots.erase x } } : Mach).showSlots
      { m2 with gov := { m2.gov with want := queueIn x m2.gov.want } } := by
  have hheld : m.gov.slots.contains x = true := by
    rw [List.contains_eq_mem, decide_eq_true_eq]
    exact List.count_pos_iff.mp (by omega)
  have hgov := (Mach.reach_later (.slot (actIdx x)) (Nat.max 1 (m.f GOV_STRES.SLOT) * msec) m).gov
  refine (if_pos hheld).trans (if_neg ?_)
  rw [Bool.or_eq_true, not_or]
  refine ⟨Bool.eq_false_iff.mp ?_, Bool.eq_false_iff.mp ?_⟩
  · show ((m.reach (.slot (actIdx x)) (Nat.max 1 (m.f GOV_STRES.SLOT) * msec)).gov.slots.erase x).contains x = false
    rw [hgov]
    exact erase_contains_of_count h
  · show ((m.reach (.slot (actIdx x)) (Nat.max 1 (m.f GOV_STRES.SLOT) * msec)).gov.want.map Prod.fst).contains x = false
    rw [hgov]
    exact hw

/-- Settles O28: the pass, the sensors, the budget and its age, a waiting request, the dwell and the slots. -/
theorem governorCommands : Obligations.GovernorCommands := by
  unfold Obligations.GovernorCommands
  intro s
  refine ⟨fun hp hh => ⟨fun h => does_act ((Mach.govPass_powered hp hh).trans (if_pos h)),
      fun h => does_act ((Mach.govPass_powered hp hh).trans (if_neg (Bool.eq_false_iff.mp h))),
      fun t0 t1 t2 t3 => does_act (if_neg (by simp [hp, hh])), fun hb hs => does_act (if_neg (by simp [hp, hh, hb, hs]))⟩,
    fun a d h => does_act (Mach.write_govBudget d h), fun n hp hr hl => does_act (if_neg (by simp [hp, hr, hl])),
    fun hd hk => does_act (Mach.dwellEnd_after hd (Nat.max_eq_right (Nat.one_le_iff_ne_zero.mpr hk))),
    fun hd hk => does_act ((Mach.dwellEnd_after hd (k := 1) (by rw [hk]; rfl)).trans ?_), fun hd => does_act (if_neg (Bool.eq_false_iff.mp hd)),
    fun x => ⟨fun h => does_act (if_neg (Bool.eq_false_iff.mp h)), fun h hw => does_act (Mach.slotLapse_held h hw)⟩⟩
  rw [Nat.one_mul]

end Sys2Proof.Machine
end

section
/-! SUPPORT. Partition resets, enables, ownership and tokens (R324 to R329, R333, R344). -/
namespace Sys2Proof.Machine
open Sys2Proof Sys2Proof.Laws

/-- A loop of which one turn acts is that turn. -/
theorem forN_only {α : Type} {f : Nat → α → α} {n p : Nat} (hp : p < n) (h : ∀ q, q < n → q ≠ p → ∀ t, f q t = t) (s : α) :
    forN n f s = f p s := by
  have hstill : ∀ (l : List Nat) (t : α), (∀ q ∈ l, q < n ∧ q ≠ p) → l.foldl (fun t i => f i t) t = t := by
    intro l
    induction l with
    | nil => intro t _; rfl
    | cons q l ih =>
      intro t hl
      obtain ⟨hq, hne⟩ := hl q List.mem_cons_self
      rw [List.foldl_cons, h q hq hne]
      exact ih t fun x hx => hl x (List.mem_cons_of_mem _ hx)
  have hsplit : List.range n = List.range p ++ p :: (List.range' (p + 1) (n - p - 1)) := by
    apply List.ext_getElem
    · simp; omega
    · intro i h1 h2
      simp only [List.getElem_range]
      rcases Nat.lt_trichotomy i p with hi | hi | hi
      · rw [List.getElem_append_left (by simpa using hi)]
        simp
      · subst hi
        rw [List.getElem_append_right (by simp)]
        simp
      · rw [List.getElem_append_right (by simp; omega)]
        rw [List.getElem_cons]
        simp only [List.length_range]
        rw [dif_neg (by omega), List.getElem_range']
        omega
  unfold forN
  rw [hsplit, List.foldl_append, List.foldl_cons, hstill (List.range p) s (fun q hq => by simp at hq; omega)]
  exact hstill _ _ fun q hq => by simp [List.mem_range'] at hq; omega

/-! ## Reset requests (R324, R326) -/

/-- The rows of PART_ORST, PART_CTL and PART_EN. -/
def partOrstRow : Row := { name := "PART_ORST", base := 0x080100, writer := .p0, rw := 0xFFFF, trg := 0xFFFF }
def partCtlRow : Row := { name := "PART_CTL", base := 0x080408, stride := 0x20, count := 16, writer := .self, rw := 1, trg := 1 }
def partEnRow : Row := { name := "PART_EN", base := 0x0800B0, reset := 1, writer := .p0key, img := .y, own := 0xFFFE }

theorem Mach.orstHook_one (m : Mach) (p : Part) : m.orstHook (word (2 ^ p.val) &&& 0xFFFF) = m.push (.partReset p.val prOWNER) := by
  have hbits : ∀ p q : Fin 16, (word (2 ^ p.val) &&& 0xFFFF).getLsbD q.val = decide (q = p) := by decide
  refine (forN_only p.isLt (fun q hq hne t => if_neg ?_) m).trans (if_pos ?_)
  · rw [hbits p ⟨q, hq⟩, decide_eq_true_eq]
    exact fun h => hne (congrArg Fin.val h)
  · rw [hbits p p, decide_eq_true_eq]

theorem Mach.write_orst {m : Mach} {a : Acc} (p : Part) (h : m.byP0 a) :
    m.write a 0x080100 (word (2 ^ p.val)) = (m.begun a 0x080100).push (.partReset p.val prOWNER) := by
  have hopen : m.opens a 0x080100 partOrstRow := Mach.opens_p0 h (by decide) (by decide) (by decide) rfl rfl (by decide) (by decide) (by decide)
  rw [Mach.write_easy _ hopen rfl rfl rfl (by decide) (key := 0x080100) rfl, writeNew_blend rfl (by decide),
    show (word partOrstRow.rw ||| word partOrstRow.own) &&& ~~~ (word partOrstRow.trg) = 0 by decide, blend_zero, Mach.store_same]
  exact Mach.orstHook_one _ p

theorem partCtl_address : ∀ p : Part, rowOf (0x080408 + 0x20 * p.val) = some partCtlRow ∧ partCtlRow.ordinary (0x080408 + 0x20 * p.val) = true ∧
    partCtlRow.idx (0x080408 + 0x20 * p.val) = p.val := by
  decide

theorem Mach.hook_partCtl (m : Mach) (w : Who) (a : Acc) (p : Part) {d : Word} (hd : bitAt d 0 = true) (old new : Word) :
    m.hook w a (0x080408 + 0x20 * p.val) d old new = m.push (.partReset p.val prSELF) := by
  have hp := p.isLt
  unfold Mach.hook
  rw [show (0x080408 + 0x20 * p.val) / 0x10000 = 8 by omega]
  refine (if_neg (by omega)).trans ((if_neg (by omega)).trans ((if_neg (by omega)).trans ((if_neg (by omega)).trans ((if_neg (by omega)).trans
    ((if_pos (by simp; omega)).trans ?_)))))
  dsimp only
  rw [show (0x080408 + 0x20 * p.val) % 0x20 = 8 by omega, show (0x080408 + 0x20 * p.val - 0x080400) / 0x20 = p.val by omega]
  exact if_pos hd

theorem Mach.write_partCtl {m : Mach} {a : Acc} {k : Nat} (p : Part) (hb : m.bind a = .part p.val k) (hu : m.hostUp = true) (ht : m.todo = []) :
    m.write a (0x080408 + 0x20 * p.val) 1 = (m.begun a (0x080408 + 0x20 * p.val)).push (.partReset p.val prSELF) := by
  have hp := p.isLt
  obtain ⟨hrow, hord, hidx⟩ := partCtl_address p
  have hmay : m.mayWrite partCtlRow (.part p.val k) (0x080408 + 0x20 * p.val) = true := by
    unfold Mach.mayWrite
    split
    · rfl
    · exact beq_iff_eq.mpr hidx
  have hopen : m.opens a (0x080408 + 0x20 * p.val) partCtlRow :=
    Mach.opens_part hb hu ht hrow hord (by omega) hmay (by decide) rfl (by decide) (by omega) (by omega) (by omega)
  rw [Mach.write_easy _ hopen rfl rfl rfl (by omega) (key := 0x080408 + 0x20 * p.val) rfl, writeNew_blend rfl (by omega),
    show (word partCtlRow.rw ||| word partCtlRow.own) &&& ~~~ (word partCtlRow.trg) = 0 by decide, blend_zero, Mach.store_same]
  exact Mach.hook_partCtl _ _ a p (by decide) ..

/-! ## Words of the owner key (R324, R333) -/

theorem Mach.mayWrite_p0key {m : Mach} {a : Acc} {r : Row} (h : m.byP0 a) (hw : r.writer = .p0key) (addr : Nat) : m.mayWrite r (m.bind a) addr = true := by
  obtain ⟨-, hp0, -⟩ := h
  unfold Who.isP0 at hp0
  rw [beq_iff_eq] at hp0
  unfold Mach.mayWrite
  rw [hw, hp0]
  split <;> rfl

theorem Mach.opens_partEn {m : Mach} {a : Acc} (h : m.byP0 a) (hk : m.mayOwnKey (m.bind a) 0x0800B0 = true) : m.opens a 0x0800B0 partEnRow := by
  refine ⟨h.1, h.2.2, .inl (Who.isP0_bound h.2.1), by decide, by decide, .inl (by decide), .inr (.inl (by decide)), Mach.mayWrite_p0key h rfl _,
    .inr h.2.1, .inr hk, rfl, .inl (by decide), ?_, ?_, .inl (by decide)⟩
  · simp [Mach.svcBusy]
  · simp [Mach.grpPending]

theorem Mach.write_partEn {m : Mach} {a : Acc} (d : Word) (h : m.byP0 a) (hk : m.mayOwnKey (m.bind a) 0x0800B0 = true) :
    let m1 := m.begun a 0x0800B0
    let new := blend (m1.reg 0x0800B0) d 0xFFFE
    m.write a 0x0800B0 d = (m1.store 0x0800B0 new).partEnHook (m1.reg 0x0800B0) new := by
  intro m1 new
  rw [Mach.write_easy _ (Mach.opens_partEn h hk) rfl rfl rfl (by decide) (key := 0x0800B0) rfl, writeNew_blend rfl (by decide),
    show (word partEnRow.rw ||| word partEnRow.own) &&& ~~~ (word partEnRow.trg) = 0xFFFE by decide]
  rfl

/-- A register of nibbles that the owner key gives away: nothing but OWN bits in one word. -/
def ownedWhole (addr : Nat) (r : Row) : Bool :=
  r.writer == .p0key && r.inst == .one && r.own == 0xFFFFFFFF && r.rw == 0 && r.key == 0 && r.cfg == 0 && r.trg == 0 && r.w1c == 0 && !r.wm &&
    winOf addr == none

theorem ownership_address : ∀ i : Fin 42, (rowOf (0x080000 + 4 * i.val)).any (ownedWhole (0x080000 + 4 * i.val)) = true := by
  decide +kernel

theorem blend_ones (old d : Word) : blend old d 0xFFFFFFFF = d := by
  unfold blend
  rw [show ~~~ (0xFFFFFFFF : Word) = 0 by decide]
  exact (congrArg₂ (· ||| ·) (BitVec.and_zero (x := old)) (BitVec.and_allOnes (x := d))).trans BitVec.zero_or

/-- What the ownership register takes, and the mark of a nibble that keeps its value. -/
def Mach.ownStore (addr : Nat) (d : Word) (m : Mach) : Mach :=
  let new := m.ownNibbles addr (m.reg addr) d
  (if new = d then m else m.put PART_GSTAT.OWNREJ 1).setReg addr new

theorem Mach.ownStore_todo (addr : Nat) (d : Word) (m : Mach) : (m.ownStore addr d).todo = m.todo := by
  unfold Mach.ownStore
  dsimp only
  split <;> rfl

theorem Mach.fieldUpdate_own {m : Mach} {a : Acc} {w : Who} {addr : Nat} {r : Row} (d : Word) (armed : Bool) (h0 : 0x080000 ≤ addr)
    (h1 : addr < 0x0800A8) (hr : ownedWhole addr r = true) :
    m.fieldUpdate w a r addr addr d true armed =
      (m.ownStore addr d).push (.hook w a addr d (m.reg addr) (m.ownNibbles addr (m.reg addr) d)) := by
  simp only [ownedWhole, Bool.and_eq_true, beq_iff_eq, Bool.not_eq_true'] at hr
  obtain ⟨⟨⟨⟨⟨⟨⟨⟨⟨hwr, hi⟩, hown⟩, hrw⟩, hkey⟩, hcfg⟩, htrg⟩, hw1c⟩, hwm⟩, -⟩ := hr
  have hal : aonAlias addr = none := by
    unfold aonAlias
    rw [if_neg (by rw [beq_iff_eq]; omega), if_neg (by rw [beq_iff_eq]; omega), if_neg (by rw [beq_iff_eq]; omega)]
  have hheld : m.heldWord addr addr = m.reg addr := by unfold Mach.heldWord; rw [hal]
  have hmask : m.writeMask w r addr d true armed = 0xFFFFFFFF := by
    unfold Mach.writeMask
    simp [hwr, hwm, hkey, hrw, hown, hcfg, word]
  have hz : ∀ v : Word, ¬ (v &&& word r.cfg ≠ 0) := by
    intro v
    rw [hcfg]
    simp [word]
  have hones : (0xFFFFFFFF : Word) &&& ~~~ (word r.trg) = 0xFFFFFFFF := by rw [htrg]; decide
  have hpg : (r.writer == Writer.pgpo) = false := by rw [hwr]; rfl
  have hall : d &&& (0xFFFFFFFF ||| word r.w1c) = d := by
    rw [hw1c, show (0xFFFFFFFF : Word) ||| word 0 = 0xFFFFFFFF by decide]
    exact BitVec.and_allOnes
  unfold Mach.fieldUpdate
  dsimp only
  rw [hheld, hmask, writeNew_blend hw1c (by omega), hones, blend_ones, if_neg (not_and_decide (hz _))]
  simp only [hwm, hpg, Bool.false_and, Bool.false_eq_true, if_false]
  rw [hall]
  unfold Mach.storeWord
  dsimp only
  rw [hheld, hal]
  exact if_pos (by simp; omega)

theorem Mach.write_ownership {m : Mach} {a : Acc} {addr : Nat} (d : Word) (h : m.byP0 a) (hk : m.mayOwnKey (m.bind a) addr = true)
    (h4 : addr % 4 = 0) (h0 : 0x080000 ≤ addr) (h1 : addr < 0x0800A8) :
    let m1 := m.begun a addr
    m.write a addr d = (m1.ownStore addr d).ownHook addr (m1.reg addr) (m1.ownNibbles addr (m1.reg addr) d) := by
  have hi : addr = 0x080000 + 4 * ((addr - 0x080000) / 4) := by omega
  have hany := ownership_address ⟨(addr - 0x080000) / 4, by omega⟩
  rw [← hi] at hany
  obtain ⟨r, hrow, hr⟩ := (Option.any_eq_true _ _).mp hany
  have hfields := hr
  simp only [ownedWhole, Bool.and_eq_true, beq_iff_eq, Bool.not_eq_true'] at hfields
  obtain ⟨⟨⟨⟨⟨⟨⟨⟨⟨hwr, hinst⟩, hown⟩, hrw⟩, hkey⟩, hcfg⟩, htrg⟩, hw1c⟩, hwm⟩, hwin⟩ := hfields
  have hnu := Who.isP0_bound h.2.1
  have hik : instKey r (m.bind a) a addr = addr := by unfold instKey; rw [hinst]
  have hmay : m.unmarked.mayWrite r (m.bind a) addr = true := Mach.mayWrite_p0key h hwr addr
  have hlock : m.unmarked.lockedGrp r (m.bind a) addr = none := by unfold Mach.lockedGrp; rw [hwr]; rfl
  have hbusy : (m.begun a addr).svcBusy addr = false := by
    simp only [Mach.svcBusy, Bool.and_eq_false_iff, Bool.or_eq_false_iff, decide_eq_false_iff_not]
    omega
  have hgated : m.unmarked.gatedWrite (m.bind a) a r addr d =
      (m.begun a addr).fieldUpdate (m.bind a) a r addr addr d true (m.unmarked.isArmed (m.bind a) addr && true) := by
    have hok : m.unmarked.mayOwnKey (m.bind a) addr = true := hk
    unfold Mach.gatedWrite
    dsimp only
    rw [hik, h.2.1, hok, hmay]
    simp only [Bool.true_or, Bool.or_true, Bool.true_and, Bool.not_true, Bool.and_false, Bool.false_eq_true, if_false, if_true]
    rw [hlock]
    dsimp only
    simp only [hkey, decide_true, Bool.true_or, if_true]
    rw [show m.unmarked.spent (m.bind a) addr = m.begun a addr from rfl, hbusy, if_neg (by decide),
      if_neg (by simp; omega)]
  intro m1
  unfold Mach.write
  rw [Mach.busWrite_gated d h.1 (.inl hnu) hrow h4 (.inl (by omega)) (.inr (.inl (by rw [hinst]; decide))) hwin (by omega), hgated,
    Mach.fieldUpdate_own d _ h0 h1 hr, Mach.grpTouch_push, Mach.grpTouch_other _ _ (by omega) hwin,
    Mach.settleFor_push _ (by rw [Mach.ownStore_todo, Mach.begun_todo, h.2.2])]
  show Mach.hook _ _ _ _ _ _ _ = _
  unfold Mach.hook
  rw [show addr / 0x10000 = 8 by omega]
  exact if_pos h1

/-! ## The end of a clearing (R324), and the bucket (R344) -/

theorem Mach.clearDone_stays {m : Mach} {p : Nat} (hs : m.pstate p = 3) (h : p = 0 ∨ (m.reg 0x0800B0).getLsbD p = true) :
    m.clearDone p = ((m.put (PART_STAT.STATE p) 1).put (PART_EVT.RSTDONE p) 1).event p 6 0 (word (p + 256 * m.f (PART_STAT.CAUSE p))) 0 :=
  (if_neg (not_not_intro hs)).trans (if_pos (by rcases h with h | h <;> simp [h]))

theorem Mach.clearDone_disables {m : Mach} {p : Nat} (hs : m.pstate p = 3) (hp : p ≠ 0) (h : (m.reg 0x0800B0).getLsbD p = false) :
    m.clearDone p = (m.put (PART_STAT.STATE p) 0).dropBindings p :=
  (if_neg (not_not_intro hs)).trans (if_neg (by simp [hp, h]))

theorem Mach.partCleared_done {m n : Mach} {p : Nat} (hs : m.pstate p = 3) (hn : m.clearDone p = n) (hr : n.boot.restart ≠ some p) :
    m.partCleared p = n := by
  subst hn
  exact (if_neg (not_not_intro hs)).trans (if_neg hr)

/-- A token is added to a bucket that is not full. -/
def Mach.tokenAdded (p : Nat) (m : Mach) : Mach :=
  ((m.reach (.token p) (Nat.max 1 (m.f (PART_SVC.BRATE p)) * usec)).stopTimer (.token p)).put (PART_STAT.TOKENS p) (m.f (PART_STAT.TOKENS p) + 1)

theorem Mach.tokenRefill_open {m : Mach} {p : Nat} (hi : m.instd p = true) (hd : m.f (PART_STAT.TOKENS p) < m.depth p) :
    m.tokenRefill p = (m.tokenAdded p).bucketClock p :=
  if_pos (by simp [hi, hd])

/-- Settles O29: resets, enables, the end of a clearing, ownership and the bucket. -/
theorem partitionCommands : Obligations.PartitionCommands := by
  unfold Obligations.PartitionCommands
  intro s
  refine ⟨fun a p h => does_act (f := fun m => m.askReset a p.val true) (Mach.write_orst p h),
    fun a p k hb hu ht => does_act (f := fun m => m.askReset a p.val false) (Mach.write_partCtl p hb hu ht),
    fun a d h hk => does_act (Mach.write_partEn d h hk), fun a addr d h hk h4 h0 h1 => ?own,
    fun p hs => ⟨fun h hr => does_act (Mach.partCleared_done hs (Mach.clearDone_stays hs h) hr),
      fun hp h hr => does_act (Mach.partCleared_done hs (Mach.clearDone_disables hs hp h) hr)⟩,
    fun p => ⟨fun hi hd => ⟨fun hfull => does_act ((Mach.tokenRefill_open hi hd).trans (if_pos hfull)), fun hopen hn => does_act ?refill⟩,
      fun h => does_act (if_neg ?idle)⟩⟩
  case own =>
    refine does_act (f := fun m => if 0x080000 ≤ addr.toNat && addr.toNat < 0x0800A8 then m.write a addr.toNat d else m)
      ((if_pos (by simp [h0, h1])).trans (Mach.write_ownership d h hk h4 h0 h1))
  case refill =>
    refine (Mach.tokenRefill_open hi hd).trans ((if_neg (Nat.not_le.mpr hopen)).trans (if_pos ?_))
    exact Option.isNone_iff_eq_none.mpr hn
  case idle =>
    rcases h with h | h
    · simp [h]
    · simp [Nat.not_lt.mpr h]

end Sys2Proof.Machine
end

section
/-! SUPPORT. ATTACH and UNBIND (R113, R335 to R338). -/
namespace Sys2Proof.Machine
open Sys2Proof Sys2Proof.Laws

/-- The rows of ATT_CTL and ATT_BIND. -/
def attCtlRow : Row := { name := "ATT_CTL", base := 0x080320, inst := .port, writer := .each, rw := 1, trg := 1 }
def attBindRow : Row := { name := "ATT_BIND", base := 0x080328, inst := .port, writer := .each, w1c := 0xFFFF }

/-- A register of the port is every access's, bound or not. -/
theorem Mach.mayWrite_port {r : Row} (hw : r.writer = .each) (hi : r.inst = .port) (m : Mach) (w : Who) (addr : Nat) : m.mayWrite r w addr = true := by
  unfold Mach.mayWrite
  rw [hw, hi]
  cases w <;> simp [Who.rights]

/-- No check refuses a register of the port, once a partition exists or the access is bound. -/
theorem Mach.opens_port {m : Mach} {a : Acc} {addr : Nat} {r : Row} (hu : m.hostUp = true) (ht : m.todo = [])
    (hb : m.bind a ≠ .unbound ∨ m.anyInst = true) (hr : rowOf addr = some r) (hord : r.ordinary addr = true) (hw : r.writer = .each) (hi : r.inst = .port)
    (ho : r.own = 0) (h0 : 0x080000 ≤ addr) (h1 : addr < 0x090000) : m.opens a addr r := by
  refine ⟨hu, ht, hb.imp id fun h => ⟨hi, h⟩, hr, hord, .inl (by omega), .inr (.inl (by rw [hi]; decide)), Mach.mayWrite_port hw hi .., .inl ho,
    .inl (by rw [hw]; decide), ?_, .inl (by omega), ?_, ?_, .inl ?_⟩
  · unfold Mach.lockedGrp
    rw [hw]
    rfl
  · simp only [Mach.svcBusy, Bool.and_eq_false_iff, Bool.or_eq_false_iff, decide_eq_false_iff_not]
    omega
  · simp only [Mach.grpPending, Bool.and_eq_false_iff, Bool.or_eq_false_iff, decide_eq_false_iff_not]
    omega
  · simp only [grpLimited, Bool.and_eq_false_iff, Bool.or_eq_false_iff, decide_eq_false_iff_not, beq_eq_false_iff_ne]
    omega

/-- Before a partition exists, an unbound access changes nothing but the marks of the access (R113). -/
theorem Mach.write_unbound {m : Mach} {a : Acc} {addr : Nat} {r : Row} (d : Word) (hu : m.hostUp = true) (ht : m.todo = []) (hb : m.bind a = .unbound)
    (hn : m.anyInst = false) (hr : rowOf addr = some r) (h4 : addr % 4 = 0) (h0 : 0x080000 ≤ addr) (h1 : addr < 0x090000) :
    m.write a addr d = m.unmarked := by
  have hany : m.unmarked.anyInst = false := hn
  have htea : m.unmarked.teaselOpen addr = false := by
    simp only [Mach.teaselOpen, Bool.and_eq_false_iff, Bool.or_eq_false_iff, beq_eq_false_iff_ne, decide_eq_false_iff_not]
    omega
  have hup : ¬ (!m.unmarked.hostUp) = true := by rw [show m.unmarked.hostUp = m.hostUp from rfl, hu]; decide
  have hsame : m.busWrite a addr d = m.unmarked := by
    unfold Mach.busWrite
    dsimp only
    rw [if_neg hup, if_neg (not_not_intro h4), if_neg (by simp; omega), hr]
    exact if_pos (by rw [hb, hany, htea]; simp)
  unfold Mach.write
  rw [hsame]
  exact Mach.settleFor_nil 1 ht

theorem Mach.write_attCtl {m : Mach} {a : Acc} (hu : m.hostUp = true) (ht : m.todo = []) (hb : m.bind a ≠ .unbound ∨ m.anyInst = true) :
    m.write a 0x080320 1 = (m.begun a 0x080320).attach a.port (portInst a) := by
  have hopen := Mach.opens_port (a := a) hu ht hb (show rowOf 0x080320 = some attCtlRow by decide) (by decide) rfl rfl rfl (by decide) (by decide)
  rw [Mach.write_easy _ hopen rfl rfl rfl (by decide) (key := 0x080320 + portInst a * instSpan) rfl, writeNew_blend rfl (by decide),
    show (word attCtlRow.rw ||| word attCtlRow.own) &&& ~~~ (word attCtlRow.trg) = 0 by decide, blend_zero, Mach.store_same]
  rfl

theorem Mach.write_attBind {m : Mach} {a : Acc} (d : Word) (hu : m.hostUp = true) (ht : m.todo = []) (hb : m.bind a ≠ .unbound ∨ m.anyInst = true) :
    let key := 0x080328 + portInst a * instSpan
    let m1 := m.begun a 0x080328
    m.write a 0x080328 d = (m1.store key (m1.reg key &&& ~~~ (d &&& 0xFFFF))).unbindHook (portInst a) (d &&& 0xFFFF) := by
  have hopen := Mach.opens_port (a := a) hu ht hb (show rowOf 0x080328 = some attBindRow by decide) (by decide) rfl rfl rfl (by decide) (by decide)
  have hnew : ∀ old : Word, writeNew attBindRow 0x080328 d old (word attBindRow.rw ||| word attBindRow.own) = old &&& ~~~ (d &&& 0xFFFF) := by
    intro old
    unfold writeNew
    rw [if_neg (by decide), if_neg (by decide), if_neg (by decide),
      show (word attBindRow.rw ||| word attBindRow.own) &&& ~~~ (word attBindRow.trg) = 0 by decide, blend_zero]
    rfl
  intro key m1
  rw [Mach.write_easy _ hopen rfl rfl rfl (by decide) (key := key) rfl, hnew]
  rfl

/-! ## The checks of the message, in their order (R337) -/

/-- The message of ATTACH. -/
def Mach.attMsg (m : Mach) (i : Nat) : List Byte := (List.range 8).flatMap (fun k => wordBytes (m.f ((ATT_DATA.DATA k).inst i)))

/-- Its form. -/
def attForm (port : Port) (i : Nat) (msg : List Byte) : Prop :=
  byteAt msg 0 = 0xA7 ∧ byteAt msg 1 < 16 ∧ byteAt msg 2 = portNum port ∧ byteAt msg 8 = instNode i ∧ fieldAt msg 9 7 = 0

/-- Its key is in the AUTH set of its partition. -/
def Mach.attKeyed (m : Mach) (msg : List Byte) : Prop :=
  0 < byteAt msg 3 ∧ byteAt msg 3 ≤ 5 ∧ (m.reg (0x080400 + 0x20 * (byteAt msg 1 % 16))).getLsbD (byteAt msg 3) = true

theorem attForm_fails {port : Port} {i : Nat} {msg : List Byte} : ¬ attForm port i msg ↔
    (decide (byteAt msg 0 ≠ 0xA7) || decide (16 ≤ byteAt msg 1) || decide (byteAt msg 2 ≠ portNum port) || decide (byteAt msg 8 ≠ instNode i) ||
      decide (fieldAt msg 9 7 ≠ 0)) = true := by
  simp only [attForm, Bool.or_eq_true, decide_eq_true_eq]
  omega

theorem Mach.attKeyed_fails {m : Mach} {msg : List Byte} : ¬ m.attKeyed msg ↔
    (decide (byteAt msg 3 = 0) || decide (5 < byteAt msg 3) || !(m.reg (0x080400 + 0x20 * (byteAt msg 1 % 16))).getLsbD (byteAt msg 3)) = true := by
  simp only [Mach.attKeyed, Bool.or_eq_true, decide_eq_true_eq, Bool.not_eq_true']
  cases (m.reg (0x080400 + 0x20 * (byteAt msg 1 % 16))).getLsbD (byteAt msg 3) with
  | false => simp
  | true => simp; omega

theorem Mach.attachCheck_form {m : Mach} {port : Port} {i : Nat} (h : ¬ attForm port i (m.attMsg i)) : m.attachCheck port i = (m, 1) :=
  if_pos (attForm_fails.mp h)

theorem Mach.attachCheck_partition {m : Mach} {port : Port} {i : Nat} (h : attForm port i (m.attMsg i))
    (hp : m.instd (byteAt (m.attMsg i) 1 % 16) = false) : m.attachCheck port i = (m, 2) :=
  (if_neg (fun hf => attForm_fails.mpr hf h)).trans (if_pos (Bool.not_eq_true' _ ▸ hp))

theorem Mach.not_instd {m : Mach} {p : Nat} (h : m.instd p = true) : ¬ (!m.instd p) = true := by simp [h]

/-- A failure is raised with its result. -/
def Mach.attFails (port : Port) (p r : Nat) (m : Mach) : Mach × Nat := (m.raise fAttachFail p (word (portNum port)), r)

theorem Mach.attachCheck_key {m : Mach} {port : Port} {i : Nat} (h : attForm port i (m.attMsg i)) (hp : m.instd (byteAt (m.attMsg i) 1 % 16) = true)
    (hk : ¬ m.attKeyed (m.attMsg i)) : m.attachCheck port i = m.attFails port (byteAt (m.attMsg i) 1 % 16) 3 :=
  (if_neg (fun hf => attForm_fails.mpr hf h)).trans ((if_neg (Mach.not_instd hp)).trans (if_pos (Mach.attKeyed_fails.mp hk)))

/-- The authentication of the message. -/
def Mach.attAuth (m : Mach) (msg : List Byte) : Mach × Nat :=
  m.authCheck (byteAt msg 3) (fieldAt msg 4 4) (msg.take 16) (msg.drop 16) (0xA7 + 256 * (byteAt msg 1 % 16))

/-- What the result of the authentication makes. -/
def attResult (port : Port) (i p k : Nat) (r : Mach × Nat) : Mach × Nat :=
  match r.2 with
  | 0 => ((r.1.setReg (0x080328 + i * instSpan) (setF (r.1.reg (0x080328 + i * instSpan)) p 1 1)).put ((ATT_KEY.KEY p).inst i) k, 0)
  | 1 => r.1.attFails port p 4
  | 2 => r.1.attFails port p 5
  | _ => r.1.attFails port p 6

theorem Mach.attachCheck_auth {m : Mach} {port : Port} {i : Nat} (h : attForm port i (m.attMsg i)) (hp : m.instd (byteAt (m.attMsg i) 1 % 16) = true)
    (hk : m.attKeyed (m.attMsg i)) :
    m.attachCheck port i = attResult port i (byteAt (m.attMsg i) 1 % 16) (byteAt (m.attMsg i) 3) (m.attAuth (m.attMsg i)) :=
  (if_neg (fun hf => attForm_fails.mpr hf h)).trans ((if_neg (Mach.not_instd hp)).trans
    ((if_neg (fun hf => Mach.attKeyed_fails.mpr hf hk)).trans rfl))

theorem attResult_passes {port : Port} {i p k : Nat} {r : Mach × Nat} (h : r.2 = 0) : attResult port i p k r =
    ((r.1.setReg (0x080328 + i * instSpan) (setF (r.1.reg (0x080328 + i * instSpan)) p 1 1)).put ((ATT_KEY.KEY p).inst i) k, 0) := by
  unfold attResult
  rw [h]
  rfl

theorem attResult_fails {port : Port} {i p k : Nat} {r : Mach × Nat} (h : r.2 ≠ 0) :
    attResult port i p k r = r.1.attFails port p (if r.2 = 1 then 4 else if r.2 = 2 then 5 else 6) := by
  unfold attResult
  split
  · next h0 => exact absurd h0 h
  · next h1 => rw [if_pos h1]
  · next h2 => rw [if_neg (by omega), if_pos h2]
  · next h0 h1 h2 => rw [if_neg h1, if_neg h2]

/-- What ATTACH shows of its result. -/
def Mach.attShown (i part : Nat) (r : Mach × Nat) : Mach :=
  ((r.1.put (ATT_STAT.DONE.inst i) 1).put (ATT_STAT.RES.inst i) r.2).put (ATT_STAT.PART.inst i) part

theorem Mach.attach_shown {m : Mach} {port : Port} {i : Nat} {r : Mach × Nat} (h : m.attachCheck port i = r) :
    m.attach port i = Mach.attShown i (getF (m.reg (0x080300 + i * instSpan)) 8 4) r := by
  subst h
  rfl

/-- Settles O30: an access before a partition exists, the checks of ATTACH in their order, and UNBIND. -/
theorem attachCommands : Obligations.AttachCommands := by
  unfold Obligations.AttachCommands
  intro s a hu ht
  refine ⟨fun hb hn => ⟨does_act (Mach.write_unbound 1 hu ht hb hn (show rowOf 0x080320 = some attCtlRow by decide) (by decide) (by decide) (by decide)),
      fun d => does_act (Mach.write_unbound d hu ht hb hn (show rowOf 0x080328 = some attBindRow by decide) (by decide) (by decide) (by decide))⟩,
    fun hb => ⟨fun hf => ?form, fun hf hp => ?part, fun hf hp hk => ?key, fun hf hp hk => ⟨fun hr => ?passes, fun hr => ?fails⟩⟩,
    fun hb => does_act (Mach.write_attCtl hu ht hb), fun d hb => does_act (Mach.write_attBind d hu ht hb)⟩
  all_goals have hw := Mach.write_attCtl hu ht hb
  case form =>
    have hshown := Mach.attach_shown (Mach.attachCheck_form (m := s.m.begun a 0x080320) (port := a.port) (i := portInst a) hf)
    exact does_act (hw.trans hshown)
  case part =>
    have hshown := Mach.attach_shown (Mach.attachCheck_partition (m := s.m.begun a 0x080320) (port := a.port) (i := portInst a) hf hp)
    exact does_act (hw.trans hshown)
  case key =>
    have hshown := Mach.attach_shown (Mach.attachCheck_key (m := s.m.begun a 0x080320) (port := a.port) (i := portInst a) hf hp hk)
    exact does_act (hw.trans hshown)
  case passes =>
    have hcheck := Mach.attachCheck_auth (m := s.m.begun a 0x080320) (port := a.port) (i := portInst a) hf hp hk
    have hshown := Mach.attach_shown (hcheck.trans (attResult_passes hr))
    exact does_act (hw.trans hshown)
  case fails =>
    have hcheck := Mach.attachCheck_auth (m := s.m.begun a 0x080320) (port := a.port) (i := portInst a) hf hp hk
    have hshown := Mach.attach_shown (hcheck.trans (attResult_fails hr))
    exact does_act (hw.trans hshown)

end Sys2Proof.Machine
end

section
/-! SUPPORT. SPI frames and I2C transfers (chapter 15). -/
namespace Sys2Proof.Machine
open Sys2Proof Sys2Proof.Laws

/-! ## SPI -/

theorem leNat_lt : ∀ b : List Byte, leNat b < 256 ^ b.length
  | [] => by decide
  | x :: b => by
    have hx := x.isLt
    have hb := leNat_lt b
    rw [leNat, List.length_cons, Nat.pow_succ]
    omega

theorem byteAt_lt (b : List Byte) (i : Nat) : byteAt b i < 2 ^ 8 := by
  have hlen : ((b.drop i).take 1).length ≤ 1 := List.length_take_le ..
  exact (leNat_lt _).trans_le (Nat.pow_le_pow_right (by decide) hlen)

/-- TAG.FIX of a frame's second byte. -/
theorem tagFix {tag : Nat} (h : tag < 2 ^ 8) : getF (word tag) 6 1 = tag / 64 % 2 := by
  have hval : (word tag).toNat = tag := (BitVec.toNat_ofNat ..).trans (Nat.mod_eq_of_lt (by omega))
  exact (congrArg (fun n => (n >>> 6) % 2) hval).trans (congrArg (· % 2) (Nat.shiftRight_eq_div_pow tag 6))

/-- The form of a header, apart from its CRC and its span. -/
def spiFormBad (cmd tag : Nat) : Bool := cmd / 64 % 2 = 1 || cmd % 16 ≠ 10 || tag / 16 % 4 ≠ 0 || (decide (128 ≤ cmd) && cmd / 16 % 4 != 0)

/-- The frame that a header begins. -/
def spiFrame (b : List Byte) : Spi :=
  { phase := 1, rd := 128 ≤ byteAt b 0, seg := byteAt b 0 / 16 % 4, tagv := 128 ≤ byteAt b 1, fix := byteAt b 1 / 64 % 2 == 1, part := byteAt b 1 % 16,
    addr := fieldAt b 2 3, len := byteAt b 5 + 1, crc := crc16 (b.take 6) }

theorem Mach.spiHeader_checks {m : Mach} {b : List Byte} (hu : m.hostUp = true) (hp : m.spi.phase ≠ 1) (hb : b.length = 8) :
    m.spiHeader b =
      if fieldAt b 6 2 ≠ crc16 (b.take 6) then (m.spiNak 1 0).raise fSpiCrc 0 (word (fieldAt b 6 2))
      else if spiFormBad (byteAt b 0) (byteAt b 1) then m.spiNak 2 0
      else if !(byteAt b 1 / 64 % 2 == 1) && 0xFFFFFC < fieldAt b 2 3 + 4 * byteAt b 5 then m.spiNak 3 0
      else { m with spi := { spiFrame b with unb := m.bind (spiFrame b).access == .unbound } } := by
  unfold Mach.spiHeader
  dsimp only
  rw [if_neg (by simp [hu, hp, hb]), tagFix (byteAt_lt b 1)]
  rfl

theorem Mach.spiSegment_framed {m : Mach} {run : Mach → Mach} {words : List Word} {crc : Nat} (hu : m.hostUp = true) (hp : m.spi.phase = 1)
    (hr : m.spi.rd = false) (hw : words.length = m.spi.segWords) :
    m.spiSegment run words crc =
      let c := (words.flatMap wordBytes).foldl crc16Byte m.spi.crc
      if c ≠ crc then (m.spiNak 4 m.spi.pos).raise fSpiCrc 0 (word crc)
      else (words.foldl (fun t d => t.spiWord run d) (m.updSpi (fun x => { x with crc := c }))).spiWritten :=
  if_neg (by simp [hu, hp, hr, hw])

/-- Settles O31: headers, write segments, read frames and cut frames. -/
theorem spiCommands : Obligations.SpiCommands := by
  unfold Obligations.SpiCommands
  intro s hu
  refine ⟨fun b hp hb => ⟨fun hc => does_act ((Mach.spiHeader_checks hu hp hb).trans (if_pos hc)), fun hc hf => ?badForm,
      fun hc h1 h2 h3 h4 => ⟨fun hfix hspan => ?badSpan, fun hspan => ?begins⟩⟩,
    fun words crc hp hr hw => ⟨fun hc => does_act ((Mach.spiSegment_framed hu hp hr hw).trans (if_pos hc)),
      fun hc => does_act ((Mach.spiSegment_framed hu hp hr hw).trans (if_neg (not_not_intro hc)))⟩,
    fun hp hr => ⟨does_act (if_neg (by simp [hu, hp, hr])), fun fetched sent hs hf => ?cut⟩,
    fun hp => does_act ((if_neg (by simp [hu])).trans (if_pos hp)), fun hp => does_act ?abort, fun hp => does_act ?header⟩
  case badForm =>
    refine does_act ((Mach.spiHeader_checks hu hp hb).trans ((if_neg (not_not_intro hc)).trans (if_pos ?_)))
    simp only [spiFormBad, Bool.or_eq_true, Bool.and_eq_true, decide_eq_true_eq, bne_iff_ne]
    omega
  case badSpan =>
    have hform : ¬ spiFormBad (byteAt b 0) (byteAt b 1) = true := by
      simp only [spiFormBad, Bool.or_eq_true, Bool.and_eq_true, decide_eq_true_eq, bne_iff_ne]
      omega
    refine does_act ((Mach.spiHeader_checks hu hp hb).trans ((if_neg (not_not_intro hc)).trans ((if_neg hform).trans (if_pos ?_))))
    simp only [Bool.and_eq_true, Bool.not_eq_true', beq_eq_false_iff_ne, decide_eq_true_eq]
    exact ⟨by omega, hspan⟩
  case begins =>
    have hform : ¬ spiFormBad (byteAt b 0) (byteAt b 1) = true := by
      simp only [spiFormBad, Bool.or_eq_true, Bool.and_eq_true, decide_eq_true_eq, bne_iff_ne]
      omega
    refine does_act ((Mach.spiHeader_checks hu hp hb).trans ((if_neg (not_not_intro hc)).trans ((if_neg hform).trans (if_neg ?_))))
    simp only [Bool.and_eq_true, Bool.not_eq_true', beq_eq_false_iff_ne, decide_eq_true_eq]
    omega
  case cut =>
    refine does_act ((if_neg (by simp [hu, hp, hr])).trans ?_)
    dsimp only [Option.elim]
    rw [show Nat.min s.m.spi.len fetched = fetched from Nat.min_eq_right hf, show Nat.min fetched sent = sent from Nat.min_eq_right hs]
    rfl
  case abort =>
    refine (if_neg (by simp [hu])).trans ((if_neg (by omega)).trans ?_)
    rw [if_pos hp]
    rfl
  case header =>
    refine (if_neg (by simp [hu])).trans ((if_neg (by omega)).trans ?_)
    rw [if_neg (by omega)]
    rfl

/-! ## I2C -/

/-- Settles O32: headers, groups, reads and cut transfers. -/
theorem i2cCommands : Obligations.I2cCommands := by
  unfold Obligations.I2cCommands
  intro s hu
  refine ⟨fun tag addr => ⟨fun h => does_act ((if_neg (by simp [hu])).trans (if_pos h)),
      fun h => does_act ((if_neg (by simp [hu])).trans (if_neg (not_not_intro h)))⟩,
    fun d hw => does_act (if_neg (by simp [hu, hw])), fun first n hn => does_act ((if_neg (by simp [hu])).trans ?read),
    fun n => ⟨does_act (if_neg (by simp [hu])), fun hw => does_act (if_neg (by simp [hu, hw])), fun hw => does_act (if_pos (by simp [hw])),
      fun ho => does_act (if_pos (by simp [ho])), fun ho hw h4 hm => does_act ((if_neg (by simp [hu, ho])).trans ?partial_),
      fun ho hn => does_act ((if_neg (by simp [hu, ho])).trans ?whole)⟩⟩
  case read =>
    dsimp only
    rw [show Nat.min 4 n = n from Nat.min_eq_right hn]
    rfl
  case partial_ =>
    rw [if_pos (by simp [hw, h4, hm])]
    rfl
  case whole =>
    rw [if_neg (by rcases hn with h | h | h <;> simp [h])]
    rfl

end Sys2Proof.Machine
end

section
/-! SUPPORT. Pushes, pops and CLRHI, and which command is dispatched next (chapter 16). -/
namespace Sys2Proof.Machine
open Sys2Proof Sys2Proof.Laws

/-! ## Queue accesses (R372 to R374, R392, R396) -/

/-- The rows of CMD_PUSH, EVQ_POP, LDQ_POP and Q_STAT. -/
def cmdPushRow : Row := { name := "CMD_PUSH", base := 0x090440, inst := .portPart, kept := .part, writer := .each, rw := 3, trg := 1 }
def evqPopRow : Row := { name := "EVQ_POP", base := 0x090490, inst := .bank, kept := .part, writer := .each, rw := 0xFF, trg := 0xFF }
def ldqPopRow : Row := { name := "LDQ_POP", base := 0x0904B0, inst := .bank, kept := .part, writer := .each, rw := 0xFF, trg := 0xFF }
def qStatRow : Row :=
  { name := "Q_STAT", base := 0x090004, stride := 8, count := 64, writer := .queue, rw := 0x80000000, w1c := 0x2000000, trg := 0x80000000, live := true }

theorem Mach.mayWrite_each {r : Row} (hw : r.writer = .each) (m : Mach) (p k addr : Nat) : m.mayWrite r (.part p k) addr = true := by
  unfold Mach.mayWrite
  rw [hw]
  split <;> rfl

/-- A push of the staged descriptor: the verdict is shown and counted. -/
def Mach.pushed (p i : Nat) (m : Mach) : Mach :=
  let staged : Desc := { bytes := (List.range 16).flatMap (fun j => wordBytes (m.reg (0x090400 + 4 * j + i * instSpan))) }
  let r := m.enqueue p (m.fb (CMD_PUSH.URG.inst i)) false staged
  let m3 := r.1.put (CMD_PUSH_STAT.RES.inst i) r.2
  if r.2 = rOK then m3.put (CMD_PUSH_STAT.ACC.inst i) (m3.f (CMD_PUSH_STAT.ACC.inst i) + 1)
  else m3.put (CMD_PUSH_STAT.REF.inst i) (satInc 255 (m3.f (CMD_PUSH_STAT.REF.inst i)))

theorem Mach.cmdPushHook_go {m : Mach} {p k : Nat} {port : Port} {d : Word} (h : bitAt d 0 = true) :
    m.cmdPushHook (.part p k) port d = m.pushed p (1200 + 17 * portNum port + p) :=
  if_neg (by rw [h]; decide)

theorem Mach.write_cmdPush {m : Mach} {a : Acc} {p k : Nat} (d : Word) (hb : m.bind a = .part p k) (hu : m.hostUp = true) (ht : m.todo = []) :
    let i := 1200 + 17 * portNum a.port + p
    let key := 0x090440 + i * instSpan
    let m1 := m.begun a 0x090440
    m.write a 0x090440 (d ||| 1) = (m1.store key (blend (m1.reg key) d 2)).pushed p i := by
  have hopen : m.opens a 0x090440 cmdPushRow := Mach.opens_part hb hu ht (by decide) (by decide) (by decide) (Mach.mayWrite_each rfl ..) (by decide) rfl
    (by decide) (by decide) (by decide) (by decide)
  have hgo : bitAt ((d ||| 1) &&& (word cmdPushRow.rw ||| word cmdPushRow.own ||| word cmdPushRow.w1c)) 0 = true := by
    rw [bitAt, BitVec.getLsbD_and, BitVec.getLsbD_or, show (1 : Word).getLsbD 0 = true by decide, Bool.or_true]
    decide
  intro i key m1
  rw [Mach.write_easy _ hopen rfl rfl rfl (by decide) (key := key) (by rw [hb]; rfl), writeNew_blend rfl (by decide),
    show (word cmdPushRow.rw ||| word cmdPushRow.own) &&& ~~~ (word cmdPushRow.trg) = 2 by decide, blend_or_outside _ _ (by decide), hb]
  exact Mach.cmdPushHook_go hgo

theorem getF_low8 (d : Word) : getF (d &&& 0xFF) 0 8 = getF d 0 8 := by
  refine getF_and _ _ _ _ fun i hi => ?_
  have hm : ∀ j : Fin 8, (0xFF : Word).getLsbD (0 + j.val) = true := by decide
  exact hm ⟨i, hi⟩

theorem Mach.write_evqPop {m : Mach} {a : Acc} {p k : Nat} (d : Word) (hb : m.bind a = .part p k) (hu : m.hostUp = true) (ht : m.todo = []) :
    let key := 0x090490 + p * instSpan
    let m1 := m.begun a 0x090490
    m.write a 0x090490 d = (m1.store key (blend (m1.reg key) d 0)).pop (4 * p + 2) (getF d 0 8) := by
  have hopen : m.opens a 0x090490 evqPopRow := Mach.opens_part hb hu ht (by decide) (by decide) (by decide) (Mach.mayWrite_each rfl ..) (by decide) rfl
    (by decide) (by decide) (by decide) (by decide)
  intro key m1
  rw [Mach.write_easy _ hopen rfl rfl rfl (by decide) (key := key) (by rw [hb]; rfl), writeNew_blend rfl (by decide), hb, ← getF_low8]
  rfl

theorem Mach.write_ldqPop {m : Mach} {a : Acc} {p k : Nat} (d : Word) (hb : m.bind a = .part p k) (hu : m.hostUp = true) (ht : m.todo = []) :
    let key := 0x0904B0 + p * instSpan
    let m1 := m.begun a 0x0904B0
    m.write a 0x0904B0 d = (m1.store key (blend (m1.reg key) d 0)).pop (4 * p + 3) (getF d 0 8) := by
  have hopen : m.opens a 0x0904B0 ldqPopRow := Mach.opens_part hb hu ht (by decide) (by decide) (by decide) (Mach.mayWrite_each rfl ..) (by decide) rfl
    (by decide) (by decide) (by decide) (by decide)
  intro key m1
  rw [Mach.write_easy _ hopen rfl rfl rfl (by decide) (key := key) (by rw [hb]; rfl), writeNew_blend rfl (by decide), hb, ← getF_low8]
  rfl

theorem qStat_address : ∀ q : Fin 64, rowOf (0x090004 + 8 * q.val) = some qStatRow ∧ qStatRow.ordinary (0x090004 + 8 * q.val) = true := by
  decide

theorem setF_top_and (d : Word) : setF d 31 1 1 &&& 0x2000000 = d &&& 0x2000000 := by
  apply BitVec.eq_of_getLsbD_eq
  intro i hi
  rw [BitVec.getLsbD_and, BitVec.getLsbD_and, setF_getLsbD _ _ _ _ _ hi]
  by_cases h : 31 ≤ i ∧ i < 31 + 1
  · rw [if_pos h, show i = 31 by omega]
    simp
  · rw [if_neg h]

theorem Mach.hook_qStat (m : Mach) (w : Who) (a : Acc) (q : Fin 64) {d : Word} (hd : bitAt d 31 = true) (old new : Word) :
    m.hook w a (0x090004 + 8 * q.val) d old new = m.clearHi q.val := by
  have hq := q.isLt
  unfold Mach.hook
  rw [show (0x090004 + 8 * q.val) / 0x10000 = 9 by omega]
  refine (if_pos (by omega)).trans ((if_pos ?_).trans ?_)
  · rw [hd, Bool.and_true, decide_eq_true_eq]
    omega
  · rw [show (0x090004 + 8 * q.val - 0x090000) / 8 = q.val by omega]

theorem Mach.write_clrHi {m : Mach} {a : Acc} {p k : Nat} (q : Fin 64) (d : Word) (hq : q.val / 4 = p) (hb : m.bind a = .part p k)
    (hu : m.hostUp = true) (ht : m.todo = []) :
    let addr := 0x090004 + 8 * q.val
    let m1 := m.begun a addr
    m.write a addr (setF d 31 1 1) = (m1.store addr (blend (m1.reg addr) d 0 &&& ~~~ (d &&& 0x2000000))).clearHi q.val := by
  have hq64 := q.isLt
  obtain ⟨hrow, hord⟩ := qStat_address q
  have hmay : m.mayWrite qStatRow (.part p k) (0x090004 + 8 * q.val) = true := by
    unfold Mach.mayWrite
    split
    · rfl
    · exact beq_iff_eq.mpr (by rw [← hq]; omega)
  have hopen : m.opens a (0x090004 + 8 * q.val) qStatRow :=
    Mach.opens_part hb hu ht hrow hord (by omega) hmay (by decide) rfl (by decide) (by omega) (by omega) (by omega)
  have hnew : ∀ old : Word, writeNew qStatRow (0x090004 + 8 * q.val) (setF d 31 1 1) old (word qStatRow.rw ||| word qStatRow.own) =
      blend old d 0 &&& ~~~ (d &&& 0x2000000) := by
    intro old
    unfold writeNew
    rw [if_neg (by omega), if_neg (by omega), if_neg (by omega),
      show (word qStatRow.rw ||| word qStatRow.own) &&& ~~~ (word qStatRow.trg) = 0 by decide, blend_zero, blend_zero,
      show word qStatRow.w1c = 0x2000000 from rfl, setF_top_and]
  have hgo : bitAt (setF d 31 1 1 &&& (word qStatRow.rw ||| word qStatRow.own ||| word qStatRow.w1c)) 31 = true := by
    rw [bitAt, BitVec.getLsbD_and, setF_getLsbD _ _ _ _ _ (by decide), if_pos (by decide)]
    decide
  intro addr m1
  rw [Mach.write_easy _ hopen rfl rfl rfl (by omega) (key := addr) rfl, hnew]
  exact Mach.hook_qStat _ _ a q hgo ..

/-- Settles O33: a push, the pops, and the high-water marks. -/
theorem queueAccesses : Obligations.QueueAccesses := by
  unfold Obligations.QueueAccesses
  intro s a p k d hb hu ht
  refine ⟨⟨fun h => does_act ((Mach.write_cmdPush d hb hu ht).trans (if_pos h)), fun h => does_act ((Mach.write_cmdPush d hb hu ht).trans (if_neg h))⟩,
    ⟨does_act (Mach.write_evqPop d hb hu ht), does_act (Mach.write_ldqPop d hb hu ht)⟩,
    fun q hq => ⟨fun h => does_act ((Mach.write_clrHi q d hq hb hu ht).trans (if_pos h)),
      fun h => does_act ((Mach.write_clrHi q d hq hb hu ht).trans (if_neg (Nat.not_lt.mpr h)))⟩⟩

/-! ## Dispatch (R383 to R385) -/

theorem Mach.dispatch_urgent {m : Mach} {p : Nat} {d : Desc} (hp : m.powered = true) (hh : m.boot.held = false) (hu : m.urgent = none)
    (hn : m.nextUrgent = some p) (hd : m.ready p true = some d) :
    m.dispatch = ({ (m.takeToken p).put QENG_STAT.UPART p with lastUrgent := p } : Mach).take p true d := by
  unfold Mach.dispatch
  rw [if_neg (by simp [hp, hh, hu]), hn]
  dsimp only
  rw [hd]

theorem Mach.dispatch_normal {m : Mach} (hp : m.powered = true) (hh : m.boot.held = false) (hu : m.urgent = none) (hn : m.nextUrgent = none) :
    m.dispatch = if m.normal.isSome then m else m.nextNormal := by
  unfold Mach.dispatch
  rw [if_neg (by simp [hp, hh, hu]), hn]

/-- A visit begins: the partition's weight is added (R383). -/
def Mach.visit (p : Nat) (m : Mach) : Mach := { m.put (Q_DEF.DEF p) (m.deficit p + m.weight p) with lastNormal := p, visiting := false }

theorem Mach.unvisited {m : Mach} (h : m.visiting = false) : ({ m with visiting := false } : Mach) = m := by rw [← h]

theorem Mach.visit_fields {m : Mach} (h : m.visiting = false) (p : Nat) :
    ({ m.put (Q_DEF.DEF p) (m.deficit p + m.weight p) with lastNormal := p } : Mach) = m.visit p := by
  unfold Mach.visit
  rw [← h]
  rfl

theorem Mach.nextNormal_open {m : Mach} {d : Desc} (hv : m.visiting = true) (hf : m.fits m.lastNormal = some d) :
    m.nextNormal = m.serveNormal m.lastNormal d := by
  unfold Mach.nextNormal
  rw [hv, if_pos rfl, hf]

theorem Mach.nextNormal_closed {m : Mach} (hv : m.visiting = false) : m.nextNormal = m.visits 272 := by
  unfold Mach.nextNormal
  rw [hv, if_neg (by decide), Mach.unvisited hv]

theorem Mach.visits_empty {m : Mach} (k : Nat) (h : ∀ p, m.ready p false = none) : m.visits (k + 1) = m := by
  have hnone : (after m.lastNormal).find? (fun p => (m.ready p false).isSome) = none := List.find?_eq_none.mpr fun p _ => by simp [h]
  unfold Mach.visits
  rw [hnone]

theorem Mach.visits_fits {m : Mach} {p : Nat} {d : Desc} (k : Nat) (hv : m.visiting = false)
    (hp : (after m.lastNormal).find? (fun p => (m.ready p false).isSome) = some p) (hf : (m.visit p).fits p = some d) :
    m.visits (k + 1) = (m.visit p).serveNormal p d := by
  unfold Mach.visits
  rw [hp]
  dsimp only
  rw [Mach.visit_fields hv, hf]

/-- Settles O34: urgent heads first, then the weighted round robin. -/
theorem commandDispatch : Obligations.CommandDispatch := by
  unfold Obligations.CommandDispatch
  intro s hp hh hu
  refine ⟨fun p d hn hd => ⟨fun hlt hnone => does_act ?starts, fun hlt hsome => does_act ?runs, fun hle => does_act ?full⟩,
    fun hn => ⟨fun v hv => does_act ((Mach.dispatch_normal hp hh hu hn).trans (if_pos (by simp [hv]))),
      fun hno => ⟨fun d hv hf => does_act ?open_, fun hv hnone => does_act ?none_, fun p d hv hfind hf => does_act ?visits⟩⟩⟩
  case starts =>
    have htoken : s.m.takeToken p = (s.m.put (PART_STAT.TOKENS p) (s.m.f (PART_STAT.TOKENS p) - 1)).startTimer (.token p) :=
      (if_neg (Nat.not_le.mpr hlt)).trans (if_pos (by rw [hnone]; rfl))
    rw [Mach.dispatch_urgent hp hh hu hn hd, htoken]
  case runs =>
    have htoken : s.m.takeToken p = s.m.put (PART_STAT.TOKENS p) (s.m.f (PART_STAT.TOKENS p) - 1) :=
      (if_neg (Nat.not_le.mpr hlt)).trans (if_neg (by simpa using hsome))
    rw [Mach.dispatch_urgent hp hh hu hn hd, htoken]
  case full =>
    have htoken : s.m.takeToken p = (s.m.put (PART_STAT.TOKENS p) (s.m.f (PART_STAT.TOKENS p) - 1)).stopTimer (.token p) := if_pos hle
    rw [Mach.dispatch_urgent hp hh hu hn hd, htoken]
  all_goals refine (Mach.dispatch_normal hp hh hu hn).trans ((if_neg (by simp [hno])).trans ?_)
  case open_ => exact Mach.nextNormal_open hv hf
  case none_ => exact (Mach.nextNormal_closed hv).trans (Mach.visits_empty _ hnone)
  case visits => exact (Mach.nextNormal_closed hv).trans (Mach.visits_fits _ hv hfind hf)

end Sys2Proof.Machine
end

section
/-! SUPPORT. The commands in service: SVC_OPEN's session timer, hire, lockout and report commands (chapters 6, 16, 18 and 19). -/
namespace Sys2Proof.Machine
open Sys2Proof Sys2Proof.Laws

/-! ## SVC_OPEN starts the session's 60 s (R148) -/

/-- The SVC_OPEN command of partition 0. -/
def svcOpenServing : Serving := { part := 0, urgent := false, desc := { bytes := [0x50] } }

/-- A running device, 5 units after power, with SVC_OPEN in service. -/
def openingSession : Mach :=
  { dev := .run, boot := { held := false, clocks := true }, pwr := { pgMain := true }, now := 5, normal := some svcOpenServing }

/-- The start of the service session's timer, in the state that a command answers. -/
def sessionSince : Host.Outcome State Fault Refusal → Option Nat
  | .next s => s.m.since .svcSession
  | _ => none

/-- SVC_OPEN starts the session's timer. -/
theorem openingSession_starts : sessionSince (exec .svcOpen { m := openingSession, pending := [] }) = some 5 := by decide +kernel

/-- Refutes O35: the statement's SVC_OPEN sets SVC_STAT.OPEN and completes; the model's also starts the timer of the session's 60 s. -/
theorem not_commandsInService : ¬ Obligations.CommandsInService := by
  unfold Obligations.CommandsInService
  intro h
  obtain ⟨-, -, -, -, -, -, hopen⟩ := h { m := openingSession, pending := [] } svcOpenServing (Or.inr ⟨rfl, rfl⟩)
  have hsame := congrArg sessionSince (hopen rfl)
  exact absurd (openingSession_starts.symm.trans hsame) (by decide +kernel)

end Sys2Proof.Machine
end

section
/-! SUPPORT. Hire, lockout and report commands in service (R447, R453, R466, R480). -/
namespace Sys2Proof.Machine
open Sys2Proof Sys2Proof.Laws

/-- A row of the command table does what its command does on the one in service. -/
theorem does_serving {i : Instr} {s : State} {v : Serving} {op : Nat} {f : Serving → Mach → Mach} {x : Mach} (hv : s.m.serves v)
    (hop : v.desc.op = op) (hexec : ∀ t : State, exec i t = act (fun m => m.onCommand op f) t) (hx : f v s.m = x) : Does i s x :=
  (hexec s).trans (does_act (f := fun m => m.onCommand op f) ((Mach.onCommand_serves f hv hop).trans hx))

/-! ## Hire (R466) -/

theorem Mach.cmdHireOpen_refused {v : Serving} {m : Mach} (h : m.hireOpen (v.desc.arg 8 4) (v.desc.arg 12 4) = none) :
    Mach.cmdHireOpen v m = m.finish v rBAD_PARAM 0 := by
  unfold Mach.cmdHireOpen Mach.hireFinish
  rw [h]

theorem Mach.hireOpen_ended {m : Mach} {ses e : Nat} (h : m.hireEndOk e = false) : m.hireOpen ses e = none := if_pos (by rw [h]; rfl)

theorem Mach.hireOpen_closed {m : Mach} {ses e : Nat} (h : m.hireEndOk e = true) (hs : m.f HIRE_STAT.STATE = 0) :
    m.hireOpen ses e = if ses = 0 then none else
      some (((((((((m.theftClear 1).put HIRE_STAT.G 0).put HIRE_STAT.STATE 1).put HIRE_SES.SES ses).put HIRE_T0.T0 m.tod).put HIRE_END.TEND e).ledger
        0x40 ses (ses / 256)).immobRefresh), 0) :=
  (if_neg (by rw [h]; decide)).trans (if_pos hs)

theorem Mach.hireOpen_open {m : Mach} {ses e : Nat} (h : m.hireEndOk e = true) (hs : m.f HIRE_STAT.STATE ≠ 0) :
    m.hireOpen ses e = if ses ≠ m.f HIRE_SES.SES then none else some ((m.put HIRE_END.TEND e).ledger 0x43 ses (ses / 256), 1) :=
  (if_neg (by rw [h]; decide)).trans (if_neg hs)

theorem Mach.cmdHireOpen_opens {v : Serving} {m : Mach} (h : m.hireEndOk (v.desc.arg 12 4) = true) (hs : m.f HIRE_STAT.STATE = 0)
    (h0 : v.desc.arg 8 4 ≠ 0) :
    Mach.cmdHireOpen v m = (((((((((m.theftClear 1).put HIRE_STAT.G 0).put HIRE_STAT.STATE 1).put HIRE_SES.SES (v.desc.arg 8 4)).put HIRE_T0.T0
      m.tod).put HIRE_END.TEND (v.desc.arg 12 4)).ledger 0x40 (v.desc.arg 8 4) (v.desc.arg 8 4 / 256)).immobRefresh).finish v rOK 0) := by
  unfold Mach.cmdHireOpen Mach.hireFinish
  rw [Mach.hireOpen_closed h hs, if_neg h0]

theorem Mach.cmdHireOpen_replaces {v : Serving} {m : Mach} (h : m.hireEndOk (v.desc.arg 12 4) = true) (hs : m.f HIRE_STAT.STATE ≠ 0)
    (he : v.desc.arg 8 4 = m.f HIRE_SES.SES) :
    Mach.cmdHireOpen v m =
      (((m.put HIRE_END.TEND (v.desc.arg 12 4)).ledger 0x43 (v.desc.arg 8 4) (v.desc.arg 8 4 / 256)).finish v rOK 1) := by
  unfold Mach.cmdHireOpen Mach.hireFinish
  rw [Mach.hireOpen_open h hs, if_neg (not_not_intro he)]

theorem Mach.cmdHireClose_refused {v : Serving} {m : Mach} (h : m.f HIRE_STAT.STATE = 0 ∨ v.desc.arg 8 4 ≠ m.f HIRE_SES.SES) :
    Mach.cmdHireClose v m = m.finish v rBAD_PARAM 0 := by
  unfold Mach.cmdHireClose Mach.hireFinish
  rw [show m.hireClose (v.desc.arg 8 4) = none from if_pos (by simpa using h)]

theorem Mach.cmdHireClose_done {v : Serving} {m : Mach} (hs : m.f HIRE_STAT.STATE ≠ 0) (he : v.desc.arg 8 4 = m.f HIRE_SES.SES) :
    Mach.cmdHireClose v m = (((((m.put HIRE_STAT.STATE 0).put HIRE_STAT.G 0).ledger 0x41 (v.desc.arg 8 4) (v.desc.arg 8 4 / 256)).immobRefresh).finish
      v rOK (m.tod - m.f HIRE_T0.T0)) := by
  unfold Mach.cmdHireClose Mach.hireFinish
  rw [show m.hireClose (v.desc.arg 8 4) = some _ from if_neg (by simp [hs, he])]

/-! ## Reports (R453, R480) -/

theorem Mach.cmdReport_ended {m : Mach} {v : Serving} {rtype : Nat} {ok : Bool} {body : List Byte} (h : ctrEnded m.rptCtr = true) :
    m.cmdReport rtype ok body v = m.finish v rSTATE 0 := if_pos h

theorem Mach.cmdReport_refused {m : Mach} {v : Serving} {rtype : Nat} {ok : Bool} {body : List Byte} (h : ctrEnded m.rptCtr = false)
    (hbad : ok = false ∨ m.signer v.part (v.desc.arg 12 1) = false) : m.cmdReport rtype ok body v = m.finish v rBAD_PARAM 0 :=
  (if_neg (by simp [h])).trans (if_pos (by simpa using hbad))

theorem Mach.cmdReport_signed {m : Mach} {v : Serving} {rtype : Nat} {ok : Bool} {body : List Byte} (h : ctrEnded m.rptCtr = false)
    (hok : ok = true) (hsig : m.signer v.part (v.desc.arg 12 1) = true) :
    m.cmdReport rtype ok body v =
      ((m.signReport rtype (v.desc.arg 12 1) v.part ((v.desc.bytes.drop 8).take 4) body).1.finish v rOK
        (m.signReport rtype (v.desc.arg 12 1) v.part ((v.desc.bytes.drop 8).take 4) body).2) :=
  (if_neg (by simp [h])).trans (if_neg (by simp [hok, hsig]))

theorem Mach.cmdMeterReport_report (v : Serving) (m : Mach) :
    Mach.cmdMeterReport v m = m.cmdReport 1
      (decide (1 ≤ ((List.range 32).filter (fun j => (v.desc.arg 16 4).testBit j)).length ∧
        ((List.range 32).filter (fun j => (v.desc.arg 16 4).testBit j)).length ≤ 12)) (m.meterBody (v.desc.arg 16 4)) v := by
  unfold Mach.cmdMeterReport countIf
  rw [Bool.decide_and]

theorem Mach.cmdLedgerReport_report (v : Serving) (m : Mach) :
    Mach.cmdLedgerReport v m = m.cmdReport 2 (decide (v.desc.arg 14 2 ≤ 4095 ∧ 1 ≤ v.desc.arg 16 1 ∧ v.desc.arg 16 1 ≤ 24))
      (m.ledgerBody (v.desc.arg 14 2) (v.desc.arg 16 1)) v := by
  unfold Mach.cmdLedgerReport
  dsimp only
  rw [Bool.decide_and, Bool.decide_and, Bool.and_assoc]

/-- A report row does what `cmdReport` does with the row's type, check and body. -/
theorem does_report {i : Instr} {s : State} {v : Serving} {rtype : Nat} {ok : Bool} {body : List Byte}
    (h : (i = .meterReport ∧ v.desc.op = 0x62 ∧ rtype = 1 ∧
      (let mask := v.desc.arg 16 4
       let n := ((List.range 32).filter (fun j => mask.testBit j)).length
       ok = decide (1 ≤ n ∧ n ≤ 12) ∧ body = s.m.meterBody mask)) ∨
    (i = .ledgerReport ∧ v.desc.op = 0x63 ∧ rtype = 2 ∧ ok = decide (v.desc.arg 14 2 ≤ 4095 ∧ 1 ≤ v.desc.arg 16 1 ∧ v.desc.arg 16 1 ≤ 24) ∧
      body = s.m.ledgerBody (v.desc.arg 14 2) (v.desc.arg 16 1)))
    (hv : s.m.serves v) {x : Mach} (hx : s.m.cmdReport rtype ok body v = x) : Does i s x := by
  obtain ⟨rfl, hop, rfl, rfl, rfl⟩ | ⟨rfl, hop, rfl, rfl, rfl⟩ := h
  · exact does_serving hv hop (fun _ => rfl) ((Mach.cmdMeterReport_report v s.m).trans hx)
  · exact does_serving hv hop (fun _ => rfl) ((Mach.cmdLedgerReport_report v s.m).trans hx)

/-! ## Lockouts (R447) -/

theorem Mach.cmdLockoutClear_refused {v : Serving} {m : Mach} (h : v.desc.arg 8 1 = 0 ∨ v.desc.arg 8 1 % 2 = 1 ∨ 64 ≤ v.desc.arg 8 1) :
    Mach.cmdLockoutClear v m = m.finish v rBAD_PARAM 0 := if_pos (by simpa [or_assoc] using h)

theorem Mach.cmdLockoutClear_done {v : Serving} {m : Mach} (h0 : v.desc.arg 8 1 ≠ 0) (h2 : v.desc.arg 8 1 % 2 = 0) (h6 : v.desc.arg 8 1 < 64) :
    Mach.cmdLockoutClear v m = (m.lockoutClear (v.desc.arg 8 1)).1.finish v rOK (m.lockoutClear (v.desc.arg 8 1)).2 :=
  if_neg (by simp [h0, h2, h6])

/-- Settles O36: the session, lockout and report commands. -/
theorem sessionsAndReports : Obligations.SessionsAndReports := by
  unfold Obligations.SessionsAndReports
  intro s v hv
  refine ⟨fun hop => does_serving hv hop (fun _ => rfl) rfl, fun hop => ?_, fun hop => ?_, fun hop => ?_, fun i rtype ok body hrow => ?_⟩
  · have done {x : Mach} (h : Mach.cmdHireOpen v s.m = x) : Does .hireOpen s x := does_serving hv hop (fun _ => rfl) h
    exact ⟨fun he => done (Mach.cmdHireOpen_refused (Mach.hireOpen_ended he)),
      fun he hs h0 => done (Mach.cmdHireOpen_refused ((Mach.hireOpen_closed he hs).trans (if_pos h0))),
      fun he hs h0 => done (Mach.cmdHireOpen_opens he hs h0),
      fun he hs hne => done (Mach.cmdHireOpen_refused ((Mach.hireOpen_open he hs).trans (if_pos hne))),
      fun he hs heq => done (Mach.cmdHireOpen_replaces he hs heq)⟩
  · exact ⟨fun h => does_serving hv hop (fun _ => rfl) (Mach.cmdHireClose_refused h),
      fun hs he => does_serving hv hop (fun _ => rfl) (Mach.cmdHireClose_done hs he)⟩
  · exact ⟨fun h => does_serving hv hop (fun _ => rfl) (Mach.cmdLockoutClear_refused h),
      fun h0 h2 h6 => does_serving hv hop (fun _ => rfl) (Mach.cmdLockoutClear_done h0 h2 h6)⟩
  · exact ⟨fun h => does_report hrow hv (Mach.cmdReport_ended h), fun h hbad => does_report hrow hv (Mach.cmdReport_refused h hbad),
      fun h hok hsig => does_report hrow hv (Mach.cmdReport_signed h hok hsig)⟩

end Sys2Proof.Machine
end

section
/-! SUPPORT. Link training, the end of UP and the hop delay (R400 to R403, R407, R422, R425). -/
namespace Sys2Proof.Machine
open Sys2Proof Sys2Proof.Laws

/-! ## What an update leaves of the link and of the straps -/

@[simp] theorem Mach.isN0_put (m : Mach) (x : Fld) (v : Nat) : (m.put x v).isN0 = m.isN0 := rfl

@[simp] theorem Mach.isN0_setLp (p : LPort) (v : LinkPort) (m : Mach) : (m.setLp p v).isN0 = m.isN0 := by cases p <;> rfl

@[simp] theorem Mach.isN0_setLstate (p : LPort) (k : Nat) (m : Mach) : (m.setLstate p k).isN0 = m.isN0 := rfl

@[simp] theorem Mach.isN0_replay (p : LPort) (t : TrainSet) (m : Mach) : (m.replay p t).isN0 = m.isN0 :=
  (Mach.isN0_put ..).trans (Mach.isN0_setLp ..)

@[simp] theorem Mach.isN0_enumWait (p : LPort) (m : Mach) : (m.enumWait p).isN0 = m.isN0 := by
  unfold Mach.enumWait
  split <;> rfl

theorem Mach.isUp_iff {m : Mach} {p : LPort} : m.isUp p = true ↔ m.lstate p = 4 := beq_iff_eq

theorem Mach.not_isUp {m : Mach} {p : LPort} (h : m.lstate p ≠ 4) : m.isUp p = false := beq_eq_false_iff_ne.mpr h

/-! ## DETECT and ALIGN (R400, R528) -/

/-- A port steps from DETECT to ALIGN: its slot or request of the loopback is gone. -/
def Mach.detected (p : LPort) (m : Mach) : Mach :=
  let m1 := ((m.setLstate p 2).setLp p { m.lp p with ts2 := false }).startTimer (.train (portIdx p))
  let m2 := { m1 with gov := { m1.gov with slots := m1.gov.slots.erase (.loopback p), want := m1.gov.want.filter (fun w => w.1 != Activity.loopback p) } }
  m2.put GOV_STAT.SLOTS m2.gov.slots.length

theorem Mach.portStep_at {m : Mach} {p : LPort} {k : Nat} (h : m.lstate p = k) :
    m.portStep p k = if k = 1 then ((m.setLstate p (k + 1)).setLp p { m.lp p with ts2 := false }).startTimer (.train (portIdx p))
      else (m.setLstate p (k + 1)).setLp p { m.lp p with ts2 := false } := if_neg (not_not_intro h)

theorem Mach.detect_eq {m : Mach} {p : LPort} (h : m.lstate p = 1) :
    m.detect p = if (m.detected p).test.run == some (6, portIdx p) then (m.detected p).tstEnd false 0 0 else m.detected p := by
  refine (if_pos h).trans ?_
  rw [Mach.portStep_at h, if_pos rfl]
  rfl

/-! ## Training sets (R400, R402) -/

theorem Mach.trainSet_up {m : Mach} {p : LPort} {t : TrainSet} {sent16 : Bool} (h : m.lstate p = 4) :
    m.trainSet p t sent16 = if t.ts2 then m else m.leaveUp p 4 := if_pos (Mach.isUp_iff.mpr h)

theorem Mach.trainSet_train {m : Mach} {p : LPort} {t : TrainSet} {sent16 : Bool} (h : m.lstate p = 3) :
    m.trainSet p t sent16 = if t.flags.getLsbD 0 == (p == .down) then m.put (LNK_PSTAT.MISWIRE (portIdx p)) 1 else
      let m1 := (m.put (LNK_PSTAT.MISWIRE (portIdx p)) 0).setLp p { m.lp p with ts2 := true }
      if t.ts2 && sent16 then m1.enterUp p t else m1 :=
  (if_neg (by rw [Mach.not_isUp (by omega)]; decide)).trans (if_neg (not_not_intro h))

/-- The entry to UP of a node without an address, whose partner has one: nothing heals and no token is due. -/
theorem Mach.enterUp_addressed {m : Mach} {p : LPort} {t : TrainSet} (he : m.enumd = false) (ht : t.flags.getLsbD 2 = true)
    (h0 : m.isN0 = false ∨ p = .up) :
    m.enterUp p t = (((((m.setLstate p 4).put (LNK_PSTAT.NEIGH (portIdx p)) t.node.toNat).put (LNK_PSTAT.NVALID (portIdx p))
      (b2n (t.node != 0x7F))).put LNK_EVT.UP 1).replay p t).enumWait p := by
  have hno : ∀ m2 : Mach, m2.isN0 = m.isN0 → (m2.isN0 && p == .down) = false := by
    intro m2 h
    rw [h]
    rcases h0 with h0 | rfl
    · rw [h0]; rfl
    · exact Bool.and_false _
  unfold Mach.enterUp
  simp only [he, ht, Bool.false_and, Bool.false_eq_true, if_false, Bool.not_true, Bool.not_false, Bool.and_true]
  exact if_neg (by rw [hno _ (by simp)]; decide)

/-! ## The end of UP (R402) -/

theorem Mach.leaveUp_down {m : Mach} (cause : Nat) (h : m.lstate .down = 4) (he : m.enumd = false) :
    m.leaveUp .down cause =
      (((((m.setLstate .down (if cause = 5 || cause = 6 then 0 else 1)).secCheck.put (LNK_PSTAT.RETRAINS 1)
        (satInc 65535 (m.f (LNK_PSTAT.RETRAINS 1)))).put (LNK_PSTAT.NVALID 1) 0).raise fLinkDown 1 (word (4 + 256 * cause))).setLp .down
        { m.lp .down with ts2 := false, busyWait := false, retries := 0 }) := by
  refine (if_neg (by rw [Mach.isUp_iff.mpr h]; decide)).trans ((if_neg (by rw [he]; decide)).trans ?_)
  unfold Mach.portLost
  simp only [he, Bool.or_false, Bool.false_eq_true, if_false]
  rfl

/-- Settles O37: the training of a port, and its end of UP. -/
theorem linkTraining : Obligations.LinkTraining := by
  unfold Obligations.LinkTraining
  intro s p
  refine ⟨fun h => ⟨fun hr => ?_, fun hr => ?_⟩, fun h => ?_, fun h => does_act (if_neg h), fun h => does_act (if_pos h),
    fun t sent16 => ⟨fun h hw => ?_, fun h hw => ⟨fun hn => ?_, fun h2 h16 he hb h0 => ?_⟩, fun h => ⟨fun h2 => ?_, fun h2 => ?_⟩⟩,
    fun h => ?_, fun h => ?_, fun c h1 h6 h hp he => ?_⟩
  · exact does_act ((Mach.detect_eq h).trans (if_pos (beq_iff_eq.mpr hr)))
  · exact does_act ((Mach.detect_eq h).trans (if_neg (mt beq_iff_eq.mp hr)))
  · exact does_act ((Mach.portStep_at h).trans (if_neg (by decide)))
  · exact does_act ((Mach.trainSet_train h).trans (if_pos (beq_iff_eq.mpr hw)))
  · exact does_act ((Mach.trainSet_train h).trans ((if_neg (by simpa using hw)).trans (if_neg (by rcases hn with hn | hn <;> simp [hn]))))
  · refine does_act ((Mach.trainSet_train h).trans ((if_neg (by simpa using hw)).trans ((if_pos (by simp [h2, h16])).trans ?_)))
    exact Mach.enterUp_addressed he hb (h0.imp_left (by simp))
  · exact does_act ((Mach.trainSet_up h).trans (if_pos h2))
  · exact does_act ((Mach.trainSet_up h).trans (if_neg (by simp [h2])))
  · exact does_act (if_pos (by simpa using h))
  · exact does_act (if_neg (by simp only [Bool.or_eq_true, decide_eq_true_eq]; omega))
  · subst hp
    exact does_act ((if_pos (by simp [h1, h6])).trans (Mach.leaveUp_down c.val h he))

/-! ## The hop delay (R403, R425) -/

theorem Mach.delayResponse_sample {m : Mach} {id turn : Nat} {rtt : Int} (hu : m.isUp .up = true) (hq : m.link.dqs.contains id = true) :
    m.delayResponse id rtt turn =
      let rs := ((rtt - m.link.up.k.getD (Config.nominalK 0) - turn) :: m.link.rtts).take 1024
      let m1 := m.updLink (fun l => { l with rtts := rs, dqs := l.dqs.erase id })
      if rs.length < 1024 then m1
      else
        let d := delayOf (rs.foldl (· + ·) 0) (signed 16 (m.f LNK_DLY_CFG.ASYM))
        let m2 := m1.put LNK_DLY.D_UP (unsign 24 d)
        if m.fb LNK_DLY.DVALID then m2
        else (((m2.updLink (fun l => { l with dOff := d })).startTimer .dup).put LNK_DLY.DVALID 1).epochCheck :=
  if_neg (by rw [hu, hq]; decide)

/-- The tracking's step: the offset in use moves by one towards the measured delay. -/
def Mach.dupStepped (x : Int) (m : Mach) : Mach := { m with link := { m.link with dOff := x } }

theorem Mach.dupTrack_valid {m : Mach} (h : m.fb LNK_DLY.DVALID = true) :
    m.dupTrack =
      let m1 := (m.reach .dup (100 * msec)).startTimer .dup
      let d := signed 24 (m1.f LNK_DLY.D_UP)
      m1.dupStepped (if m1.link.dOff < d then m1.link.dOff + 1 else if d < m1.link.dOff then m1.link.dOff - 1 else m1.link.dOff) :=
  if_neg (by rw [h]; decide)

/-- Settles O38: queries, answers, samples and the tracking of the hop delay. -/
theorem hopDelay : Obligations.HopDelay := by
  unfold Obligations.HopDelay
  intro s
  refine ⟨fun h => does_act (if_pos h), fun h => does_act (if_neg (by simp [h])),
    fun id turn => ⟨fun h => does_act (if_pos h), fun h => does_act (if_neg (by simp [h])),
      fun rtt => ⟨fun h => does_act (if_pos (by rw [h, Bool.not_false, Bool.or_true])), ?_⟩⟩,
    fun h => does_act (if_pos (by simp [h])), fun h => ⟨?_, ?_, ?_⟩⟩
  · intro hu hq
    refine ⟨fun hl => ?_, fun hl => ⟨fun hv => ?_, fun hv => ?_⟩⟩
    · exact does_act ((Mach.delayResponse_sample hu hq).trans (if_pos hl))
    · exact does_act ((Mach.delayResponse_sample hu hq).trans ((if_neg (by omega)).trans (if_pos hv)))
    · exact does_act ((Mach.delayResponse_sample hu hq).trans ((if_neg (by omega)).trans (if_neg (by simp [hv]))))
  · intro hlt
    refine does_act ((Mach.dupTrack_valid h).trans ?_)
    dsimp only
    rw [if_pos hlt]
    rfl
  · intro hlt
    refine does_act ((Mach.dupTrack_valid h).trans ?_)
    dsimp only
    rw [if_neg (Int.not_lt.mpr (Int.le_of_lt hlt)), if_pos hlt]
    rfl
  · intro heq
    refine does_act ((Mach.dupTrack_valid h).trans ?_)
    dsimp only
    rw [if_neg (Int.not_lt.mpr heq.ge), if_neg (Int.not_lt.mpr heq.le)]
    rfl

end Sys2Proof.Machine
end

section
/-! SUPPORT. Received frames, acknowledgements and retries (R404 to R406). -/
namespace Sys2Proof.Machine
open Sys2Proof Sys2Proof.Laws

/-! ## The hidden part of a port -/

@[simp] theorem Mach.lp_setLp (p : LPort) (v : LinkPort) (m : Mach) : (m.setLp p v).lp p = v := by cases p <;> rfl

theorem Mach.Later.lp {m n : Mach} (h : m.Later n) (p : LPort) : n.lp p = m.lp p := by
  unfold Mach.lp
  rw [h.link]

theorem Mach.retries_pump (p : LPort) (m : Mach) : ((m.pump p).lp p).retries = (m.lp p).retries := by
  unfold Mach.pump
  split
  · rw [Mach.lp_setLp]; rfl
  · rfl

/-! ## A received frame (R404, R405) -/

theorem Mach.frameRx_up {m : Mach} {p : LPort} {b : List Byte} {eof room : Bool} (hu : m.isUp p = true) :
    m.frameRx p b eof room =
      if byteAt b 0 > 64 || b.length ≠ 8 + 4 * byteAt b 0 + 4 || !eof then m.answer p 2
      else if crc32c (b.take (8 + 4 * byteAt b 0)) ≠ fieldAt b (8 + 4 * byteAt b 0) 4 then
        (m.put (LNK_PCNT.CRCERR (portIdx p)) (satInc 65535 (m.f (LNK_PCNT.CRCERR (portIdx p))))).raise fLinkCrc (portIdx p) (word (byteAt b 2))
      else if 128 ≤ byteAt b 3 || 64 ≤ byteAt b 6 || byteAt b 7 ≠ 0 || byteAt b 2 ≠ (m.lp p).nexp then m.answer p 2
      else if !room then m.answer p 3
      else
        let f : Frame := { typ := byteAt b 4, tid := byteAt b 1, dst := byteAt b 3 % 64, bcast := 64 ≤ byteAt b 3,
                           src := byteAt b 6, hops := byteAt b 5, payload := (b.drop 8).take (4 * byteAt b 0) }
        ((m.setLp p { m.lp p with nexp := ((m.lp p).nexp + 1) % 256 }).answer p 1).dispose p f :=
  if_neg (by rw [hu]; decide)

/-- The bytes between SOF and EOF have the length that their header states (R404). -/
def frameFormed (b : List Byte) (eof : Bool) : Prop := byteAt b 0 ≤ 64 ∧ b.length = 8 + 4 * byteAt b 0 + 4 ∧ eof = true

theorem frameFormed_iff {b : List Byte} {eof : Bool} :
    frameFormed b eof ↔ ¬ ((decide (byteAt b 0 > 64) || decide (b.length ≠ 8 + 4 * byteAt b 0 + 4) || !eof) = true) := by
  unfold frameFormed
  simp [and_assoc]

/-- The header's reserved bits are 0 and its number is the one expected (R405, R406). -/
def frameMeant (b : List Byte) (nexp : Nat) : Prop := byteAt b 3 < 128 ∧ byteAt b 6 < 64 ∧ byteAt b 7 = 0 ∧ byteAt b 2 = nexp

theorem frameMeant_iff {b : List Byte} {nexp : Nat} :
    frameMeant b nexp ↔
      ¬ ((decide (128 ≤ byteAt b 3) || decide (64 ≤ byteAt b 6) || decide (byteAt b 7 ≠ 0) || decide (byteAt b 2 ≠ nexp)) = true) := by
  unfold frameMeant
  simp [and_assoc]

/-! ## Acknowledgements and the retries (R406) -/

theorem Mach.ackUpTo_outside {m : Mach} {p : LPort} {seq : Nat} (h : (m.lp p).unack.any (fun e => e.seq == seq) = false) : m.ackUpTo p seq = m := by
  unfold Mach.ackUpTo LinkPort.after
  rw [if_neg (by rw [h]; decide)]

theorem Mach.ackUpTo_inside {m : Mach} {p : LPort} {seq : Nat} (h : (m.lp p).unack.any (fun e => e.seq == seq) = true) :
    m.ackUpTo p seq =
      (m.setLp p { m.lp p with unack := ((m.lp p).unack.dropWhile (fun e => e.seq != seq)).drop 1, retries := 0 }).pump p := by
  unfold Mach.ackUpTo LinkPort.after
  rw [if_pos h]

theorem Mach.retries_ackUpTo {m : Mach} {p : LPort} {seq : Nat} (h : (m.lp p).unack.any (fun e => e.seq == seq) = true) :
    ((m.ackUpTo p seq).lp p).retries = 0 := by
  rw [Mach.ackUpTo_inside h, Mach.retries_pump, Mach.lp_setLp]

theorem Mach.resend_empty {m : Mach} {p : LPort} (h : (m.lp p).unack = []) : m.resend p = m := by
  unfold Mach.resend
  dsimp only
  rw [h]

theorem Mach.resend_again {m : Mach} {p : LPort} {x : WinFrame} {xs : List WinFrame} (h : (m.lp p).unack = x :: xs) (hr : (m.lp p).retries < 4) :
    m.resend p = (m.setLp p (({ m.lp p with retries := (m.lp p).retries + 1 } : LinkPort).again m.now)).put (LNK_PCNT.RESENT (portIdx p))
      (Nat.min 65535 (m.f (LNK_PCNT.RESENT (portIdx p)) + (x :: xs).length)) := by
  unfold Mach.resend
  dsimp only
  rw [h]
  exact if_neg (Nat.not_le.mpr hr)

theorem Mach.resend_exhausted {m : Mach} {p : LPort} {x : WinFrame} {xs : List WinFrame} (h : (m.lp p).unack = x :: xs) (hr : 4 ≤ (m.lp p).retries) :
    m.resend p = (m.raise fRetryExh (portIdx p) (word x.seq)).leaveUp p 3 := by
  unfold Mach.resend
  dsimp only
  rw [h]
  exact if_pos hr

theorem Mach.retryTimeout_empty {m : Mach} {p : LPort} (hu : m.isUp p = true) (h : (m.lp p).unack = []) : m.retryTimeout p = m := by
  unfold Mach.retryTimeout
  rw [if_pos hu, h]
  rfl

theorem Mach.retryTimeout_first {m : Mach} {p : LPort} {x : WinFrame} {xs : List WinFrame} (hu : m.isUp p = true) (h : (m.lp p).unack = x :: xs) :
    m.retryTimeout p = (m.advNow (x.at' + 16 * usec)).resend p := by
  unfold Mach.retryTimeout
  rw [if_pos hu, h]
  rfl

/-- Settles O39: the frames of an UP port, their acknowledgement and their retries. -/
theorem linkFrames : Obligations.LinkFrames := by
  unfold Obligations.LinkFrames
  intro s p hu
  refine ⟨fun b eof room => ⟨fun hf => ?_, fun hf hc => ?_, fun hf hc => ⟨fun hm => ?_, fun hm hr => ?_, fun hm hr => ?_⟩⟩,
    fun seq => ⟨fun ha => ⟨?_, ?_⟩,
    fun ha => ⟨?_, ?_, fun he => ?_, fun x xs he => ?_⟩⟩, fun he => ?_, fun x xs he => ⟨fun hr => ?_, fun hr => ?_⟩, fun hb => ?_, fun hb => ?_⟩
  · exact does_act ((Mach.frameRx_up hu).trans (if_pos (not_not.mp (mt frameFormed_iff.mpr hf))))
  · exact does_act ((Mach.frameRx_up hu).trans ((if_neg (frameFormed_iff.mp hf)).trans (if_pos hc)))
  · exact does_act ((Mach.frameRx_up hu).trans ((if_neg (frameFormed_iff.mp hf)).trans ((if_neg (not_not_intro hc)).trans
      (if_pos (not_not.mp (mt frameMeant_iff.mpr hm))))))
  · exact does_act ((Mach.frameRx_up hu).trans ((if_neg (frameFormed_iff.mp hf)).trans ((if_neg (not_not_intro hc)).trans
      ((if_neg (frameMeant_iff.mp hm)).trans (if_pos (by rw [hr]; rfl))))))
  · exact does_act ((Mach.frameRx_up hu).trans ((if_neg (frameFormed_iff.mp hf)).trans ((if_neg (not_not_intro hc)).trans
      ((if_neg (frameMeant_iff.mp hm)).trans (if_neg (by rw [hr]; decide))))))
  · exact does_act ((if_pos hu).trans (Mach.ackUpTo_outside ha))
  · refine does_act ((if_pos hu).trans ?_)
    rw [Mach.ackUpTo_outside ha]
  · exact does_act ((if_pos hu).trans (Mach.ackUpTo_inside ha))
  · refine does_act ((if_pos hu).trans ?_)
    rw [Mach.ackUpTo_inside ha]
  · refine does_act ((if_pos hu).trans ?_)
    rw [Mach.ackUpTo_inside ha]
    exact Mach.resend_empty he
  · have hr := Mach.retries_ackUpTo ha
    rw [Mach.ackUpTo_inside ha] at hr
    refine does_act ((if_pos hu).trans ?_)
    rw [Mach.ackUpTo_inside ha, Mach.resend_again he (by rw [hr]; decide), hr]
  · exact does_act (Mach.retryTimeout_empty hu he)
  · have hlp := (Mach.advNow_later (x.at' + 16 * usec) s.m).lp p
    refine does_act ((Mach.retryTimeout_first hu he).trans ?_)
    refine (Mach.resend_again (hlp ▸ he) (hlp ▸ hr)).trans ?_
    rw [hlp]
  · have hlp := (Mach.advNow_later (x.at' + 16 * usec) s.m).lp p
    refine does_act ((Mach.retryTimeout_first hu he).trans ?_)
    exact Mach.resend_exhausted (hlp ▸ he) (hlp ▸ hr)
  · exact does_act (if_neg (by rw [hu, hb]; decide))
  · refine does_act ((if_pos (by rw [hu, hb]; rfl)).trans ?_)
    dsimp only
    rw [(Mach.reach_later (.busyWait (portIdx p)) (4 * usec) s.m).lp p]

end Sys2Proof.Machine
end

section
/-! SUPPORT. Remote access and forwarded commands (R331, R411 to R416). -/
namespace Sys2Proof.Machine
open Sys2Proof Sys2Proof.Laws

/-! ## GO of LRA_CTL (R414) -/

/-- The row of LRA_CTL. -/
def lraCtlRow : Row := { name := "LRA_CTL", base := 0x0A0200, inst := .bank, kept := .part, writer := .each, rw := 0x000F3F07, trg := 1 }

theorem Mach.write_lraCtl {m : Mach} {a : Acc} {p k : Nat} (d : Word) (hb : m.bind a = .part p k) (hu : m.hostUp = true) (ht : m.todo = []) :
    let key := 0x0A0200 + p * instSpan
    let m1 := m.begun a 0x0A0200
    ∃ d' : Word, bitAt d' 0 = true ∧
      m.write a 0x0A0200 (d ||| 1) = (m1.store key (blend (m1.reg key) d 0x000F3F06)).lraGo (.part p k) a.port d' := by
  have hopen : m.opens a 0x0A0200 lraCtlRow := Mach.opens_part hb hu ht (by decide) (by decide) (by decide) (Mach.mayWrite_each rfl ..) (by decide) rfl
    (by decide) (by decide) (by decide) (by decide)
  have hgo : bitAt ((d ||| 1) &&& (word lraCtlRow.rw ||| word lraCtlRow.own ||| word lraCtlRow.w1c)) 0 = true := by
    rw [bitAt, BitVec.getLsbD_and, BitVec.getLsbD_or, show (1 : Word).getLsbD 0 = true by decide, Bool.or_true]
    decide
  intro key m1
  refine ⟨_, hgo, ?_⟩
  rw [Mach.write_easy _ hopen rfl rfl rfl (by decide) (key := key) (by rw [hb]; rfl), writeNew_blend rfl (by decide),
    show (word lraCtlRow.rw ||| word lraCtlRow.own) &&& ~~~ (word lraCtlRow.trg) = 0x000F3F06 by decide, blend_or_outside _ _ (by decide), hb]
  rfl

theorem Mach.lraGo_busy {m : Mach} {p k : Nat} {port : Port} {d : Word} (hgo : bitAt d 0 = true) (hbusy : m.fb (LRA_STAT.BUSY.inst p) = true) :
    m.lraGo (.part p k) port d = m.accErr (.part p k) port 0x0A0200 cWINDOW :=
  (if_neg (by rw [hgo]; decide)).trans (if_pos hbusy)

theorem Mach.lraGo_denied {m : Mach} {p k r : Nat} {port : Port} {d : Word} (hgo : bitAt d 0 = true) (hbusy : m.fb (LRA_STAT.BUSY.inst p) = false)
    (hr : m.denied (m.f (LRA_CTL.NODE.inst p)) = r) (hno : r ≠ rOK) : m.lraGo (.part p k) port d = m.lraEnd p r 0 0 := by
  refine (if_neg (by rw [hgo]; decide)).trans ((if_neg (by rw [hbusy]; decide)).trans ((if_pos ?_).trans ?_)) <;> rw [hr]
  exact hno

/-- GO sends the request, as a transaction of the partition. -/
def Mach.lraSend (p : Nat) (m : Mach) : Mach :=
  let f := fun (x : Fld) => m.f (x.inst p)
  let rd := m.fb (LRA_CTL.RD.inst p)
  let hdr := toLE 1 (b2n rd + 2 * f LRA_CTL.SEC) ++ toLE 1 (f LRA_ADDR.TAG) ++ toLE 1 p ++ toLE 1 (f LRA_CTL.LENM1)
    ++ toLE 3 (f LRA_ADDR.ADDR) ++ [0]
  let data := if rd then [] else (List.range (f LRA_CTL.LENM1 + 1)).flatMap (fun j => wordBytes (m.reg (0x0A0240 + 4 * j + p * instSpan)))
  let m3 := { m with link := { m.link with tid := (m.link.tid + 1) % 256 } }.put (LRA_STAT.BUSY.inst p) 1
  let m4 := { m3 with link := { m3.link with txns := m3.link.txns ++
    [({ tid := m.link.tid, node := f LRA_CTL.NODE, at' := m.now, lra := some p, queue := none } : Txn)] } }
  m4.sendTo (f LRA_CTL.NODE) ttRREQ m.link.tid (hdr ++ data)

theorem Mach.lraGo_sends {m : Mach} {p k : Nat} {port : Port} {d : Word} (hgo : bitAt d 0 = true) (hbusy : m.fb (LRA_STAT.BUSY.inst p) = false)
    (hok : m.denied (m.f (LRA_CTL.NODE.inst p)) = rOK) : m.lraGo (.part p k) port d = m.lraSend p :=
  (if_neg (by rw [hgo]; decide)).trans ((if_neg (by rw [hbusy]; decide)).trans (if_neg (not_not_intro hok)))

theorem Mach.denied_gone {m : Mach} {b : Nat} (h : m.link.gone.contains b = true) : m.denied b = rDOMAIN_DOWN := if_pos h

theorem Mach.denied_routeless {m : Mach} {b : Nat} (h : m.link.gone.contains b = false) (hr : m.routeTo b = none) : m.denied b = rNO_NODE :=
  (if_neg (by rw [h]; decide)).trans (if_pos (by rw [hr]; rfl))

theorem Mach.denied_routed {m : Mach} {b : Nat} (h : m.link.gone.contains b = false) (hr : (m.routeTo b).isSome = true) : m.denied b = rOK :=
  (if_neg (by rw [h]; decide)).trans (if_neg (by rw [Option.isNone_eq_false_iff.mpr hr]; decide))

/-! ## Requests and responses (R413 to R415) -/

/-- The machine that has taken the frame `e` from the inbox. -/
def Mach.taken (m : Mach) (e : LPort × Frame) : Mach := { m with link := { m.link with inbox := m.link.inbox.erase e } }

/-- The request of `e` is remembered among the last 16 (R415). -/
def Mach.noted (m : Mach) (e : LPort × Frame) : Mach :=
  { (m.taken e) with link := { (m.taken e).link with dups := ((e.2.src, e.2.tid) :: m.link.dups).take 16 } }

theorem Mach.rreq_again {m : Mach} {e : LPort × Frame} (run : Mach → Mach) (h : m.link.dups.contains (e.2.src, e.2.tid) = true) :
    (m.taken e).rreq run e.2 = m.taken e := if_pos h

theorem Mach.rreq_new {m : Mach} {e : LPort × Frame} (run : Mach → Mach) (h : m.link.dups.contains (e.2.src, e.2.tid) = false) :
    (m.taken e).rreq run e.2 =
      if m.boot.stop || !m.hostUp then (m.noted e).sendTo e.2.src ttRRSP e.2.tid (toLE 4 rDOMAIN_DOWN)
      else
        let b := e.2.payload
        let a := linkAcc e.2.src (byteAt b 2) (byteAt b 1) (getF (word (byteAt b 0)) 1 1 == 1)
        let fix := getF (word (byteAt b 1)) 6 1 == 1
        let n := byteAt b 3 + 1
        let u := b2n ((m.noted e).bind a == .unbound)
        if byteAt b 0 % 2 = 1 then
          let x := Mach.linkReads a fix (fieldAt b 4 3) n (false, false, m.noted e)
          x.2.2.2.sendTo e.2.src ttRRSP e.2.tid (toLE 4 (rOK + 256 * (b2n x.2.1 + 2 * b2n x.2.2.1 + 4 * u) + 65536 * n) ++ x.1.flatMap wordBytes)
        else
          let x := Mach.linkWrites run a fix (fieldAt b 4 3) ((List.range n).map (fun i => word (fieldAt b (8 + 4 * i) 4))) (false, false, m.noted e)
          x.2.2.sendTo e.2.src ttRRSP e.2.tid (toLE 4 (rOK + 256 * (b2n x.1 + 2 * b2n x.2.1 + 4 * u) + 65536 * n)) :=
  if_neg (by rw [show ((m.taken e).dupCheck e.2).1 = m.link.dups.contains (e.2.src, e.2.tid) from rfl, h]; decide)

theorem Mach.rrsp_open {m : Mach} {f : Frame} {x : Txn} {j : Nat}
    (h : m.link.txns.find? (fun y => y.tid == f.tid && y.node == f.src && y.lra.isSome) = some x) (hj : x.lra = some j) :
    m.rrsp f = (({ m with link := { m.link with txns := m.link.txns.erase x } } : Mach).setBytes (0x0A0240 + j * instSpan) (f.payload.drop 4)).lraEnd j
      (byteAt f.payload 0) (byteAt f.payload 1) (byteAt f.payload 2) := by
  unfold Mach.rrsp
  rw [h]
  dsimp only
  rw [hj]
  rfl

theorem Mach.rrsp_unknown {m : Mach} {f : Frame} (h : m.link.txns.find? (fun y => y.tid == f.tid && y.node == f.src && y.lra.isSome) = none) :
    m.rrsp f = m := by
  unfold Mach.rrsp
  rw [h]

/-! ## Time-outs (R415) -/

theorem Mach.txnTimeout_none {m : Mach} {tid : Nat} (h : m.link.txns.any (fun y => y.tid == tid) = false) : m.txnTimeout tid = m := by
  unfold Mach.txnTimeout
  rw [List.find?_eq_none.mpr (List.any_eq_false.mp h)]

/-- The one transaction with the identifier ends. -/
theorem Mach.txnTimeout_one {m : Mach} {tid : Nat} {x : Txn} (h : m.link.txns.filter (fun y => y.tid == tid) = [x]) :
    m.txnTimeout tid = ((m.advNow (x.at' + m.tto)).dropTxn x).put LNK_EVT.TTO 1 := by
  have hfind : m.link.txns.find? (fun y => y.tid == tid) = some x := by rw [← List.head?_filter, h]; rfl
  unfold Mach.txnTimeout
  rw [hfind]
  dsimp only
  unfold Mach.dropTxns
  rw [(Mach.advNow_later _ m).link, h]
  rfl

theorem Mach.tto_of_ne {m : Mach} (h : m.f LNK_CFG.TTO ≠ 0) : m.tto = m.f LNK_CFG.TTO * msec := by
  unfold Mach.tto
  rw [show Nat.max 1 (m.f LNK_CFG.TTO) = m.f LNK_CFG.TTO from Nat.max_eq_right (Nat.one_le_iff_ne_zero.mpr h)]

theorem Mach.tto_of_zero {m : Mach} (h : m.f LNK_CFG.TTO = 0) : m.tto = msec := by
  unfold Mach.tto
  rw [h]
  rfl

/-! ## Forwarded commands (R416) -/

theorem Mach.linkCmd_again {m : Mach} {e : LPort × Frame} (h : m.link.dups.contains (e.2.src, e.2.tid) = true) :
    (m.taken e).linkCmd e.2 = m.taken e := if_pos h

theorem Mach.linkCmd_new {m : Mach} {e : LPort × Frame} (h : m.link.dups.contains (e.2.src, e.2.tid) = false) :
    (m.taken e).linkCmd e.2 =
      let p := byteAt e.2.payload 0
      let d : Desc := { bytes := e.2.payload.drop 4, origin := some { node := e.2.src, tid := e.2.tid, opart := p } }
      if m.boot.stop then (m.noted e).complete p d rDOMAIN_DOWN 0
      else if !(m.noted e).linkBound e.2.src p then (m.noted e).complete p d rNOT_PRIV 0
      else
        let r := (m.noted e).enqueue p false false d
        if r.2 = rOK then r.1 else r.1.complete p d r.2 0 :=
  if_neg (by rw [show ((m.taken e).dupCheck e.2).1 = m.link.dups.contains (e.2.src, e.2.tid) from rfl, h]; decide)

/-- The completion of a forwarded command frees its head's place, and is posted unless the command asked for none. -/
theorem Mach.linkCpl_head {m : Mach} {f : Frame} {x : Txn} {q : Nat} {d : Desc} {rest : List Desc}
    (h : m.link.txns.find? (fun y => y.tid == f.tid && y.node == f.src && y.queue.isSome) = some x) (hq : x.queue = some q)
    (hc : (m.cq q).cmds = d :: rest) (ho : (m.cq q).out = some x.tid) :
    m.linkCpl f =
      let m1 : Mach := { m with link := { m.link with txns := m.link.txns.erase x } }
      let m2 := ((m1.setCq q { m.cq q with cmds := rest, out := none }).emptied q).release (q / 4)
      let w := word (fieldAt f.payload 8 4)
      (if d.nocpl && getF w 8 8 = rOK then m2
        else m2.post (4 * (q / 4) + 2) 1 (128 + f.src) 0 m2.ts32 w (word (fieldAt f.payload 12 4))).urgWait q := by
  have hcq : (m.updLink (fun l => { l with txns := l.txns.erase x })).cq q = m.cq q := rfl
  unfold Mach.linkCpl
  rw [h]
  dsimp only
  rw [hq]
  unfold Mach.endRemote
  simp only [Option.getD_some, hcq, hc, ho, if_true]
  rfl

/-- Settles O40: remote access and forwarded commands. -/
theorem remoteAccess : Obligations.RemoteAccess := by
  unfold Obligations.RemoteAccess
  intro s
  refine ⟨fun a p k d hb hu ht => ?_, fun e he => ⟨fun hd => ?_, fun hd hs => ?_, fun hd hs hu => ⟨fun hr => ?_, fun hr => ?_⟩⟩,
    fun e x he hx j hj => ?_, fun e he hx => ?_, fun tid x => ⟨fun hn => ?_, fun h1 => ⟨fun ht => ?_, fun ht => ?_⟩⟩,
    fun e he => ⟨fun hd => ?_, fun hd => ⟨fun hs => ?_, fun hs hb => ?_, fun hs hb => ⟨fun hr => ?_, fun hr => ?_⟩⟩⟩,
    fun e x he hx q d rest hq hc ho => ⟨fun hn hok => ?_, fun hn => ?_⟩⟩
  · obtain ⟨d', hgo, hw⟩ := Mach.write_lraCtl d hb hu ht
    exact ⟨fun hbusy => does_act (hw.trans (Mach.lraGo_busy hgo hbusy)),
      fun hbusy hg => does_act (hw.trans (Mach.lraGo_denied hgo hbusy (Mach.denied_gone hg) (by decide))),
      fun hbusy hg hr => does_act (hw.trans (Mach.lraGo_denied hgo hbusy (Mach.denied_routeless hg hr) (by decide))),
      fun hbusy hg hr => does_act (hw.trans (Mach.lraGo_sends hgo hbusy (Mach.denied_routed hg hr)))⟩
  · exact does_act ((Mach.onFrame_one he).trans (Mach.rreq_again _ hd))
  · exact does_act ((Mach.onFrame_one he).trans ((Mach.rreq_new _ hd).trans (if_pos (by simpa using hs))))
  · exact does_act ((Mach.onFrame_one he).trans ((Mach.rreq_new _ hd).trans ((if_neg (by rw [hs, hu]; decide)).trans (if_pos hr))))
  · exact does_act ((Mach.onFrame_one he).trans ((Mach.rreq_new _ hd).trans ((if_neg (by rw [hs, hu]; decide)).trans (if_neg (by omega)))))
  · exact does_act ((Mach.onFrame_one he).trans (Mach.rrsp_open hx hj))
  · exact does_act ((Mach.onFrame_one he).trans (Mach.rrsp_unknown hx))
  · exact does_act (Mach.txnTimeout_none hn)
  · refine does_act ((Mach.txnTimeout_one h1).trans ?_)
    rw [Mach.tto_of_ne ht]
  · refine does_act ((Mach.txnTimeout_one h1).trans ?_)
    rw [Mach.tto_of_zero ht]
  · exact does_act ((Mach.onFrame_one he).trans (Mach.linkCmd_again hd))
  · exact does_act ((Mach.onFrame_one he).trans ((Mach.linkCmd_new hd).trans (if_pos hs)))
  · exact does_act ((Mach.onFrame_one he).trans ((Mach.linkCmd_new hd).trans ((if_neg (by rw [hs]; decide)).trans (if_pos (by
      rw [Bool.not_eq_true']; exact hb)))))
  · exact does_act ((Mach.onFrame_one he).trans ((Mach.linkCmd_new hd).trans ((if_neg (by rw [hs]; decide)).trans ((if_neg (by
      rw [Bool.not_eq_true', Bool.not_eq_false]; exact hb)).trans (if_pos hr)))))
  · exact does_act ((Mach.onFrame_one he).trans ((Mach.linkCmd_new hd).trans ((if_neg (by rw [hs]; decide)).trans ((if_neg (by
      rw [Bool.not_eq_true', Bool.not_eq_false]; exact hb)).trans (if_neg hr)))))
  · refine does_act ((Mach.onFrame_one he).trans ((Mach.linkCpl_head (m := s.m.taken e) hx hq hc ho).trans ?_))
    dsimp only
    rw [if_pos (by rw [hn, hok]; rfl)]
    rfl
  · refine does_act ((Mach.onFrame_one he).trans ((Mach.linkCpl_head (m := s.m.taken e) hx hq hc ho).trans ?_))
    dsimp only
    rw [if_neg (by rcases hn with hn | hn <;> simp [hn])]
    rfl

end Sys2Proof.Machine
end

section
/-! SUPPORT. Forwarded records, budget words and notices (R417, R418, R427, R428, R430). -/
namespace Sys2Proof.Machine
open Sys2Proof Sys2Proof.Laws

/-! ## A forwarded record at N0 (R417) -/

/-- The acknowledgement of a forwarded record. -/
def Mach.ackForward (f : Frame) (m : Mach) : Mach :=
  { m with link := { m.link with tid := (m.link.tid + 1) % 256 } }.sendTo f.src ttAGACK m.link.tid
    (toLE 4 (b2n (f.typ == ttLDG) + 65536 * fieldAt f.payload 16 2))

/-- The sequence key, the gap and the queue of a forwarded record. -/
def forwardKey (f : Frame) : Nat := 64 * b2n (f.typ == ttLDG) + f.src
def Mach.forwardGap (m : Mach) (f : Frame) : Nat := (fieldAt f.payload 16 2 + 65536 - cget (fun _ => 0) m.link.got (forwardKey f)) % 65536
def forwardQueue (f : Frame) : Nat := if f.typ == ttLDG then 3 else 2

/-- The number after the record's is the next expected. -/
def Mach.forwardNext (f : Frame) (m : Mach) : Mach :=
  { m with link := { m.link with got := cset (fun _ => 0) m.link.got (forwardKey f) ((fieldAt f.payload 16 2 + 1) % 65536) } }

/-- The record is posted in N0's queue. -/
def Mach.postForward (f : Frame) (m : Mach) : Mach :=
  let w := fun (i : Nat) => word (fieldAt f.payload (4 * i) 4)
  m.post (forwardQueue f) (getF (w 0) 0 8) (128 + f.src) (getF (w 0) 24 8) m.ts32 (w 2) (w 3)

/-- The gap before it is posted as a LOST record. -/
def Mach.postLost (f : Frame) (gap : Nat) (m : Mach) : Mach := m.post (forwardQueue f) 7 (128 + f.src) 0 m.ts32 (word gap) 0

theorem Mach.forwardRx_eq (f : Frame) (m : Mach) :
    m.forwardRx f =
      if !m.isN0 then m
      else if 32768 ≤ m.forwardGap f then m.ackForward f
      else
        let m1 := m.forwardNext f
        let m2 := if m.forwardGap f = 0 || !m1.instd 0 then m1 else m1.postLost f (m.forwardGap f)
        (if m2.instd 0 then m2.postForward f else m2).ackForward f := by
  unfold Mach.forwardRx
  by_cases h : f.typ = ttLDG
  · simp only [Mach.forwardNext, Mach.forwardGap, forwardKey, Mach.postForward, Mach.postLost, forwardQueue, Mach.ackForward, h, decide_true,
      if_true, beq_self_eq_true]
    rfl
  · simp only [Mach.forwardNext, Mach.forwardGap, forwardKey, Mach.postForward, Mach.postLost, forwardQueue, Mach.ackForward, h, decide_false, if_false,
      beq_eq_false_iff_ne.mpr h, Bool.false_eq_true]
    rfl

theorem Mach.forwardRx_elsewhere {m : Mach} {f : Frame} (h : m.isN0 = false) : m.forwardRx f = m :=
  (Mach.forwardRx_eq f m).trans (if_pos (by rw [h]; rfl))

theorem Mach.forwardRx_old {m : Mach} {f : Frame} (h : m.isN0 = true) (hg : 32768 ≤ m.forwardGap f) : m.forwardRx f = m.ackForward f :=
  (Mach.forwardRx_eq f m).trans ((if_neg (by rw [h]; decide)).trans (if_pos hg))

theorem Mach.forwardRx_next {m : Mach} {f : Frame} (h : m.isN0 = true) (hg : m.forwardGap f = 0) (hi : m.instd 0 = true) :
    m.forwardRx f = ((m.forwardNext f).postForward f).ackForward f := by
  refine (Mach.forwardRx_eq f m).trans ((if_neg (by rw [h]; decide)).trans ((if_neg (by rw [hg]; decide)).trans ?_))
  have hnone : (decide (m.forwardGap f = 0) || !(m.forwardNext f).instd 0) = true := by rw [hg]; rfl
  dsimp only
  rw [if_pos hnone, if_pos (show (m.forwardNext f).instd 0 = true from hi)]

theorem Mach.forwardRx_gap {m : Mach} {f : Frame} (h : m.isN0 = true) (h0 : 0 < m.forwardGap f) (hg : m.forwardGap f < 32768) (hi : m.instd 0 = true)
    (hp : ((m.forwardNext f).postLost f (m.forwardGap f)).instd 0 = true) :
    m.forwardRx f = (((m.forwardNext f).postLost f (m.forwardGap f)).postForward f).ackForward f := by
  refine (Mach.forwardRx_eq f m).trans ((if_neg (by rw [h]; decide)).trans ((if_neg (Nat.not_le.mpr hg)).trans ?_))
  have hsome : ¬ (decide (m.forwardGap f = 0) || !(m.forwardNext f).instd 0) = true := by
    rw [show (m.forwardNext f).instd 0 = true from hi]
    simp [Nat.ne_of_gt h0]
  dsimp only
  rw [if_neg hsome, if_pos hp]

/-! ## Acknowledged and resent records (R417) -/

theorem Mach.agack_ledger {m : Mach} {f : Frame} (h : byteAt f.payload 0 = 1) :
    m.agack f =
      let new := m.link.lds.filter (fun x => (x.1 + 65535 - fieldAt f.payload 2 2) % 65536 < 32768)
      let m1 := { m with link := { m.link with lds := new } }
      if new = [] then m1.stopTimer (.forward 1) else if new.length < m.link.lds.length then m1.startTimer (.forward 1) else m1 := by
  unfold Mach.agack
  simp only [h, decide_true, if_true, List.isEmpty_iff]
  rfl

theorem Mach.agack_event {m : Mach} {f : Frame} (h : byteAt f.payload 0 ≠ 1) :
    m.agack f =
      let new := m.link.evs.filter (fun x => (x.1 + 65535 - fieldAt f.payload 2 2) % 65536 < 32768)
      let m1 := { m with link := { m.link with evs := new } }
      if new = [] then m1.stopTimer (.forward 0) else if new.length < m.link.evs.length then m1.startTimer (.forward 0) else m1 := by
  unfold Mach.agack
  simp only [h, decide_false, Bool.false_eq_true, if_false, List.isEmpty_iff]
  rfl

theorem Mach.forwardResend_none {m : Mach} {ledger : Bool} (h : (if ledger then m.link.lds else m.link.evs) = []) :
    m.forwardResend ledger = m := if_pos (by rw [h]; rfl)

theorem Mach.forwardResend_due {m : Mach} {ledger : Bool} (h : (if ledger then m.link.lds else m.link.evs) ≠ []) :
    m.forwardResend ledger = (if ledger then m.link.lds else m.link.evs).foldl (fun t e => t.sendForward (if ledger then 3 else 2) e.1)
      ((m.reach (.forward (b2n ledger)) m.tto).startTimer (.forward (b2n ledger))) :=
  if_neg (by rwa [List.isEmpty_iff])

/-! ## Budgets (R302, R418) -/

theorem Mach.budgetSend_ring {m : Mach} (h0 : m.isN0 = true) (he : m.enumd = true) :
    m.budgetSend =
      if m.link.budDue then (m.updLink (fun l => { l with budDue := false })).budgetOut
      else if m.f LNK_CFG.BPER = 0 then m
      else ((m.reach .budgets (m.f LNK_CFG.BPER * msec)).startTimer .budgets).budgetOut := if_neg (by rw [h0, he]; decide)

theorem Mach.budgetRx_own {m : Mach} {f : Frame} (h : byteAt f.payload 0 ≤ m.node ∧ m.node < byteAt f.payload 0 + byteAt f.payload 1 ∧ m.enumd = true) :
    m.budgetRx f = m.takeBudget (fieldAt f.payload (4 + 2 * (m.node - byteAt f.payload 0)) 2) := if_pos (by simp [h])

theorem Mach.budgetRx_other {m : Mach} {f : Frame}
    (h : ¬ (byteAt f.payload 0 ≤ m.node ∧ m.node < byteAt f.payload 0 + byteAt f.payload 1 ∧ m.enumd = true)) : m.budgetRx f = m :=
  if_neg (by simpa using h)

/-! ## Notices (R331, R427, R428, R430) -/

theorem Mach.noticeRx_break {m : Mach} {f : Frame} (h : byteAt f.payload 0 = 1) :
    m.noticeRx f = (m.dropTxns (fun x => x.node == byteAt f.payload 1)).hopLost
      (if byteAt f.payload 2 = 1 then f.src else (f.src + m.nodes - 1) % Nat.max 1 m.nodes) := by
  unfold Mach.noticeRx
  rw [h]
  rfl

theorem Mach.noticeRx_heal {m : Mach} {f : Frame} (h : byteAt f.payload 0 = 2) :
    m.noticeRx f =
      let m1 := m.hopBack (if byteAt f.payload 2 = 1 then f.src else (f.src + m.nodes - 1) % Nat.max 1 m.nodes)
      if m.isN0 then m1.calStartAll else m1 := by
  unfold Mach.noticeRx
  rw [h]
  rfl

/-- The node that a notice of a restart names is lost until it is enumerated again. -/
def Mach.goneToo (b : Nat) (m : Mach) : Mach :=
  { m with link := { m.link with gone := if m.link.gone.contains b then m.link.gone else b :: m.link.gone } }

theorem Mach.noticeRx_restart {m : Mach} {f : Frame} (h : byteAt f.payload 0 = 3) :
    m.noticeRx f = ((m.goneToo (byteAt f.payload 1)).dropFramesTo (byteAt f.payload 1)).dropTxns (fun x => x.node == byteAt f.payload 1) := by
  unfold Mach.noticeRx
  rw [h]
  rfl

theorem Mach.goneToo_new {m : Mach} {b : Nat} (h : m.link.gone.contains b = false) :
    m.goneToo b = { m with link := { m.link with gone := b :: m.link.gone } } := by
  unfold Mach.goneToo
  rw [if_neg (by rw [h]; decide)]

theorem Mach.goneToo_old {m : Mach} {b : Nat} (h : m.link.gone.contains b = true) : m.goneToo b = m := by
  unfold Mach.goneToo
  rw [if_pos h]

theorem Mach.noticeRx_join {m : Mach} {f : Frame} (h : byteAt f.payload 0 = 4) : m.noticeRx f = if m.isN0 then m.startEnum else m := by
  unfold Mach.noticeRx
  rw [h]
  rfl

/-- Settles O41: forwarded records, budgets and notices. -/
theorem forwardingAndNotices : Obligations.ForwardingAndNotices := by
  unfold Obligations.ForwardingAndNotices
  intro s
  refine ⟨fun e he => ⟨fun h => ?_, fun h hg => ?_, fun h hg hi => ?_, fun h h0 hg hi hp => ?_⟩, fun e he => ⟨fun h => ?_, fun h => ?_⟩,
    ⟨fun h => does_act (Mach.forwardResend_none (ledger := false) h), fun h => does_act (Mach.forwardResend_none (ledger := true) h),
      fun h => does_act (Mach.forwardResend_due (ledger := false) h), fun h => does_act (Mach.forwardResend_due (ledger := true) h)⟩,
    fun h => does_act (if_pos (by rcases h with h | h <;> simp [h])),
    fun h0 he => ⟨fun hd => does_act ((Mach.budgetSend_ring h0 he).trans (if_pos hd)),
      fun hd hp => does_act ((Mach.budgetSend_ring h0 he).trans ((if_neg (by rw [hd]; decide)).trans (if_neg hp))),
      fun hd hp => does_act ((Mach.budgetSend_ring h0 he).trans ((if_neg (by rw [hd]; decide)).trans (if_pos hp)))⟩,
    fun e he => ⟨fun h => ?_, fun h => ?_⟩, fun e he => ⟨fun h => ?_, fun h h0 => ?_, fun h h0 => ?_, fun h hg => ?_, fun h hg => ?_, fun h h0 => ?_,
      fun h h0 => ?_⟩⟩
  · exact does_act ((Mach.onFrame_first he).trans (Mach.forwardRx_elsewhere (m := s.m.taken e) h))
  · exact does_act ((Mach.onFrame_first he).trans (Mach.forwardRx_old (m := s.m.taken e) h hg))
  · exact does_act ((Mach.onFrame_first he).trans (Mach.forwardRx_next (m := s.m.taken e) h hg hi))
  · exact does_act ((Mach.onFrame_first he).trans (Mach.forwardRx_gap (m := s.m.taken e) h h0 hg hi hp))
  · exact does_act ((Mach.onFrame_first he).trans (Mach.agack_ledger (m := s.m.taken e) h))
  · exact does_act ((Mach.onFrame_first he).trans (Mach.agack_event (m := s.m.taken e) h))
  · exact does_act ((Mach.onFrame_first he).trans (Mach.budgetRx_other (m := s.m.taken e) h))
  · exact does_act ((Mach.onFrame_first he).trans (Mach.budgetRx_own (m := s.m.taken e) h))
  · exact does_act ((Mach.onFrame_first he).trans (Mach.noticeRx_break (m := s.m.taken e) h))
  · exact does_act ((Mach.onFrame_first he).trans ((Mach.noticeRx_heal (m := s.m.taken e) h).trans (if_neg (Bool.eq_false_iff.mp h0))))
  · exact does_act ((Mach.onFrame_first he).trans ((Mach.noticeRx_heal (m := s.m.taken e) h).trans (if_pos h0)))
  · refine does_act ((Mach.onFrame_first he).trans ((Mach.noticeRx_restart (m := s.m.taken e) h).trans ?_))
    rw [Mach.goneToo_new (m := s.m.taken e) hg]
    rfl
  · refine does_act ((Mach.onFrame_first he).trans ((Mach.noticeRx_restart (m := s.m.taken e) h).trans ?_))
    rw [Mach.goneToo_old (m := s.m.taken e) hg]
    rfl
  · exact does_act ((Mach.onFrame_first he).trans ((Mach.noticeRx_join (m := s.m.taken e) h).trans (if_neg (Bool.eq_false_iff.mp h0))))
  · exact does_act ((Mach.onFrame_first he).trans ((Mach.noticeRx_join (m := s.m.taken e) h).trans (if_pos h0)))

end Sys2Proof.Machine
end

section
/-! SUPPORT. Enumeration and loop calibration (R419 to R425). -/
namespace Sys2Proof.Machine
open Sys2Proof Sys2Proof.Laws

/-! ## The token (R419, R420) -/

theorem Mach.enumRx_up (m : Mach) (f : Frame) :
    m.enumRx .up f =
      let next := byteAt f.payload 0
      let nonce := fieldAt f.payload 1 3
      if m.isN0 then
        if m.link.token.isSome && nonce = m.link.nonce then m.enumEnd next false
        else if nonce = m.link.nonce then m
        else ((m.enumFail 2).updLink (fun l => { l with token := none })).unenum
      else if next = 64 then (m.enumFail 3).unenum
      else
        let moved := m.enumd && m.node ≠ next
        let m1 := if moved then (((m.dropLinkBindings 0).dropTxns (fun _ => true)).put LNK_EVT.RENUM 1) else m
        let m2 := (((m1.put LNK_ID.NODE next).put LNK_CSTAT.RUNNING 0)).updLink (fun l => { l with nonce := nonce, failed := false, token := some nonce })
        m2.sendOn .down { typ := ttENUM, tid := f.tid, dst := 0, bcast := false, src := 0, hops := f.hops + 1, payload := toLE 4 (next + 1 + 256 * nonce) } :=
  rfl

/-- The token gives a node that keeps its address, or has none yet, its address and the nonce, and goes on. -/
theorem Mach.enumRx_passes {m : Mach} {f : Frame} (h0 : m.isN0 = false) (hn : byteAt f.payload 0 ≠ 64) (hm : m.enumd = false ∨ m.node = byteAt f.payload 0) :
    m.enumRx .up f =
      let next := byteAt f.payload 0
      let nonce := fieldAt f.payload 1 3
      let m2 := (m.put LNK_ID.NODE next).put LNK_CSTAT.RUNNING 0
      let m3 : Mach := { m2 with link := { m2.link with nonce := nonce, failed := false, token := some nonce } }
      m3.sendOn .down { typ := ttENUM, tid := f.tid, dst := 0, bcast := false, src := 0, hops := f.hops + 1, payload := toLE 4 (next + 1 + 256 * nonce) } := by
  have hstays : ¬ (m.enumd && decide (m.node ≠ byteAt f.payload 0)) = true := by
    rcases hm with hm | hm <;> simp [hm]
  refine (Mach.enumRx_up m f).trans ((if_neg (by rw [h0]; decide)).trans ((if_neg hn).trans ?_))
  dsimp only
  rw [if_neg hstays]
  rfl

theorem Mach.enumTimeout_n0 {m : Mach} (h0 : m.isN0 = true) :
    m.enumTimeout = if m.link.token.isSome then
        ((m.reach .enumTo (Nat.max 1 (m.f LNK_CFG.ENUM_TO) * msec)).enumFail 4).enumEnd (1 + m.link.heard) true
      else m := by
  refine (if_pos h0).trans ?_
  rw [(Mach.reach_later _ _ m).link]

theorem Mach.enumTimeout_node {m : Mach} (h0 : m.isN0 = false) :
    m.enumTimeout = if !m.enumd && m.link.token.isNone && (m.isUp .up || m.isUp .down) then
        ((m.reach .enumTo (Nat.max 1 (m.f LNK_CFG.ENUM_TO) * msec)).enumFail 1).unenum
      else m := if_neg (by rw [h0]; decide)

/-! ## START (R423) -/

/-- The row of LNK_CAL. -/
def lnkCalRow : Row := { name := "LNK_CAL", base := 0x0A0030, reset := 0x001E1300, writer := .p0, img := .t, rw := 0xFFFF01, trg := 1 }

theorem Mach.hook_lnkCal (m : Mach) (w : Who) (a : Acc) (d old new : Word) :
    m.hook w a 0x0A0030 d old new = applyIf (bitAt d 0 && m.isN0) Mach.calStartAll m := rfl

theorem Mach.write_lnkCal {m : Mach} {a : Acc} (d : Word) (h : m.byP0 a) :
    m.write a 0x0A0030 (d ||| 1) =
      let m1 := m.begun a 0x0A0030
      let m2 := m1.store 0x0A0030 (blend (m1.reg 0x0A0030) d 0xFFFF00)
      if m.isN0 then m2.calStartAll else m2 := by
  have hopen : m.opens a 0x0A0030 lnkCalRow := Mach.opens_p0 h (by decide) (by decide) (by decide) rfl rfl (by decide) (by decide) (by decide)
  have hgo : bitAt ((d ||| 1) &&& (word lnkCalRow.rw ||| word lnkCalRow.own ||| word lnkCalRow.w1c)) 0 = true := by
    rw [bitAt, BitVec.getLsbD_and, BitVec.getLsbD_or, show (1 : Word).getLsbD 0 = true by decide, Bool.or_true]
    decide
  have hn0 : ∀ (v : Word), ((m.begun a 0x0A0030).store 0x0A0030 v).isN0 = m.isN0 := by
    intro v
    unfold Mach.isN0
    rw [Mach.store_boot, Mach.begun_boot]
  rw [Mach.write_easy _ hopen rfl rfl rfl (by decide) (key := 0x0A0030) rfl, writeNew_blend rfl (by decide),
    show (word lnkCalRow.rw ||| word lnkCalRow.own) &&& ~~~ (word lnkCalRow.trg) = 0xFFFF00 by decide, blend_or_outside _ _ (by decide)]
  rw [Mach.hook_lnkCal, hgo, Bool.true_and, hn0]
  rfl

/-! ## GRID and the results (R423 to R425) -/

theorem Mach.gridRx_up {m : Mach} {p : LPort} {gl : Bool} {g arrival : Nat} (hu : m.isUp p = true) :
    m.gridRx p gl g arrival =
      if m.isN0 then
        if p == .up then
          (if (gl || !m.fb LNK_CSTAT.RUNNING) && m.fb LNK_DLY.DVALID && !m.link.open' then m.judge (m.closure g arrival) else m)
        else if gl && m.link.open' && m.fb LNK_CSTAT.RUNNING then m.calOk else m
      else if p == .down then m
      else
        let m1 := if m.loadsGrid then (m.gridLoad g).put LNK_CSTAT.GL 1 else m
        m1.updLink (fun l => { l with gl := gl }) := if_neg (by rw [hu]; decide)

theorem Mach.gridRx_node {m : Mach} {gl : Bool} {g arrival : Nat} (hu : m.isUp .up = true) (h0 : m.isN0 = false) :
    m.gridRx .up gl g arrival =
      let m1 := if m.loadsGrid then (m.gridLoad g).put LNK_CSTAT.GL 1 else m
      m1.updLink (fun l => { l with gl := gl }) :=
  (Mach.gridRx_up hu).trans ((if_neg (by rw [h0]; decide)).trans (if_neg (by decide)))

theorem Mach.calResult_node {m : Mach} {f : Frame} (h0 : m.isN0 = false) :
    m.calResult f =
      if byteAt f.payload 0 = 2 then m.calOkHere
      else
        let m1 := (m.put LNK_CSTAT.RUNNING 0).put LNK_CSTAT.REASON (byteAt f.payload 1)
        if byteAt f.payload 1 = 4 then m1.put LNK_CSTAT.ALIGNED 0 else m1 := if_neg (by rw [h0]; decide)

/-- Settles O42: the token, ENUM_DONE and the time-out of an enumeration; START, GRID, the result and the time-out of a calibration. -/
theorem enumerationAndCalibration : Obligations.EnumerationAndCalibration := by
  unfold Obligations.EnumerationAndCalibration
  intro s
  refine ⟨fun f hf => does_act (Mach.onFrame_one hf), fun f hf => ⟨fun h0 ht hn => ?_, fun h0 ht hn => ?_, fun h0 hn => ?_, fun h0 hn => ?_,
    fun h0 hn hm => ?_⟩, fun e he => ⟨fun h0 ht => ?_, fun h => ?_⟩, ⟨fun h0 ht => ?_, fun h0 he ht hu => ?_, fun h0 ht => ?_, fun h0 h => ?_⟩,
    fun e he => ⟨fun h0 => ?_, fun h0 => ?_⟩, fun a d h => ⟨fun h0 => ?_, fun h0 => ?_⟩,
    fun e he => ⟨fun h0 => ?_, fun h0 hk => ?_, fun h0 hk hr => ?_, fun h0 hk hr => ?_⟩, fun h0 hr => ?_, fun h => ?_,
    fun p flags g arrival hu => ⟨fun h0 hp hg hv ho => ?_, fun h0 hp => ?_, fun h0 hp => ⟨fun hl => ?_, fun hl => ?_⟩⟩⟩
  · exact does_act ((Mach.onFrame_one hf).trans ((Mach.enumRx_up ..).trans ((if_pos h0).trans (if_pos (by
      rw [Bool.and_eq_true, decide_eq_true_eq]; exact ⟨ht, hn⟩)))))
  · exact does_act ((Mach.onFrame_one hf).trans ((Mach.enumRx_up ..).trans ((if_pos h0).trans ((if_neg (by
      rw [Bool.and_eq_true, not_and_or]; left; exact fun h => nomatch (ht ▸ h : (none : Option Nat).isSome = true))).trans (if_pos hn)))))
  · exact does_act ((Mach.onFrame_one hf).trans ((Mach.enumRx_up ..).trans ((if_pos h0).trans ((if_neg (by
      rw [Bool.and_eq_true, decide_eq_true_eq, not_and_or]; exact .inr hn)).trans (if_neg hn)))))
  · exact does_act ((Mach.onFrame_one hf).trans ((Mach.enumRx_up ..).trans ((if_neg (Bool.eq_false_iff.mp h0)).trans (if_pos hn))))
  · exact does_act ((Mach.onFrame_one hf).trans (Mach.enumRx_passes (m := s.m.taken (.up, f)) h0 hn hm))
  · refine does_act ((Mach.onFrame_one he).trans (if_pos ?_))
    rw [Bool.and_eq_true, Bool.not_eq_true', beq_iff_eq]
    exact ⟨h0, ht⟩
  · refine does_act ((Mach.onFrame_one he).trans (if_neg ?_))
    rw [Bool.and_eq_true, Bool.not_eq_true', beq_iff_eq, not_and_or, Bool.not_eq_false]
    exact h
  · exact does_act ((Mach.enumTimeout_n0 h0).trans (if_pos ht))
  · exact does_act ((Mach.enumTimeout_node h0).trans (if_pos (by simpa [he, ht] using hu)))
  · exact does_act ((Mach.enumTimeout_n0 h0).trans (if_neg (by rw [ht]; decide)))
  · exact does_act ((Mach.enumTimeout_node h0).trans (if_neg (by
      rcases h with h | h
      · rw [h]; exact Bool.false_ne_true
      · rw [Option.isNone_eq_false_iff.mpr h, Bool.and_false]; exact Bool.false_ne_true)))
  · exact does_act ((Mach.onCal_first he).trans (if_pos h0))
  · exact does_act ((Mach.onCal_first he).trans (if_neg (Bool.eq_false_iff.mp h0)))
  · exact does_act ((Mach.write_lnkCal d h).trans (if_pos h0))
  · exact does_act ((Mach.write_lnkCal d h).trans (if_neg (Bool.eq_false_iff.mp h0)))
  · exact does_act ((Mach.onCal_first he).trans (if_pos h0))
  · exact does_act ((Mach.onCal_first he).trans ((Mach.calResult_node (m := s.m.taken e) h0).trans (if_pos hk)))
  · exact does_act ((Mach.onCal_first he).trans ((Mach.calResult_node (m := s.m.taken e) h0).trans ((if_neg (by omega)).trans (if_neg hr))))
  · exact does_act ((Mach.onCal_first he).trans ((Mach.calResult_node (m := s.m.taken e) h0).trans ((if_neg (by omega)).trans (if_pos hr))))
  · exact does_act (if_pos (by rw [h0, hr]; rfl))
  · exact does_act (if_neg (by rcases h with h | h <;> simp [h]))
  · subst hp
    exact does_act ((Mach.gridRx_up hu).trans ((if_pos h0).trans ((if_pos rfl).trans (if_pos (by rw [hg, hv, ho]; rfl)))))
  · subst hp
    exact does_act ((Mach.gridRx_up hu).trans ((if_neg (Bool.eq_false_iff.mp h0)).trans (if_pos rfl)))
  · subst hp
    refine does_act ((Mach.gridRx_node hu h0).trans ?_)
    dsimp only
    rw [if_neg (Bool.eq_false_iff.mp hl)]
    rfl
  · subst hp
    refine does_act ((Mach.gridRx_node hu h0).trans ?_)
    dsimp only
    rw [if_pos hl]
    rfl

end Sys2Proof.Machine
end

section
/-! SUPPORT. Key programming, the epoch and lockout (R435, R436, R441, R446). -/
namespace Sys2Proof.Machine
open Sys2Proof Sys2Proof.Laws

/-! ## A request to program a slot (R435) -/

theorem Mach.keyProg_burning {m : Mach} (h : m.sec.burning.isSome = true) : m.keyProg = m.put KEY_PROG_STAT.REJ 1 := if_pos h

theorem Mach.keyProg_begins {m : Mach} (h : m.sec.burning = none) (hr : m.keyRefusal (m.f KEY_PROG.SLOT) = none) :
    m.keyProg = { m with sec := { m.sec with burning := some (m.f KEY_PROG.SLOT, m.stagedKey) } } := by
  unfold Mach.keyProg
  dsimp only
  rw [if_neg (by rw [h]; decide), hr]

theorem Mach.keyProg_refused {m : Mach} {r : Nat} (h : m.sec.burning = none) (hr : m.keyRefusal (m.f KEY_PROG.SLOT) = some r) :
    m.keyProg = (if r = 3 then m.setSlot (m.f KEY_PROG.SLOT) { m.slot (m.f KEY_PROG.SLOT) with state := 2 } else m).keyEnd (m.f KEY_PROG.SLOT) r := by
  unfold Mach.keyProg
  dsimp only
  rw [if_neg (by rw [h]; decide), hr]

theorem Mach.keyBurnDone_idle {m : Mach} (v : Bool) (h : m.sec.burning = none) : m.keyBurnDone v = m := by
  unfold Mach.keyBurnDone
  rw [h]

/-! ## The epoch (R441) -/

/-- The counters start at the floor, and KEY_EPOCH shows the burn's end. -/
def Mach.epochEnds (full : Bool) (m : Mach) : Mach := m.epochFloor.setAw 0x3040 (word (256 + 512 * b2n full))

/-- No bit can be gained: four failed, or none is left. -/
theorem Mach.epochFull_decide (m : Mach) (n : Nat) : (decide (4 ≤ n) || decide (255 - m.sec.ones ≤ n)) = decide (4 ≤ n ∨ 255 - m.sec.ones ≤ n) :=
  (Bool.decide_or ..).symm

theorem Mach.epochBurn_runs {m : Mach} {n : Nat} (hd : m.dev = .boot) (hh : m.boot.held = false) (he : m.epochDone = false) :
    m.epochBurn n =
      let left := 255 - m.sec.ones
      let none' := 4 ≤ n || left ≤ n
      let m2 := Mach.epochEnds none' { m with sec := { m.sec with ones := if none' then m.sec.ones else m.sec.ones + 1, bfail := Nat.min n left } }
      if none' then m2.raise fCtrExhaust 6 (word m2.ctrFloor) else m2 :=
  if_neg (by rw [hd, hh, he]; decide)

theorem Mach.epochBurn_gains {m : Mach} {n : Nat} (hd : m.dev = .boot) (hh : m.boot.held = false) (he : m.epochDone = false) (h4 : n < 4)
    (hl : n < 255 - m.sec.ones) :
    m.epochBurn n = Mach.epochEnds (decide (4 ≤ n ∨ 255 - m.sec.ones ≤ n)) { m with sec := { m.sec with ones := m.sec.ones + 1, bfail := n } } := by
  have hno : (decide (4 ≤ n) || decide (255 - m.sec.ones ≤ n)) = false := by
    rw [Mach.epochFull_decide, decide_eq_false_iff_not]
    omega
  rw [Mach.epochBurn_runs hd hh he]
  dsimp only
  rw [← Mach.epochFull_decide, hno, if_neg Bool.false_ne_true, if_neg Bool.false_ne_true,
    show Nat.min n (255 - m.sec.ones) = n from Nat.min_eq_left (Nat.le_of_lt hl)]

theorem Mach.epochBurn_fails {m : Mach} {n : Nat} (hd : m.dev = .boot) (hh : m.boot.held = false) (he : m.epochDone = false)
    (h : 4 ≤ n ∨ 255 - m.sec.ones ≤ n) :
    m.epochBurn n =
      let m1 := Mach.epochEnds (decide (4 ≤ n ∨ 255 - m.sec.ones ≤ n)) { m with sec := { m.sec with bfail := Nat.min n (255 - m.sec.ones) } }
      m1.raise fCtrExhaust 6 (word m1.ctrFloor) := by
  have hyes : (decide (4 ≤ n) || decide (255 - m.sec.ones ≤ n)) = true := by
    rw [Mach.epochFull_decide, decide_eq_true_eq]
    exact h
  rw [Mach.epochBurn_runs hd hh he]
  dsimp only
  rw [← Mach.epochFull_decide, hyes, if_pos rfl, if_pos rfl]

/-- A failure of the boot that waited for the burn takes the device on to OCHRE. -/
def Mach.epochFollows (m : Mach) : Mach := if m.boot.failWait && m.epochDone then m.preOchre else m

theorem Mach.epochStep_eq {m t : Mach} {n : Nat} (h : m.epochBurn n = t) : m.epochStep n = t.epochFollows := by
  rw [← h]
  rfl

/-! ## Lockout (R446) -/

theorem Mach.not_off {m : Mach} (h : m.dev ≠ .off) : (m.dev == .off) = false := beq_eq_false_iff_ne.mpr h

theorem Mach.lockExpire_locked {m : Mach} {k : Nat} (h : m.dev ≠ .off) (ht : getF (m.lockWord k) 16 16 ≠ 0) :
    m.lockExpire k =
      let m1 := m.advNow (aonAt (aonCycles (cget (fun _ => 0) m.sec.lockAt k) + 32768 * getF (m.lockWord k) 16 16))
      m1.setAw (0x3020 + 4 * k) (setF (m1.lockWord k) 16 16 0) := if_neg (by rw [Mach.not_off h]; simpa using ht)

theorem Mach.failAge_oldest {m : Mach} {k x : Nat} (h : m.dev ≠ .off) (hx : (m.failsIn k (m.failsOf k).1).getLast? = some x) :
    m.failAge k =
      let m1 := m.advNow (x + (m.failsOf k).1 * second + 1)
      m1.setFails k ((m.failsOf k).1, m1.failsIn k (m.failsOf k).1) := by
  unfold Mach.failAge
  dsimp only
  rw [hx]
  exact if_neg (by rw [Mach.not_off h]; decide)

theorem Mach.failAge_none {m : Mach} {k : Nat} (h : m.failsIn k (m.failsOf k).1 = []) : m.failAge k = m := by
  unfold Mach.failAge
  dsimp only
  rw [h]
  rfl

/-- Settles O43: key programming, the epoch and lockout. -/
theorem keysEpochAndLockout : Obligations.KeysEpochAndLockout := by
  unfold Obligations.KeysEpochAndLockout
  intro s
  refine ⟨fun a d h hk harm => ⟨fun hb => ?_, fun hb hr => ?_, fun r hb hr => ⟨fun h3 => ?_, fun h3 => ?_⟩⟩,
    fun v h => does_act (Mach.keyBurnDone_idle v h), fun k key h => ⟨does_act (Mach.keyBurnDone_verified h), does_act (Mach.keyBurnDone_failed h)⟩,
    fun n hd hh he => ⟨fun h4 hl => ?_, fun h => ?_⟩, fun k h => ⟨fun ht => ?_, fun ht => ?_, fun x hx => ?_, fun hn => ?_⟩⟩
  · exact does_act ((Mach.write_keyProg d h hk harm).trans (Mach.keyProg_burning hb))
  · exact does_act ((Mach.write_keyProg d h hk harm).trans (Mach.keyProg_begins hb hr))
  · refine does_act ((Mach.write_keyProg d h hk harm).trans ((Mach.keyProg_refused hb hr).trans ?_))
    rw [if_neg h3]
  · subst h3
    exact does_act ((Mach.write_keyProg d h hk harm).trans (Mach.keyProg_refused hb hr))
  · exact does_act (Mach.epochStep_eq (Mach.epochBurn_gains hd hh he h4 hl))
  · exact does_act (Mach.epochStep_eq (Mach.epochBurn_fails hd hh he h))
  · exact does_act (Mach.lockExpire_locked h ht)
  · exact does_act (if_pos (by rw [ht]; rfl))
  · exact does_act (Mach.failAge_oldest h hx)
  · exact does_act (Mach.failAge_none hn)

end Sys2Proof.Machine
end

section
/-! SUPPORT. Meter groups and the end of a hire session (R461 to R467). -/
namespace Sys2Proof.Machine
open Sys2Proof Sys2Proof.Laws

/-! ## A write of MTR_CFG (R461) -/

/-- The row of MTR_CFG. -/
def mtrCfgRow : Row := { name := "MTR_CFG", base := 0x0C0000, count := 32, writer := .mtr, img := .y, rw := 1, cfg := 0xFF01FF06 }

theorem mtrCfg_address : ∀ i : Fin 32, rowOf (0x0C0000 + 4 * i.val) = some mtrCfgRow ∧ mtrCfgRow.ordinary (0x0C0000 + 4 * i.val) = true ∧
    mtrCfgRow.idx (0x0C0000 + 4 * i.val) = i.val := by
  decide

theorem Mach.opens_mtrCfg {m : Mach} {a : Acc} {p k : Nat} (i : Fin 32) (hb : m.bind a = .part p k) (hu : m.hostUp = true) (ht : m.todo = [])
    (ho : m.ownMtr i.val = p) : m.opens a (0x0C0000 + 4 * i.val) mtrCfgRow := by
  have hi := i.isLt
  obtain ⟨hrow, hord, hidx⟩ := mtrCfg_address i
  have hmay : m.mayWrite mtrCfgRow (.part p k) (0x0C0000 + 4 * i.val) = true := by
    unfold Mach.mayWrite
    split
    · rfl
    · exact beq_iff_eq.mpr (by rw [hidx, ho])
  exact Mach.opens_part hb hu ht hrow hord (by omega) hmay (by decide) rfl (by decide) (by omega) (by omega) (by omega)

theorem Mach.hook_mtrCfg (m : Mach) (w : Who) (a : Acc) (i : Fin 32) (d old new : Word) :
    m.hook w a (0x0C0000 + 4 * i.val) d old new = m.mtrCfgHook i.val old new := by
  have hi := i.isLt
  unfold Mach.hook
  rw [show (0x0C0000 + 4 * i.val) / 0x10000 = 12 by omega]
  refine (if_pos (by omega)).trans ?_
  rw [show (0x0C0000 + 4 * i.val - 0x0C0000) / 4 = i.val by omega]

theorem Mach.cfgOpen_mtrCfg (m : Mach) (i : Fin 32) : m.cfgOpen (0x0C0000 + 4 * i.val) = !m.fb (MTR_CFG.EN i.val) := by
  have hi := i.isLt
  unfold Mach.cfgOpen
  rw [show (0x0C0000 + 4 * i.val) / 0x10000 = 12 by omega]
  refine (if_pos (by omega)).trans ?_
  rw [show (0x0C0000 + 4 * i.val - 0x0C0000) / 4 = i.val by omega]

/-- MTR_CFG of a group with EN = 0: every bit is open. -/
theorem Mach.write_mtrCfg_open {m : Mach} {a : Acc} {p k : Nat} (i : Fin 32) (d : Word) (hb : m.bind a = .part p k) (hu : m.hostUp = true)
    (ht : m.todo = []) (ho : m.ownMtr i.val = p) (hen : (m.begun a (0x0C0000 + 4 * i.val)).fb (MTR_CFG.EN i.val) = false) :
    let addr := 0x0C0000 + 4 * i.val
    let m1 := m.begun a addr
    let old := m1.reg addr
    let new := blend old d 0xFF01FF07
    m.write a addr d = (if (old ^^^ new) &&& 0xFF01FF06 = 0 then m1.store addr new else m1.cfgChanged.store addr new).mtrCfgHook i.val old new := by
  have hi := i.isLt
  have hopen : (m.begun a (0x0C0000 + 4 * i.val)).cfgOpen (0x0C0000 + 4 * i.val) = true := by rw [Mach.cfgOpen_mtrCfg, hen]; rfl
  have hbits : (m.begun a (0x0C0000 + 4 * i.val)).openBits mtrCfgRow (0x0C0000 + 4 * i.val) = 0xFF01FF07 := by
    unfold Mach.openBits
    rw [hopen]
    decide
  intro addr m1 old new
  rw [Mach.write_cfg d (Mach.opens_mtrCfg i hb hu ht ho) rfl rfl rfl rfl rfl (by omega) (by omega) (key := addr) rfl, Mach.hook_mtrCfg, hopen, hbits,
    show word mtrCfgRow.cfg = 0xFF01FF06 by decide]
  simp only [Bool.not_true, Bool.false_and, Bool.false_eq_true, if_false, ne_eq, ite_not]
  split <;> rfl

/-- MTR_CFG of a group with EN = 1, its CFG bits unchanged: EN alone takes its value. -/
theorem Mach.write_mtrCfg_closed {m : Mach} {a : Acc} {p k : Nat} (i : Fin 32) (d : Word) (hb : m.bind a = .part p k) (hu : m.hostUp = true)
    (ht : m.todo = []) (ho : m.ownMtr i.val = p) (hen : (m.begun a (0x0C0000 + 4 * i.val)).fb (MTR_CFG.EN i.val) = true)
    (hsame : (d ^^^ (m.begun a (0x0C0000 + 4 * i.val)).reg (0x0C0000 + 4 * i.val)) &&& 0xFF01FF06 = 0) :
    let addr := 0x0C0000 + 4 * i.val
    let m1 := m.begun a addr
    let old := m1.reg addr
    m.write a addr d = (m1.store addr (blend old d 1)).mtrCfgHook i.val old (blend old d 1) := by
  have hi := i.isLt
  have hopen : (m.begun a (0x0C0000 + 4 * i.val)).cfgOpen (0x0C0000 + 4 * i.val) = false := by rw [Mach.cfgOpen_mtrCfg, hen]; rfl
  have hbits : (m.begun a (0x0C0000 + 4 * i.val)).openBits mtrCfgRow (0x0C0000 + 4 * i.val) = 1 := by
    unfold Mach.openBits
    rw [hopen]
    decide
  intro addr m1 old
  rw [Mach.write_cfg d (Mach.opens_mtrCfg i hb hu ht ho) rfl rfl rfl rfl rfl (by omega) (by omega) (key := addr) rfl, Mach.hook_mtrCfg, hopen, hbits,
    show word mtrCfgRow.cfg = 0xFF01FF06 by decide]
  have hign : ¬ (!false && decide ((d ^^^ m1.reg addr) &&& 0xFF01FF06 ≠ 0)) = true := by
    rw [show (d ^^^ m1.reg addr) &&& 0xFF01FF06 = 0 from hsame]
    decide
  have hkeep : ¬ (m1.reg addr ^^^ blend (m1.reg addr) d 1) &&& 0xFF01FF06 ≠ 0 := not_not_intro (blend_outside _ _ (by decide))
  rw [if_neg hign, if_neg hkeep]

/-- EN as it was: nothing follows. -/
theorem Mach.mtrCfgHook_off {m : Mach} {i : Nat} {old new : Word} (ho : old.getLsbD 0 = false) (hn : new.getLsbD 0 = false) :
    m.mtrCfgHook i old new = m :=
  (if_neg (by rw [bitAt, bitAt, hn, ho]; decide)).trans (if_neg (by rw [bitAt, bitAt, hn, ho]; decide))

theorem Mach.mtrCfgHook_rises {m : Mach} {i : Nat} {old new : Word} (ho : old.getLsbD 0 = false) (hn : new.getLsbD 0 = true) :
    m.mtrCfgHook i old new =
      if m.f (MTR_STAT.STATE i) = 0 then ((m.put (MTR_STAT.STATE i) 1).setMtr i { theft := (m.mtr i).theft, wait := true }).ledger 0x30 i 0
      else if m.f (MTR_STAT.STATE i) = 2 then m.put (MTR_STAT.ENHELD i) 1 else m :=
  if_pos (by rw [bitAt, bitAt, hn, ho]; decide)

theorem Mach.mtrCfgHook_falls {m : Mach} {i : Nat} {old new : Word} (ho : old.getLsbD 0 = true) (hn : new.getLsbD 0 = false) :
    m.mtrCfgHook i old new = if m.f (MTR_STAT.STATE i) = 1 then m.put (MTR_STAT.STATE i) 2 else m.put (MTR_STAT.ENHELD i) 0 :=
  (if_neg (by rw [bitAt, bitAt, hn, ho]; decide)).trans (if_pos (by rw [bitAt, bitAt, hn, ho]; decide))

/-! ## Samples and ticks (R464, R467) -/

theorem Mach.meterSample_powered {m : Mach} (h : m.powered = true) :
    m.meterSample =
      let m1 := m.nextAon .sample 128
      forN 32 (fun i t =>
        if t.f (MTR_STAT.STATE i) = 1 ∧ (t.mtr i).wait = false then
          t.setMtr i { t.mtr i with run := (t.mtr i).run + b2n (m1.mtrRuns i), qual := (t.mtr i).qual + b2n (m1.mtrQual i) }
        else t) m1 := by
  refine (if_neg (by rw [h]; decide)).trans ?_
  dsimp only
  congr 1
  funext i t
  by_cases hs : t.f (MTR_STAT.STATE i) = 1 ∧ (t.mtr i).wait = false
  · rw [if_pos hs, if_neg (by simp [hs])]
  · rw [if_neg hs, if_pos]
    rw [Bool.or_eq_true, decide_eq_true_eq]
    exact (not_and_or.mp hs).imp_right Bool.eq_true_of_not_eq_false

theorem Meter.runTick_eq (x : Meter) : x.runTick = decide (16 ≤ x.qual ∨ 16 ≤ x.run) := (Bool.decide_or ..).symm

theorem Mach.meterTick_on {m : Mach} (h : m.dev ≠ .off) :
    m.meterTick =
      let m1 := m.nextAon .tick 4096
      let ran := (List.range 32).filter (fun i =>
        m1.f (MTR_STAT.STATE i) ≠ 0 && m1.fb (MTR_CFG.TRACTION i) && decide (16 ≤ (m1.mtr i).qual ∨ 16 ≤ (m1.mtr i).run))
      ((forN 32 Mach.mtrTick m1).theftTick ran).immobRefresh := by
  refine (if_neg (by rw [Mach.not_off h]; decide)).trans ?_
  simp only [Meter.runTick_eq]

/-! ## The end of a hire session (R466) -/

theorem Mach.hireExpire_runs {m : Mach} (h : m.dev ≠ .off) (hs : m.f HIRE_STAT.STATE = 1) (he : m.f HIRE_END.TEND ≠ 0) :
    m.hireExpire =
      (if m.tod < m.f HIRE_END.TEND then m.advNow (aonAt (aonCycles m.now + 32768 * (m.f HIRE_END.TEND - m.tod) - m.sub)) else m).hireCheck.immobRefresh :=
  if_neg (by rw [Mach.not_off h, hs]; simpa using he)

theorem Mach.hireCheck_ends {m : Mach} (hs : m.f HIRE_STAT.STATE = 1) (he : m.f HIRE_END.TEND ≠ 0) (ht : m.f HIRE_END.TEND ≤ m.tod) :
    m.hireCheck = ((m.put HIRE_STAT.STATE 0).put HIRE_STAT.G 0).ledger 0x42 (m.f HIRE_SES.SES) (m.f HIRE_SES.SES / 256) :=
  if_pos (by simp [hs, he, ht])

/-- Settles O44: the configuration, the samples and the ticks of meter groups, and the end of a hire session. -/
theorem metersAndHire : Obligations.MetersAndHire := by
  unfold Obligations.MetersAndHire
  intro s
  refine ⟨fun a p k i d hb hu ht ho => ⟨fun hen => ⟨fun hd => ?_, fun hd hold => ⟨fun hs => ?_, fun hs => ?_⟩⟩,
    fun hen hsame hold hd => ⟨fun hs => ?_, fun hs => ?_⟩⟩, fun h => does_act (if_pos (by rw [h]; rfl)), fun h => does_act (Mach.meterSample_powered h),
    fun h => does_act (if_pos (by rw [h]; rfl)), fun h => does_act (Mach.meterTick_on h), fun h hs he => ⟨fun ht => ?_, fun ht => ?_⟩,
    fun h => does_act (if_pos (by rcases h with h | h <;> simp [h]))⟩
  · have hold := (Mach.fb_bit (s.m.begun a (0x0C0000 + 4 * i.val)) (MTR_CFG.EN i.val) rfl).symm.trans hen
    refine does_act ((Mach.write_mtrCfg_open i d hb hu ht ho hen).trans (Mach.mtrCfgHook_off hold ?_))
    rw [blend_getLsbD _ _ _ (by decide), hd]
    rfl
  · refine does_act ((Mach.write_mtrCfg_open i d hb hu ht ho hen).trans ((Mach.mtrCfgHook_rises hold ?_).trans (if_pos hs)))
    rw [blend_getLsbD _ _ _ (by decide), hd]
    rfl
  · refine does_act ((Mach.write_mtrCfg_open i d hb hu ht ho hen).trans ((Mach.mtrCfgHook_rises hold ?_).trans
      ((if_neg (by rw [hs]; decide)).trans (if_pos hs))))
    rw [blend_getLsbD _ _ _ (by decide), hd]
    rfl
  · refine does_act ((Mach.write_mtrCfg_closed i d hb hu ht ho hen hsame).trans ((Mach.mtrCfgHook_falls hold ?_).trans (if_pos hs)))
    rw [blend_getLsbD _ _ _ (by decide), hd]
    rfl
  · refine does_act ((Mach.write_mtrCfg_closed i d hb hu ht ho hen hsame).trans ((Mach.mtrCfgHook_falls hold ?_).trans (if_neg (by rw [hs]; decide))))
    rw [blend_getLsbD _ _ _ (by decide), hd]
    rfl
  · refine does_act ((Mach.hireExpire_runs h hs he).trans ?_)
    rw [if_neg (Nat.not_lt.mpr ht), Mach.hireCheck_ends hs he ht]
  · refine does_act ((Mach.hireExpire_runs h hs he).trans ?_)
    rw [if_pos ht]

end Sys2Proof.Machine
end

section
/-! SUPPORT. Tamper, motion and wake (R470 to R472). -/
namespace Sys2Proof.Machine
open Sys2Proof Sys2Proof.Laws

theorem Mach.Later.sent {m n : Mach} (h : m.Later n) : n.sent = m.sent := by rw [h.1]

theorem Mach.nextAon_sent (m : Mach) (t : Timer) (per : Nat) : (m.nextAon t per).sent = m.sent := by
  unfold Mach.nextAon
  rw [Mach.startTimer_sent, (Mach.advNow_later _ m).sent]

/-! ## Tamper strobes (R470) -/

/-- The count of equal strobes of an input. -/
def Mach.strobes (m : Mach) (i : Nat) (high : Bool) : Nat := if m.sent.last.getD i false = high then Nat.min 2 (m.sent.same.getD i 0 + 1) else 1

/-- The instant of the strobe. -/
def Mach.strobeAt (m : Mach) (i : Nat) : Mach := m.nextAon (.strobe i) (4096 * 2 ^ getF (m.aw 0x2008) 4 2)

/-- The `k`-th equal strobe of an input acts on the machine `m` at its instant. -/
def Mach.strobed (i : Nat) (high : Bool) (k : Nat) (m : Mach) : Mach :=
  let m1 := { m with sent := { m.sent with last := m.sent.last.set i high, same := m.sent.same.set i k } }
  if k < 2 || (m.f SENT_STAT.TLIVE).testBit i == high then m1
  else if high then
    let m2 := (m1.put SENT_STAT.TLIVE (m.f SENT_STAT.TLIVE + 2 ^ i)).put SENT_STAT.TAMP (m.f SENT_STAT.TAMP ||| 2 ^ i)
    ((m2.ledger 0x50 i 1).raise fTamper i (word m.tod)).wakeBy 1
  else (m1.put SENT_STAT.TLIVE (m.f SENT_STAT.TLIVE - 2 ^ i)).ledger 0x50 i 0

theorem Mach.tamperStrobe_live {m : Mach} {i : Nat} {high : Bool} (h : m.dev ≠ .off) (hm : (m.aw 0x2008).getLsbD i = false) :
    m.tamperStrobe i high = (m.strobeAt i).strobed i high (m.strobes i high) := by
  have hcount : (if (m.strobeAt i).sent.last.getD i false == high then Nat.min 2 ((m.strobeAt i).sent.same.getD i 0 + 1) else 1) = m.strobes i high := by
    rw [show (m.strobeAt i).sent = m.sent from m.nextAon_sent _ _]
    unfold Mach.strobes
    simp only [beq_iff_eq]
  rw [← hcount]
  unfold Mach.tamperStrobe
  rw [if_neg (by rw [Mach.not_off h, bitAt, hm]; decide)]
  rfl

theorem Mach.strobed_same {m : Mach} {i k : Nat} {high : Bool} (h : k < 2 ∨ (m.f SENT_STAT.TLIVE).testBit i = high) :
    m.strobed i high k = { m with sent := { m.sent with last := m.sent.last.set i high, same := m.sent.same.set i k } } :=
  if_pos (by rw [Bool.or_eq_true, decide_eq_true_eq, beq_iff_eq]; exact h)

theorem Mach.strobed_rise {m : Mach} {i k : Nat} {high : Bool} (hk : k = 2) (hl : (m.f SENT_STAT.TLIVE).testBit i = false) (hh : high = true) :
    m.strobed i high k =
      let m1 := { m with sent := { m.sent with last := m.sent.last.set i high, same := m.sent.same.set i k } }
      let m2 := (m1.put SENT_STAT.TLIVE (m1.f SENT_STAT.TLIVE + 2 ^ i)).put SENT_STAT.TAMP (m1.f SENT_STAT.TAMP ||| 2 ^ i)
      ((m2.ledger 0x50 i 1).raise fTamper i (word m2.tod)).wakeBy 1 :=
  (if_neg (by rw [hk, hl, hh]; decide)).trans (if_pos hh)

theorem Mach.strobed_fall {m : Mach} {i k : Nat} {high : Bool} (hk : k = 2) (hl : (m.f SENT_STAT.TLIVE).testBit i = true) (hh : high = false) :
    m.strobed i high k =
      let m1 := { m with sent := { m.sent with last := m.sent.last.set i high, same := m.sent.same.set i k } }
      (m1.put SENT_STAT.TLIVE (m1.f SENT_STAT.TLIVE - 2 ^ i)).ledger 0x50 i 0 :=
  (if_neg (by rw [hk, hl, hh]; decide)).trans (if_neg (by rw [hh]; decide))

/-! ## A write of SENT_CLR (R472) -/

/-- The row of SENT_CLR. -/
def sentClrRow : Row := { name := "SENT_CLR", base := 0x0C0548, kept := .aon, writer := .p0, own := 0x0301010F, trg := 0x0301010F }

theorem bitAt_and_of {d mask : Word} {i : Nat} (h : mask.getLsbD i = true) : bitAt (d &&& mask) i = d.getLsbD i := by
  rw [bitAt, BitVec.getLsbD_and, h, Bool.and_true]

theorem Mach.sentClrHook_mask (m : Mach) (d : Word) :
    m.sentClrHook (d &&& 0x0301010F) =
      let clr := fun (b : Bool) (x : Fld) (t : Mach) => if b then t.put x 0 else t
      let m3 := m.put SENT_STAT.TAMP (m.f SENT_STAT.TAMP &&& (15 - getF d 0 4))
      let m4 := clr (d.getLsbD 24) SENT_STAT.WAKE (clr (d.getLsbD 16) SENT_STAT.MCNT (clr (d.getLsbD 8) SENT_STAT.MOT m3))
      if d.getLsbD 25 then m4.theftClear 2 else m4 := by
  have hlow : getF (d &&& 0x0301010F) 0 4 = getF d 0 4 := by
    refine getF_and _ _ _ _ fun i hi => ?_
    have hm : ∀ j : Fin 4, (0x0301010F : Word).getLsbD (0 + j.val) = true := by decide
    exact hm ⟨i, hi⟩
  unfold Mach.sentClrHook
  rw [hlow, bitAt_and_of (by decide), bitAt_and_of (by decide), bitAt_and_of (by decide), bitAt_and_of (by decide)]

theorem Mach.write_sentClr {m : Mach} {a : Acc} (d : Word) (h : m.byP0 a) :
    m.write a 0x0C0548 d =
      let m1 := m.begun a 0x0C0548
      (m1.store 0x0C0548 (blend (m1.reg 0x0C0548) d 0)).sentClrHook (d &&& 0x0301010F) := by
  have hopen : m.opens a 0x0C0548 sentClrRow := Mach.opens_p0 h (by decide) (by decide) (by decide) rfl rfl (by decide) (by decide) (by decide)
  rw [Mach.write_easy d hopen rfl rfl rfl (by decide) (key := 0x0C0548) rfl, writeNew_blend rfl (by decide),
    show (word sentClrRow.rw ||| word sentClrRow.own) &&& ~~~ (word sentClrRow.trg) = 0 by decide,
    show word sentClrRow.rw ||| word sentClrRow.own ||| word sentClrRow.w1c = 0x0301010F by decide]
  rfl

/-- Settles O46: tamper strobes, motion, the wake and the clearing of their latches. -/
theorem sentinel : Obligations.Sentinel := by
  unfold Obligations.Sentinel
  intro s
  refine ⟨fun i high h hm => ⟨fun hk => ?_, fun hk hl hh => ?_, fun hk hl hh => ?_⟩, fun i high hm => does_act (if_pos (by rw [bitAt, hm, Bool.or_true])),
    fun h => does_act (if_pos (by rw [h]; rfl)), fun h hh => does_act ((if_neg (by rw [h]; decide)).trans (if_pos hh)),
    fun h hh => does_act ((if_neg (by rw [h]; decide)).trans (if_neg (by rw [hh]; decide))), fun h => does_act (if_pos (by rw [h]; rfl)),
    fun h => does_act (if_neg (by rw [h]; decide)), fun h hw => does_act (if_neg (by rw [hw]; simpa using h)),
    fun h => does_act (if_pos (by rcases h with h | h <;> simp [h])), fun a d h => ⟨fun h25 => ?_, fun h25 => ?_⟩⟩
  · exact does_act ((Mach.tamperStrobe_live h hm).trans (Mach.strobed_same hk))
  · exact does_act ((Mach.tamperStrobe_live h hm).trans (Mach.strobed_rise hk hl hh))
  · exact does_act ((Mach.tamperStrobe_live h hm).trans (Mach.strobed_fall hk hl hh))
  · exact does_act ((Mach.write_sentClr d h).trans ((Mach.sentClrHook_mask ..).trans (if_neg (by rw [h25]; decide))))
  · exact does_act ((Mach.write_sentClr d h).trans ((Mach.sentClrHook_mask ..).trans (if_pos h25)))

end Sys2Proof.Machine
end

section
/-! SUPPORT. The ledger's writer, its seals and the chain check (R473 to R478). -/
namespace Sys2Proof.Machine
open Sys2Proof Sys2Proof.Laws

/-! ## The writer (R473, R476) -/

/-- The oldest entry is written, and the writer moves on. -/
def Mach.ledgerNext (e : LdgEntry) (rest : List LdgEntry) (m : Mach) : Mach :=
  let i := m.f LDG_STAT.WR
  let m1 := ({ m with ldgBuf := rest }).ldgGrow.ldgStore i e.word (e.time.getD (word m.tod))
  if i % 16 = 14 then m1.ldgNextBlock (i / 16) else m1.put LDG_STAT.WR (i + 1)

theorem Mach.ledgerPut_entry {m : Mach} {e : LdgEntry} {rest : List LdgEntry} (h : m.ldgBuf = e :: rest) :
    m.ledgerPut =
      let m2 := m.ledgerNext e rest
      if m2.ldgDrop = 0 then m2
      else ({ m2 with ldgDrop := 0 }.put LDG_STAT.DROP 1).ledger 0x60 0 (Nat.min 65535 m2.ldgDrop) := by
  unfold Mach.ledgerPut
  rw [h]
  rfl

theorem Mach.ledgerPut_kept {m : Mach} {e : LdgEntry} {rest : List LdgEntry} (h : m.ldgBuf = e :: rest) (h0 : (m.ledgerNext e rest).ldgDrop = 0) :
    m.ledgerPut = m.ledgerNext e rest := (Mach.ledgerPut_entry h).trans (if_pos h0)

theorem Mach.ledgerPut_dropped {m : Mach} {e : LdgEntry} {rest : List LdgEntry} (h : m.ldgBuf = e :: rest) (h0 : (m.ledgerNext e rest).ldgDrop ≠ 0) :
    m.ledgerPut = (({ m.ledgerNext e rest with ldgDrop := 0 } : Mach).put LDG_STAT.DROP 1).ledger 0x60 0 (Nat.min 65535 (m.ledgerNext e rest).ldgDrop) :=
  (Mach.ledgerPut_entry h).trans (if_neg h0)

theorem Mach.ledgerWrite_entry {m : Mach} (hb : m.ldgBuf ≠ []) (hd : m.dev ≠ .off) : m.ledgerWrite = (m.nextAon .entry 1).ledgerPut := by
  unfold Mach.ledgerWrite
  rw [if_neg (by rw [Mach.not_off hd, Bool.or_false, List.isEmpty_iff]; exact hb)]

/-! ## The seal (R475) -/

theorem Mach.ledgerSeal_due {m : Mach} {b : Nat} {rest : List Nat} (h : m.ldg.due = b :: rest) (hu : m.hostUp = true) :
    m.ledgerSeal =
      let tag := m.sealOf (if m.keyValid 1 then (m.slot 1).key else zeroKey) m.ldg.chain b
      let m1 := { m with ldg := { m.ldg with due := rest, chain := tag, sealed := cset (fun _ => false) m.ldg.sealed b true } }
      m1.ldgStore (16 * b + 15) (word (0xFF + 256 * ((m.blkSeq b - 1) % 256) + 65536 * fieldAt tag 0 2)) (word (fieldAt tag 2 4)) := by
  unfold Mach.ledgerSeal
  rw [h]
  exact if_neg (by rw [Mach.sealing, hu]; decide)

theorem Mach.ledgerSeal_none {m : Mach} (h : m.ldg.due = [] ∨ m.hostUp = false) : m.ledgerSeal = m := by
  unfold Mach.ledgerSeal
  cases hd : m.ldg.due with
  | nil => rfl
  | cons b rest =>
    have hu : m.hostUp = false := h.resolve_left (by rw [hd]; exact List.cons_ne_nil b rest)
    exact if_pos (by rw [Mach.sealing, hu]; rfl)

/-! ## The chain check (R478) -/

/-- The row of LDG_CTL. -/
def ldgCtlRow : Row := { name := "LDG_CTL", base := 0x0C0568, writer := .p0, own := 3, trg := 3 }

theorem Mach.write_ldgCheck {m : Mach} {a : Acc} (d : Word) (h : m.byP0 a) :
    m.write a 0x0C0568 (d ||| 1) =
      let m1 := m.begun a 0x0C0568
      (m1.store 0x0C0568 (blend (m1.reg 0x0C0568) d 0)).ldgCtlHook ((d ||| 1) &&& 3) := by
  have hopen : m.opens a 0x0C0568 ldgCtlRow := Mach.opens_p0 h (by decide) (by decide) (by decide) rfl rfl (by decide) (by decide) (by decide)
  rw [Mach.write_easy _ hopen rfl rfl rfl (by decide) (key := 0x0C0568) rfl, writeNew_blend rfl (by decide),
    show (word ldgCtlRow.rw ||| word ldgCtlRow.own) &&& ~~~ (word ldgCtlRow.trg) = 0 by decide,
    show word ldgCtlRow.rw ||| word ldgCtlRow.own ||| word ldgCtlRow.w1c = 3 by decide, blend_or_outside _ _ (by decide)]
  rfl

/-- CHECK = 1 starts the check, after CLEAR where that is 1 too. -/
theorem Mach.ldgCtlHook_check (m : Mach) (d : Word) :
    m.ldgCtlHook ((d ||| 1) &&& 3) =
      (if d.getLsbD 1 then ((m.put LDG_STAT.WRAP 0).put LDG_STAT.DROP 0).put LDG_STAT.SKIP 0 else m).put LDG_STAT.CHK 1 := by
  have hgo : bitAt ((d ||| 1) &&& 3) 0 = true := by
    rw [bitAt_and_of (by decide), BitVec.getLsbD_or, show (1 : Word).getLsbD 0 = true by decide, Bool.or_true]
  have hclr : bitAt ((d ||| 1) &&& 3) 1 = d.getLsbD 1 := by
    rw [bitAt_and_of (by decide), BitVec.getLsbD_or, show (1 : Word).getLsbD 1 = false by decide, Bool.or_false]
  unfold Mach.ldgCtlHook
  rw [hgo, hclr]
  rfl

/-- The blocks whose seal fails, in sequence. -/
def Mach.badBlocks (m : Mach) : List Nat :=
  sortBy (fun (a b : Nat) => Nat.ble (m.blkSeq a) (m.blkSeq b)) ((List.range 256).filter (fun b => m.sealBad b))

theorem Mach.chainDone_pass {m : Mach} (hc : m.f LDG_STAT.CHK = 1) (hp : m.powered = true) (hbad : m.badBlocks = []) :
    m.chainDone = m.put LDG_STAT.CHK 2 := by
  unfold Mach.badBlocks at hbad
  unfold Mach.chainDone
  rw [if_neg (by rw [hc, hp]; decide), hbad]

theorem Mach.chainDone_fail {m : Mach} {b : Nat} {rest : List Nat} (hc : m.f LDG_STAT.CHK = 1) (hp : m.powered = true)
    (hbad : m.badBlocks = b :: rest) :
    m.chainDone = ((m.put LDG_STAT.CHK 3).put LDG_STAT.BADBLK b).raise fChainBad 0 (word b) := by
  unfold Mach.badBlocks at hbad
  unfold Mach.chainDone
  rw [if_neg (by rw [hc, hp]; decide), hbad]

/-- Settles O47: the ledger's writer, its seals and the chain check. -/
theorem ledgerCommands : Obligations.LedgerCommands := by
  unfold Obligations.LedgerCommands
  intro s
  refine ⟨fun h => does_act (if_pos (by rcases h with h | h <;> simp [h])), fun e rest hb hd he => ⟨fun h0 => ?_, fun h0 => ?_⟩,
    fun b rest hd hu => does_act (Mach.ledgerSeal_due hd hu), fun h => does_act (Mach.ledgerSeal_none h), fun a d h => ⟨fun h1 => ?_, fun h1 => ?_⟩,
    fun hc hp => ⟨fun hbad => ?_, fun b rest hbad => ?_⟩, fun h => does_act (if_pos (by rcases h with h | h <;> simp [h]))⟩
  · exact does_act ((Mach.ledgerWrite_entry hb hd).trans (Mach.ledgerPut_kept he h0))
  · exact does_act ((Mach.ledgerWrite_entry hb hd).trans (Mach.ledgerPut_dropped he h0))
  · refine does_act ((Mach.write_ldgCheck d h).trans ((Mach.ldgCtlHook_check ..).trans ?_))
    rw [if_neg (by rw [h1]; decide)]
  · refine does_act ((Mach.write_ldgCheck d h).trans ((Mach.ldgCtlHook_check ..).trans ?_))
    rw [if_pos h1]
  · exact does_act (Mach.chainDone_pass hc hp hbad)
  · exact does_act (Mach.chainDone_fail hc hp hbad)

end Sys2Proof.Machine
end

section
/-! SUPPORT. Self-test and calibration activities (R253, R519 to R529). -/
namespace Sys2Proof.Machine
open Sys2Proof Sys2Proof.Laws

theorem Mach.Later.test {m n : Mach} (h : m.Later n) : n.test = m.test := by rw [h.1]

/-! ## The turn of an activity (R519) -/

theorem Mach.askSlot_new {m : Mach} {x : Activity} (hs : m.gov.slots.contains x = false) (hw : (m.gov.want.map Prod.fst).contains x = false) :
    m.askSlot x = { m with gov := { m.gov with want := queueIn x m.gov.want } } := if_neg (by rw [hs, hw]; decide)

theorem Mach.testDue_asks {m : Mach} {x : Activity} (hl : m.locked = true) (hd : m.dev = .run ∨ m.dev = .ochre) (hm : m.mayFallDue x = true)
    (hs : m.gov.slots.contains x = false) (hw : (m.gov.want.map Prod.fst).contains x = false) :
    m.testDue x =
      let m1 := if m.drifted x then m else m.reach (.due (dueIdx x)) (cadence x)
      { m1 with gov := { m1.gov with want := queueIn x m.gov.want } } := by
  dsimp only
  have hgov : (if m.drifted x then m else m.reach (.due (dueIdx x)) (cadence x)).gov = m.gov := by
    split
    · rfl
    · exact (Mach.reach_later _ _ m).gov
  have hrun : (m.dev == .run || m.dev == .ochre) = true := by rw [Bool.or_eq_true, beq_iff_eq, beq_iff_eq]; exact hd
  unfold Mach.testDue
  rw [if_neg (by rw [hs, hw, hm, hl, hrun]; decide), Mach.askSlot_new (by rw [hgov, hs]) (by rw [hgov, hw]), hgov]

theorem Mach.testDue_waits {m : Mach} {x : Activity} (h : m.gov.slots.contains x = true ∨ m.mayFallDue x = false) : m.testDue x = m :=
  if_pos (by rcases h with h | h <;> rw [h] <;> simp)

/-! ## Lines of a pass (R520 to R522) -/

/-- The engine of a line gives no clock: it serves no channel, or one that is STOPPED. -/
def Mach.lineIdle (m : Mach) (g q : Nat) : Bool := (m.engineCh (lineEngine g q)).all (fun n => m.chst n == 0)

theorem Mach.lineDone_runs {m : Mach} {g : Fin 17} {q : Nat} {ok : Bool} {st : Nat} (hr : m.actRuns (.fdcal g) = true) (hd : m.dev ≠ .teasel)
    (hq : q ≤ lastLine g.val) :
    m.lineDone g q ok st =
      let x := m.pass g.val
      if x.next = lastLine g.val + 1 && q = lastLine g.val then m.passEnd g st
      else if x.next ≠ q || x.ready.isSome then m
      else if !ok then (m.setPass g.val { x with fails := x.fails + 2 ^ q }).passStep g.val
      else if m.lineIdle g.val q then m.passStep g.val else m.setPass g.val { x with ready := some m.fine } := by
  have htst : ¬ (m.dev == .teasel && m.test.run == some (2, g.val)) = true := by
    rw [show (m.dev == .teasel) = false from beq_eq_false_iff_ne.mpr hd, Bool.false_and]
    decide
  have hgo : ¬ (!m.actRuns (.fdcal g) || decide (lastLine g.val < q)) = true := by
    rw [hr, decide_eq_false (Nat.not_lt.mpr hq)]
    decide
  unfold Mach.lineDone Mach.lineIdle
  rw [if_neg htst, if_neg hgo]
  cases m.engineCh (lineEngine g.val q) <;> rfl

/-- The next line of a pass, not yet calibrated. -/
theorem Mach.lineDone_next {m : Mach} {g : Fin 17} {q : Nat} {ok : Bool} {st : Nat} (hr : m.actRuns (.fdcal g) = true) (hd : m.dev ≠ .teasel)
    (hq : q ≤ lastLine g.val) (hn : (m.pass g.val).next = q) (hy : (m.pass g.val).ready = none) :
    m.lineDone g q ok st =
      if !ok then (m.setPass g.val { m.pass g.val with fails := (m.pass g.val).fails + 2 ^ q }).passStep g.val
      else if m.lineIdle g.val q then m.passStep g.val else m.setPass g.val { m.pass g.val with ready := some m.fine } := by
  have hlast : ¬ (decide ((m.pass g.val).next = lastLine g.val + 1) && decide (q = lastLine g.val)) = true := by
    rw [decide_eq_false (by omega : ¬ (m.pass g.val).next = lastLine g.val + 1), Bool.false_and]
    decide
  have hopen : ¬ (decide ((m.pass g.val).next ≠ q) || (m.pass g.val).ready.isSome) = true := by
    rw [hy, decide_eq_false (not_not_intro hn)]
    decide
  exact (Mach.lineDone_runs hr hd hq).trans ((if_neg hlast).trans (if_neg hopen))

theorem Mach.lineDone_idle {m : Mach} {g : Fin 17} {q st : Nat} (hr : m.actRuns (.fdcal g) = true) (hd : m.dev ≠ .teasel)
    (hq : q ≤ lastLine g.val) (hn : (m.pass g.val).next = q) (hy : (m.pass g.val).ready = none)
    (hi : ∀ n, m.engineCh (lineEngine g.val q) = some n → m.chst n = 0) : m.lineDone g q true st = m.passStep g.val := by
  refine (Mach.lineDone_next hr hd hq hn hy).trans ((if_neg (by decide)).trans (if_pos ?_))
  unfold Mach.lineIdle
  cases he : m.engineCh (lineEngine g.val q) with
  | none => rfl
  | some n => exact beq_iff_eq.mpr (hi n he)

theorem Mach.lineDone_waits {m : Mach} {g : Fin 17} {q st n : Nat} (hr : m.actRuns (.fdcal g) = true) (hd : m.dev ≠ .teasel)
    (hq : q ≤ lastLine g.val) (hn : (m.pass g.val).next = q) (hy : (m.pass g.val).ready = none)
    (he : m.engineCh (lineEngine g.val q) = some n) (hc : m.chst n ≠ 0) :
    m.lineDone g q true st = m.setPass g.val { m.pass g.val with ready := some m.fine } := by
  refine (Mach.lineDone_next hr hd hq hn hy).trans ((if_neg (by decide)).trans (if_neg ?_))
  unfold Mach.lineIdle
  rw [he]
  exact fun h => hc (beq_iff_eq.mp h)

theorem Mach.lineDone_last {m : Mach} {g : Fin 17} {q : Nat} {ok : Bool} {st : Nat} (hr : m.actRuns (.fdcal g) = true) (hd : m.dev ≠ .teasel)
    (hn : (m.pass g.val).next = lastLine g.val + 1) (hq : q = lastLine g.val) : m.lineDone g q ok st = m.passEnd g st :=
  (Mach.lineDone_runs hr hd (Nat.le_of_eq hq)).trans (if_pos (by rw [decide_eq_true hn, decide_eq_true hq]; rfl))

theorem Mach.lineSwap_low {m : Mach} {g : Fin 17} {q r n t : Nat} (hr : (m.pass g.val).ready = some r)
    (he : m.engineCh (lineEngine g.val q) = some n) (ht : m.lowTurn n r = some t) (hn : (m.pass g.val).next = q) :
    m.lineSwap g q = (m.advTo ((t + 63) / 64)).passStep g.val := by
  unfold Mach.lineSwap
  dsimp only
  rw [hr, Option.bind_some, he, Option.bind_some, ht]
  exact if_pos hn

theorem Mach.lineSwap_none {m : Mach} {g : Fin 17} {q : Nat} (hr : (m.pass g.val).ready = none) : m.lineSwap g q = m := by
  unfold Mach.lineSwap
  dsimp only
  rw [hr]
  rfl

/-! ## The lane test (R523 to R525) -/

/-- The outcome of step `k` of the test of lane `l`, of which `bad` is the first that failed. -/
def Mach.laneStepped (l : Fin 16) (ok : Bool) (k bad : Nat) (m : Mach) : Mach :=
  let m1 := if ok then m
    else (m.updTest (fun y => { y with laneBad := setBit16 y.laneBad l.val true })).raise fLaneFail l.val (word k)
  if k < 8 then m1.updTest (fun y => { y with lane := l.val, laneStep := k, laneFail := bad })
  else
    (m1.updTest (fun y => { y with lane := l.val, laneStep := 0, laneFail := 0, laneBad := if bad = 0 then setBit16 y.laneBad l.val false else y.laneBad })).actEnd
      (.lane l) (bad = 0) bad bad

/-- The instant of a step. -/
def Mach.roundAt (m : Mach) : Mach := (m.reach .round m.testRound).startTimer .round

theorem Mach.roundAt_test (m : Mach) : m.roundAt.test = m.test := by
  unfold Mach.roundAt
  rw [Mach.startTimer_test, (Mach.reach_later _ _ m).test]

theorem Mach.laneTest_step {m : Mach} {l : Fin 16} {ok : Bool} (h : m.laneUnder = some l) (hl : m.test.lane = l.val) :
    m.laneTest ok = m.roundAt.laneStepped l ok (m.test.laneStep + 1)
      (if m.test.laneFail = 0 && !ok then m.test.laneStep + 1 else m.test.laneFail) := by
  unfold Mach.laneTest
  rw [h]
  dsimp only
  rw [show (m.reach .round m.testRound).startTimer .round = m.roundAt from rfl, Mach.roundAt_test, if_pos hl, if_pos hl]
  rfl

/-! ## The queue-engine test (R526) -/

/-- The instant of a piece. -/
def Mach.pieceAt (m : Mach) : Mach := (m.reach .piece (20 * usec)).startTimer .piece

theorem Mach.pieceAt_test (m : Mach) : m.pieceAt.test = m.test := by
  unfold Mach.pieceAt
  rw [Mach.startTimer_test, (Mach.reach_later _ _ m).test]

theorem Mach.qengTest_runs {m : Mach} {ok : Bool} (h : m.actRuns .qeng = true) :
    m.qengTest ok =
      let k := m.test.pieces + 1
      if !ok then ((m.pieceAt.updTest (fun y => { y with pieces := 0 })).raise fQengFail 0 (word k)).actEnd .qeng false k k
      else if k = 16 then (m.pieceAt.updTest (fun y => { y with pieces := 0 })).actEnd .qeng true 0 0
      else m.pieceAt.updTest (fun y => { y with pieces := k }) := by
  unfold Mach.qengTest
  rw [if_neg (by rw [h]; decide), show (m.reach .piece (20 * usec)).startTimer .piece = m.pieceAt from rfl]
  dsimp only
  rw [Mach.pieceAt_test]

/-! ## The scrub (R527) -/

/-- The outcome of word `w` of memory `i`, `old` being the mark of the first double error so far. -/
def Mach.scrubbed (i : Fin 5) (r : ScrubResult) (w old : Nat) (m : Mach) : Mach :=
  let m1 := if r == .double then m.raise fMemFail i.val (word w) else m
  let fin := w + 1 = memWords i.val
  let bad := if old = 0 && r == .double then w + 1 else old
  let m2 := m1.updTest (fun y => { y with scrubMem := i.val, scrubAt := if fin then 0 else w + 1, scrubFail := if fin then 0 else bad })
  if fin then m2.actEnd (.scrub i) (bad = 0) 0 (bad - 1) else m2

theorem Mach.scrubTest_word {m : Mach} {i : Fin 5} {r : ScrubResult} (h : m.scrubUnder = some i) (hi : m.test.scrubMem = i.val) :
    m.scrubTest r = (m.advReg (m.rclk + 1)).scrubbed i r m.test.scrubAt m.test.scrubFail := by
  unfold Mach.scrubTest
  rw [h]
  dsimp only
  rw [(Mach.advReg_later (m.rclk + 1) m).test, if_pos hi, if_pos hi]
  rfl

theorem Mach.scrubbed_on {m : Mach} {i : Fin 5} {r : ScrubResult} {w old : Nat} (h : w + 1 ≠ memWords i.val) :
    m.scrubbed i r w old =
      let m1 := if r = .double then m.raise fMemFail i.val (word w) else m
      { m1 with test := { m1.test with scrubMem := i.val, scrubAt := w + 1, scrubFail := if old = 0 && r == .double then w + 1 else old } } := by
  unfold Mach.scrubbed
  simp only [h, if_false, beq_iff_eq]
  rfl

theorem Mach.scrubbed_end {m : Mach} {i : Fin 5} {r : ScrubResult} {w old : Nat} (h : w + 1 = memWords i.val) :
    m.scrubbed i r w old =
      let m1 := if r = .double then m.raise fMemFail i.val (word w) else m
      let bad := if old = 0 && r == .double then w + 1 else old
      Mach.actEnd (.scrub i) (bad = 0) 0 (bad - 1) { m1 with test := { m1.test with scrubMem := i.val, scrubAt := 0, scrubFail := 0 } } := by
  unfold Mach.scrubbed
  simp only [h, if_true, beq_iff_eq]
  rfl

/-! ## The loopback (R528) -/

theorem Mach.loopback_prepare {m : Mach} {p : LPort} {seen : Nat} {k : Int} (hs : m.lstate p ≤ 1) (hd : m.dev = .arming) (hb : m.boot.step = 8) :
    m.loopback p seen k =
      if m.loopReason p seen k = 0 then m.setLp p { m.lp p with k := some k }
      else m.raise fLoopFail (portIdx p) (word (m.loopReason p seen k)) := by
  have hprep : (m.dev == .arming && m.boot.step == 8) = true := by rw [hd, hb]; rfl
  unfold Mach.loopback
  rw [hprep]
  refine (if_neg ?_).trans (if_pos rfl)
  rw [decide_eq_false (Nat.not_lt.mpr hs), Bool.not_true, Bool.false_and]
  decide

theorem Mach.loopback_runs {m : Mach} {p : LPort} {seen : Nat} {k : Int} (hs : m.lstate p ≤ 1) (hd : m.dev ≠ .arming)
    (hr : m.actRuns (.loopback p) = true) :
    m.loopback p seen k =
      let why := m.loopReason p seen k
      (if why = 0 then m.setLp p { m.lp p with k := some k } else m.raise fLoopFail (portIdx p) (word why)).actEnd (.loopback p) (why = 0) 0 why := by
  have hprep : (m.dev == .arming && m.boot.step == 8) = false := by
    rw [show (m.dev == .arming) = false from beq_eq_false_iff_ne.mpr hd, Bool.false_and]
  unfold Mach.loopback
  rw [hprep]
  refine (if_neg ?_).trans (if_neg Bool.false_ne_true)
  rw [decide_eq_false (Nat.not_lt.mpr hs), hr]
  decide

/-- Settles O48: the turns, passes, tests, scrubs and loopbacks of self-test. -/
theorem selfTestCommands : Obligations.SelfTestCommands := by
  unfold Obligations.SelfTestCommands
  intro s
  refine ⟨fun x => ⟨fun hl hd hm hs hw => does_act (Mach.testDue_asks hl hd hm hs hw), fun h => does_act (Mach.testDue_waits h)⟩,
    fun g q ok st hr hd hq => ⟨fun hn hy => ⟨fun hok => ?_, fun hok hi => ?_, fun n hok he hc => ?_⟩, fun hn hq => ?_⟩,
    fun g q => ⟨fun r n t hr he ht hn => does_act (Mach.lineSwap_low hr he ht hn), fun hr => does_act (Mach.lineSwap_none hr)⟩,
    fun l ok h hl => ⟨fun hk => ?_, fun hk => ?_⟩, fun h => ⟨fun hk => ?_, fun hk => ?_, ?_⟩, fun i r h hi => ⟨fun hw => ?_, fun hw => ?_⟩,
    fun p seen k hs => ⟨fun hd hb => ?_, fun hd hr => ?_⟩⟩
  · subst hok
    exact does_act ((Mach.lineDone_next hr hd hq hn hy).trans (if_pos rfl))
  · subst hok
    exact does_act (Mach.lineDone_idle hr hd hq hn hy hi)
  · subst hok
    exact does_act (Mach.lineDone_waits hr hd hq hn hy he hc)
  · exact does_act (Mach.lineDone_last hr hd hn hq)
  · exact does_act ((Mach.laneTest_step h hl).trans (if_pos hk))
  · exact does_act ((Mach.laneTest_step h hl).trans (if_neg (Nat.not_lt.mpr hk)))
  · exact does_act ((Mach.qengTest_runs h).trans ((if_neg (by decide)).trans (if_neg hk)))
  · exact does_act ((Mach.qengTest_runs h).trans ((if_neg (by decide)).trans (if_pos hk)))
  · exact does_act ((Mach.qengTest_runs h).trans (if_pos rfl))
  · exact does_act ((Mach.scrubTest_word h hi).trans (Mach.scrubbed_on hw))
  · exact does_act ((Mach.scrubTest_word h hi).trans (Mach.scrubbed_end hw))
  · exact does_act (Mach.loopback_prepare hs hd hb)
  · exact does_act (Mach.loopback_runs hs hd hr)

end Sys2Proof.Machine
end

section
/-! SUPPORT. TEASEL, TST_RUN and the root PLL test (R530, R532, R533). -/
namespace Sys2Proof.Machine
open Sys2Proof Sys2Proof.Laws

/-! ## Entry (R530) -/

theorem Mach.teaselEntry_strapped {m : Mach} (hs : m.boot.straps.getLsbD 4 = true) (hp : m.boot.stop = false) :
    m.teaselEntry = if m.boot.park.isSome then m.updTest (fun x => { x with held := true })
      else if m.dev == .run || m.dev == .ochre then m.teaselGo else m := if_neg (by rw [hs, hp]; decide)

/-! ## TST_RUN (R532) -/

/-- The row of TST_RUN. -/
def tstRunRow : Row := { name := "TST_RUN", base := 0x0F0010, writer := .each, key := 0x80001F0F, trg := 0x80000000 }

theorem Mach.opens_tstRun {m : Mach} {a : Acc} {p k : Nat} (hb : m.bind a = .part p k) (hu : m.hostUp = true) (ht : m.todo = [])
    (hd : m.dev = .teasel) : m.opens a 0x0F0010 tstRunRow := by
  refine ⟨hu, ht, .inl (by rw [hb]; simp), by decide, by decide, .inr hd, .inl (by rw [hb]; simp), ?_, .inl rfl, .inl (by decide), ?_, .inl (by decide),
    ?_, ?_, .inl (by decide)⟩
  · rw [hb]
    exact Mach.mayWrite_each rfl ..
  · simp [Mach.lockedGrp, tstRunRow]
  · simp [Mach.svcBusy]
  · simp [Mach.grpPending]

theorem Mach.writeMask_tstRun (m : Mach) (w : Who) (d : Word) : m.writeMask w tstRunRow 0x0F0010 d true true = 0x80001F0F := by
  simp [Mach.writeMask, tstRunRow, word]

/-- The request with GO = 1: the test and its index are taken from the word. -/
def Mach.tstRequest (t i : Nat) (m : Mach) : Mach :=
  let m0 := m.put TST_RES.TEST t
  if m.tstRefused t i then (m0.put TST_RES.REFUSED 1).put TST_RES.DONE 1
  else
    let m2 := (((((m0.put TST_RES.BUSY 1).put TST_RES.REFUSED 0).put TST_RES.PASS 0).put TST_RES.STEP 0).put TST_RES.DATA 0).testFresh t i
    if t = 7 then m2.apllStart else m2

/-- A field that the mask covers, below the top bit. -/
theorem getF_top_masked (d mask : Word) (lo len : Nat) (hm : ∀ i, i < len → mask.getLsbD (lo + i) = true) (hl : lo + len ≤ 31) :
    getF (setF d 31 1 1 &&& mask) lo len = getF d lo len := by
  rw [getF_and _ _ _ _ hm, getF_setF_ne _ _ _ _ _ _ (.inl hl)]

theorem Mach.tstHook_go (m : Mach) (d : Word) : m.tstHook (setF d 31 1 1 &&& 0x80001F0F) = m.tstRequest (getF d 0 4) (getF d 8 5) := by
  have htest : getF (setF d 31 1 1 &&& 0x80001F0F) 0 4 = getF d 0 4 := by
    have hm : ∀ j : Fin 4, (0x80001F0F : Word).getLsbD (0 + j.val) = true := by decide
    exact getF_top_masked _ _ _ _ (fun i hi => hm ⟨i, hi⟩) (by decide)
  have hidx : getF (setF d 31 1 1 &&& 0x80001F0F) 8 5 = getF d 8 5 := by
    have hm : ∀ j : Fin 5, (0x80001F0F : Word).getLsbD (8 + j.val) = true := by decide
    exact getF_top_masked _ _ _ _ (fun i hi => hm ⟨i, hi⟩) (by decide)
  have hgo : bitAt (setF d 31 1 1 &&& 0x80001F0F) 31 = true := by
    rw [bitAt_and_of (by decide), setF_getLsbD _ _ _ _ _ (by decide), if_pos (by decide)]
    decide
  unfold Mach.tstHook
  rw [hgo, htest, hidx]
  rfl

/-- The top bit is outside what the register keeps. -/
theorem blend_top_outside (old d : Word) : blend old (setF d 31 1 1) 0x1F0F = blend old d 0x1F0F := by
  apply BitVec.eq_of_getLsbD_eq
  intro i hi
  rw [blend_getLsbD _ _ _ hi, blend_getLsbD _ _ _ hi, setF_getLsbD _ _ _ _ _ hi]
  by_cases h : 31 ≤ i ∧ i < 31 + 1
  · rw [if_pos h, show i = 31 by omega, show (0x1F0F : Word).getLsbD 31 = false by decide]
    rfl
  · rw [if_neg h]

theorem Mach.write_tstRun {m : Mach} {a : Acc} {p k : Nat} (d : Word) (hb : m.bind a = .part p k) (hu : m.hostUp = true) (ht : m.todo = [])
    (hd : m.dev = .teasel) (harm : m.isArmed (m.bind a) 0x0F0010 = true) :
    let m1 := m.begun a 0x0F0010
    m.write a 0x0F0010 (setF d 31 1 1) = (m1.store 0x0F0010 (blend (m1.reg 0x0F0010) d 0x1F0F)).tstRequest (getF d 0 4) (getF d 8 5) := by
  intro m1
  rw [Mach.write_armed _ (Mach.opens_tstRun hb hu ht hd) rfl rfl harm (by decide) rfl (Mach.writeMask_tstRun ..), writeNew_blend rfl (by decide),
    show (0x80001F0F : Word) &&& ~~~ (word tstRunRow.trg) = 0x1F0F by decide, show (0x80001F0F : Word) ||| word tstRunRow.w1c = 0x80001F0F by decide,
    blend_top_outside]
  exact Mach.tstHook_go _ d

theorem Mach.tstRequest_refused {m : Mach} {t i : Nat} (h : m.tstRefused t i = true) :
    m.tstRequest t i = ((m.put TST_RES.TEST t).put TST_RES.REFUSED 1).put TST_RES.DONE 1 := if_pos h

theorem Mach.tstRequest_taken {m : Mach} {t i : Nat} (h : m.tstRefused t i = false) :
    m.tstRequest t i =
      let m2 := ((((((m.put TST_RES.TEST t).put TST_RES.BUSY 1).put TST_RES.REFUSED 0).put TST_RES.PASS 0).put TST_RES.STEP 0).put TST_RES.DATA 0).testFresh t i
      if t = 7 then m2.apllStart else m2 := if_neg (by rw [h]; decide)

/-! ## The root PLL test (R533) -/

theorem Mach.apllTest_runs {m : Mach} {i n : Nat} (h : m.test.run = some (7, i)) (hd : m.dev = .teasel) :
    m.apllTest n = (if n = 0 then ((m.rootLocked false).familyStart).portsStart else m).tstEnd (n = 0) n 0 := by
  unfold Mach.apllTest
  rw [h]
  exact if_neg (by rw [hd]; decide)

/-- Settles O49: the entry into TEASEL, TST_RUN and the root PLL test. -/
theorem teaselCommands : Obligations.TeaselCommands := by
  unfold Obligations.TeaselCommands
  intro s
  refine ⟨fun hs hp => ⟨fun x hx => ?_, fun hx hd => ?_⟩, fun h => does_act (if_pos (by rcases h with h | h <;> rw [h] <;> simp)),
    fun a p k d hb hu ht hd harm => ⟨fun hr => ?_, fun hr => ⟨fun h7 => ?_, fun h7 => ?_⟩⟩, fun n i h hd => ⟨fun hn => ?_, fun hn => ?_⟩⟩
  · exact does_act ((Mach.teaselEntry_strapped hs hp).trans (if_pos (by rw [hx]; rfl)))
  · have hrun : (s.m.dev == .run || s.m.dev == .ochre) = true := by rw [Bool.or_eq_true, beq_iff_eq, beq_iff_eq]; exact hd
    exact does_act ((Mach.teaselEntry_strapped hs hp).trans ((if_neg (by rw [hx]; decide)).trans (if_pos hrun)))
  · exact does_act ((Mach.write_tstRun d hb hu ht hd harm).trans (Mach.tstRequest_refused hr))
  · exact does_act ((Mach.write_tstRun d hb hu ht hd harm).trans ((Mach.tstRequest_taken hr).trans (if_neg h7)))
  · exact does_act ((Mach.write_tstRun d hb hu ht hd harm).trans ((Mach.tstRequest_taken hr).trans (if_pos h7)))
  · refine does_act ((Mach.apllTest_runs h hd).trans ?_)
    rw [if_pos hn, decide_eq_true hn, hn]
  · refine does_act ((Mach.apllTest_runs h hd).trans ?_)
    rw [if_neg hn, decide_eq_false hn]

end Sys2Proof.Machine
end

section
/-! SUPPORT. The state before power (R85, R489). -/
namespace Sys2Proof.Machine
open Sys2Proof Sys2Proof.Laws

theorem reset_pstate : ∀ p : Part, State.reset.m.pstate p.val = 0 := by decide +kernel

theorem reset_chst : ∀ n : Ch, State.reset.m.chst n.val = 0 := by decide +kernel

/-- Settles O52: each part by evaluation, the registers in the three groups of the statement. -/
theorem resetState : Obligations.ResetState := by
  unfold Obligations.ResetState
  refine ⟨rfl, rfl, rfl, rfl, rfl, reset_pstate, reset_chst, ?_, ?_, ?_, ?_, ?_, ?_⟩
  · decide +kernel
  · decide +kernel
  · decide +kernel
  · decide +kernel
  · decide +kernel
  · decide +kernel

end Sys2Proof.Machine
end
